-- ==== Sys2Proof/Word.lean ====
section
/-! DEFINITION. The word and byte types of the EV7's interfaces. -/

namespace Sys2Proof

/-- A 64-bit register, memory word or message word (R11). -/
abbrev Word := BitVec 64

/-- One byte of memory, of a frame or of an image. -/
abbrev Byte := BitVec 8

/-- The low 64 bits of a number. -/
abbrev Word.ofNat (n : Nat) : Word := BitVec.ofNat 64 n

end Sys2Proof
end

