-- ==== Sys2Proof/Syntax.lean ====
section
/-! DEFINITION. The commands the block takes: one constructor per row of spec/opcode_table.json. -/

namespace Sys2Proof

/-- The operand fields of an Osier instruction word (Table 7-7): destination, governing predicate, sources and element-width code. -/
structure VFields where
  vd : Nat
  pg : Nat
  s1 : Nat
  s2 : Nat
  ew : Nat
  deriving DecidableEq, Repr

/-- What a full training found (R322 to R324): the peer's TRAIN words and the lanes that could not adapt at either end. -/
structure TrainInfo where
  /-- The lanes reached the peer and only polarity, lane order and skew needed correction (R322). -/
  lanesOk : Bool
  /-- Lanes 0 to 3 could not all adapt. -/
  badLow : Bool
  /-- Lanes 4 to 7 could not all adapt. -/
  badHigh : Bool
  laneRev : Bool
  polInv : Nat
  peerNode : Nat
  peerPort : Nat
  peerWidth : Nat
  peerDegrade : Bool
  /-- The free buffers the peer states, pools 0 to 16. -/
  peerFree : List Nat
  deriving DecidableEq, Repr

/-- The lines of the test port that an access drives (R34, R36): TRST_N and TDI. -/
structure TapLines where
  trstN : Bool
  tdi : Bool
  deriving DecidableEq, Repr

/-- Who asks for an atomic: a hart on the narrow path, or an engine working on an item (R266, R275). -/
structure AtomicSource where
  hart : Bool
  /-- The hart, or the item. -/
  who : Nat
  deriving DecidableEq, Repr

/-- The commands, in the order of the table. -/
inductive Instr where
  /-- MOD_EN_ASSERT (R15). -/
  | modEnAssert
  /-- MOD_PWRGD_RISE (R24). -/
  | modPwrgdRise
  /-- PWRGD_TIMEOUT (R25). -/
  | pwrgdTimeout
  /-- MOD_EN_DEASSERT (R28). -/
  | modEnDeassert
  /-- INPUT_UNDERVOLTAGE (R18). -/
  | inputUndervoltage
  /-- MOD_RST_N_RISE (R545). -/
  | modRstNRise
  /-- RESET_RELEASE (R545); `recoveryN`: the level sampled on RECOVERY_N. -/
  | resetRelease (recoveryN : Bool) (pufOk : Bool) (storageOk : Bool) (keyOk : Bool)
  /-- MEM_TRAINING_DONE (R486). -/
  | memTrainingDone (failedStk : List Nat) (failedRim : List Nat)
  /-- TIME_LOCK_TIMEOUT (R485). -/
  | timeLockTimeout
  /-- MOD_READY_RISE (R26). -/
  | modReadyRise
  /-- RECOVERY_LISTEN_TIMEOUT (R498). -/
  | recoveryListenTimeout
  /-- RECOVERY_DATA_FRAME (R516). -/
  | recoveryDataFrame (offset : Nat) (data : List Byte)
  /-- RECOVERY_END_FRAME (R516). -/
  | recoveryEndFrame
  /-- MOD_RST_N_FALL (R27). -/
  | modRstNFall
  /-- THERM_SOURCE_ASSERT (R30). -/
  | thermSourceAssert (src : Nat) (reading : Nat)
  /-- THERM_SOURCE_DEASSERT (R30). -/
  | thermSourceDeassert (src : Nat) (reading : Nat)
  /-- SB_ALERT_SRC_CLEAR (R30). -/
  | sbAlertSrcClear (mask : Nat)
  /-- PWR_BRAKE_N_FALL (R32). -/
  | pwrBrakeNFall
  /-- POWER_BRAKE_RELEASE (R32). -/
  | powerBrakeRelease
  /-- TAP_IDCODE (R35). -/
  | tapIdcode
  /-- TAP_BYPASS (R34). -/
  | tapBypass (tdi : TapLines)
  /-- TAP_SAMPLE_PRELOAD (R34). -/
  | tapSamplePreload
  /-- TAP_EXTEST (R34). -/
  | tapExtest (pins : Nat)
  /-- REGISTER_WRITE (R546). -/
  | registerWrite (off : Nat) (val : Word)
  /-- REG_ACCESS_BAD (R12). -/
  | regAccessBad (off : Nat) (write : Bool)
  /-- DROOP_DETECT (R44). -/
  | droopDetect (die : Nat)
  /-- DROOP_RECOVER (R44). -/
  | droopRecover (die : Nat)
  /-- VCORE_UNDERVOLT (R46). -/
  | vcoreUndervolt (die : Nat)
  /-- JOB_FATAL_ITEM_STOP (R537). -/
  | jobFatalItemStop (item : Nat)
  /-- REQUEST_STALE (R60). -/
  | requestStale (req : Nat)
  /-- EPOCH_OPEN (R73). -/
  | epochOpen
  /-- EPOCH_COMMIT (R74). -/
  | epochCommit
  /-- EPOCH_CANCEL (R73). -/
  | epochCancel
  /-- EPOCH_DRAIN_END (R74). -/
  | epochDrainEnd
  /-- EPOCH_PREPARE_ACK (R75). -/
  | epochPrepareAck (unit : Nat)
  /-- EPOCH_PREPARE_REFUSAL (R77). -/
  | epochPrepareRefusal (unit : Nat)
  /-- EPOCH_ACK_TIMEOUT (R77). -/
  | epochAckTimeout
  /-- EPOCH_ABANDON_CLEAR (R77). -/
  | epochAbandonClear
  /-- WQ_DOORBELL (R406). -/
  | wqDoorbell (q : Nat) (val : Word) (poison : Bool)
  /-- CQ_DOORBELL (R406). -/
  | cqDoorbell (q : Nat) (val : Word) (poison : Bool)
  /-- QUEUE_ENABLE (R431). -/
  | queueEnable (q : Nat)
  /-- QUEUE_DISABLE (R431). -/
  | queueDisable (q : Nat)
  /-- QUEUE_HEAD_POISONED (R429). -/
  | queueHeadPoisoned (q : Nat)
  /-- DESC_BODY_POISONED (R429). -/
  | descBodyPoisoned (q : Nat)
  /-- HELD_HEAD_ADMIT (R470). -/
  | heldHeadAdmit (q : Nat)
  /-- MATRIX_PRODUCT (R140). -/
  | matrixProduct (q : Nat)
  /-- MATRIX_MERGE (R147). -/
  | matrixMerge (q : Nat)
  /-- LB_SLOT_BIND (R157). -/
  | lbSlotBind (item : Nat)
  /-- LB_PIECE_READY (R158). -/
  | lbPieceReady (item : Nat) (piece : Nat)
  /-- MATRIX_BLOCK_DONE (R164). -/
  | matrixBlockDone (item : Nat) (block : Nat)
  /-- REED_LAUNCH (R174). -/
  | reedLaunch (q : Nat)
  /-- REED_LAUNCH_START (R175). -/
  | reedLaunchStart (item : Nat)
  /-- PLAIT (R202). -/
  | plait (q : Nat)
  /-- PLAIT_START (R203). -/
  | plaitStart (item : Nat)
  /-- REED_ECALL (R177). -/
  | reedEcall (core : Nat)
  /-- REED_EBREAK (R177). -/
  | reedEbreak (core : Nat)
  /-- REED_LIMIT (R179). -/
  | reedLimit (item : Nat)
  /-- REED_FENCE (R171). -/
  | reedFence (core : Nat) (w : BitVec 32)
  /-- VLD (R194). -/
  | vld (core : Nat) (f : VFields)
  /-- VLDS (R194). -/
  | vlds (core : Nat) (f : VFields)
  /-- VLDG (R194). -/
  | vldg (core : Nat) (f : VFields)
  /-- VLDFF (R195). -/
  | vldff (core : Nat) (f : VFields)
  /-- VST (R194). -/
  | vst (core : Nat) (f : VFields)
  /-- VSTS (R194). -/
  | vsts (core : Nat) (f : VFields)
  /-- VSTG (R194). -/
  | vstg (core : Nat) (f : VFields)
  /-- VSTRA (R278). -/
  | vstra (core : Nat) (f : VFields)
  /-- VLDX (R196). -/
  | vldx (core : Nat) (fmt : Nat) (f : VFields)
  /-- VSETL (R184). -/
  | vsetl (core : Nat) (f : VFields)
  /-- VADD (R185). -/
  | vadd (core : Nat) (f : VFields)
  /-- VSUB (R185). -/
  | vsub (core : Nat) (f : VFields)
  /-- VMUL (R185). -/
  | vmul (core : Nat) (f : VFields)
  /-- VMULH (R185). -/
  | vmulh (core : Nat) (f : VFields)
  /-- VMULHU (R185). -/
  | vmulhu (core : Nat) (f : VFields)
  /-- VAND (R185). -/
  | vand (core : Nat) (f : VFields)
  /-- VOR (R185). -/
  | vor (core : Nat) (f : VFields)
  /-- VXOR (R185). -/
  | vxor (core : Nat) (f : VFields)
  /-- VSLL (R185). -/
  | vsll (core : Nat) (f : VFields)
  /-- VSRL (R185). -/
  | vsrl (core : Nat) (f : VFields)
  /-- VSRA (R185). -/
  | vsra (core : Nat) (f : VFields)
  /-- VMIN (R185). -/
  | vmin (core : Nat) (f : VFields)
  /-- VMAX (R185). -/
  | vmax (core : Nat) (f : VFields)
  /-- VMINU (R185). -/
  | vminu (core : Nat) (f : VFields)
  /-- VMAXU (R185). -/
  | vmaxu (core : Nat) (f : VFields)
  /-- VCMPEQ (R185). -/
  | vcmpeq (core : Nat) (f : VFields)
  /-- VCMPLT (R185). -/
  | vcmplt (core : Nat) (f : VFields)
  /-- VCMPLTU (R185). -/
  | vcmpltu (core : Nat) (f : VFields)
  /-- VSADD (R193). -/
  | vsadd (core : Nat) (f : VFields)
  /-- VSADDU (R193). -/
  | vsaddu (core : Nat) (f : VFields)
  /-- VSSUB (R193). -/
  | vssub (core : Nat) (f : VFields)
  /-- VSSUBU (R193). -/
  | vssubu (core : Nat) (f : VFields)
  /-- VAADD (R192). -/
  | vaadd (core : Nat) (f : VFields)
  /-- VASUB (R192). -/
  | vasub (core : Nat) (f : VFields)
  /-- VFMULQ (R192). -/
  | vfmulq (core : Nat) (f : VFields)
  /-- VNSRA (R192). -/
  | vnsra (core : Nat) (f : VFields)
  /-- VNSRL (R192). -/
  | vnsrl (core : Nat) (f : VFields)
  /-- VSPLATX (R185). -/
  | vsplatx (core : Nat) (f : VFields)
  /-- VINDEX (R185). -/
  | vindex (core : Nat) (f : VFields)
  /-- VMV (R185). -/
  | vmv (core : Nat) (f : VFields)
  /-- VMVX (R185). -/
  | vmvx (core : Nat) (f : VFields)
  /-- VFADD (R188). -/
  | vfadd (core : Nat) (f : VFields)
  /-- VFSUB (R188). -/
  | vfsub (core : Nat) (f : VFields)
  /-- VFMUL (R188). -/
  | vfmul (core : Nat) (f : VFields)
  /-- VFDIV (R188). -/
  | vfdiv (core : Nat) (f : VFields)
  /-- VFMADD (R190). -/
  | vfmadd (core : Nat) (f : VFields)
  /-- VFNMSUB (R190). -/
  | vfnmsub (core : Nat) (f : VFields)
  /-- VFMIN (R190). -/
  | vfmin (core : Nat) (f : VFields)
  /-- VFMAX (R190). -/
  | vfmax (core : Nat) (f : VFields)
  /-- VFSQRT (R188). -/
  | vfsqrt (core : Nat) (f : VFields)
  /-- VFSGNJ (R188). -/
  | vfsgnj (core : Nat) (f : VFields)
  /-- VFSGNJN (R188). -/
  | vfsgnjn (core : Nat) (f : VFields)
  /-- VFSGNJX (R188). -/
  | vfsgnjx (core : Nat) (f : VFields)
  /-- VFCMPEQ (R190). -/
  | vfcmpeq (core : Nat) (f : VFields)
  /-- VFCMPLT (R190). -/
  | vfcmplt (core : Nat) (f : VFields)
  /-- VFCMPLE (R190). -/
  | vfcmple (core : Nat) (f : VFields)
  /-- VFSPLAT (R188). -/
  | vfsplat (core : Nat) (f : VFields)
  /-- VCVT (R108); `f5`: the low two bits of F5. -/
  | vcvt (core : Nat) (f5 : Nat) (f : VFields)
  /-- PAND (R182). -/
  | pand (core : Nat) (f : VFields)
  /-- POR (R182). -/
  | por (core : Nat) (f : VFields)
  /-- PXOR (R182). -/
  | pxor (core : Nat) (f : VFields)
  /-- PANDN (R182). -/
  | pandn (core : Nat) (f : VFields)
  /-- PCOUNT (R182). -/
  | pcount (core : Nat) (f : VFields)
  /-- PFIRST (R182). -/
  | pfirst (core : Nat) (f : VFields)
  /-- PMVX (R182). -/
  | pmvx (core : Nat) (f : VFields)
  /-- PMXV (R182). -/
  | pmxv (core : Nat) (f : VFields)
  /-- VCOMPRESS (R211). -/
  | vcompress (core : Nat) (f : VFields)
  /-- VEXPAND (R212). -/
  | vexpand (core : Nat) (f : VFields)
  /-- VSLIDEDN (R186). -/
  | vslidedn (core : Nat) (f : VFields)
  /-- VSLIDEUP (R186). -/
  | vslideup (core : Nat) (f : VFields)
  /-- VPERM (R186). -/
  | vperm (core : Nat) (f : VFields)
  /-- VSCAN_I (R214). -/
  | vscanI (core : Nat) (f : VFields)
  /-- VSCAN_F (R215). -/
  | vscanF (core : Nat) (f : VFields)
  /-- VSCAN_FMAX (R214). -/
  | vscanFmax (core : Nat) (f : VFields)
  /-- VRED_I (R217). -/
  | vredI (core : Nat) (f : VFields)
  /-- VRED_F (R218). -/
  | vredF (core : Nat) (f : VFields)
  /-- VRED_FMAX (R219). -/
  | vredFmax (core : Nat) (f : VFields)
  /-- VRED_FMIN (R219). -/
  | vredFmin (core : Nat) (f : VFields)
  /-- VRED_FARGMAX (R219). -/
  | vredFargmax (core : Nat) (f : VFields)
  /-- VRED_FARGMIN (R219). -/
  | vredFargmin (core : Nat) (f : VFields)
  /-- VRED_FPROD (R218). -/
  | vredFprod (core : Nat) (f : VFields)
  /-- VRED_FMEAN (R218). -/
  | vredFmean (core : Nat) (f : VFields)
  /-- VTRRD (R198). -/
  | vtrrd (core : Nat) (f : VFields)
  /-- VTRWR (R198). -/
  | vtrwr (core : Nat) (f : VFields)
  /-- VTRRED (R221). -/
  | vtrred (core : Nat) (f : VFields)
  /-- PLSEND (R205). -/
  | plsend (core : Nat) (f : VFields)
  /-- PLRECV (R205). -/
  | plrecv (core : Nat) (f : VFields)
  /-- PLAIT_FIFO_ROOM (R206). -/
  | plaitFifoRoom (core : Nat)
  /-- PLAIT_FIFO_DATA (R206). -/
  | plaitFifoData (core : Nat)
  /-- VTADD (R228). -/
  | vtadd (core : Nat) (f : VFields)
  /-- VTSUB (R228). -/
  | vtsub (core : Nat) (f : VFields)
  /-- VTMUL (R228). -/
  | vtmul (core : Nat) (f : VFields)
  /-- VTDIV (R228). -/
  | vtdiv (core : Nat) (f : VFields)
  /-- VTCHAIN (R228). -/
  | vtchain (core : Nat) (f : VFields)
  /-- VH_SUMSQ (R226). -/
  | vhSumsq (core : Nat) (f : VFields)
  /-- VH_MEANVAR (R226). -/
  | vhMeanvar (core : Nat) (f : VFields)
  /-- VH_SMAXSTAT (R226). -/
  | vhSmaxstat (core : Nat) (f : VFields)
  /-- VH_SMAXOUT (R226). -/
  | vhSmaxout (core : Nat) (f : VFields)
  /-- VH_LSE (R226). -/
  | vhLse (core : Nat) (f : VFields)
  /-- VSUMM_ANY (R199). -/
  | vsummAny (core : Nat) (f : VFields)
  /-- VSUMM_ALL (R199). -/
  | vsummAll (core : Nat) (f : VFields)
  /-- VSUMM_CNT (R199). -/
  | vsummCnt (core : Nat) (f : VFields)
  /-- SUMMRD (R199). -/
  | summrd (core : Nat) (f : VFields)
  /-- SUMMOR (R199). -/
  | summor (core : Nat) (f : VFields)
  /-- SUMMARY_SLOT_EMPTIED (R199). -/
  | summarySlotEmptied (core : Nat)
  /-- SUMMARY_SLOT_FILLED (R199). -/
  | summarySlotFilled (core : Nat)
  /-- COPY (R425). -/
  | copy (q : Nat)
  /-- FILL (R305). -/
  | fill (q : Nat)
  /-- GATHER (R426). -/
  | gather (q : Nat)
  /-- SCATTER (R426). -/
  | scatter (q : Nat)
  /-- REGION_DECLARE (R276). -/
  | regionDeclare (q : Nat)
  /-- REGION_CLEAR (R280). -/
  | regionClear (q : Nat)
  /-- REGION_ADD (R278). -/
  | regionAdd (q : Nat)
  /-- REGION_OUT (R281). -/
  | regionOut (q : Nat)
  /-- REGION_RELEASE (R282). -/
  | regionRelease (q : Nat)
  /-- EVENT_OP_ADD (R422). -/
  | eventOpAdd (q : Nat) (op : Nat)
  /-- EVENT_OP_SET (R422). -/
  | eventOpSet (q : Nat) (op : Nat)
  /-- EVC_SET_WRITE (R421). -/
  | evcSetWrite (k : Nat) (val : Word)
  /-- EVC_ADD_WRITE (R421). -/
  | evcAddWrite (k : Nat) (val : Word)
  /-- BARRIER_ITEM (R423). -/
  | barrierItem (q : Nat)
  /-- STEP_COMMIT (R247). -/
  | stepCommit (q : Nat)
  /-- EPOCH_ITEM (R424). -/
  | epochItem (q : Nat)
  /-- CLEAR_EVAL_RUNGS (R67). -/
  | clearEvalRungs
  /-- ITEM_COMPLETE (R412). -/
  | itemComplete (item : Nat) (measured : Nat)
  /-- CONTEXT_HOLD (R428). -/
  | contextHold (c : Nat) (hold : Bool)
  /-- CONTEXT_ENABLE (R428). -/
  | contextEnable (c : Nat) (enable : Bool)
  /-- WINDOW_START (R464). -/
  | windowStart (inputUj : Nat) (railMj : List Nat)
  /-- HOT_THROTTLE_ENTER (R480). -/
  | hotThrottleEnter (die : Nat) (temp : Nat)
  /-- HOT_THROTTLE_STAGE2 (R480). -/
  | hotThrottleStage2 (die : Nat) (temp : Nat)
  /-- HOT_THROTTLE_STAGE2_EXIT (R480). -/
  | hotThrottleStage2Exit (die : Nat) (temp : Nat)
  /-- HOT_THROTTLE_EXIT (R480). -/
  | hotThrottleExit (die : Nat) (temp : Nat)
  /-- ICL_THROTTLE_ENTER (R480). -/
  | iclThrottleEnter
  /-- ICL_THROTTLE_STEP (R480). -/
  | iclThrottleStep
  /-- ICL_THROTTLE_EXIT (R480). -/
  | iclThrottleExit
  /-- RAIL_RAMP_STEP (R480). -/
  | railRampStep (die : Nat)
  /-- HOT_TRIP (R482). -/
  | hotTrip (die : Nat)
  /-- BUDGET_SET (R476). -/
  | budgetSet (p : Nat)
  /-- STACK_TEMP_SAMPLE (R262). -/
  | stackTempSample (stack : Nat) (temp : Int)
  /-- NARROW_LIMIT_RELEASE (R267). -/
  | narrowLimitRelease (die : Nat)
  /-- MEMORY_LINE_READ (R290). -/
  | memoryLineRead (addr : Nat) (src : Nat) (flips : List (Nat × Nat))
  /-- MEMORY_LINE_WRITE (R296). -/
  | memoryLineWrite (addr : Nat) (data : List Byte) (poison : Nat)
  /-- PARTIAL_LINE_MERGE (R269). -/
  | partialLineMerge (addr : Nat) (data : List Byte) (poison : Bool) (src : Nat)
  /-- HOME_SLICE_ATOMIC (R274). -/
  | homeSliceAtomic (addr : Nat) (op : Nat) (size : Nat) (operand : Word) (compare : Word) (src : AtomicSource)
  /-- PHY_RETRAIN_FAIL (R316). -/
  | phyRetrainFail (rim : Bool) (channel : Nat)
  /-- SCRUB_LINE (R308). -/
  | scrubLine (addr : Nat) (flips : List (Nat × Nat)) (moved : Bool) (last : Bool)
  /-- ERL_TAIL_WRITE (R310). -/
  | erlTailWrite (val : Word)
  /-- RETIRE_PAGE (R320). -/
  | retirePage (persist : Bool) (target : Nat)
  /-- RETIRE_BANK (R318). -/
  | retireBank (rim : Bool) (persist : Bool) (target : Nat)
  /-- RETIRE_CHANNEL (R316). -/
  | retireChannel (rim : Bool) (persist : Bool) (target : Nat)
  /-- RETIRE_PERSIST_DONE (R319). -/
  | retirePersistDone
  /-- INJECT_DISARM (R290). -/
  | injectDisarm
  /-- INJECT_ONE_SYMBOL (R290). -/
  | injectOneSymbol (line : Nat)
  /-- INJECT_THREE_SYMBOLS (R290). -/
  | injectThreeSymbols (line : Nat)
  /-- INJECT_TC_BIT (R290). -/
  | injectTcBit (line : Nat)
  /-- FLIT_TRANSMIT (R339). -/
  | flitTransmit (port : Nat)
  /-- FLIT_RECEIVE (R331). -/
  | flitReceive (port : Nat) (flit : List Byte) (fecBad : Bool)
  /-- NAK_RECEIVE (R333). -/
  | nakReceive (port : Nat)
  /-- REPLAY_TIMER_EXPIRE (R333). -/
  | replayTimerExpire (port : Nat)
  /-- RETRAIN_COMPLETE (R336). -/
  | retrainComplete (port : Nat) (free : List Nat) (expect : Nat)
  /-- RETRAIN_TIMEOUT (R336). -/
  | retrainTimeout (port : Nat)
  /-- FULL_TRAINING_RETRY (R337). -/
  | fullTrainingRetry (port : Nat)
  /-- FULL_TRAINING_COMPLETE (R323). -/
  | fullTrainingComplete (port : Nat) (info : TrainInfo)
  /-- HEARTBEAT_SEND (R345). -/
  | heartbeatSend (port : Nat)
  /-- HEARTBEAT_RECEIVE (R345). -/
  | heartbeatReceive (port : Nat)
  /-- PEER_LOSS_TIMEOUT (R346). -/
  | peerLossTimeout (port : Nat)
  /-- NOTICE_RECEIVE (R347). -/
  | noticeReceive (port : Nat)
  /-- TIME_SYNC_SEND (R348). -/
  | timeSyncSend (port : Nat)
  /-- TIME_MESSAGE_RECEIVE (R348). -/
  | timeMessageReceive (port : Nat) (stamp : Nat)
  /-- TXN_REQUEST_RECEIVE (R327). -/
  | txnRequestReceive (port : Nat)
  /-- TXN_RESPONSE_RECEIVE (R342). -/
  | txnResponseReceive (port : Nat)
  /-- REQUEST_TIMEOUT (R342). -/
  | requestTimeout (tag : Nat)
  /-- STREAM_OPEN_RECEIVE (R391). -/
  | streamOpenReceive (port : Nat)
  /-- STREAM_ACCEPT_RECEIVE (R327). -/
  | streamAcceptReceive (port : Nat)
  /-- STREAM_FLIT_RECEIVE (R328). -/
  | streamFlitReceive (port : Nat)
  /-- STATUS_FLIT_RECEIVE (R369). -/
  | statusFlitReceive (port : Nat)
  /-- LINK_ENABLE (R337). -/
  | linkEnable (port : Nat)
  /-- LINK_DISABLE (R337). -/
  | linkDisable (port : Nat)
  /-- LINK_RETRAIN_CMD (R336). -/
  | linkRetrainCmd (port : Nat)
  /-- LINK_TEST_MODE (R349). -/
  | linkTestMode (port : Nat) (mode : Nat)
  /-- GROUP_DEFINE (R351). -/
  | groupDefine (p : Nat)
  /-- GROUP_RELEASE (R354). -/
  | groupRelease (p : Nat)
  /-- ALL_REDUCE (R360). -/
  | allReduce (q : Nat)
  /-- REDUCE_SCATTER (R359). -/
  | reduceScatter (q : Nat)
  /-- ALL_GATHER (R359). -/
  | allGather (q : Nat)
  /-- ALL_TO_ALL (R366). -/
  | allToAll (q : Nat)
  /-- BROADCAST (R359). -/
  | broadcast (q : Nat)
  /-- COLL_BARRIER (R359). -/
  | collBarrier (q : Nat)
  /-- COLL_VC_FREED (R353). -/
  | collVcFreed (vc : Nat)
  /-- FEED_WAIT_END (R384). -/
  | feedWaitEnd (step : Nat)
  /-- SLOT_CLAIM_RETRY (R390). -/
  | slotClaimRetry (group : Nat) (slot : Nat)
  /-- COLL_ROUND_COMPLETE (R359). -/
  | collRoundComplete (step : Nat)
  /-- COLL_ROUND_TIMEOUT (R368). -/
  | collRoundTimeout (step : Nat)
  /-- COLL_ABORT_RECEIVE (R375). -/
  | collAbortReceive
  /-- COLL_CANCEL (R373). -/
  | collCancel (group : Nat)
  /-- COLL_FW6_WAIT_TIMEOUT (R379). -/
  | collFw6WaitTimeout (step : Nat)
  /-- COL_SLOT_FREE (R390). -/
  | colSlotFree (group : Nat) (slot : Nat)
  /-- SLOT_FREE_DEFERRED (R160). -/
  | slotFreeDeferred (group : Nat) (slot : Nat)
  /-- HELLO (R437). -/
  | hello (p : Nat)
  /-- PING (R441). -/
  | ping (p : Nat)
  /-- CAMP_ROSTER (R513). -/
  | campRoster (p : Nat)
  /-- FW_STAGE (R451). -/
  | fwStage (p : Nat)
  /-- FW_STAGE_DONE (R451). -/
  | fwStageDone
  /-- FW_ACTIVATE (R453). -/
  | fwActivate (p : Nat)
  /-- FW_CANCEL (R457). -/
  | fwCancel (p : Nat)
  /-- ATTEST_REPORT (R504). -/
  | attestReport (p : Nat)
  /-- ATTEST_DEVICE_CERT (R504). -/
  | attestDeviceCert (p : Nat)
  /-- ATTEST_OPERATOR_CERT (R504). -/
  | attestOperatorCert (p : Nat)
  /-- ATTEST_MFG_RECORD (R504). -/
  | attestMfgRecord (p : Nat)
  /-- MAILBOX_OUT_CI_WRITE (R442). -/
  | mailboxOutCiWrite (p : Nat) (val : Nat)
  /-- FW_WATCHDOG_EXPIRE (R444). -/
  | fwWatchdogExpire (p : Nat)
  /-- FW_WATCHDOG_KICK (R444). -/
  | fwWatchdogKick (p : Nat)
  /-- FW_FATAL_EXCEPTION (R446). -/
  | fwFatalException (p : Nat) (pc : Nat) (mcause : Nat)
  /-- FW_SRAM_UNCORRECTABLE (R446). -/
  | fwSramUncorrectable (p : Nat)
  /-- FW_RESTART_REQUEST (R446). -/
  | fwRestartRequest (p : Nat)
  /-- FW_RESTART_DONE (R447). -/
  | fwRestartDone (p : Nat) (imageOk : Bool)
  /-- ACTIVATION_START (R455). -/
  | activationStart
  /-- ACTIVATION_COMPLETE (R458). -/
  | activationComplete
  /-- REWEAVE_GO (R499). -/
  | reweaveGo (len : Nat) (persist : Bool)
  /-- REWEAVE_RESET (R500). -/
  | reweaveReset
  /-- REWEAVE_READY (R501). -/
  | reweaveReady (failedStk : List Nat) (failedRim : List Nat)
  /-- ROSTER_POLL (R512). -/
  | rosterPoll
  /-- HEARTH_LOAD (R301). -/
  | hearthLoad (hart : Nat) (addr : Nat) (size : Nat)
  /-- HEARTH_STORE (R511). -/
  | hearthStore (hart : Nat) (addr : Nat) (size : Nat) (val : Word) (poison : Bool)
  /-- HEARTH_FENCE (R511). -/
  | hearthFence (hart : Nat)
  /-- MGT_FRAME_RECEIVE (R514). -/
  | mgtFrameReceive (frame : List Byte) (fcsOk : Bool)
  /-- MGT_MAILBOX_REQUEST (R515). -/
  | mgtMailboxRequest
  /-- PTP_MESSAGE_RECEIVE (R526). -/
  | ptpMessageReceive (rxStamp : Int)
  /-- PCIE_INBOUND_REQUEST (R518). -/
  | pcieInboundRequest (write : Bool) (addr : Nat) (len : Nat) (data : List Byte) (ep : Bool)
  /-- PCIE_OUTBOUND_TIMEOUT (R517). -/
  | pcieOutboundTimeout (tag : Nat)
  /-- PCI_CFG_REQUEST (R519). -/
  | pciCfgRequest (val : Word)
  /-- PCI_CFG_DONE (R519). -/
  | pciCfgDone (data : Nat) (ur : Bool)
  /-- PCIE_RETRAIN (R517). -/
  | pcieRetrain
  /-- PCIE_PERST (R517). -/
  | pciePerst (drive : Bool)
  /-- PCIE_AER (R519). -/
  | pcieAer (uncorrectable : Bool) (status : Nat)
  /-- TIME_SAMPLE (R524). -/
  | timeSample (src : Nat) (offset : Int)
  /-- TIME_SOURCE_LOST (R525). -/
  | timeSourceLost (src : Nat)
  /-- PPS_IN_EDGE (R523). -/
  | ppsInEdge
  /-- PPS_OUT_PULSE (R527). -/
  | ppsOutPulse
  /-- PPS_OUT_END (R527). -/
  | ppsOutEnd
  /-- TIM_NOW_READ (R520). -/
  | timNowRead
  /-- REWEAVE_VERIFY_FAILED (R499). -/
  | reweaveVerifyFailed
  /-- PCIE_LINK_UP (R517). -/
  | pcieLinkUp (speed : Nat) (width : Nat) (flit : Bool)
  /-- PCIE_LINK_DOWN (R517). -/
  | pcieLinkDown
  /-- PCIE_OUTBOUND_COMPLETION (R517). -/
  | pcieOutboundCompletion (tag : Nat) (status : Nat) (data : List Byte)
  /-- RC_FIELD_READ (R11). -/
  | rcFieldRead (off : Nat)
  /-- REED_SCALAR_INSTRUCTION (R183). -/
  | reedScalarInstruction (core : Nat) (w : BitVec 32)
  deriving DecidableEq, Repr

end Sys2Proof
end

