-- ==== Sys2Proof/WellFormed.lean ====
section
/-! DEFINITION. Well-formedness of a command: each operand within the range its field has. -/

namespace Sys2Proof

/-- The fields of an Osier word fit their places (Table 7-7). -/
def VFields.wf (f : VFields) : Bool := f.vd < 32 && f.pg < 8 && f.s1 < 32 && f.s2 < 32 && f.ew < 4

/-- A register-space offset of an aligned 64-bit word (R11, R12). -/
def offOk (off : Nat) : Bool := off < 2 ^ 32 && off % 8 == 0

/-- An address of the device's view, 48 bits. -/
def addrOk (a : Nat) : Bool := a < 2 ^ 48

/-- Each operand lies within the range that its field, register or unit number has. -/
def Instr.wf : Instr → Bool
  | .modEnAssert => true
  | .modPwrgdRise => true
  | .pwrgdTimeout => true
  | .modEnDeassert => true
  | .inputUndervoltage => true
  | .modRstNRise => true
  | .resetRelease _ _ _ _ => true
  | .memTrainingDone _ _ => true
  | .timeLockTimeout => true
  | .modReadyRise => true
  | .recoveryListenTimeout => true
  | .recoveryDataFrame _ _ => true
  | .recoveryEndFrame => true
  | .modRstNFall => true
  | .thermSourceAssert src _ => src < 8
  | .thermSourceDeassert src _ => src < 8
  | .sbAlertSrcClear _ => true
  | .pwrBrakeNFall => true
  | .powerBrakeRelease => true
  | .tapIdcode => true
  | .tapBypass _ => true
  | .tapSamplePreload => true
  | .tapExtest _ => true
  | .registerWrite off _ => offOk off
  | .regAccessBad _ _ => true
  | .droopDetect die => die < 5
  | .droopRecover die => die < 5
  | .vcoreUndervolt die => die < 5
  | .jobFatalItemStop _ => true
  | .requestStale _ => true
  | .epochOpen => true
  | .epochCommit => true
  | .epochCancel => true
  | .epochDrainEnd => true
  | .epochPrepareAck _ => true
  | .epochPrepareRefusal _ => true
  | .epochAckTimeout => true
  | .epochAbandonClear => true
  | .wqDoorbell q _ _ => q < 262144
  | .cqDoorbell q _ _ => q < 262144
  | .queueEnable q => q < 262144
  | .queueDisable q => q < 262144
  | .queueHeadPoisoned q => q < 262144
  | .descBodyPoisoned q => q < 262144
  | .heldHeadAdmit q => q < 262144
  | .matrixProduct q => q < 262144
  | .matrixMerge q => q < 262144
  | .lbSlotBind _ => true
  | .lbPieceReady _ _ => true
  | .matrixBlockDone _ _ => true
  | .reedLaunch q => q < 262144
  | .reedLaunchStart _ => true
  | .plait q => q < 262144
  | .plaitStart _ => true
  | .reedEcall core => core < 4608
  | .reedEbreak core => core < 4608
  | .reedLimit _ => true
  | .reedFence core _ => core < 4608
  | .vld core f => core < 4608 && f.wf
  | .vlds core f => core < 4608 && f.wf
  | .vldg core f => core < 4608 && f.wf
  | .vldff core f => core < 4608 && f.wf
  | .vst core f => core < 4608 && f.wf
  | .vsts core f => core < 4608 && f.wf
  | .vstg core f => core < 4608 && f.wf
  | .vstra core f => core < 4608 && f.wf
  | .vldx core fmt f => core < 4608 && fmt < 6 && f.wf
  | .vsetl core f => core < 4608 && f.wf
  | .vadd core f => core < 4608 && f.wf
  | .vsub core f => core < 4608 && f.wf
  | .vmul core f => core < 4608 && f.wf
  | .vmulh core f => core < 4608 && f.wf
  | .vmulhu core f => core < 4608 && f.wf
  | .vand core f => core < 4608 && f.wf
  | .vor core f => core < 4608 && f.wf
  | .vxor core f => core < 4608 && f.wf
  | .vsll core f => core < 4608 && f.wf
  | .vsrl core f => core < 4608 && f.wf
  | .vsra core f => core < 4608 && f.wf
  | .vmin core f => core < 4608 && f.wf
  | .vmax core f => core < 4608 && f.wf
  | .vminu core f => core < 4608 && f.wf
  | .vmaxu core f => core < 4608 && f.wf
  | .vcmpeq core f => core < 4608 && f.wf
  | .vcmplt core f => core < 4608 && f.wf
  | .vcmpltu core f => core < 4608 && f.wf
  | .vsadd core f => core < 4608 && f.wf
  | .vsaddu core f => core < 4608 && f.wf
  | .vssub core f => core < 4608 && f.wf
  | .vssubu core f => core < 4608 && f.wf
  | .vaadd core f => core < 4608 && f.wf
  | .vasub core f => core < 4608 && f.wf
  | .vfmulq core f => core < 4608 && f.wf
  | .vnsra core f => core < 4608 && f.wf
  | .vnsrl core f => core < 4608 && f.wf
  | .vsplatx core f => core < 4608 && f.wf
  | .vindex core f => core < 4608 && f.wf
  | .vmv core f => core < 4608 && f.wf
  | .vmvx core f => core < 4608 && f.wf
  | .vfadd core f => core < 4608 && f.wf
  | .vfsub core f => core < 4608 && f.wf
  | .vfmul core f => core < 4608 && f.wf
  | .vfdiv core f => core < 4608 && f.wf
  | .vfmadd core f => core < 4608 && f.wf
  | .vfnmsub core f => core < 4608 && f.wf
  | .vfmin core f => core < 4608 && f.wf
  | .vfmax core f => core < 4608 && f.wf
  | .vfsqrt core f => core < 4608 && f.wf
  | .vfsgnj core f => core < 4608 && f.wf
  | .vfsgnjn core f => core < 4608 && f.wf
  | .vfsgnjx core f => core < 4608 && f.wf
  | .vfcmpeq core f => core < 4608 && f.wf
  | .vfcmplt core f => core < 4608 && f.wf
  | .vfcmple core f => core < 4608 && f.wf
  | .vfsplat core f => core < 4608 && f.wf
  | .vcvt core f5 f => core < 4608 && f5 < 4 && f.wf
  | .pand core f => core < 4608 && f.wf
  | .por core f => core < 4608 && f.wf
  | .pxor core f => core < 4608 && f.wf
  | .pandn core f => core < 4608 && f.wf
  | .pcount core f => core < 4608 && f.wf
  | .pfirst core f => core < 4608 && f.wf
  | .pmvx core f => core < 4608 && f.wf
  | .pmxv core f => core < 4608 && f.wf
  | .vcompress core f => core < 4608 && f.wf
  | .vexpand core f => core < 4608 && f.wf
  | .vslidedn core f => core < 4608 && f.wf
  | .vslideup core f => core < 4608 && f.wf
  | .vperm core f => core < 4608 && f.wf
  | .vscanI core f => core < 4608 && f.wf
  | .vscanF core f => core < 4608 && f.wf
  | .vscanFmax core f => core < 4608 && f.wf
  | .vredI core f => core < 4608 && f.wf
  | .vredF core f => core < 4608 && f.wf
  | .vredFmax core f => core < 4608 && f.wf
  | .vredFmin core f => core < 4608 && f.wf
  | .vredFargmax core f => core < 4608 && f.wf
  | .vredFargmin core f => core < 4608 && f.wf
  | .vredFprod core f => core < 4608 && f.wf
  | .vredFmean core f => core < 4608 && f.wf
  | .vtrrd core f => core < 4608 && f.wf
  | .vtrwr core f => core < 4608 && f.wf
  | .vtrred core f => core < 4608 && f.wf
  | .plsend core f => core < 4608 && f.wf
  | .plrecv core f => core < 4608 && f.wf
  | .plaitFifoRoom core => core < 4608
  | .plaitFifoData core => core < 4608
  | .vtadd core f => core < 4608 && f.wf
  | .vtsub core f => core < 4608 && f.wf
  | .vtmul core f => core < 4608 && f.wf
  | .vtdiv core f => core < 4608 && f.wf
  | .vtchain core f => core < 4608 && f.wf
  | .vhSumsq core f => core < 4608 && f.wf
  | .vhMeanvar core f => core < 4608 && f.wf
  | .vhSmaxstat core f => core < 4608 && f.wf
  | .vhSmaxout core f => core < 4608 && f.wf
  | .vhLse core f => core < 4608 && f.wf
  | .vsummAny core f => core < 4608 && f.wf
  | .vsummAll core f => core < 4608 && f.wf
  | .vsummCnt core f => core < 4608 && f.wf
  | .summrd core f => core < 4608 && f.wf
  | .summor core f => core < 4608 && f.wf
  | .summarySlotEmptied core => core < 4608
  | .summarySlotFilled core => core < 4608
  | .copy q => q < 262144
  | .fill q => q < 262144
  | .gather q => q < 262144
  | .scatter q => q < 262144
  | .regionDeclare q => q < 262144
  | .regionClear q => q < 262144
  | .regionAdd q => q < 262144
  | .regionOut q => q < 262144
  | .regionRelease q => q < 262144
  | .eventOpAdd q op => q < 262144 && op < 4
  | .eventOpSet q op => q < 262144 && op < 4
  | .evcSetWrite k _ => k < 65536
  | .evcAddWrite k _ => k < 65536
  | .barrierItem q => q < 262144
  | .stepCommit q => q < 262144
  | .epochItem q => q < 262144
  | .clearEvalRungs => true
  | .itemComplete _ _ => true
  | .contextHold c _ => c < 4096
  | .contextEnable c _ => c < 4096
  | .windowStart _ _ => true
  | .hotThrottleEnter die _ => die < 5
  | .hotThrottleStage2 die _ => die < 5
  | .hotThrottleStage2Exit die _ => die < 5
  | .hotThrottleExit die _ => die < 5
  | .iclThrottleEnter => true
  | .iclThrottleStep => true
  | .iclThrottleExit => true
  | .railRampStep die => die < 5
  | .hotTrip die => die < 5
  | .budgetSet p => p < 8
  | .stackTempSample stack _ => stack < 32
  | .narrowLimitRelease die => die < 5
  | .memoryLineRead addr _ _ => addrOk addr
  | .memoryLineWrite addr data poison => addrOk addr && data.length == 64 && poison < 256
  | .partialLineMerge addr _ _ _ => addrOk addr
  | .homeSliceAtomic addr op size _ _ _ => addrOk addr && op < 16 && size ≤ 8
  | .phyRetrainFail _ _ => true
  | .scrubLine addr _ _ _ => addrOk addr
  | .erlTailWrite _ => true
  | .retirePage _ _ => true
  | .retireBank _ _ _ => true
  | .retireChannel _ _ _ => true
  | .retirePersistDone => true
  | .injectDisarm => true
  | .injectOneSymbol _ => true
  | .injectThreeSymbols _ => true
  | .injectTcBit _ => true
  | .flitTransmit port => port < 12
  | .flitReceive port flit _ => port < 12 && flit.length == 256
  | .nakReceive port => port < 12
  | .replayTimerExpire port => port < 12
  | .retrainComplete port _ _ => port < 12
  | .retrainTimeout port => port < 12
  | .fullTrainingRetry port => port < 12
  | .fullTrainingComplete port _ => port < 12
  | .heartbeatSend port => port < 12
  | .heartbeatReceive port => port < 12
  | .peerLossTimeout port => port < 12
  | .noticeReceive port => port < 12
  | .timeSyncSend port => port < 12
  | .timeMessageReceive port _ => port < 12
  | .txnRequestReceive port => port < 12
  | .txnResponseReceive port => port < 12
  | .requestTimeout tag => tag < 65536
  | .streamOpenReceive port => port < 12
  | .streamAcceptReceive port => port < 12
  | .streamFlitReceive port => port < 12
  | .statusFlitReceive port => port < 12
  | .linkEnable port => port < 12
  | .linkDisable port => port < 12
  | .linkRetrainCmd port => port < 12
  | .linkTestMode port mode => port < 12 && mode < 4
  | .groupDefine p => p < 8
  | .groupRelease p => p < 8
  | .allReduce q => q < 262144
  | .reduceScatter q => q < 262144
  | .allGather q => q < 262144
  | .allToAll q => q < 262144
  | .broadcast q => q < 262144
  | .collBarrier q => q < 262144
  | .collVcFreed vc => vc < 16
  | .feedWaitEnd _ => true
  | .slotClaimRetry group slot => group < 64 && slot < 32
  | .collRoundComplete _ => true
  | .collRoundTimeout _ => true
  | .collAbortReceive => true
  | .collCancel group => group < 64
  | .collFw6WaitTimeout _ => true
  | .colSlotFree group slot => group < 64 && slot < 32
  | .slotFreeDeferred group slot => group < 64 && slot < 32
  | .hello p => p < 8
  | .ping p => p < 8
  | .campRoster p => p < 8
  | .fwStage p => p < 8
  | .fwStageDone => true
  | .fwActivate p => p < 8
  | .fwCancel p => p < 8
  | .attestReport p => p < 8
  | .attestDeviceCert p => p < 8
  | .attestOperatorCert p => p < 8
  | .attestMfgRecord p => p < 8
  | .mailboxOutCiWrite p _ => p < 8
  | .fwWatchdogExpire p => p < 8
  | .fwWatchdogKick p => p < 8
  | .fwFatalException p _ _ => p < 8
  | .fwSramUncorrectable p => p < 8
  | .fwRestartRequest p => p < 8
  | .fwRestartDone p _ => p < 8
  | .activationStart => true
  | .activationComplete => true
  | .reweaveGo _ _ => true
  | .reweaveReset => true
  | .reweaveReady _ _ => true
  | .rosterPoll => true
  | .hearthLoad hart addr size => hart < 16 && addrOk addr && size ≤ 8
  | .hearthStore hart addr size _ _ => hart < 16 && addrOk addr && size ≤ 8
  | .hearthFence hart => hart < 16
  | .mgtFrameReceive _ _ => true
  | .mgtMailboxRequest => true
  | .ptpMessageReceive _ => true
  | .pcieInboundRequest _ addr _ _ _ => addrOk addr
  | .pcieOutboundTimeout tag => tag < 1024
  | .pciCfgRequest _ => true
  | .pciCfgDone _ _ => true
  | .pcieRetrain => true
  | .pciePerst _ => true
  | .pcieAer _ _ => true
  | .timeSample _ _ => true
  | .timeSourceLost _ => true
  | .ppsInEdge => true
  | .ppsOutPulse => true
  | .ppsOutEnd => true
  | .timNowRead => true
  | .reweaveVerifyFailed => true
  | .pcieLinkUp _ _ _ => true
  | .pcieLinkDown => true
  | .pcieOutboundCompletion tag _ _ => tag < 1024
  | .rcFieldRead off => offOk off
  | .reedScalarInstruction core _ => core < 4608

end Sys2Proof
end

