-- ==== Sys2Proof/Decode.lean ====
section
/-! DEFINITION. Reading a command from a table word: the table gives no row any bits. -/

namespace Sys2Proof

/-- No row of the table spells a command by bits, so no word does. -/
def decodeTableWord (_nbits _w : Nat) : Option Instr := none

end Sys2Proof
end

