-- ==== Sys2Proof/Machine/Bits.lean ====
section
/-! DEFINITION. Bit fields, sign extension and byte order: everything is little-endian (R11). -/

namespace Sys2Proof.Machine
open Sys2Proof

/-- Bits [lo + w - 1 : lo] of `n`. -/
def bits (n lo w : Nat) : Nat := n / 2 ^ lo % 2 ^ w

/-- `n` with bits [lo + w - 1 : lo] replaced by the low `w` bits of `v`. -/
def putBits (n lo w v : Nat) : Nat :=
  n % 2 ^ lo + (v % 2 ^ w) * 2 ^ lo + n / 2 ^ (lo + w) * 2 ^ (lo + w)

/-- Bit `i` of `n`. -/
def bit (n i : Nat) : Bool := n / 2 ^ i % 2 == 1

/-- 1 for true. -/
def b2n (b : Bool) : Nat := if b then 1 else 0

/-- `n` with bit `i` set or cleared. -/
def putBit (n i : Nat) (b : Bool) : Nat := putBits n i 1 (b2n b)

/-- The two's-complement value of the low `w` bits of `n`. -/
def sext (w n : Nat) : Int :=
  if n % 2 ^ w < 2 ^ (w - 1) then (n % 2 ^ w : Nat) else (n % 2 ^ w : Nat) - (2 ^ w : Nat)

/-- The low `w` bits of an integer, as two's complement. -/
def wrapInt (w : Nat) (x : Int) : Nat := (x % (2 ^ w : Nat)).toNat

/-- The `k` bytes of `n`, least significant first. -/
def toBytes : Nat → Nat → List Byte
  | 0, _ => []
  | k + 1, n => BitVec.ofNat 8 n :: toBytes k (n / 256)

/-- The number whose bytes, least significant first, are given. -/
def ofBytes : List Byte → Nat
  | [] => 0
  | b :: t => b.toNat + 256 * ofBytes t

/-- The number of set bits among the low `k` bits of `n`. -/
def popcount : Nat → Nat → Nat
  | 0, _ => 0
  | k + 1, n => n % 2 + popcount k (n / 2)

/-- The smaller of a count plus one and the greatest value of a `w`-bit counter that sticks. -/
def satInc (w n : Nat) (d : Nat := 1) : Nat := min (n + d) (2 ^ w - 1)

/-- `base`, `base + step`, ... (`n` terms). -/
def steps (base step : Nat) : Nat → List Nat
  | 0 => []
  | n + 1 => base :: steps (base + step) step n

/-- The list cut into pieces of `k` elements, at most `fuel` of them. -/
def chunksOf {α : Type} (k : Nat) : Nat → List α → List (List α)
  | 0, _ => []
  | _, [] => []
  | fuel + 1, l => l.take k :: chunksOf k fuel (l.drop k)

/-- `f` applied to the state for each element in turn. -/
def foldState {σ α : Type} (f : σ → α → σ) (s : σ) (l : List α) : σ := l.foldl f s

end Sys2Proof.Machine
end

