-- ==== Sys2Proof/Machine/Float.lean ====
section
/-! DEFINITION. Number formats, rounding, overflow, stochastic rounding, block scales and conversion (04). -/

namespace Sys2Proof.Machine
open Sys2Proof

/-- Flag bits of Table 4-9. -/
abbrev fInvalid : Nat := 1
abbrev fDivzero : Nat := 2
abbrev fOverflow : Nat := 4
abbrev fFlush : Nat := 8
abbrev fSaturate : Nat := 16
abbrev fInexact : Nat := 32
abbrev fEmpty : Nat := 64

/-- Layout of a floating-point format (Table 4-2). -/
structure FP where
  ebits : Nat
  mbits : Nat
  bias : Nat
  hasInf : Bool
  hasNan : Bool
  deriving DecidableEq, Repr

/-- The floating-point layout of a format code (Tables 4-1 and 4-2). -/
def fpOf : Nat → Option FP
  | 0 => some ⟨11, 52, 1023, true, true⟩
  | 1 => some ⟨8, 23, 127, true, true⟩
  | 2 => some ⟨8, 7, 127, true, true⟩
  | 3 => some ⟨5, 10, 15, true, true⟩
  | 4 => some ⟨4, 3, 7, false, true⟩
  | 5 => some ⟨5, 2, 15, true, true⟩
  | 6 => some ⟨2, 3, 1, false, false⟩
  | 7 => some ⟨3, 2, 3, false, false⟩
  | 8 => some ⟨2, 1, 1, false, false⟩
  | _ => none

/-- Element bits of a format code (Table 4-1). -/
def fmtBits : Nat → Nat
  | 0 => 64
  | 1 => 32
  | 2 => 16
  | 3 => 16
  | 4 => 8
  | 5 => 8
  | 6 => 6
  | 7 => 6
  | 8 => 4
  | 9 => 8
  | 10 => 4
  | 11 => 32
  | 12 => 16
  | 13 => 32
  | _ => 8

/-- Integer formats and their widths. -/
def intBits : Nat → Option Nat
  | 9 => some 8
  | 10 => some 4
  | 11 => some 32
  | _ => none

/-- Whether a SCALED bit agrees with the Block scale column of Table 4-1. -/
def scaleOk (fmt : Nat) (scaled : Bool) : Bool :=
  match fmt with
  | 4 => true
  | 5 => true
  | 6 => scaled
  | 7 => scaled
  | 8 => scaled
  | _ => !scaled

/-- The ladder successor of an output format and whether it carries a block scale (R102, Table 4-7). -/
def ladderNext (fmt : Nat) (scaled : Bool) : Option (Nat × Bool) :=
  match fmt with
  | 8 => some (7, true)
  | 6 => some (7, true)
  | 7 => some (4, scaled)
  | 4 => some (2, false)
  | 5 => some (2, false)
  | 2 => some (1, false)
  | 3 => some (1, false)
  | 1 => some (0, false)
  | _ => none

/-- The format after `r` steps of the ladder, stopping where the chain ends (R243). -/
def ladderTo : Nat → Nat → Bool → Nat × Bool
  | 0, f, sc => (f, sc)
  | r + 1, f, sc => match ladderNext f sc with
    | some (f', sc') => ladderTo r f' sc'
    | none => (f, sc)

/-- A value: NaN (signalling or not), infinity, or (−1)^neg · m · 2^e exactly. -/
inductive Val where
  | nan (signalling : Bool)
  | inf (neg : Bool)
  | fin (neg : Bool) (m : Nat) (e : Int)
  deriving DecidableEq, Repr

/-- Whether a value is a NaN. -/
def Val.isNan : Val → Bool
  | .nan _ => true
  | _ => false

/-- Whether a value is a signalling NaN. -/
def Val.isSnan : Val → Bool
  | .nan s => s
  | _ => false

/-- Whether a value is a finite zero. -/
def Val.isZero : Val → Bool
  | .fin _ m _ => m == 0
  | _ => false

/-- The sign of a value. -/
def Val.neg : Val → Bool
  | .nan _ => false
  | .inf n => n
  | .fin n _ _ => n

/-- The value with its sign changed. -/
def Val.negate : Val → Val
  | .nan s => .nan s
  | .inf n => .inf !n
  | .fin n m e => .fin (!n) m e

/-- The value of an element's bits (R83, R84). -/
def decodeFp (f : FP) (b : Nat) : Val :=
  let neg := bit b (f.ebits + f.mbits)
  let ex := bits b f.mbits f.ebits
  let m := bits b 0 f.mbits
  let top := 2 ^ f.ebits - 1
  if f.hasInf ∧ ex = top then (if m = 0 then .inf neg else .nan (!bit m (f.mbits - 1)))
  else if !f.hasInf ∧ f.hasNan ∧ ex = top ∧ m = 2 ^ f.mbits - 1 then .nan false
  else if ex = 0 then .fin neg m (1 - (f.bias : Int) - f.mbits)
  else .fin neg (m + 2 ^ f.mbits) ((ex : Int) - f.bias - f.mbits)

/-- The value of an element of any format (R83, Table 4-3). -/
def decodeFmt (fmt b : Nat) : Val :=
  match fpOf fmt with
  | some f => decodeFp f b
  | none =>
    let w := fmtBits fmt
    let i := sext w b
    .fin (decide (i < 0)) i.natAbs (match fmt with | 12 => -15 | 13 => -31 | _ => 0)

/-- Whether a finite element is a subnormal of its format. -/
def isSubnormal (f : FP) (b : Nat) : Bool := bits b f.mbits f.ebits == 0 && bits b 0 f.mbits != 0

/-- Whether tensor operations read a format's subnormals as zero (Table 4-4). -/
def flushes (fmt : Nat) : Bool := fmt == 0 || fmt == 1

/-- An element as a tensor operation reads it: value, flags, flush count (R90, R92, R94). -/
def readElem (fmt b : Nat) : Val × Nat × Nat :=
  match fpOf fmt with
  | some f =>
    if flushes fmt && isSubnormal f b then (.fin (bit b (f.ebits + f.mbits)) 0 0, fFlush, 1)
    else
      let v := decodeFp f b
      (v, if v.isSnan then fInvalid else 0, 0)
  | none => (decodeFmt fmt b, 0, 0)

/-- Rounding control: mode of Table 4-5 (5 = RISC-V RMM), overflow mode, R, generator word (R97 to R104). -/
structure Rnd where
  mode : Nat
  ovf : Bool
  r : Nat
  word : Nat
  deriving DecidableEq, Repr

/-- Whether the part cut off below the last place moves the magnitude up: quotient, remainder of 2^k, sign. -/
def roundUp (c : Rnd) (neg : Bool) (q rem k : Nat) : Bool :=
  match c.mode with
  | 1 => false
  | 2 => neg && rem != 0
  | 3 => !neg && rem != 0
  | 4 =>
    let d := if c.r ≤ k then rem / 2 ^ (k - c.r) else rem * 2 ^ (c.r - k)
    decide (2 ^ c.r ≤ d + c.word / 2 ^ (32 - c.r))
  | 5 => decide (2 ^ k ≤ 2 * rem)
  | _ => decide (2 ^ k < 2 * rem) || (decide (2 * rem = 2 ^ k) && q % 2 == 1)

/-- m · 2^e in units of 2^g, rounded; whether it was inexact (R99, R104). -/
def roundGrid (c : Rnd) (neg : Bool) (m : Nat) (e g : Int) : Nat × Bool :=
  if g ≤ e then (m * 2 ^ (e - g).toNat, false)
  else
    let k := (g - e).toNat
    let q := m / 2 ^ k
    let rem := m % 2 ^ k
    (q + b2n (roundUp c neg q rem k), rem != 0)

/-- Comparison of m1 · 2^e1 with m2 · 2^e2. -/
def cmpMag (m1 : Nat) (e1 : Int) (m2 : Nat) (e2 : Int) : Ordering :=
  if e1 ≤ e2 then compare m1 (m2 * 2 ^ (e2 - e1).toNat) else compare (m1 * 2 ^ (e1 - e2).toNat) m2

/-- The greatest finite magnitude of a format (Table 4-2). -/
def maxFinite (f : FP) : Nat × Int :=
  if f.hasInf then (2 ^ (f.mbits + 1) - 1, (2 ^ f.ebits : Int) - 2 - f.bias - f.mbits)
  else if f.hasNan then (2 ^ (f.mbits + 1) - 2, (2 ^ f.ebits : Int) - 1 - f.bias - f.mbits)
  else (2 ^ (f.mbits + 1) - 1, (2 ^ f.ebits : Int) - 1 - f.bias - f.mbits)

/-- The bits of a representable q · 2^g. -/
def packFp (f : FP) (neg : Bool) (q : Nat) (g : Int) : Nat :=
  let s := b2n neg * 2 ^ (f.ebits + f.mbits)
  if q = 0 then s else
    let lg := (Nat.log2 q : Int)
    let ex := lg + g
    let emin : Int := 1 - f.bias
    if ex < emin then s + (if g ≤ emin - f.mbits then q / 2 ^ (emin - f.mbits - g).toNat else q * 2 ^ (g - (emin - f.mbits)).toNat)
    else
      let sh := (f.mbits : Int) - lg
      let mant := if 0 ≤ sh then q * 2 ^ sh.toNat else q / 2 ^ (-sh).toNat
      s + ((ex + f.bias).toNat) * 2 ^ f.mbits + (mant - 2 ^ f.mbits)

/-- The greatest finite value's bits. -/
def packMax (f : FP) (neg : Bool) : Nat := packFp f neg (maxFinite f).1 (maxFinite f).2

/-- Infinity's bits. -/
def packInf (f : FP) (neg : Bool) : Nat := b2n neg * 2 ^ (f.ebits + f.mbits) + (2 ^ f.ebits - 1) * 2 ^ f.mbits

/-- The canonical quiet NaN (Table 4-2); 0 in formats without NaN. -/
def canonNan (f : FP) : Nat :=
  if f.hasInf then (2 ^ f.ebits - 1) * 2 ^ f.mbits + 2 ^ (f.mbits - 1)
  else if f.hasNan then 2 ^ (f.ebits + f.mbits) - 1 else 0

/-- Bits with flags and flush count. -/
structure Res where
  bits : Nat
  flags : Nat
  flush : Nat
  deriving DecidableEq, Repr

/-- The result of an overflow (Table 4-6). -/
def overflowBits (f : FP) (c : Rnd) (neg : Bool) : Nat × Nat :=
  let toMax := c.ovf || !f.hasNan || c.mode == 1 || (c.mode == 3 && neg) || (c.mode == 2 && !neg)
  if toMax then (packMax f neg, fOverflow ||| fSaturate ||| fInexact)
  else ((if f.hasInf then packInf f neg else canonNan f), fOverflow ||| fInexact)

/-- A finite value rounded once to a floating-point format; `tensor` flushes FP32 and FP64 (R91, R99 to R101). -/
def roundFp (fmt : Nat) (f : FP) (c : Rnd) (tensor neg : Bool) (m : Nat) (e : Int) : Res :=
  if m = 0 then ⟨packFp f neg 0 0, 0, 0⟩ else
    let ex := (Nat.log2 m : Int) + e
    let emin : Int := 1 - f.bias
    let fl := tensor && flushes fmt
    let g := if fl then ex - f.mbits else max ex emin - f.mbits
    let (q, inex) := roundGrid c neg m e g
    let ix := if inex then fInexact else 0
    let big := cmpMag q g (maxFinite f).1 (maxFinite f).2
    if big = .gt then
      let (b, fl) := overflowBits f c neg
      ⟨b, fl, 0⟩
    else if fl && cmpMag q g 1 emin == .lt then ⟨packFp f neg 0 0, fFlush ||| fInexact, 1⟩
    else ⟨packFp f neg q g, ix, 0⟩

/-- A finite value rounded to an integer format (R100, Table 4-8). DESIGN CHOICE (log 123): a value clamped to a range end raises the flags Table 4-8 lists there, and no INEXACT. -/
def roundInt (w : Nat) (c : Rnd) (fromFloat neg : Bool) (m : Nat) (e : Int) : Res :=
  let (q, inex) := roundGrid c neg m e 0
  let i : Int := if neg then -(q : Int) else q
  if i < -(2 ^ (w - 1) : Nat) then ⟨2 ^ (w - 1), fSaturate ||| (if fromFloat then fInvalid else 0), 0⟩
  else if (2 ^ (w - 1) : Nat) ≤ i then ⟨2 ^ (w - 1) - 1, fSaturate ||| (if fromFloat then fInvalid else 0), 0⟩
  else ⟨wrapInt w i, if inex then fInexact else 0, 0⟩

/-- A value written in a format by a tensor operation (R93, R99 to R101, Table 4-8); signalling NaNs are flagged where they are read. -/
def encodeVal (fmt : Nat) (c : Rnd) (fromFloat : Bool) (v : Val) : Res :=
  match fpOf fmt with
  | some f =>
    match v with
    | .nan _ => ⟨canonNan f, if f.hasNan then 0 else fInvalid, 0⟩
    | .inf n =>
      if f.hasInf then ⟨packInf f n, 0, 0⟩
      else if c.ovf then ⟨packMax f n, fInvalid ||| fSaturate, 0⟩
      else ⟨canonNan f, fInvalid, 0⟩
    | .fin n m e => roundFp fmt f c true n m e
  | none =>
    let w := (intBits fmt).getD (fmtBits fmt)
    match v with
    | .nan _ => ⟨0, fInvalid, 0⟩
    | .inf n => ⟨if n then 2 ^ (w - 1) else 2 ^ (w - 1) - 1, fInvalid ||| fSaturate, 0⟩
    | .fin n m e => roundInt w c fromFloat n m e

/-- The value multiplied by 2^k exactly. -/
def Val.scale (v : Val) (k : Int) : Val :=
  match v with
  | .fin n m e => .fin n m (e + k)
  | x => x

/-- One conversion of an element (R108): source format and bits, target format. -/
def convert (src b dst : Nat) (c : Rnd) : Res :=
  let (v, fl, n) := readElem src b
  let r := encodeVal dst c (fpOf src).isSome v
  ⟨r.bits, r.flags ||| fl, r.flush + n⟩

/-- The smallest s with m · 2^e ≤ maxfinite · 2^s (R88). -/
def blockScale (f : FP) (m : Nat) (e : Int) : Int :=
  let (mm, me) := maxFinite f
  let s0 := (Nat.log2 m : Int) + e - ((Nat.log2 mm : Int) + me)
  if cmpMag m e mm (me + s0) == .gt then s0 + 1 else s0

/-- The greater magnitude of two. -/
def maxMag (a b : Nat × Int) : Nat × Int := if cmpMag a.1 a.2 b.1 b.2 == .lt then b else a

/-- A block written to a scaled format: scale byte, elements, flags of the block (R88, R89). -/
def encodeBlock (fmt : Nat) (ctl : Nat → Rnd) (vals : List Val) : Nat × List Res × Nat :=
  match fpOf fmt with
  | none => (0, [], 0)
  | some f =>
    let bad := vals.any fun v => match v with | .nan _ => true | .inf _ => fmt != 5 | .fin .. => false
    if bad then (0xFF, vals.map fun _ => ⟨0, 0, 0⟩, fInvalid)
    else
      let m := vals.foldl (fun acc v => match v with | .fin _ m e => maxMag acc (m, e) | _ => acc) (0, 0)
      let (sb, s, fl) : Nat × Int × Nat :=
        if m.1 = 0 then (0, -127, 0)
        else
          let s := blockScale f m.1 m.2
          if s < -127 then (0, -127, 0) else if s > 127 then (0xFE, 127, fOverflow) else ((s + 127).toNat, s, 0)
      (sb, vals.mapIdx fun i v => encodeVal fmt (ctl i) true (v.scale (-s)), fl)

/-- The value of an element under its block's scale byte (R85, R87). -/
def scaled (scaleByte : Nat) (v : Val) : Val := if scaleByte = 0xFF then .nan false else v.scale ((scaleByte : Int) - 127)

/-- One round of the generator (R105). -/
def genRounds : Nat → Nat × Nat × Nat × Nat → Nat → Nat → Nat × Nat × Nat × Nat
  | 0, c, _, _ => c
  | n + 1, (c0, c1, c2, c3), k0, k1 =>
    let p0 := 0xD2511F53 * c0
    let p1 := 0xCD9E8D57 * c2
    genRounds n ((p1 / 2 ^ 32) ^^^ c1 ^^^ k0, p1 % 2 ^ 32, (p0 / 2 ^ 32) ^^^ c3 ^^^ k1, p0 % 2 ^ 32)
      ((k0 + 0x9E3779B9) % 2 ^ 32) ((k1 + 0xBB67AE85) % 2 ^ 32)

/-- gen_word of R105. -/
def genWord (seed tensor index step : Nat) : Nat :=
  let q := index / 4
  let (a, b, c, d) := genRounds 10 (q % 2 ^ 32, bits q 32 14, tensor % 2 ^ 32, step % 2 ^ 32) (seed % 2 ^ 32) (bits seed 32 32)
  match index % 4 with
  | 0 => a
  | 1 => b
  | 2 => c
  | _ => d

/-- Addition of finite magnitudes with signs, exact. -/
def addFin (n1 : Bool) (m1 : Nat) (e1 : Int) (n2 : Bool) (m2 : Nat) (e2 : Int) (zeroNeg : Bool) : Val :=
  let e := min e1 e2
  let a : Int := (if n1 then -1 else 1) * (m1 * 2 ^ (e1 - e).toNat : Nat)
  let b : Int := (if n2 then -1 else 1) * (m2 * 2 ^ (e2 - e).toNat : Nat)
  let s := a + b
  if s = 0 then .fin (if m1 = 0 ∧ m2 = 0 ∧ n1 = n2 then n1 else zeroNeg) 0 0 else .fin (decide (s < 0)) s.natAbs e

/-- Exact addition with IEEE specials; flags. `zeroNeg`: the sign of an exact zero from cancellation (negative under RDN). -/
def addVal (a b : Val) (zeroNeg : Bool) : Val × Nat :=
  match a, b with
  | .nan _, _ => (.nan false, 0)
  | _, .nan _ => (.nan false, 0)
  | .inf n, .inf n' => if n = n' then (.inf n, 0) else (.nan false, fInvalid)
  | .inf n, _ => (.inf n, 0)
  | _, .inf n => (.inf n, 0)
  | .fin n m e, .fin n' m' e' => (addFin n m e n' m' e' zeroNeg, 0)

/-- Exact multiplication with IEEE specials. -/
def mulVal (a b : Val) : Val × Nat :=
  match a, b with
  | .nan _, _ => (.nan false, 0)
  | _, .nan _ => (.nan false, 0)
  | .inf n, .inf n' => (.inf (n != n'), 0)
  | .inf n, .fin n' m _ => if m = 0 then (.nan false, fInvalid) else (.inf (n != n'), 0)
  | .fin n m _, .inf n' => if m = 0 then (.nan false, fInvalid) else (.inf (n != n'), 0)
  | .fin n m e, .fin n' m' e' => (.fin (n != n') (m * m') (e + e'), 0)

/-- A quotient carried to 160 further bits with a sticky last bit. -/
def divVal (a b : Val) : Val × Nat :=
  match a, b with
  | .nan _, _ => (.nan false, 0)
  | _, .nan _ => (.nan false, 0)
  | .inf _, .inf _ => (.nan false, fInvalid)
  | .inf n, .fin n' _ _ => (.inf (n != n'), 0)
  | .fin n _ _, .inf n' => (.fin (n != n') 0 0, 0)
  | .fin n m e, .fin n' m' e' =>
    if m' = 0 then (if m = 0 then (.nan false, fInvalid) else (.inf (n != n'), fDivzero))
    else if m = 0 then (.fin (n != n') 0 0, 0)
    else
      let sh := 160 + Nat.log2 m'
      let q := m * 2 ^ sh / m'
      let st := b2n (m * 2 ^ sh % m' != 0)
      (.fin (n != n') (2 * q + st) (e - e' - sh - 1), 0)

/-- A square root carried to at least 160 bits with a sticky last bit. -/
def sqrtVal (a : Val) : Val × Nat :=
  match a with
  | .nan _ => (.nan false, 0)
  | .inf n => if n then (.nan false, fInvalid) else (.inf false, 0)
  | .fin n m e =>
    if m = 0 then (.fin n 0 0, 0) else if n then (.nan false, fInvalid)
    else
      let odd := e % 2 != 0
      let m0 := if odd then 2 * m else m
      let e0 := if odd then e - 1 else e
      let m1 := m0 * 2 ^ 320
      let q := Nat.sqrt m1
      (.fin false (2 * q + b2n (q * q != m1)) (e0 / 2 - 161), 0)

/-- Order of two values that are not NaN, −0 below +0 when `zeros` (R95). -/
def ordVal (zeros : Bool) (a b : Val) : Ordering :=
  let key : Val → Int × Nat × Int := fun v => match v with
    | .inf n => (if n then -2 else 2, 0, 0)
    | .fin n m e => if m = 0 then (0, 0, 0) else (if n then -1 else 1, m, e)
    | .nan _ => (3, 0, 0)
  let (sa, ma, ea) := key a
  let (sb, mb, eb) := key b
  if sa ≠ sb then compare sa sb
  else if sa = 1 then cmpMag ma ea mb eb
  else if sa = -1 then cmpMag mb eb ma ea
  else if sa = 0 ∧ zeros then compare (b2n !a.neg) (b2n !b.neg)
  else .eq

end Sys2Proof.Machine
end

