-- ==== Sys2Proof/Machine/Codes.lean ====
section
/-! DEFINITION. The status codes of Table 21-2, with their severities and the places that report them (R533, R534). -/

namespace Sys2Proof.Machine

/-- One row of Table 21-2: code, severity at run time, whether the error log is one of its places. -/
structure CodeRow where
  name : String
  code : Nat
  severity : Nat
  logged : Bool
  deriving DecidableEq, Repr

/-- EPOCH_ABANDONED. -/
def Code.EPOCH_ABANDONED : Nat := 0x0140
/-- EPOCH_BUSY. -/
def Code.EPOCH_BUSY : Nat := 0x0141
/-- CFG_BUSY. -/
def Code.CFG_BUSY : Nat := 0x0150
/-- UNIT_ABSENT. -/
def Code.UNIT_ABSENT : Nat := 0x0160
/-- REG_ACCESS. -/
def Code.REG_ACCESS : Nat := 0x0161
/-- QUEUE_STOPPED. -/
def Code.QUEUE_STOPPED : Nat := 0x0180
/-- DESC_FIELD. -/
def Code.DESC_FIELD : Nat := 0x0181
/-- CTX_INVALID. -/
def Code.CTX_INVALID : Nat := 0x0182
/-- DOORBELL_BAD. -/
def Code.DOORBELL_BAD : Nat := 0x0183
/-- FORMAT_INVALID. -/
def Code.FORMAT_INVALID : Nat := 0x0301
/-- ROUND_INVALID. -/
def Code.ROUND_INVALID : Nat := 0x0302
/-- MAT_SPAN. -/
def Code.MAT_SPAN : Nat := 0x0312
/-- MAT_K_RANGE. -/
def Code.MAT_K_RANGE : Nat := 0x0313
/-- MAT_ALIGN. -/
def Code.MAT_ALIGN : Nat := 0x0314
/-- MAT_LB_BIND. -/
def Code.MAT_LB_BIND : Nat := 0x0315
/-- MAT_FIELD. -/
def Code.MAT_FIELD : Nat := 0x0316
/-- MAT_OVERLAP. -/
def Code.MAT_OVERLAP : Nat := 0x0317
/-- INVALID_OP. -/
def Code.INVALID_OP : Nat := 0x0318
/-- TRN_FIELD. -/
def Code.TRN_FIELD : Nat := 0x0330
/-- FROZEN_MIX. -/
def Code.FROZEN_MIX : Nat := 0x0333
/-- LADDER_STEP. -/
def Code.LADDER_STEP : Nat := 0x0331
/-- LADDER_TOP. -/
def Code.LADDER_TOP : Nat := 0x0332
/-- LMT_ALARM. -/
def Code.LMT_ALARM : Nat := 0x0334
/-- GATE_FAILED. -/
def Code.GATE_FAILED : Nat := 0x0335
/-- REED_TRAP. -/
def Code.REED_TRAP : Nat := 0x0401
/-- REED_FIELD. -/
def Code.REED_FIELD : Nat := 0x0402
/-- REED_LIMIT. -/
def Code.REED_LIMIT : Nat := 0x0403
/-- PLAIT_FIELD. -/
def Code.PLAIT_FIELD : Nat := 0x0410
/-- PLAIT_RESIDUE. -/
def Code.PLAIT_RESIDUE : Nat := 0x0411
/-- ADDR_UNMAPPED. -/
def Code.ADDR_UNMAPPED : Nat := 0x0501
/-- FILL_FIELD. -/
def Code.FILL_FIELD : Nat := 0x0502
/-- DMA_FIELD. -/
def Code.DMA_FIELD : Nat := 0x0503
/-- GATHER_INDEX. -/
def Code.GATHER_INDEX : Nat := 0x0504
/-- PCI_INBOUND_UR. -/
def Code.PCI_INBOUND_UR : Nat := 0x0505
/-- PCI_AER. -/
def Code.PCI_AER : Nat := 0x0506
/-- MEM_CE. -/
def Code.MEM_CE : Nat := 0x0510
/-- WORD_CE. -/
def Code.WORD_CE : Nat := 0x0512
/-- MEM_UE. -/
def Code.MEM_UE : Nat := 0x0511
/-- WORD_UE. -/
def Code.WORD_UE : Nat := 0x0513
/-- TC_MISMATCH. -/
def Code.TC_MISMATCH : Nat := 0x0520
/-- POISON_CONSUMED. -/
def Code.POISON_CONSUMED : Nat := 0x0530
/-- REGION_OVERFLOW. -/
def Code.REGION_OVERFLOW : Nat := 0x0541
/-- STK_HOT. -/
def Code.STK_HOT : Nat := 0x0551
/-- REGION_DECL. -/
def Code.REGION_DECL : Nat := 0x0542
/-- REGION_UNDECLARED. -/
def Code.REGION_UNDECLARED : Nat := 0x0543
/-- MEM_THERMAL_TRIP. -/
def Code.MEM_THERMAL_TRIP : Nat := 0x0550
/-- CHANNEL_FENCED. -/
def Code.CHANNEL_FENCED : Nat := 0x0560
/-- BANK_FENCED. -/
def Code.BANK_FENCED : Nat := 0x0561
/-- LANE_ERASED. -/
def Code.LANE_ERASED : Nat := 0x0562
/-- RETIRE_FULL. -/
def Code.RETIRE_FULL : Nat := 0x0563
/-- SCRUB_PASS. -/
def Code.SCRUB_PASS : Nat := 0x0564
/-- LEDGER_FAULT. -/
def Code.LEDGER_FAULT : Nat := 0x0601
/-- MBX_BAD. -/
def Code.MBX_BAD : Nat := 0x0701
/-- VERSION_UNSUPPORTED. -/
def Code.VERSION_UNSUPPORTED : Nat := 0x0702
/-- MBX_NO_HELLO. -/
def Code.MBX_NO_HELLO : Nat := 0x0703
/-- MBX_TYPE. -/
def Code.MBX_TYPE : Nat := 0x0704
/-- FW_CRASH. -/
def Code.FW_CRASH : Nat := 0x0710
/-- FW_RESTART_LOOP. -/
def Code.FW_RESTART_LOOP : Nat := 0x0711
/-- FW_IMAGE_BAD. -/
def Code.FW_IMAGE_BAD : Nat := 0x0712
/-- FW_ROLLBACK. -/
def Code.FW_ROLLBACK : Nat := 0x0713
/-- FW_INCOMPATIBLE. -/
def Code.FW_INCOMPATIBLE : Nat := 0x0714
/-- FW_NOT_STAGED. -/
def Code.FW_NOT_STAGED : Nat := 0x0717
/-- FW_UPDATE_BUSY. -/
def Code.FW_UPDATE_BUSY : Nat := 0x0718
/-- FW_DEFERRED. -/
def Code.FW_DEFERRED : Nat := 0x0715
/-- FW_ACTIVATED. -/
def Code.FW_ACTIVATED : Nat := 0x0716
/-- BUDGET_RANGE. -/
def Code.BUDGET_RANGE : Nat := 0x0802
/-- ENVELOPE_LOCKED. -/
def Code.ENVELOPE_LOCKED : Nat := 0x0803
/-- VCORE_UNDERVOLT. -/
def Code.VCORE_UNDERVOLT : Nat := 0x0810
/-- HOT_THROTTLE. -/
def Code.HOT_THROTTLE : Nat := 0x0820
/-- ICL_THROTTLE. -/
def Code.ICL_THROTTLE : Nat := 0x0822
/-- POWER_BRAKE. -/
def Code.POWER_BRAKE : Nat := 0x0824
/-- ENERGY_DEBT. -/
def Code.ENERGY_DEBT : Nat := 0x0825
/-- HOT_TRIP. -/
def Code.HOT_TRIP : Nat := 0x0821
/-- ENVELOPE_OVERSHOOT. -/
def Code.ENVELOPE_OVERSHOOT : Nat := 0x0823
/-- LINK_RETRAIN. -/
def Code.LINK_RETRAIN : Nat := 0x0901
/-- LINK_WIDTH. -/
def Code.LINK_WIDTH : Nat := 0x0904
/-- PEER_LOST. -/
def Code.PEER_LOST : Nat := 0x0902
/-- LINK_PEER. -/
def Code.LINK_PEER : Nat := 0x0903
/-- ROUTE_DROP. -/
def Code.ROUTE_DROP : Nat := 0x0905
/-- LINK_DOWN. -/
def Code.LINK_DOWN : Nat := 0x0907
/-- LINK_PROTO. -/
def Code.LINK_PROTO : Nat := 0x0908
/-- REMOTE_UNREACHABLE. -/
def Code.REMOTE_UNREACHABLE : Nat := 0x0906
/-- TIME_HOLDOVER. -/
def Code.TIME_HOLDOVER : Nat := 0x090B
/-- TIME_LOCK. -/
def Code.TIME_LOCK : Nat := 0x090C
/-- COLL_ABORT. -/
def Code.COLL_ABORT : Nat := 0x0A01
/-- COL_GROUP_UNDEFINED. -/
def Code.COL_GROUP_UNDEFINED : Nat := 0x0A04
/-- COL_FIELD. -/
def Code.COL_FIELD : Nat := 0x0A05
/-- COL_GROUP_INVALID. -/
def Code.COL_GROUP_INVALID : Nat := 0x0A02
/-- COL_GROUP_BUSY. -/
def Code.COL_GROUP_BUSY : Nat := 0x0A03
/-- COLL_ABORT_LATE. -/
def Code.COLL_ABORT_LATE : Nat := 0x0A06
/-- SCALE_RERUN. -/
def Code.SCALE_RERUN : Nat := 0x0A10
/-- COL_LB_SMALL. -/
def Code.COL_LB_SMALL : Nat := 0x0A11
/-- COL_BUCKET_STALE. -/
def Code.COL_BUCKET_STALE : Nat := 0x0A12
/-- MANIFEST_BAD. -/
def Code.MANIFEST_BAD : Nat := 0x0B01
/-- BOOT_IMAGE_BAD. -/
def Code.BOOT_IMAGE_BAD : Nat := 0x0B02
/-- PUF_FAIL. -/
def Code.PUF_FAIL : Nat := 0x0B04
/-- MEM_TRAIN_FAIL. -/
def Code.MEM_TRAIN_FAIL : Nat := 0x0B0A
/-- STORAGE_FAIL. -/
def Code.STORAGE_FAIL : Nat := 0x0B0B
/-- BOOT_FALLBACK. -/
def Code.BOOT_FALLBACK : Nat := 0x0B03
/-- WEAVE_SIG_BAD. -/
def Code.WEAVE_SIG_BAD : Nat := 0x0B05
/-- WEAVE_FORMAT. -/
def Code.WEAVE_FORMAT : Nat := 0x0B06
/-- WEAVE_ROLLBACK. -/
def Code.WEAVE_ROLLBACK : Nat := 0x0B07
/-- WEAVE_DEBUG. -/
def Code.WEAVE_DEBUG : Nat := 0x0B08
/-- WEAVE_MISMATCH. -/
def Code.WEAVE_MISMATCH : Nat := 0x0B09
/-- TIME_UNLOCKED. -/
def Code.TIME_UNLOCKED : Nat := 0x0B0C
/-- RECOVERY_BOOT. -/
def Code.RECOVERY_BOOT : Nat := 0x0B10
/-- REWEAVE_BUSY. -/
def Code.REWEAVE_BUSY : Nat := 0x0B0D
/-- REWEAVE. -/
def Code.REWEAVE : Nat := 0x0B0E
/-- ATTEST_FIELD. -/
def Code.ATTEST_FIELD : Nat := 0x0B0F

/-- Table 21-2, part 0. -/
def codeRows0 : List CodeRow := [
  ⟨"EPOCH_ABANDONED", 0x0140, 2, true⟩,
  ⟨"EPOCH_BUSY", 0x0141, 2, true⟩,
  ⟨"CFG_BUSY", 0x0150, 2, true⟩,
  ⟨"UNIT_ABSENT", 0x0160, 2, false⟩,
  ⟨"REG_ACCESS", 0x0161, 2, true⟩,
  ⟨"QUEUE_STOPPED", 0x0180, 2, true⟩,
  ⟨"DESC_FIELD", 0x0181, 2, false⟩,
  ⟨"CTX_INVALID", 0x0182, 2, false⟩,
  ⟨"DOORBELL_BAD", 0x0183, 2, true⟩,
  ⟨"FORMAT_INVALID", 0x0301, 2, false⟩,
  ⟨"ROUND_INVALID", 0x0302, 2, false⟩,
  ⟨"MAT_SPAN", 0x0312, 2, false⟩]
/-- Table 21-2, part 1. -/
def codeRows1 : List CodeRow := [
  ⟨"MAT_K_RANGE", 0x0313, 2, false⟩,
  ⟨"MAT_ALIGN", 0x0314, 2, false⟩,
  ⟨"MAT_LB_BIND", 0x0315, 2, false⟩,
  ⟨"MAT_FIELD", 0x0316, 2, false⟩,
  ⟨"MAT_OVERLAP", 0x0317, 2, false⟩,
  ⟨"INVALID_OP", 0x0318, 0, true⟩,
  ⟨"TRN_FIELD", 0x0330, 2, false⟩,
  ⟨"FROZEN_MIX", 0x0333, 2, false⟩,
  ⟨"LADDER_STEP", 0x0331, 0, true⟩,
  ⟨"LADDER_TOP", 0x0332, 0, true⟩,
  ⟨"LMT_ALARM", 0x0334, 0, true⟩,
  ⟨"GATE_FAILED", 0x0335, 0, true⟩]
/-- Table 21-2, part 2. -/
def codeRows2 : List CodeRow := [
  ⟨"REED_TRAP", 0x0401, 2, false⟩,
  ⟨"REED_FIELD", 0x0402, 2, false⟩,
  ⟨"REED_LIMIT", 0x0403, 2, false⟩,
  ⟨"PLAIT_FIELD", 0x0410, 2, false⟩,
  ⟨"PLAIT_RESIDUE", 0x0411, 2, false⟩,
  ⟨"ADDR_UNMAPPED", 0x0501, 2, false⟩,
  ⟨"FILL_FIELD", 0x0502, 2, false⟩,
  ⟨"DMA_FIELD", 0x0503, 2, false⟩,
  ⟨"GATHER_INDEX", 0x0504, 2, false⟩,
  ⟨"PCI_INBOUND_UR", 0x0505, 2, true⟩,
  ⟨"PCI_AER", 0x0506, 2, true⟩,
  ⟨"MEM_CE", 0x0510, 1, true⟩]
/-- Table 21-2, part 3. -/
def codeRows3 : List CodeRow := [
  ⟨"WORD_CE", 0x0512, 1, true⟩,
  ⟨"MEM_UE", 0x0511, 2, true⟩,
  ⟨"WORD_UE", 0x0513, 2, true⟩,
  ⟨"TC_MISMATCH", 0x0520, 2, true⟩,
  ⟨"POISON_CONSUMED", 0x0530, 2, true⟩,
  ⟨"REGION_OVERFLOW", 0x0541, 0, true⟩,
  ⟨"STK_HOT", 0x0551, 0, true⟩,
  ⟨"REGION_DECL", 0x0542, 2, false⟩,
  ⟨"REGION_UNDECLARED", 0x0543, 2, false⟩,
  ⟨"MEM_THERMAL_TRIP", 0x0550, 3, true⟩,
  ⟨"CHANNEL_FENCED", 0x0560, 2, true⟩,
  ⟨"BANK_FENCED", 0x0561, 2, true⟩]
/-- Table 21-2, part 4. -/
def codeRows4 : List CodeRow := [
  ⟨"LANE_ERASED", 0x0562, 1, true⟩,
  ⟨"RETIRE_FULL", 0x0563, 0, true⟩,
  ⟨"SCRUB_PASS", 0x0564, 0, true⟩,
  ⟨"LEDGER_FAULT", 0x0601, 4, true⟩,
  ⟨"MBX_BAD", 0x0701, 2, false⟩,
  ⟨"VERSION_UNSUPPORTED", 0x0702, 2, false⟩,
  ⟨"MBX_NO_HELLO", 0x0703, 2, false⟩,
  ⟨"MBX_TYPE", 0x0704, 2, false⟩,
  ⟨"FW_CRASH", 0x0710, 1, true⟩,
  ⟨"FW_RESTART_LOOP", 0x0711, 3, true⟩,
  ⟨"FW_IMAGE_BAD", 0x0712, 2, false⟩,
  ⟨"FW_ROLLBACK", 0x0713, 2, false⟩]
/-- Table 21-2, part 5. -/
def codeRows5 : List CodeRow := [
  ⟨"FW_INCOMPATIBLE", 0x0714, 2, false⟩,
  ⟨"FW_NOT_STAGED", 0x0717, 2, false⟩,
  ⟨"FW_UPDATE_BUSY", 0x0718, 2, false⟩,
  ⟨"FW_DEFERRED", 0x0715, 0, true⟩,
  ⟨"FW_ACTIVATED", 0x0716, 0, true⟩,
  ⟨"BUDGET_RANGE", 0x0802, 2, false⟩,
  ⟨"ENVELOPE_LOCKED", 0x0803, 2, false⟩,
  ⟨"VCORE_UNDERVOLT", 0x0810, 3, true⟩,
  ⟨"HOT_THROTTLE", 0x0820, 0, true⟩,
  ⟨"ICL_THROTTLE", 0x0822, 0, true⟩,
  ⟨"POWER_BRAKE", 0x0824, 0, true⟩,
  ⟨"ENERGY_DEBT", 0x0825, 0, true⟩]
/-- Table 21-2, part 6. -/
def codeRows6 : List CodeRow := [
  ⟨"HOT_TRIP", 0x0821, 4, true⟩,
  ⟨"ENVELOPE_OVERSHOOT", 0x0823, 1, true⟩,
  ⟨"LINK_RETRAIN", 0x0901, 1, true⟩,
  ⟨"LINK_WIDTH", 0x0904, 1, true⟩,
  ⟨"PEER_LOST", 0x0902, 2, true⟩,
  ⟨"LINK_PEER", 0x0903, 2, true⟩,
  ⟨"ROUTE_DROP", 0x0905, 2, true⟩,
  ⟨"LINK_DOWN", 0x0907, 2, true⟩,
  ⟨"LINK_PROTO", 0x0908, 2, true⟩,
  ⟨"REMOTE_UNREACHABLE", 0x0906, 2, false⟩,
  ⟨"TIME_HOLDOVER", 0x090B, 1, true⟩,
  ⟨"TIME_LOCK", 0x090C, 0, true⟩]
/-- Table 21-2, part 7. -/
def codeRows7 : List CodeRow := [
  ⟨"COLL_ABORT", 0x0A01, 2, false⟩,
  ⟨"COL_GROUP_UNDEFINED", 0x0A04, 2, false⟩,
  ⟨"COL_FIELD", 0x0A05, 2, false⟩,
  ⟨"COL_GROUP_INVALID", 0x0A02, 2, false⟩,
  ⟨"COL_GROUP_BUSY", 0x0A03, 2, false⟩,
  ⟨"COLL_ABORT_LATE", 0x0A06, 0, true⟩,
  ⟨"SCALE_RERUN", 0x0A10, 0, true⟩,
  ⟨"COL_LB_SMALL", 0x0A11, 2, false⟩,
  ⟨"COL_BUCKET_STALE", 0x0A12, 2, false⟩,
  ⟨"MANIFEST_BAD", 0x0B01, 4, false⟩,
  ⟨"BOOT_IMAGE_BAD", 0x0B02, 4, false⟩,
  ⟨"PUF_FAIL", 0x0B04, 4, false⟩]
/-- Table 21-2, part 8. -/
def codeRows8 : List CodeRow := [
  ⟨"MEM_TRAIN_FAIL", 0x0B0A, 4, false⟩,
  ⟨"STORAGE_FAIL", 0x0B0B, 4, false⟩,
  ⟨"BOOT_FALLBACK", 0x0B03, 1, true⟩,
  ⟨"WEAVE_SIG_BAD", 0x0B05, 2, true⟩,
  ⟨"WEAVE_FORMAT", 0x0B06, 2, true⟩,
  ⟨"WEAVE_ROLLBACK", 0x0B07, 2, true⟩,
  ⟨"WEAVE_DEBUG", 0x0B08, 2, true⟩,
  ⟨"WEAVE_MISMATCH", 0x0B09, 2, true⟩,
  ⟨"TIME_UNLOCKED", 0x0B0C, 0, true⟩,
  ⟨"RECOVERY_BOOT", 0x0B10, 0, true⟩,
  ⟨"REWEAVE_BUSY", 0x0B0D, 2, false⟩,
  ⟨"REWEAVE", 0x0B0E, 0, true⟩]
/-- Table 21-2, part 9. -/
def codeRows9 : List CodeRow := [
  ⟨"ATTEST_FIELD", 0x0B0F, 2, false⟩]

/-- Table 21-2. -/
def codeTable : List CodeRow := codeRows0 ++ codeRows1 ++ codeRows2 ++ codeRows3 ++ codeRows4 ++ codeRows5 ++ codeRows6 ++ codeRows7 ++ codeRows8 ++ codeRows9


/-- The severity of a code (R533); a reserved code is treated as severity 2. -/
def severityOf (code : Nat) : Nat := ((codeTable.find? fun r => r.code == code).map (·.severity)).getD 2

/-- Whether a code is ever written to the error log (R534). -/
def isLogged (code : Nat) : Bool := ((codeTable.find? fun r => r.code == code).map (·.logged)).getD false

end Sys2Proof.Machine
end

