-- ==== Sys2Proof/Config.lean ====
section
/-! DEFINITION. The free values: what the manual leaves open. Each is a constant with no body, so nothing can be proved of its value. -/

namespace Sys2Proof

/-- A fresh undefined 64-bit value; the argument is the model's counter. -/
opaque Config.freeWord : Nat → Word

/-- The Nelax version this device states in its TRAIN flits (R323). The manual gives no number. -/
opaque Config.nelaxVersion : Nat

/-- Where a hart's interrupt file lies in a member's view (R508, R509): 2 × hart + file. The manual gives no address. -/
opaque Config.imsicFile : Nat → Nat

/-- The data byte an unwritten stack or rim line holds (R304): power era, byte address. -/
opaque Config.dramByte : Nat → Nat → Byte

/-- How the read of an unwritten stack or rim line comes out (R304): power era, line address; 0 uncorrectable, 1 travel-check mismatch, 2 arbitrary data that checks. -/
opaque Config.dramOutcome : Nat → Nat → Fin 3

/-- Whether a Falcon-1024 signature verifies (R487, R494): public key, hash, signature. The scheme is outside the manual. -/
opaque Config.falconOk : List Byte → Nat → List Byte → Bool

/-- A Falcon-1024 signature over a hash by the key pair that a seed generates (R491, R504). -/
opaque Config.falconSign : List Byte → Nat → List Byte

/-- Header fields of a firmware or recovery image whose layout the manual does not give (R450, R487, R505): here its version. -/
opaque Config.fwVersion : List Byte → Nat
/-- Security version number of an image. -/
opaque Config.fwSvn : List Byte → Nat
/-- Mailbox majors an image speaks. -/
opaque Config.fwMajors : List Byte → Nat
/-- The hearth loader an image carries. -/
opaque Config.fwLoader : List Byte → List Byte
/-- The vendor root public key an image carries (R487). -/
opaque Config.fwRootKey : List Byte → List Byte
/-- The bytes of an image that its signature covers. -/
opaque Config.fwSigned : List Byte → List Byte
/-- The signature an image carries. -/
opaque Config.fwSignature : List Byte → List Byte
/-- Whether an image is built for this device (R451). -/
opaque Config.fwFits : List Byte → Bool

/-- The module's reference oscillator and servo settle where the manual gives no law: correction in parts per billion for the n-th sample. -/
opaque Config.servoPpb : Nat → Int

end Sys2Proof
end

