-- ==== Sys2Proof/Machine/Sha.lean ====
section
/-! DEFINITION. SHAKE256, the hash of images, certificates, reports and keys (R447, R451, R489, R491, R504). -/

namespace Sys2Proof.Machine
open Sys2Proof

/-- The sponge's state: 25 lanes, lane x + 5 y. -/
abbrev Lanes := List Word

/-- A lane. -/
def lane (a : Lanes) (i : Nat) : Word := a.getD i 0

/-- Rotation distances, lane by lane. -/
def rhoDist : List Nat := [0, 1, 62, 28, 27, 36, 44, 6, 55, 20, 3, 10, 43, 25, 39, 41, 45, 15, 21, 8, 18, 2, 61, 56, 14]

/-- Round constants. -/
def roundConst : List Word :=
  [0x0000000000000001, 0x0000000000008082, 0x800000000000808A, 0x8000000080008000, 0x000000000000808B, 0x0000000080000001,
   0x8000000080008081, 0x8000000000008009, 0x000000000000008A, 0x0000000000000088, 0x0000000080008009, 0x000000008000000A] ++
  [0x000000008000808B, 0x800000000000008B, 0x8000000000008089, 0x8000000000008003, 0x8000000000008002, 0x8000000000000080,
   0x000000000000800A, 0x800000008000000A, 0x8000000080008081, 0x8000000000008080, 0x0000000080000001, 0x8000000080008008]

/-- Column parities spread over the lanes. -/
def keccakTheta (a : Lanes) : Lanes :=
  let c := (List.range 5).map fun x => lane a x ^^^ lane a (x + 5) ^^^ lane a (x + 10) ^^^ lane a (x + 15) ^^^ lane a (x + 20)
  (List.range 25).map fun i => lane a i ^^^ lane c ((i + 4) % 5) ^^^ (lane c ((i + 1) % 5)).rotateLeft 1

/-- Lanes rotated and moved: lane (x, y) goes to (y, 2 x + 3 y). -/
def keccakRhoPi (a : Lanes) : Lanes :=
  (List.range 25).map fun i =>
    let x := i % 5
    let y := i / 5
    let src := (x + 3 * y) % 5 + 5 * x
    (lane a src).rotateLeft (rhoDist.getD src 0)

/-- Rows mixed, and the round's constant. -/
def keccakChi (a : Lanes) (rc : Word) : Lanes :=
  (List.range 25).map fun i =>
    let r := i / 5 * 5
    let v := lane a i ^^^ (~~~ lane a (r + (i + 1) % 5) &&& lane a (r + (i + 2) % 5))
    if i = 0 then v ^^^ rc else v

/-- The permutation of 24 rounds. -/
def keccak (a : Lanes) : Lanes := roundConst.foldl (fun a rc => keccakChi (keccakRhoPi (keccakTheta a)) rc) a

/-- A block of 136 bytes absorbed. -/
def absorb (a : Lanes) (block : List Byte) : Lanes :=
  keccak ((List.range 25).map fun i => lane a i ^^^ BitVec.ofNat 64 (ofBytes ((block.drop (8 * i)).take 8)))

/-- SHAKE256 of the bytes, the first 8 n bytes of output; n is at most 17, one block. -/
def shakeLanes (n : Nat) (m : List Byte) : List Byte :=
  let r := 135 - m.length % 136
  let padded := if r = 0 then m ++ [0x9F] else m ++ [0x1F] ++ List.replicate (r - 1) 0 ++ [0x80]
  let a := (chunksOf 136 (padded.length / 136) padded).foldl absorb (List.replicate 25 0)
  (List.range n).flatMap fun i => toBytes 8 (lane a i).toNat

/-- SHAKE256 of the bytes, 32 bytes of output. -/
def shake256 (m : List Byte) : List Byte := shakeLanes 4 m

/-- The hash as a little-endian number. -/
def shakeNat (m : List Byte) : Nat := ofBytes (shake256 m)

end Sys2Proof.Machine
end

