-- ==== Sys2Proof/Machine/Map.lean ====
section
/-! DEFINITION. Finite maps from numbers as lists of pairs with strictly rising keys: equal maps are equal data. -/

namespace Sys2Proof.Machine

/-- A sparse map, keys strictly rising. -/
abbrev FMap (α : Type) := List (Nat × α)

/-- The entry at `k`, if there is one. -/
def FMap.find? {α : Type} (k : Nat) : FMap α → Option α
  | [] => none
  | (k', v) :: t => if k' = k then some v else if k < k' then none else FMap.find? k t

/-- The entry at `k` set to `v`. -/
def FMap.put {α : Type} (k : Nat) (v : α) : FMap α → FMap α
  | [] => [(k, v)]
  | (k', v') :: t =>
    if k' < k then (k', v') :: FMap.put k v t
    else if k' = k then (k, v) :: t
    else (k, v) :: (k', v') :: t

/-- No entry at `k`. -/
def FMap.del {α : Type} (k : Nat) : FMap α → FMap α
  | [] => []
  | (k', v') :: t =>
    if k' < k then (k', v') :: FMap.del k t
    else if k' = k then t
    else (k', v') :: t

/-- The entry at `k`, or what an unlisted key reads as. -/
def FMap.getD {α : Type} (m : FMap α) (k : Nat) (d : α) : α := (FMap.find? k m).getD d

/-- The entry at `k` set to `v`; a value equal to what an unlisted key reads as is not listed. -/
def FMap.setD {α : Type} [DecidableEq α] (m : FMap α) (k : Nat) (d v : α) : FMap α :=
  if v = d then FMap.del k m else FMap.put k v m

/-- Keys strictly rising, all above `lo` where one is given. -/
def FMap.sortedFrom {α : Type} : Option Nat → FMap α → Bool
  | _, [] => true
  | none, (k, _) :: t => FMap.sortedFrom (some k) t
  | some lo, (k, _) :: t => lo < k && FMap.sortedFrom (some k) t

/-- Keys strictly rising. -/
abbrev FMap.sorted {α : Type} (m : FMap α) : Bool := FMap.sortedFrom none m

/-- The keys, rising. -/
def FMap.keys {α : Type} (m : FMap α) : List Nat := m.map (·.1)

/-- The entries whose key and value satisfy `p`. -/
def FMap.keep {α : Type} (p : Nat → α → Bool) (m : FMap α) : FMap α := m.filter fun kv => p kv.1 kv.2

/-- Every value changed by `f`. -/
def FMap.mapVals {α β : Type} (f : Nat → α → β) (m : FMap α) : FMap β := m.map fun kv => (kv.1, f kv.1 kv.2)

end Sys2Proof.Machine
end

