-- ==== Sys2Proof/Machine/Types.lean ====
section
/-! DEFINITION. The parts of the state that belong to one chapter each: pins, power, memory, links, boot, time, hearth. -/

namespace Sys2Proof.Machine
open Sys2Proof

/-- The single-ended signals of Table 1-5 (true = high) and the power condition of the module. -/
structure Pins where
  modEn : Bool
  modRstN : Bool
  modPwrgd : Bool
  modReady : Bool
  thermAlertN : Bool
  thermTripN : Bool
  pwrBrakeN : Bool
  recoveryN : Bool
  ppsIn : Bool
  ppsOut : Bool
  /-- PCIE_PERST_N (19, PCI_CTL.PERST). -/
  perstN : Bool
  /-- MOD_ID[2:0]. -/
  modId : Nat
  /-- MOD_PWRGD stays low until MOD_EN is cycled: the input fell below 40 V, or the rails did not come up (R18, R25). -/
  underVoltLatch : Bool
  /-- The internal reset has been released (R545). -/
  released : Bool
  /-- TRST_N; false is the on-module default (R36). -/
  trstN : Bool
  /-- EXTEST drives the pins with this word, while it is in force (R34). -/
  extest : Option Nat
  /-- The last word shifted out of the test access port. -/
  tdo : Nat
  deriving DecidableEq, Repr

/-- The sideband registers of Table 1-7 and the active alert sources of Table 1-8. -/
structure Sideband where
  trip : Bool
  coolantBit : Bool
  startFail : Bool
  lastStatus : Nat
  hotspot : Nat
  stackTemp : Nat
  coolant : Nat
  power : Nat
  vin : Nat
  alertSrc : Nat
  /-- Sources active now, one bit each (R30). -/
  active : Nat
  deriving DecidableEq, Repr

/-- A signed firmware or recovery image as the ROM finds it. -/
structure FwImage where
  version : Nat
  svn : Nat
  /-- SHAKE256-256 of the image. -/
  hash : Nat
  /-- The vendor root public key of its header. -/
  rootKey : List Byte
  /-- Its signature verifies under that key (R487). -/
  sigOk : Bool
  /-- It is built for this device (R451). -/
  fits : Bool
  /-- The hearth loader the image carries (R505). -/
  loader : List Byte
  /-- Mailbox majors the image speaks, a bit each (R450). -/
  compat : Nat
  deriving DecidableEq, Repr

/-- A weave image: header (Table 18-4), certificate marks and sections (Table 18-6). -/
structure Weave where
  version : Nat
  svn : Nat
  debugFlag : Bool
  deviceId : Nat
  /-- Certificate and image signature verify (R494 check 1, but for the device IDs). -/
  sigOk : Bool
  /-- Magic, lengths, reserved bytes and section list are in order (R494 check 2). -/
  formatOk : Bool
  certDevice : Nat
  certDebug : Bool
  opcert : List Byte
  /-- SHAKE256-256 of the image. -/
  hash : Nat
  /-- TILES: 8-byte entry by physical tile, unlisted 0. -/
  tiles : FMap Nat
  /-- GROUPS: 576-bit masks. -/
  groups : List Nat
  unitsMask : Nat
  role : Nat
  node : Nat
  members : FMap Nat
  envelope : Nat
  wdog : List Nat
  /-- LINKS: NLK_CFG, NLK_POOL_LO, NLK_POOL_HI by port. -/
  links : List (List Nat)
  routes : FMap Nat
  stkMap : Nat
  rimMap : Nat
  localU : Nat
  ways : Nat
  time : Nat
  hearth : Nat
  deriving DecidableEq, Repr

/-- One copy of the boot manifest (Table 18-3). -/
structure Manifest where
  seq : Nat
  fwActive : Nat
  update : Nat
  aob : Bool
  weaveActive : Nat
  fwHash : Nat
  stagedHash : Nat
  weaveHash : Nat
  mac : Nat
  deriving DecidableEq, Repr

/-- A retirement of the RAS record (R319). -/
structure Retired where
  kind : Nat
  rim : Bool
  target : Nat
  deriving DecidableEq, Repr

/-- The boot flash, each region of Table 18-1 by what stands in it, the storage element, and what the silicon itself holds: the mask ROM and the PUF (R483, R487, R490, R491). -/
structure Flash where
  man0 : Manifest
  man1 : Manifest
  /-- Copy 1 is the one in force (R489). -/
  copy1 : Bool
  fw0 : Option FwImage
  fw1 : Option FwImage
  weave0 : Option Weave
  weave1 : Option Weave
  recovery : Option FwImage
  devCert : List Byte
  /-- KEYHASH of the device certificate. -/
  keyHash : Nat
  mfgRec : List Byte
  mfgCaps : Nat
  mfgDefective : Nat
  mfgStkFailed : Nat
  mfgRimFailed : Nat
  /-- PUF helper data. -/
  helper : List Byte
  /-- S, the 256-bit secret that the PUF's pattern gives once corrected. -/
  secret : Nat
  romVersion : Nat
  romHash : Nat
  /-- Root hash held in mask ROM. -/
  romRoot : Nat
  ras : List Retired
  ctrFw : Nat
  ctrWeave : Nat
  ctrManifest : Nat
  ctrBoots : Nat
  deriving DecidableEq, Repr

/-- Where start-up, recovery and re-weave stand (18). -/
structure Boot where
  /-- Last step of Table 18-2 reached. -/
  stage : Nat
  failed : Bool
  /-- Recovery boot is listening on the management lane, and whether the wait is without limit. -/
  listening : Bool
  forever : Bool
  /-- Recovery bytes received (R516). -/
  recvd : FMap Byte
  recvBegun : Bool
  /-- FW0 runs a recovery image. -/
  recoveryRun : Bool
  weave : Option Weave
  fw : Option FwImage
  /-- The image of a re-weave in progress. -/
  newWeave : Option Weave
  newPersist : Bool
  /-- Device key pair generated and checked (step 8). -/
  keyReady : Bool
  /-- Effective channel maps in force: stack mask, rim mask, u. -/
  stkMask : Nat
  rimMask : Nat
  localU : Nat
  /-- Ports whose next training keeps its PMA adaptation: their NLK_STATUS word before the re-weave (R500). -/
  adapted : FMap Nat
  /-- TIM_ELAPSED at reset release or GO. -/
  t0 : Nat
  /-- The one step of the counter has been taken (R521). -/
  stepped : Bool
  deriving DecidableEq, Repr

/-- The device time unit (R520 to R527). Counts are in 10^-10 ns. -/
structure Time where
  now : Nat
  elapsed : Nat
  ppb : Int
  holdover : Bool
  /-- Consecutive samples within LOCK_NS, and above 4 times it. -/
  good : Nat
  bad : Nat
  /-- Samples PRIMARY has delivered since it was lost. -/
  primaryBack : Nat
  active : Nat
  locked : Bool
  /-- Sources of TIM_CFG lost and not heard since (Table 19-4). -/
  gone : List Nat
  /-- The corrections in force over the last 64 s, newest first, each with the elapsed ns at which it began (R525). -/
  rates : List (Nat × Int)
  /-- PTP exchange: t1, t2 of the last Sync and the port's delay. -/
  ptp : List Int
  /-- The PTP master that the best master clock algorithm has chosen: its port identity, and the rank of its Announce (R526). -/
  master : Option (Nat × List Nat)
  /-- sequenceId of the last Delay_Req, and whether its Delay_Resp is awaited. -/
  delaySeq : Nat
  delayWait : Bool
  /-- Elapsed ns at which PPS_OUT last rose (R527). -/
  ppsAt : Nat
  deriving DecidableEq, Repr

/-- The side flags of a reduction region element (R279, R280); its window value stands in the window's bytes. -/
structure RFlags where
  /-- OVF, with the sign of the sum: true = negative. -/
  ovf : Option Bool
  infPos : Bool
  infNeg : Bool
  nan : Bool
  deriving DecidableEq, Repr

/-- Who waits for a response (R342). -/
inductive Waiter where
  | hearth (hart : Nat) (isLoad : Bool)
  | item (id : Nat)
  /-- A reed core. -/
  | core (c : Nat)
  | roster (m : Nat)
  | none
  deriving DecidableEq, Repr

/-- Device memory: bytes, poisoned 8-byte words, stored symbol errors, and what the memory controllers keep (10, 11). -/
structure Mem where
  cells : List Host.Cell
  /-- Poisoned words, by address / 8, among the listed ones. -/
  poison : FMap Unit
  /-- Symbol errors of stored lines, by line address / 64: position and value. -/
  errs : FMap (List (Nat × Nat))
  /-- Travel checks of on-chip lines and of lines that a slice holds that differ from the check of the data held, by line address / 64 (R291). -/
  checks : FMap Nat
  /-- Power era: raised when the tiers lose their contents. -/
  era : Nat
  /-- Armed injection: line address / 64 and KIND (R290). -/
  inject : Option (Nat × Nat)
  /-- Side flags of region elements, by window offset / 16. -/
  side : FMap RFlags
  /-- Regions that logged REGION_OVERFLOW, by slice × 4 + entry. -/
  ovfLogged : FMap Unit
  /-- LR reservation of each hart: 8-byte word address. -/
  reserved : FMap Nat
  /-- Lines the L3 holds (R507): address / 64, dirty data as held. -/
  l3 : FMap (Option (List Byte × Nat))
  /-- Marked lanes by channel (rim channels at 512 + g_r). -/
  lanes : FMap (List Nat)
  /-- Elapsed times of corrected lines by channel × 64 + lane, newest first. -/
  ceTimes : FMap (List Nat)
  /-- The same for lines that the scrub corrected (R308). -/
  scrubTimes : FMap (List Nat)
  /-- Elapsed times of uncorrectable reads by channel, newest first. -/
  ueTimes : FMap (List Nat)
  /-- Fenced banks (R318): channel, sid, bank. -/
  fencedBanks : List (Nat × Nat × Nat)
  /-- Tripped stacks 0 to 15 and rim packages 16 to 31. -/
  tripped : List Nat
  /-- Scrub pass counts. -/
  scrubCe : Nat
  scrubUe : Nat
  /-- Retirements being persisted (R319). -/
  persist : List Retired
  /-- Lanes, by channel, that FW7 will mark when it has restarted (Table 16-4). -/
  laneDue : List (Nat × Nat)
  /-- A retirement that is not persisted waits for FW7 to restart (Table 16-4). -/
  retireDue : Bool
  /-- Lines the shared-cache slices hold, by address / 64: data and poison (R270). -/
  slices : FMap (List Byte × Nat)
  /-- Lines of other members that the item or core at work has read (R511): data and poison by address / 64. -/
  remote : FMap (List Byte × Nat)
  /-- What each launch in flight has stored or contributed to: addresses and lengths (R537). -/
  wrote : FMap (List (Nat × Nat))
  /-- Who issues the remote accesses now. -/
  cur : Waiter
  /-- The die whose narrow requests they are, where they are narrow (R266). -/
  curDie : Option Nat
  deriving DecidableEq, Repr

/-- An arbiter (R61, R62): its rotating pointer, the consecutive tie wins of the source there, and by 4,096 × a + b the grants source b has had since source a's head came to wait. -/
structure Arb where
  ptr : Nat
  wins : Nat
  grants : FMap Nat
  deriving DecidableEq, Repr

/-- A flit's header fields and payload (R325); the CRC is made on sending and checked on receiving. Source, age, staleness and step are the device's own and never travel (R57, R58). -/
structure Flit where
  ftype : Nat
  vc : Nat
  seq : Nat
  ack : Nat
  crVc : Nat
  crCount : Nat
  crSh : Bool
  dst : Nat
  stream : Nat
  offset : Nat
  pmask : Nat
  last : Bool
  ttl : Nat
  sh : Bool
  payload : List Byte
  /-- The hub unit that feeds it to the port (Table 3-9): 0 to 3 a die's bridge, 4 the hearth, 5 firmware and link control, 6 the collective engine, 7 another port. -/
  src : Nat
  /-- Its age stamp on this device. -/
  age : Nat
  stale : Bool
  /-- The step of this device whose stream it carries. -/
  step : Option Nat
  deriving DecidableEq, Repr

/-- One Nelax port (12). -/
structure Port where
  /-- Sequenced flits waiting for a slot. -/
  txq : List Flit
  /-- Sent and unacknowledged, oldest first. -/
  replay : List Flit
  /-- Flits to send again before any new one. -/
  resend : List Flit
  /-- How often each SEQ has been replayed. -/
  replayed : FMap Nat
  nextSeq : Nat
  expSeq : Nat
  nakDue : Bool
  nakSent : Bool
  /-- Credits held, by pool (16 = shared). -/
  credits : FMap Nat
  /-- Receive buffers in use, by pool. -/
  used : FMap Nat
  /-- Credits owed to the peer, by pool. -/
  owed : FMap Nat
  rxq : List Flit
  deficit : FMap Nat
  /-- VC the round stands at. -/
  rr : Nat
  /-- The last 1,023 slots, newest first: taken by VC0 to VC2. -/
  slots : List Bool
  hbSeq : Nat
  /-- Elapsed count at the last heartbeat received; none while the timer is stopped. -/
  lastHb : Option Nat
  lost : Bool
  hbFirst : Bool
  /-- Cause of the NOTICE received, 0 none. -/
  cause : Nat
  /-- The time stamps of the TIME exchange in progress (R345, R525). -/
  stamps : List Nat
  /-- The arbiter of each VC (R63). -/
  arbs : FMap Arb
  deriving DecidableEq, Repr

/-- An outstanding request, by TAG (R342) or PCIe tag (R517). -/
structure Req where
  waiter : Waiter
  dst : Nat
  vc : Nat
  op : Nat
  addr : Nat
  len : Nat
  /-- Its age stamp (R57). -/
  age : Nat
  /-- The die whose count of narrow requests it is in (R266, R267). -/
  narrow : Option Nat
  deriving DecidableEq, Repr

/-- A hearth hart as the block sees it (R505 to R511). -/
structure Hart where
  running : Bool
  /-- Remote writes not yet acknowledged. -/
  remote : Nat
  /-- A FENCE waits for them. -/
  fencing : Bool
  /-- Interrupt identities pending in the M and S files. -/
  imsicM : Nat
  imsicS : Nat
  deriving DecidableEq, Repr

/-- An access that waits until a re-weave is ready (R502): a hart's load or store, an inbound PCIe request, a read or a write of a register. -/
inductive HubAccess where
  | load (hart addr size : Nat)
  | store (hart addr size : Nat) (val : Word) (poison : Bool)
  | inbound (write : Bool) (addr len : Nat) (data : List Byte) (ep : Bool)
  | readReg (off : Nat)
  | writeReg (off : Nat) (val : Word)
  | badReg (off : Nat) (write : Bool)
  deriving DecidableEq, Repr

/-- What the block sends out. -/
inductive Out where
  /-- A hart released in M mode at a place, with a0 and a1 (R505). -/
  | hartStart (hart : Nat) (pc : Nat) (a0 a1 : Word)
  /-- In-band interrupt on the sideband (R30). -/
  | ibi (src : Nat)
  /-- A register read's value. -/
  | regData (off : Nat) (val : Word)
  /-- A flit slot of a port: 256 bytes. -/
  | flit (port : Nat) (bytes : List Byte)
  /-- What a port's TRAIN flits state (R323, R336): node, width, DEGRADE, Nelax version, the free buffers of pools 0 to 16, the SEQ expected. The manual gives their payload no layout. -/
  | train (port node width : Nat) (degrade : Bool) (version : Nat) (free : List Nat) (expect : Nat)
  /-- A management frame. -/
  | frame (bytes : List Byte)
  /-- An interrupt delivered to a hart's file (R508). -/
  | irq (vector : Nat)
  /-- A hearth access answered: value, or an access fault. -/
  | hearthData (hart : Nat) (val : Word)
  | hearthFault (hart : Nat) (addr : Nat)
  | hearthMisaligned (hart : Nat) (addr : Nat)
  | hearthFenceDone (hart : Nat)
  /-- An atomic's old value and its poison. -/
  | oldValue (val : Word) (poison : Bool)
  /-- A line delivered: data and poison marks. -/
  | line (addr : Nat) (data : List Byte) (poison : Nat)
  /-- PCIe completion: status 0 success, 1 Unsupported Request; EP. -/
  | pcieCpl (status : Nat) (data : List Byte) (ep : Bool)
  | pcieReq (tag : Nat) (write : Bool) (addr : Nat) (data : List Byte) (ep : Bool)
  | pcieCfg (word : Word) (data : Nat)
  | pcieRetrain
  /-- PTP Delay_Req sent. -/
  | ptpDelayReq
  | tdo (val : Nat)
  /-- The regulator of a die is commanded to its fast-recovery mode (R44). -/
  | fastRecovery (die : Nat)
  /-- A slot of PRBS31 on a port in TEST (R349). -/
  | prbs (port : Nat)
  /-- A mailbox message posted in an OUT slot. -/
  | mailbox (p : Nat) (slot : Nat)
  deriving DecidableEq, Repr

end Sys2Proof.Machine
end

