-- ==== Sys2Proof/Machine/Flash.lean ====
section
/-! DEFINITION. The regions of the boot flash (Table 18-1), the device's keys (R491) and the bytes and MAC of a manifest copy (R489). -/

namespace Sys2Proof.Machine
open Sys2Proof

/-- A region of the boot flash. -/
inductive FlashRegion where
  | manifest0 | manifest1 | deviceCert | mfgRecord | pufHelper | rasRecord | weave0 | weave1 | firmware0 | firmware1 | recovery
  deriving DecidableEq, Repr

/-- Offset of a region (Table 18-1). -/
def FlashRegion.offset : FlashRegion → Nat
  | .manifest0 => 0x00000000
  | .manifest1 => 0x00001000
  | .deviceCert => 0x00020000
  | .mfgRecord => 0x00030000
  | .pufHelper => 0x00040000
  | .rasRecord => 0x00100000
  | .weave0 => 0x00400000
  | .weave1 => 0x00600000
  | .firmware0 => 0x01000000
  | .firmware1 => 0x02000000
  | .recovery => 0x03000000

/-- Size of a region in bytes (Table 18-1). -/
def FlashRegion.size : FlashRegion → Nat
  | .manifest0 => 0x1000
  | .manifest1 => 0x1000
  | .deviceCert => 0x1000
  | .mfgRecord => 0x1000
  | .pufHelper => 0x10000
  | .rasRecord => 0x100000
  | .weave0 => 0x200000
  | .weave1 => 0x200000
  | .firmware0 => 0x1000000
  | .firmware1 => 0x1000000
  | .recovery => 0x1000000

/-- FW0 writes the region (Table 18-1); the others are written at manufacture only. -/
def FlashRegion.writable : FlashRegion → Bool
  | .manifest0 => true
  | .manifest1 => true
  | .deviceCert => false
  | .mfgRecord => false
  | .pufHelper => false
  | .rasRecord => true
  | .weave0 => true
  | .weave1 => true
  | .firmware0 => true
  | .firmware1 => true
  | .recovery => false

/-- The regions in the order of Table 18-1. -/
def FlashRegion.all : List FlashRegion :=
  [.manifest0, .manifest1, .deviceCert, .mfgRecord, .pufHelper, .rasRecord, .weave0, .weave1, .firmware0, .firmware1, .recovery]

/-- A write by FW0 to a region (R483). -/
def Flash.write (f : Flash) (r : FlashRegion) (g : Flash → Flash) : Flash := if r.writable then g f else f

/-- A key of the device: SHAKE256 of S and a label, `n` times 8 bytes (R491). -/
def deviceKey (secret label n : Nat) : List Byte := shakeLanes n (toBytes 32 secret ++ toBytes 1 label)

/-- The seed of the device key pair, 48 bytes (R491). -/
def keySeed (secret : Nat) : List Byte := deviceKey secret 1 6

/-- K_m, 32 bytes (R491). -/
def manifestKey (secret : Nat) : List Byte := deviceKey secret 2 4

/-- K_s, 32 bytes, the key of the MAC on every command to the storage element (R490, R491). -/
def storageKey (secret : Nat) : List Byte := deviceKey secret 3 4

/-- Bytes 0x000 to 0x0DF of a manifest copy (Table 18-3). -/
def Manifest.bytes (m : Manifest) : List Byte :=
  toBytes 2 0x4D46 ++ toBytes 2 1 ++ toBytes 4 m.seq ++ toBytes 1 m.fwActive ++ toBytes 1 (m.update % 8 + 8 * b2n m.aob) ++ toBytes 1 m.weaveActive ++ List.replicate 5 0
    ++ toBytes 32 m.fwHash ++ toBytes 32 m.stagedHash ++ toBytes 32 m.weaveHash ++ List.replicate 112 0

/-- The MAC of a manifest copy (R489). -/
def Manifest.macOf (m : Manifest) (secret : Nat) : Nat := shakeNat (manifestKey secret ++ m.bytes)

/-- A copy with its MAC. -/
def Manifest.seal (m : Manifest) (secret : Nat) : Manifest := { m with mac := m.macOf secret }

/-- The MAC of a copy verifies (R489). -/
def Manifest.macOk (m : Manifest) (secret : Nat) : Bool := m.mac == m.macOf secret

end Sys2Proof.Machine
end

