-- ==== Sys2Proof/Machine/RegMap.lean ====
section
/-! DEFINITION. The register map (Tables 20-1 and 20-2 and the field maps of the chapters): every register, its instances, its fields with access, class and reset value. -/

namespace Sys2Proof.Machine
open Sys2Proof

/-- Access types, Table 0-5. -/
inductive Acc where
  | ro | rw | w1c | wo | rc
  deriving DecidableEq, Repr

/-- Field classes, Table 3-12. -/
inductive Cls where
  | s | q | g | l
  deriving DecidableEq, Repr

/-- One field of a register: the register's first offset, the stride of each instance index, the register's reset word, and the field's place. -/
structure Fld where
  base : Nat
  strides : List Nat
  rst : Word
  lo : Nat
  w : Nat
  acc : Acc
  cls : Cls
  deriving DecidableEq, Repr

/-- One register of the map: first offset, (count, stride) of each instance index, fields, reset word. -/
structure Reg where
  name : String
  base : Nat
  dims : List (Nat × Nat)
  rst : Word
  fields : List Fld
  deriving DecidableEq, Repr

/-- base + Σ index × stride. -/
def dotOff : List Nat → List Nat → Nat
  | s :: ss, i :: is => s * i + dotOff ss is
  | _, _ => 0

/-- The offset of an instance. -/
def Fld.at (f : Fld) (ix : List Nat) : Nat := f.base + dotOff f.strides ix

/-- The indices of the instance at distance `d` from the first, when it is one. -/
def unDims : List (Nat × Nat) → Nat → Option (List Nat)
  | [], d => if d = 0 then some [] else none
  | (c, st) :: t, d => if d / st < c then (unDims t (d % st)).map (d / st :: ·) else
      -- a later index may carry past the stride of an earlier one: none of the map's does
      none

/-- GLB_CAPS.NLK_PORTS [11:0], RO, class S, 00 Table 0-2. -/
def R.GLB_CAPS_NLK_PORTS : Fld := ⟨0x10, [], 0x17D0001F3FFF, 0, 12, .ro, .s⟩
/-- GLB_CAPS.RIM_PRESENT [12:12], RO, class S, 00 Table 0-2. -/
def R.GLB_CAPS_RIM_PRESENT : Fld := ⟨0x10, [], 0x17D0001F3FFF, 12, 1, .ro, .s⟩
/-- GLB_CAPS.PCIE_PRESENT [13:13], RO, class S, 00 Table 0-2. -/
def R.GLB_CAPS_PCIE_PRESENT : Fld := ⟨0x10, [], 0x17D0001F3FFF, 13, 1, .ro, .s⟩
/-- GLB_CAPS.CD_PRESENT [19:16], RO, class S, 00 Table 0-2. -/
def R.GLB_CAPS_CD_PRESENT : Fld := ⟨0x10, [], 0x17D0001F3FFF, 16, 4, .ro, .s⟩
/-- GLB_CAPS.RIM_SIZE [23:20], RO, class S, 00 Table 0-2. -/
def R.GLB_CAPS_RIM_SIZE : Fld := ⟨0x10, [], 0x17D0001F3FFF, 20, 4, .ro, .s⟩
/-- GLB_CAPS.ENVELOPE_W [43:32], RO, class S, 00 Table 0-2. -/
def R.GLB_CAPS_ENVELOPE_W : Fld := ⟨0x10, [], 0x17D0001F3FFF, 32, 12, .ro, .s⟩
/-- GLB_CAPS.VARIANT [47:44], RO, class S, 00 Table 0-2. -/
def R.GLB_CAPS_VARIANT : Fld := ⟨0x10, [], 0x17D0001F3FFF, 44, 4, .ro, .s⟩
/-- The register GLB_CAPS. -/
def R.GLB_CAPS : Reg := ⟨"GLB_CAPS", 0x10, [], 0x17D0001F3FFF,
  [R.GLB_CAPS_NLK_PORTS, R.GLB_CAPS_RIM_PRESENT, R.GLB_CAPS_PCIE_PRESENT, R.GLB_CAPS_CD_PRESENT, R.GLB_CAPS_RIM_SIZE, R.GLB_CAPS_ENVELOPE_W, R.GLB_CAPS_VARIANT]⟩
/-- GLB_PACE_CD.RATE [15:0], RO, class L, 02 Table 2-2. -/
def R.GLB_PACE_CD_RATE : Fld := ⟨0x40, [8], 0xffff0000, 0, 16, .ro, .l⟩
/-- GLB_PACE_CD.MIN_RATE [31:16], RC, class L, 02 Table 2-2. -/
def R.GLB_PACE_CD_MIN_RATE : Fld := ⟨0x40, [8], 0xffff0000, 16, 16, .rc, .l⟩
/-- GLB_PACE_CD.VCORE_MV [47:32], RO, class L, 02 Table 2-2. -/
def R.GLB_PACE_CD_VCORE_MV : Fld := ⟨0x40, [8], 0xffff0000, 32, 16, .ro, .l⟩
/-- The register GLB_PACE_CD. -/
def R.GLB_PACE_CD : Reg := ⟨"GLB_PACE_CD", 0x40, [(4, 8)], 0xffff0000,
  [R.GLB_PACE_CD_RATE, R.GLB_PACE_CD_MIN_RATE, R.GLB_PACE_CD_VCORE_MV]⟩
/-- GLB_PACE_HUB.RATE [15:0], RO, class L, 02 Table 2-2. -/
def R.GLB_PACE_HUB_RATE : Fld := ⟨0x60, [], 0xffff0000, 0, 16, .ro, .l⟩
/-- GLB_PACE_HUB.MIN_RATE [31:16], RC, class L, 02 Table 2-2. -/
def R.GLB_PACE_HUB_MIN_RATE : Fld := ⟨0x60, [], 0xffff0000, 16, 16, .rc, .l⟩
/-- GLB_PACE_HUB.VCORE_MV [47:32], RO, class L, 02 Table 2-2. -/
def R.GLB_PACE_HUB_VCORE_MV : Fld := ⟨0x60, [], 0xffff0000, 32, 16, .ro, .l⟩
/-- The register GLB_PACE_HUB. -/
def R.GLB_PACE_HUB : Reg := ⟨"GLB_PACE_HUB", 0x60, [], 0xffff0000,
  [R.GLB_PACE_HUB_RATE, R.GLB_PACE_HUB_MIN_RATE, R.GLB_PACE_HUB_VCORE_MV]⟩
/-- TIL_ID.PHYS [9:0], RO, class S, 03 Table 3-2. -/
def R.TIL_ID_PHYS : Fld := ⟨0x10000000, [67108864, 65536], 0x0, 0, 10, .ro, .s⟩
/-- TIL_ID.LOGICAL [19:10], RO, class S, 03 Table 3-2. -/
def R.TIL_ID_LOGICAL : Fld := ⟨0x10000000, [67108864, 65536], 0x0, 10, 10, .ro, .s⟩
/-- TIL_ID.ROLE [21:20], RO, class S, 03 Table 3-2. -/
def R.TIL_ID_ROLE : Fld := ⟨0x10000000, [67108864, 65536], 0x0, 20, 2, .ro, .s⟩
/-- The register TIL_ID. -/
def R.TIL_ID : Reg := ⟨"TIL_ID", 0x10000000, [(4, 67108864), (144, 65536)], 0x0,
  [R.TIL_ID_PHYS, R.TIL_ID_LOGICAL, R.TIL_ID_ROLE]⟩
/-- TIL_STATUS.CFG_BUSY [0:0], W1C, class L, 03 Table 3-3. -/
def R.TIL_STATUS_CFG_BUSY : Fld := ⟨0x10000008, [67108864, 65536], 0x0, 0, 1, .w1c, .l⟩
/-- TIL_STATUS.BUSY [1:1], RO, class L, 03 Table 3-3. -/
def R.TIL_STATUS_BUSY : Fld := ⟨0x10000008, [67108864, 65536], 0x0, 1, 1, .ro, .l⟩
/-- The register TIL_STATUS. -/
def R.TIL_STATUS : Reg := ⟨"TIL_STATUS", 0x10000008, [(4, 67108864), (144, 65536)], 0x0,
  [R.TIL_STATUS_CFG_BUSY, R.TIL_STATUS_BUSY]⟩
/-- TIL_GROUPS.MASK [63:0], RO, class S, 03 Table 3-4. -/
def R.TIL_GROUPS_MASK : Fld := ⟨0x10000010, [67108864, 65536], 0x0, 0, 64, .ro, .s⟩
/-- The register TIL_GROUPS. -/
def R.TIL_GROUPS : Reg := ⟨"TIL_GROUPS", 0x10000010, [(4, 67108864), (144, 65536)], 0x0,
  [R.TIL_GROUPS_MASK]⟩
/-- GLB_TILE_SUMMARY.TRAINING [9:0], RO, class S, 03 Table 3-5. -/
def R.GLB_TILE_SUMMARY_TRAINING : Fld := ⟨0x68, [], 0x0, 0, 10, .ro, .s⟩
/-- GLB_TILE_SUMMARY.EVALUATION [19:10], RO, class S, 03 Table 3-5. -/
def R.GLB_TILE_SUMMARY_EVALUATION : Fld := ⟨0x68, [], 0x0, 10, 10, .ro, .s⟩
/-- GLB_TILE_SUMMARY.SPARE [25:20], RO, class S, 03 Table 3-5. -/
def R.GLB_TILE_SUMMARY_SPARE : Fld := ⟨0x68, [], 0x0, 20, 6, .ro, .s⟩
/-- GLB_TILE_SUMMARY.GROUPS [38:32], RO, class S, 03 Table 3-5. -/
def R.GLB_TILE_SUMMARY_GROUPS : Fld := ⟨0x68, [], 0x0, 32, 7, .ro, .s⟩
/-- The register GLB_TILE_SUMMARY. -/
def R.GLB_TILE_SUMMARY : Reg := ⟨"GLB_TILE_SUMMARY", 0x68, [], 0x0,
  [R.GLB_TILE_SUMMARY_TRAINING, R.GLB_TILE_SUMMARY_EVALUATION, R.GLB_TILE_SUMMARY_SPARE, R.GLB_TILE_SUMMARY_GROUPS]⟩
/-- TIL_ARB_WEIGHT.WEIGHT [21:0], RO, class S, 03 Table 3-10. -/
def R.TIL_ARB_WEIGHT_WEIGHT : Fld := ⟨0x10000018, [67108864, 65536], 0x0, 0, 22, .ro, .s⟩
/-- The register TIL_ARB_WEIGHT. -/
def R.TIL_ARB_WEIGHT : Reg := ⟨"TIL_ARB_WEIGHT", 0x10000018, [(4, 67108864), (144, 65536)], 0x0,
  [R.TIL_ARB_WEIGHT_WEIGHT]⟩
/-- TIL_RTR_STAT.MAX_WAIT [15:0], RC, class L, 03 Table 3-11. -/
def R.TIL_RTR_STAT_MAX_WAIT : Fld := ⟨0x10000020, [67108864, 65536], 0x0, 0, 16, .rc, .l⟩
/-- TIL_RTR_STAT.STALE [31:16], RC, class L, 03 Table 3-11. -/
def R.TIL_RTR_STAT_STALE : Fld := ⟨0x10000020, [67108864, 65536], 0x0, 16, 16, .rc, .l⟩
/-- TIL_RTR_STAT.CAP_HITS [47:32], RC, class L, 03 Table 3-11. -/
def R.TIL_RTR_STAT_CAP_HITS : Fld := ⟨0x10000020, [67108864, 65536], 0x0, 32, 16, .rc, .l⟩
/-- The register TIL_RTR_STAT. -/
def R.TIL_RTR_STAT : Reg := ⟨"TIL_RTR_STAT", 0x10000020, [(4, 67108864), (144, 65536)], 0x0,
  [R.TIL_RTR_STAT_MAX_WAIT, R.TIL_RTR_STAT_STALE, R.TIL_RTR_STAT_CAP_HITS]⟩
/-- EPO_CTL.CMD [1:0], WO, class L, 03 Table 3-15. -/
def R.EPO_CTL_CMD : Fld := ⟨0x1000000, [], 0x0, 0, 2, .wo, .l⟩
/-- The register EPO_CTL. -/
def R.EPO_CTL : Reg := ⟨"EPO_CTL", 0x1000000, [], 0x0,
  [R.EPO_CTL_CMD]⟩
/-- EPO_STATUS.STATE [2:0], RO, class L, 03 Table 3-15. -/
def R.EPO_STATUS_STATE : Fld := ⟨0x1000008, [], 0x0, 0, 3, .ro, .l⟩
/-- EPO_STATUS.ABANDONED [3:3], W1C, class L, 03 Table 3-15. -/
def R.EPO_STATUS_ABANDONED : Fld := ⟨0x1000008, [], 0x0, 3, 1, .w1c, .l⟩
/-- EPO_STATUS.UNIT [31:16], RO, class L, 03 Table 3-15. -/
def R.EPO_STATUS_UNIT : Fld := ⟨0x1000008, [], 0x0, 16, 16, .ro, .l⟩
/-- EPO_STATUS.ACK_PENDING [47:32], RO, class L, 03 Table 3-15. -/
def R.EPO_STATUS_ACK_PENDING : Fld := ⟨0x1000008, [], 0x0, 32, 16, .ro, .l⟩
/-- EPO_STATUS.PARTICIPANTS [63:48], RO, class L, 03 Table 3-15. -/
def R.EPO_STATUS_PARTICIPANTS : Fld := ⟨0x1000008, [], 0x0, 48, 16, .ro, .l⟩
/-- The register EPO_STATUS. -/
def R.EPO_STATUS : Reg := ⟨"EPO_STATUS", 0x1000008, [], 0x0,
  [R.EPO_STATUS_STATE, R.EPO_STATUS_ABANDONED, R.EPO_STATUS_UNIT, R.EPO_STATUS_ACK_PENDING, R.EPO_STATUS_PARTICIPANTS]⟩
/-- EPO_CUR.EPOCH [31:0], RO, class L, 03 Table 3-15. -/
def R.EPO_CUR_EPOCH : Fld := ⟨0x1000010, [], 0x0, 0, 32, .ro, .l⟩
/-- The register EPO_CUR. -/
def R.EPO_CUR : Reg := ⟨"EPO_CUR", 0x1000010, [], 0x0,
  [R.EPO_CUR_EPOCH]⟩
/-- EPO_DRAIN.OLD_INFLIGHT [10:0], RO, class L, 03 Table 3-15. -/
def R.EPO_DRAIN_OLD_INFLIGHT : Fld := ⟨0x1000018, [], 0x0, 0, 11, .ro, .l⟩
/-- The register EPO_DRAIN. -/
def R.EPO_DRAIN : Reg := ⟨"EPO_DRAIN", 0x1000018, [], 0x0,
  [R.EPO_DRAIN_OLD_INFLIGHT]⟩
/-- EPO_TIMES.LAST_NS [31:0], RO, class L, 03 Table 3-15. -/
def R.EPO_TIMES_LAST_NS : Fld := ⟨0x1000020, [], 0x0, 0, 32, .ro, .l⟩
/-- EPO_TIMES.MAX_NS [63:32], RC, class L, 03 Table 3-15. -/
def R.EPO_TIMES_MAX_NS : Fld := ⟨0x1000020, [], 0x0, 32, 32, .rc, .l⟩
/-- The register EPO_TIMES. -/
def R.EPO_TIMES : Reg := ⟨"EPO_TIMES", 0x1000020, [], 0x0,
  [R.EPO_TIMES_LAST_NS, R.EPO_TIMES_MAX_NS]⟩
/-- TIL_NUM_CTL.RND [2:0], RW, class G, 04 Table 4-10. -/
def R.TIL_NUM_CTL_RND : Fld := ⟨0x10000040, [67108864, 65536], 0x100, 0, 3, .rw, .g⟩
/-- TIL_NUM_CTL.OVF [3:3], RW, class G, 04 Table 4-10. -/
def R.TIL_NUM_CTL_OVF : Fld := ⟨0x10000040, [67108864, 65536], 0x100, 3, 1, .rw, .g⟩
/-- TIL_NUM_CTL.SR_BITS [8:4], RW, class G, 04 Table 4-10. -/
def R.TIL_NUM_CTL_SR_BITS : Fld := ⟨0x10000040, [67108864, 65536], 0x100, 4, 5, .rw, .g⟩
/-- The register TIL_NUM_CTL. -/
def R.TIL_NUM_CTL : Reg := ⟨"TIL_NUM_CTL", 0x10000040, [(4, 67108864), (144, 65536)], 0x100,
  [R.TIL_NUM_CTL_RND, R.TIL_NUM_CTL_OVF, R.TIL_NUM_CTL_SR_BITS]⟩
/-- TIL_SR_SEED.SEED [63:0], RW, class G, 04 Table 4-11. -/
def R.TIL_SR_SEED_SEED : Fld := ⟨0x10000048, [67108864, 65536], 0x0, 0, 64, .rw, .g⟩
/-- The register TIL_SR_SEED. -/
def R.TIL_SR_SEED : Reg := ⟨"TIL_SR_SEED", 0x10000048, [(4, 67108864), (144, 65536)], 0x0,
  [R.TIL_SR_SEED_SEED]⟩
/-- TIL_MAT_STATUS.BUSY [0:0], RO, class L, 06 Table 6-13. -/
def R.TIL_MAT_STATUS_BUSY : Fld := ⟨0x10000100, [67108864, 65536], 0x0, 0, 1, .ro, .l⟩
/-- TIL_MAT_STATUS.LB_WAIT [1:1], RO, class L, 06 Table 6-13. -/
def R.TIL_MAT_STATUS_LB_WAIT : Fld := ⟨0x10000100, [67108864, 65536], 0x0, 1, 1, .ro, .l⟩
/-- TIL_MAT_STATUS.QUEUED [4:2], RO, class L, 06 Table 6-13. -/
def R.TIL_MAT_STATUS_QUEUED : Fld := ⟨0x10000100, [67108864, 65536], 0x0, 2, 3, .ro, .l⟩
/-- TIL_MAT_STATUS.LAST_STATUS [31:16], RO, class L, 06 Table 6-13. -/
def R.TIL_MAT_STATUS_LAST_STATUS : Fld := ⟨0x10000100, [67108864, 65536], 0x0, 16, 16, .ro, .l⟩
/-- The register TIL_MAT_STATUS. -/
def R.TIL_MAT_STATUS : Reg := ⟨"TIL_MAT_STATUS", 0x10000100, [(4, 67108864), (144, 65536)], 0x0,
  [R.TIL_MAT_STATUS_BUSY, R.TIL_MAT_STATUS_LB_WAIT, R.TIL_MAT_STATUS_QUEUED, R.TIL_MAT_STATUS_LAST_STATUS]⟩
/-- TIL_MAT_CTL.PREFETCH [2:0], RW, class L, 06 Table 6-14. -/
def R.TIL_MAT_CTL_PREFETCH : Fld := ⟨0x10000108, [67108864, 65536], 0x4, 0, 3, .rw, .l⟩
/-- The register TIL_MAT_CTL. -/
def R.TIL_MAT_CTL : Reg := ⟨"TIL_MAT_CTL", 0x10000108, [(4, 67108864), (144, 65536)], 0x4,
  [R.TIL_MAT_CTL_PREFETCH]⟩
/-- TIL_MAT_STEPS.STEPS [63:0], RO, class L, 06 Table 6-15. -/
def R.TIL_MAT_STEPS_STEPS : Fld := ⟨0x10000110, [67108864, 65536], 0x0, 0, 64, .ro, .l⟩
/-- The register TIL_MAT_STEPS. -/
def R.TIL_MAT_STEPS : Reg := ⟨"TIL_MAT_STEPS", 0x10000110, [(4, 67108864), (144, 65536)], 0x0,
  [R.TIL_MAT_STEPS_STEPS]⟩
/-- TIL_MAT_STALL.OPERAND_STALLS [31:0], RC, class L, 06 Table 6-16. -/
def R.TIL_MAT_STALL_OPERAND_STALLS : Fld := ⟨0x10000118, [67108864, 65536], 0x0, 0, 32, .rc, .l⟩
/-- TIL_MAT_STALL.LB_WAITS [63:32], RC, class L, 06 Table 6-16. -/
def R.TIL_MAT_STALL_LB_WAITS : Fld := ⟨0x10000118, [67108864, 65536], 0x0, 32, 32, .rc, .l⟩
/-- The register TIL_MAT_STALL. -/
def R.TIL_MAT_STALL : Reg := ⟨"TIL_MAT_STALL", 0x10000118, [(4, 67108864), (144, 65536)], 0x0,
  [R.TIL_MAT_STALL_OPERAND_STALLS, R.TIL_MAT_STALL_LB_WAITS]⟩
/-- TIL_MAT_EXC.RECORD [63:0], RO, class L, 06 Table 6-17. -/
def R.TIL_MAT_EXC_RECORD : Fld := ⟨0x10000120, [67108864, 65536], 0x0, 0, 64, .ro, .l⟩
/-- The register TIL_MAT_EXC. -/
def R.TIL_MAT_EXC : Reg := ⟨"TIL_MAT_EXC", 0x10000120, [(4, 67108864), (144, 65536)], 0x0,
  [R.TIL_MAT_EXC_RECORD]⟩
/-- TIL_REED_STATUS.RUNNING [7:0], RO, class L, 07 Table 7-15. -/
def R.TIL_REED_STATUS_RUNNING : Fld := ⟨0x10000200, [67108864, 65536], 0x0, 0, 8, .ro, .l⟩
/-- TIL_REED_STATUS.BLOCKED [15:8], RO, class L, 07 Table 7-15. -/
def R.TIL_REED_STATUS_BLOCKED : Fld := ⟨0x10000200, [67108864, 65536], 0x0, 8, 8, .ro, .l⟩
/-- TIL_REED_STATUS.LAST_STATUS [31:16], RO, class L, 07 Table 7-15. -/
def R.TIL_REED_STATUS_LAST_STATUS : Fld := ⟨0x10000200, [67108864, 65536], 0x0, 16, 16, .ro, .l⟩
/-- The register TIL_REED_STATUS. -/
def R.TIL_REED_STATUS : Reg := ⟨"TIL_REED_STATUS", 0x10000200, [(4, 67108864), (144, 65536)], 0x0,
  [R.TIL_REED_STATUS_RUNNING, R.TIL_REED_STATUS_BLOCKED, R.TIL_REED_STATUS_LAST_STATUS]⟩
/-- TIL_REED_TRAP.PC [47:0], RO, class L, 07 Table 7-16. -/
def R.TIL_REED_TRAP_PC : Fld := ⟨0x10000208, [67108864, 65536], 0x0, 0, 48, .ro, .l⟩
/-- TIL_REED_TRAP.CAUSE [53:48], RO, class L, 07 Table 7-16. -/
def R.TIL_REED_TRAP_CAUSE : Fld := ⟨0x10000208, [67108864, 65536], 0x0, 48, 6, .ro, .l⟩
/-- TIL_REED_TRAP.CORE [56:54], RO, class L, 07 Table 7-16. -/
def R.TIL_REED_TRAP_CORE : Fld := ⟨0x10000208, [67108864, 65536], 0x0, 54, 3, .ro, .l⟩
/-- TIL_REED_TRAP.VALID [63:63], W1C, class L, 07 Table 7-16. -/
def R.TIL_REED_TRAP_VALID : Fld := ⟨0x10000208, [67108864, 65536], 0x0, 63, 1, .w1c, .l⟩
/-- The register TIL_REED_TRAP. -/
def R.TIL_REED_TRAP : Reg := ⟨"TIL_REED_TRAP", 0x10000208, [(4, 67108864), (144, 65536)], 0x0,
  [R.TIL_REED_TRAP_PC, R.TIL_REED_TRAP_CAUSE, R.TIL_REED_TRAP_CORE, R.TIL_REED_TRAP_VALID]⟩
/-- TIL_REED_TVAL.TVAL [63:0], RO, class L, 07 Table 7-17. -/
def R.TIL_REED_TVAL_TVAL : Fld := ⟨0x10000210, [67108864, 65536], 0x0, 0, 64, .ro, .l⟩
/-- The register TIL_REED_TVAL. -/
def R.TIL_REED_TVAL : Reg := ⟨"TIL_REED_TVAL", 0x10000210, [(4, 67108864), (144, 65536)], 0x0,
  [R.TIL_REED_TVAL_TVAL]⟩
/-- TIL_REED_STEPS.STEPS [63:0], RO, class L, 07 Table 7-18. -/
def R.TIL_REED_STEPS_STEPS : Fld := ⟨0x10000218, [67108864, 65536], 0x0, 0, 64, .ro, .l⟩
/-- The register TIL_REED_STEPS. -/
def R.TIL_REED_STEPS : Reg := ⟨"TIL_REED_STEPS", 0x10000218, [(4, 67108864), (144, 65536)], 0x0,
  [R.TIL_REED_STEPS_STEPS]⟩
/-- TIL_REED_SUMM.FULL [7:0], RO, class L, 07 Table 7-19. -/
def R.TIL_REED_SUMM_FULL : Fld := ⟨0x10000220, [67108864, 65536], 0x0, 0, 8, .ro, .l⟩
/-- The register TIL_REED_SUMM. -/
def R.TIL_REED_SUMM : Reg := ⟨"TIL_REED_SUMM", 0x10000220, [(4, 67108864), (144, 65536)], 0x0,
  [R.TIL_REED_SUMM_FULL]⟩
/-- TIL_PLAIT_STATUS.ACTIVE [0:0], RO, class L, 08 Table 8-5. -/
def R.TIL_PLAIT_STATUS_ACTIVE : Fld := ⟨0x10000300, [67108864, 65536], 0x0, 0, 1, .ro, .l⟩
/-- TIL_PLAIT_STATUS.FIRST_CORE [3:1], RO, class L, 08 Table 8-5. -/
def R.TIL_PLAIT_STATUS_FIRST_CORE : Fld := ⟨0x10000300, [67108864, 65536], 0x0, 1, 3, .ro, .l⟩
/-- TIL_PLAIT_STATUS.STAGES_M1 [6:4], RO, class L, 08 Table 8-5. -/
def R.TIL_PLAIT_STATUS_STAGES_M1 : Fld := ⟨0x10000300, [67108864, 65536], 0x0, 4, 3, .ro, .l⟩
/-- TIL_PLAIT_STATUS.FILL [35:8], RO, class L, 08 Table 8-5. -/
def R.TIL_PLAIT_STATUS_FILL : Fld := ⟨0x10000300, [67108864, 65536], 0x0, 8, 28, .ro, .l⟩
/-- TIL_PLAIT_STATUS.RESIDUE [41:36], RO, class L, 08 Table 8-5. -/
def R.TIL_PLAIT_STATUS_RESIDUE : Fld := ⟨0x10000300, [67108864, 65536], 0x0, 36, 6, .ro, .l⟩
/-- The register TIL_PLAIT_STATUS. -/
def R.TIL_PLAIT_STATUS : Reg := ⟨"TIL_PLAIT_STATUS", 0x10000300, [(4, 67108864), (144, 65536)], 0x0,
  [R.TIL_PLAIT_STATUS_ACTIVE, R.TIL_PLAIT_STATUS_FIRST_CORE, R.TIL_PLAIT_STATUS_STAGES_M1, R.TIL_PLAIT_STATUS_FILL, R.TIL_PLAIT_STATUS_RESIDUE]⟩
/-- TIL_PLAIT_STALL.SEND_STALLS [31:0], RC, class L, 08 Table 8-6. -/
def R.TIL_PLAIT_STALL_SEND_STALLS : Fld := ⟨0x10000308, [67108864, 65536], 0x0, 0, 32, .rc, .l⟩
/-- TIL_PLAIT_STALL.RECV_STALLS [63:32], RC, class L, 08 Table 8-6. -/
def R.TIL_PLAIT_STALL_RECV_STALLS : Fld := ⟨0x10000308, [67108864, 65536], 0x0, 32, 32, .rc, .l⟩
/-- The register TIL_PLAIT_STALL. -/
def R.TIL_PLAIT_STALL : Reg := ⟨"TIL_PLAIT_STALL", 0x10000308, [(4, 67108864), (144, 65536)], 0x0,
  [R.TIL_PLAIT_STALL_SEND_STALLS, R.TIL_PLAIT_STALL_RECV_STALLS]⟩
/-- TRN_CTL.ALARM_IRQ [0:0], RW, class L, 09 Table 9-6. -/
def R.TRN_CTL_ALARM_IRQ : Fld := ⟨0x7000000, [], 0x0, 0, 1, .rw, .l⟩
/-- TRN_CTL.CLEAR_EVAL_RUNGS [1:1], WO, class G, 09 Table 9-6. -/
def R.TRN_CTL_CLEAR_EVAL_RUNGS : Fld := ⟨0x7000000, [], 0x0, 1, 1, .wo, .g⟩
/-- The register TRN_CTL. -/
def R.TRN_CTL : Reg := ⟨"TRN_CTL", 0x7000000, [], 0x0,
  [R.TRN_CTL_ALARM_IRQ, R.TRN_CTL_CLEAR_EVAL_RUNGS]⟩
/-- TRN_STATUS.OPEN_GATES [4:0], RO, class L, 09 Table 9-7. -/
def R.TRN_STATUS_OPEN_GATES : Fld := ⟨0x7000008, [], 0x0, 0, 5, .ro, .l⟩
/-- TRN_STATUS.LAST_STATUS [31:16], RO, class L, 09 Table 9-7. -/
def R.TRN_STATUS_LAST_STATUS : Fld := ⟨0x7000008, [], 0x0, 16, 16, .ro, .l⟩
/-- The register TRN_STATUS. -/
def R.TRN_STATUS : Reg := ⟨"TRN_STATUS", 0x7000008, [], 0x0,
  [R.TRN_STATUS_OPEN_GATES, R.TRN_STATUS_LAST_STATUS]⟩
/-- TRN_STEP.COMMITTED [31:0], RO, class L, 09 Table 9-8. -/
def R.TRN_STEP_COMMITTED : Fld := ⟨0x7000010, [], 0x0, 0, 32, .ro, .l⟩
/-- TRN_STEP.COMMITS [63:32], RO, class L, 09 Table 9-8. -/
def R.TRN_STEP_COMMITS : Fld := ⟨0x7000010, [], 0x0, 32, 32, .ro, .l⟩
/-- The register TRN_STEP. -/
def R.TRN_STEP : Reg := ⟨"TRN_STEP", 0x7000010, [], 0x0,
  [R.TRN_STEP_COMMITTED, R.TRN_STEP_COMMITS]⟩
/-- TRN_COUNT.LADDER_EVENTS [31:0], RC, class L, 09 Table 9-9. -/
def R.TRN_COUNT_LADDER_EVENTS : Fld := ⟨0x7000018, [], 0x0, 0, 32, .rc, .l⟩
/-- TRN_COUNT.OVF_UNLADDERED [63:32], RC, class L, 09 Table 9-9. -/
def R.TRN_COUNT_OVF_UNLADDERED : Fld := ⟨0x7000018, [], 0x0, 32, 32, .rc, .l⟩
/-- The register TRN_COUNT. -/
def R.TRN_COUNT : Reg := ⟨"TRN_COUNT", 0x7000018, [], 0x0,
  [R.TRN_COUNT_LADDER_EVENTS, R.TRN_COUNT_OVF_UNLADDERED]⟩
/-- TRN_SNAP.EXPECT [15:0], RW, class L, 09 Table 9-10. -/
def R.TRN_SNAP_EXPECT : Fld := ⟨0x7000020, [], 0x0, 0, 16, .rw, .l⟩
/-- TRN_SNAP.DONE [31:16], RO, class L, 09 Table 9-10. -/
def R.TRN_SNAP_DONE : Fld := ⟨0x7000020, [], 0x0, 16, 16, .ro, .l⟩
/-- TRN_SNAP.FAILED [32:32], W1C, class L, 09 Table 9-10. -/
def R.TRN_SNAP_FAILED : Fld := ⟨0x7000020, [], 0x0, 32, 1, .w1c, .l⟩
/-- The register TRN_SNAP. -/
def R.TRN_SNAP : Reg := ⟨"TRN_SNAP", 0x7000020, [], 0x0,
  [R.TRN_SNAP_EXPECT, R.TRN_SNAP_DONE, R.TRN_SNAP_FAILED]⟩
/-- TRN_LMT_CFG.EXP_W [15:0], RW, class G, 09 Table 9-11. -/
def R.TRN_LMT_CFG_EXP_W : Fld := ⟨0x7000028, [], 0xffb0ffd8, 0, 16, .rw, .g⟩
/-- TRN_LMT_CFG.EXP_D [31:16], RW, class G, 09 Table 9-11. -/
def R.TRN_LMT_CFG_EXP_D : Fld := ⟨0x7000028, [], 0xffb0ffd8, 16, 16, .rw, .g⟩
/-- The register TRN_LMT_CFG. -/
def R.TRN_LMT_CFG : Reg := ⟨"TRN_LMT_CFG", 0x7000028, [], 0xffb0ffd8,
  [R.TRN_LMT_CFG_EXP_W, R.TRN_LMT_CFG_EXP_D]⟩
/-- TRN_LMT_BASE.OFFSET [27:0], RW, class Q, 09 Table 9-12. -/
def R.TRN_LMT_BASE_OFFSET : Fld := ⟨0x7000030, [], 0xfe0000, 0, 28, .rw, .q⟩
/-- The register TRN_LMT_BASE. -/
def R.TRN_LMT_BASE : Reg := ⟨"TRN_LMT_BASE", 0x7000030, [], 0xfe0000,
  [R.TRN_LMT_BASE_OFFSET]⟩
/-- TRN_ALARM.COUNT [12:0], RO, class L, 09 Table 9-13. -/
def R.TRN_ALARM_COUNT : Fld := ⟨0x7000038, [], 0x0, 0, 13, .ro, .l⟩
/-- TRN_ALARM.FIRST [27:16], RO, class L, 09 Table 9-13. -/
def R.TRN_ALARM_FIRST : Fld := ⟨0x7000038, [], 0x0, 16, 12, .ro, .l⟩
/-- The register TRN_ALARM. -/
def R.TRN_ALARM : Reg := ⟨"TRN_ALARM", 0x7000038, [], 0x0,
  [R.TRN_ALARM_COUNT, R.TRN_ALARM_FIRST]⟩
/-- TRN_ALARM_MAP.ALARM [63:0], W1C, class L, 09 Table 9-14. -/
def R.TRN_ALARM_MAP_ALARM : Fld := ⟨0x7001000, [8], 0x0, 0, 64, .w1c, .l⟩
/-- The register TRN_ALARM_MAP. -/
def R.TRN_ALARM_MAP : Reg := ⟨"TRN_ALARM_MAP", 0x7001000, [(64, 8)], 0x0,
  [R.TRN_ALARM_MAP_ALARM]⟩
/-- TRN_GATE_W0.LAYER [11:0], RO, class L, 09 Table 9-15. -/
def R.TRN_GATE_W0_LAYER : Fld := ⟨0x7004000, [16], 0x0, 0, 12, .ro, .l⟩
/-- TRN_GATE_W0.SLICE [12:12], RO, class L, 09 Table 9-15. -/
def R.TRN_GATE_W0_SLICE : Fld := ⟨0x7004000, [16], 0x0, 12, 1, .ro, .l⟩
/-- TRN_GATE_W0.ITEMS [19:13], RO, class L, 09 Table 9-15. -/
def R.TRN_GATE_W0_ITEMS : Fld := ⟨0x7004000, [16], 0x0, 13, 7, .ro, .l⟩
/-- TRN_GATE_W0.DONE [26:20], RO, class L, 09 Table 9-15. -/
def R.TRN_GATE_W0_DONE : Fld := ⟨0x7004000, [16], 0x0, 20, 7, .ro, .l⟩
/-- TRN_GATE_W0.LAST_SEEN [27:27], RO, class L, 09 Table 9-15. -/
def R.TRN_GATE_W0_LAST_SEEN : Fld := ⟨0x7004000, [16], 0x0, 27, 1, .ro, .l⟩
/-- TRN_GATE_W0.OVERFLOW [28:28], RO, class L, 09 Table 9-15. -/
def R.TRN_GATE_W0_OVERFLOW : Fld := ⟨0x7004000, [16], 0x0, 28, 1, .ro, .l⟩
/-- TRN_GATE_W0.RUNG [31:29], RO, class L, 09 Table 9-15. -/
def R.TRN_GATE_W0_RUNG : Fld := ⟨0x7004000, [16], 0x0, 29, 3, .ro, .l⟩
/-- TRN_GATE_W0.OPEN [63:63], RO, class L, 09 Table 9-15. -/
def R.TRN_GATE_W0_OPEN : Fld := ⟨0x7004000, [16], 0x0, 63, 1, .ro, .l⟩
/-- The register TRN_GATE_W0. -/
def R.TRN_GATE_W0 : Reg := ⟨"TRN_GATE_W0", 0x7004000, [(16, 16)], 0x0,
  [R.TRN_GATE_W0_LAYER, R.TRN_GATE_W0_SLICE, R.TRN_GATE_W0_ITEMS, R.TRN_GATE_W0_DONE, R.TRN_GATE_W0_LAST_SEEN, R.TRN_GATE_W0_OVERFLOW, R.TRN_GATE_W0_RUNG, R.TRN_GATE_W0_OPEN]⟩
/-- TRN_GATE_W1.STEP [31:0], RO, class L, 09 Table 9-15. -/
def R.TRN_GATE_W1_STEP : Fld := ⟨0x7004008, [16], 0x0, 0, 32, .ro, .l⟩
/-- TRN_GATE_W1.QUEUE [49:32], RO, class L, 09 Table 9-15. -/
def R.TRN_GATE_W1_QUEUE : Fld := ⟨0x7004008, [16], 0x0, 32, 18, .ro, .l⟩
/-- The register TRN_GATE_W1. -/
def R.TRN_GATE_W1 : Reg := ⟨"TRN_GATE_W1", 0x7004008, [(16, 16)], 0x0,
  [R.TRN_GATE_W1_STEP, R.TRN_GATE_W1_QUEUE]⟩
/-- TRN_LAYER.LADDER_MAX [2:0], RW, class G, 09 Table 9-16. -/
def R.TRN_LAYER_LADDER_MAX : Fld := ⟨0x7100000, [8], 0x5, 0, 3, .rw, .g⟩
/-- TRN_LAYER.STICKY [3:3], RW, class G, 09 Table 9-16. -/
def R.TRN_LAYER_STICKY : Fld := ⟨0x7100000, [8], 0x5, 3, 1, .rw, .g⟩
/-- TRN_LAYER.RUNG_T [6:4], RO, class G, 09 Table 9-16. -/
def R.TRN_LAYER_RUNG_T : Fld := ⟨0x7100000, [8], 0x5, 4, 3, .ro, .g⟩
/-- TRN_LAYER.RUNG_E [9:7], RO, class G, 09 Table 9-16. -/
def R.TRN_LAYER_RUNG_E : Fld := ⟨0x7100000, [8], 0x5, 7, 3, .ro, .g⟩
/-- TRN_LAYER.FROZEN_T [10:10], RO, class L, 09 Table 9-16. -/
def R.TRN_LAYER_FROZEN_T : Fld := ⟨0x7100000, [8], 0x5, 10, 1, .ro, .l⟩
/-- The register TRN_LAYER. -/
def R.TRN_LAYER : Reg := ⟨"TRN_LAYER", 0x7100000, [(4096, 8)], 0x5,
  [R.TRN_LAYER_LADDER_MAX, R.TRN_LAYER_STICKY, R.TRN_LAYER_RUNG_T, R.TRN_LAYER_RUNG_E, R.TRN_LAYER_FROZEN_T]⟩
/-- TRN_LMT_THR.HI [31:0], RW, class L, 09 Table 9-17. -/
def R.TRN_LMT_THR_HI : Fld := ⟨0x7200000, [8], 0x0, 0, 32, .rw, .l⟩
/-- TRN_LMT_THR.LO [63:32], RW, class L, 09 Table 9-17. -/
def R.TRN_LMT_THR_LO : Fld := ⟨0x7200000, [8], 0x0, 32, 32, .rw, .l⟩
/-- The register TRN_LMT_THR. -/
def R.TRN_LMT_THR : Reg := ⟨"TRN_LMT_THR", 0x7200000, [(4096, 8)], 0x0,
  [R.TRN_LMT_THR_HI, R.TRN_LMT_THR_LO]⟩
/-- TRN_LMT_LAST_D.SUM [63:0], RO, class L, 09 Table 9-18. -/
def R.TRN_LMT_LAST_D_SUM : Fld := ⟨0x7300000, [16], 0x0, 0, 64, .ro, .l⟩
/-- The register TRN_LMT_LAST_D. -/
def R.TRN_LMT_LAST_D : Reg := ⟨"TRN_LMT_LAST_D", 0x7300000, [(4096, 16)], 0x0,
  [R.TRN_LMT_LAST_D_SUM]⟩
/-- TRN_LMT_LAST_W.SUM [63:0], RO, class L, 09 Table 9-18. -/
def R.TRN_LMT_LAST_W_SUM : Fld := ⟨0x7300008, [16], 0x0, 0, 64, .ro, .l⟩
/-- The register TRN_LMT_LAST_W. -/
def R.TRN_LMT_LAST_W : Reg := ⟨"TRN_LMT_LAST_W", 0x7300008, [(4096, 16)], 0x0,
  [R.TRN_LMT_LAST_W_SUM]⟩
/-- STK_MAP.N [9:0], RO, class S, 10 Table 10-7. -/
def R.STK_MAP_N : Fld := ⟨0x12000000, [67108864], 0x0, 0, 10, .ro, .s⟩
/-- STK_MAP.N_DIE [17:10], RO, class S, 10 Table 10-7. -/
def R.STK_MAP_N_DIE : Fld := ⟨0x12000000, [67108864], 0x0, 10, 8, .ro, .s⟩
/-- STK_MAP.LOCAL_U [21:18], RO, class S, 10 Table 10-7. -/
def R.STK_MAP_LOCAL_U : Fld := ⟨0x12000000, [67108864], 0x0, 18, 4, .ro, .s⟩
/-- STK_MAP.LOCAL_BASE [47:32], RO, class S, 10 Table 10-7. -/
def R.STK_MAP_LOCAL_BASE : Fld := ⟨0x12000000, [67108864], 0x0, 32, 16, .ro, .s⟩
/-- The register STK_MAP. -/
def R.STK_MAP : Reg := ⟨"STK_MAP", 0x12000000, [(4, 67108864)], 0x0,
  [R.STK_MAP_N, R.STK_MAP_N_DIE, R.STK_MAP_LOCAL_U, R.STK_MAP_LOCAL_BASE]⟩
/-- STK_CHMAP.ACTIVE [31:0], RO, class S, 10 Table 10-8. -/
def R.STK_CHMAP_ACTIVE : Fld := ⟨0x12100000, [67108864, 65536], 0x0, 0, 32, .ro, .s⟩
/-- STK_CHMAP.LIVE [63:32], RO, class L, 10 Table 10-8. -/
def R.STK_CHMAP_LIVE : Fld := ⟨0x12100000, [67108864, 65536], 0x0, 32, 32, .ro, .l⟩
/-- The register STK_CHMAP. -/
def R.STK_CHMAP : Reg := ⟨"STK_CHMAP", 0x12100000, [(4, 67108864), (4, 65536)], 0x0,
  [R.STK_CHMAP_ACTIVE, R.STK_CHMAP_LIVE]⟩
/-- STK_STATUS.TEMP [15:0], RO, class L, 10 Table 10-9. -/
def R.STK_STATUS_TEMP : Fld := ⟨0x12100008, [67108864, 65536], 0x800000000000, 0, 16, .ro, .l⟩
/-- STK_STATUS.STATE [18:16], RO, class L, 10 Table 10-9. -/
def R.STK_STATUS_STATE : Fld := ⟨0x12100008, [67108864, 65536], 0x800000000000, 16, 3, .ro, .l⟩
/-- STK_STATUS.MAX_TEMP [47:32], RC, class L, 10 Table 10-9. -/
def R.STK_STATUS_MAX_TEMP : Fld := ⟨0x12100008, [67108864, 65536], 0x800000000000, 32, 16, .rc, .l⟩
/-- The register STK_STATUS. -/
def R.STK_STATUS : Reg := ⟨"STK_STATUS", 0x12100008, [(4, 67108864), (4, 65536)], 0x800000000000,
  [R.STK_STATUS_TEMP, R.STK_STATUS_STATE, R.STK_STATUS_MAX_TEMP]⟩
/-- STK_TRAFFIC.LINES [39:0], RO, class L, 10 Table 10-10. -/
def R.STK_TRAFFIC_LINES : Fld := ⟨0x12100010, [67108864, 65536], 0x0, 0, 40, .ro, .l⟩
/-- STK_TRAFFIC.CAP_HOLDS [63:40], RC, class L, 10 Table 10-10. -/
def R.STK_TRAFFIC_CAP_HOLDS : Fld := ⟨0x12100010, [67108864, 65536], 0x0, 40, 24, .rc, .l⟩
/-- The register STK_TRAFFIC. -/
def R.STK_TRAFFIC : Reg := ⟨"STK_TRAFFIC", 0x12100010, [(4, 67108864), (4, 65536)], 0x0,
  [R.STK_TRAFFIC_LINES, R.STK_TRAFFIC_CAP_HOLDS]⟩
/-- SCA_NARROW.OUTSTANDING [12:0], RO, class L, 10 Table 10-11. -/
def R.SCA_NARROW_OUTSTANDING : Fld := ⟨0x11000000, [67108864], 0x0, 0, 13, .ro, .l⟩
/-- SCA_NARROW.FULL_WAITS [63:32], RC, class L, 10 Table 10-11. -/
def R.SCA_NARROW_FULL_WAITS : Fld := ⟨0x11000000, [67108864], 0x0, 32, 32, .rc, .l⟩
/-- The register SCA_NARROW. -/
def R.SCA_NARROW : Reg := ⟨"SCA_NARROW", 0x11000000, [(4, 67108864)], 0x0,
  [R.SCA_NARROW_OUTSTANDING, R.SCA_NARROW_FULL_WAITS]⟩
/-- SCA_CFG.WAYS [3:0], RO, class S, 10 Table 10-12. -/
def R.SCA_CFG_WAYS : Fld := ⟨0x11100000, [67108864, 65536], 0x0, 0, 4, .ro, .s⟩
/-- The register SCA_CFG. -/
def R.SCA_CFG : Reg := ⟨"SCA_CFG", 0x11100000, [(4, 67108864), (16, 65536)], 0x0,
  [R.SCA_CFG_WAYS]⟩
/-- SCA_STAT.HITS [31:0], RC, class L, 10 Table 10-13. -/
def R.SCA_STAT_HITS : Fld := ⟨0x11100008, [67108864, 65536], 0x0, 0, 32, .rc, .l⟩
/-- SCA_STAT.MISSES [63:32], RC, class L, 10 Table 10-13. -/
def R.SCA_STAT_MISSES : Fld := ⟨0x11100008, [67108864, 65536], 0x0, 32, 32, .rc, .l⟩
/-- The register SCA_STAT. -/
def R.SCA_STAT : Reg := ⟨"SCA_STAT", 0x11100008, [(4, 67108864), (16, 65536)], 0x0,
  [R.SCA_STAT_HITS, R.SCA_STAT_MISSES]⟩
/-- SCA_REGION_W0.OFFSET [21:0], RO, class L, 10 Table 10-14. -/
def R.SCA_REGION_W0_OFFSET : Fld := ⟨0x11100100, [67108864, 65536, 16], 0x0, 0, 22, .ro, .l⟩
/-- SCA_REGION_W0.ELEMENTS [39:22], RO, class L, 10 Table 10-14. -/
def R.SCA_REGION_W0_ELEMENTS : Fld := ⟨0x11100100, [67108864, 65536, 16], 0x0, 22, 18, .ro, .l⟩
/-- SCA_REGION_W0.EXP [55:40], RO, class L, 10 Table 10-14. -/
def R.SCA_REGION_W0_EXP : Fld := ⟨0x11100100, [67108864, 65536, 16], 0x0, 40, 16, .ro, .l⟩
/-- SCA_REGION_W0.VALID [63:63], RO, class L, 10 Table 10-14. -/
def R.SCA_REGION_W0_VALID : Fld := ⟨0x11100100, [67108864, 65536, 16], 0x0, 63, 1, .ro, .l⟩
/-- The register SCA_REGION_W0. -/
def R.SCA_REGION_W0 : Reg := ⟨"SCA_REGION_W0", 0x11100100, [(4, 67108864), (16, 65536), (4, 16)], 0x0,
  [R.SCA_REGION_W0_OFFSET, R.SCA_REGION_W0_ELEMENTS, R.SCA_REGION_W0_EXP, R.SCA_REGION_W0_VALID]⟩
/-- SCA_REGION_W1.LAYER [15:0], RO, class L, 10 Table 10-14. -/
def R.SCA_REGION_W1_LAYER : Fld := ⟨0x11100108, [67108864, 65536, 16], 0xffff, 0, 16, .ro, .l⟩
/-- SCA_REGION_W1.RUNG_SHIFT [21:16], RO, class L, 10 Table 10-14. -/
def R.SCA_REGION_W1_RUNG_SHIFT : Fld := ⟨0x11100108, [67108864, 65536, 16], 0xffff, 16, 6, .ro, .l⟩
/-- SCA_REGION_W1.OVF_COUNT [63:32], RC, class L, 10 Table 10-14. -/
def R.SCA_REGION_W1_OVF_COUNT : Fld := ⟨0x11100108, [67108864, 65536, 16], 0xffff, 32, 32, .rc, .l⟩
/-- The register SCA_REGION_W1. -/
def R.SCA_REGION_W1 : Reg := ⟨"SCA_REGION_W1", 0x11100108, [(4, 67108864), (16, 65536), (4, 16)], 0xffff,
  [R.SCA_REGION_W1_LAYER, R.SCA_REGION_W1_RUNG_SHIFT, R.SCA_REGION_W1_OVF_COUNT]⟩
/-- RIM_MAP.ACTIVE [31:0], RO, class S, 10 Table 10-15. -/
def R.RIM_MAP_ACTIVE : Fld := ⟨0x22000000, [], 0x0, 0, 32, .ro, .s⟩
/-- RIM_MAP.N_R [37:32], RO, class S, 10 Table 10-15. -/
def R.RIM_MAP_N_R : Fld := ⟨0x22000000, [], 0x0, 32, 6, .ro, .s⟩
/-- RIM_MAP.SUB_SIZE [39:38], RO, class S, 10 Table 10-15. -/
def R.RIM_MAP_SUB_SIZE : Fld := ⟨0x22000000, [], 0x0, 38, 2, .ro, .s⟩
/-- The register RIM_MAP. -/
def R.RIM_MAP : Reg := ⟨"RIM_MAP", 0x22000000, [], 0x0,
  [R.RIM_MAP_ACTIVE, R.RIM_MAP_N_R, R.RIM_MAP_SUB_SIZE]⟩
/-- RIM_STATUS.TEMP [15:0], RO, class L, 10 Table 10-16. -/
def R.RIM_STATUS_TEMP : Fld := ⟨0x22100000, [65536], 0x0, 0, 16, .ro, .l⟩
/-- RIM_STATUS.LIVE [17:16], RO, class L, 10 Table 10-16. -/
def R.RIM_STATUS_LIVE : Fld := ⟨0x22100000, [65536], 0x0, 16, 2, .ro, .l⟩
/-- The register RIM_STATUS. -/
def R.RIM_STATUS : Reg := ⟨"RIM_STATUS", 0x22100000, [(16, 65536)], 0x0,
  [R.RIM_STATUS_TEMP, R.RIM_STATUS_LIVE]⟩
/-- ERL_CTL.INVALID_LOG [0:0], RW, class L, 11 Table 11-11. -/
def R.ERL_CTL_INVALID_LOG : Fld := ⟨0x6000000, [], 0x6, 0, 1, .rw, .l⟩
/-- ERL_CTL.CE_LOG [1:1], RW, class L, 11 Table 11-11. -/
def R.ERL_CTL_CE_LOG : Fld := ⟨0x6000000, [], 0x6, 1, 1, .rw, .l⟩
/-- ERL_CTL.IRQ_UE [2:2], RW, class L, 11 Table 11-11. -/
def R.ERL_CTL_IRQ_UE : Fld := ⟨0x6000000, [], 0x6, 2, 1, .rw, .l⟩
/-- ERL_CTL.IRQ_CE [3:3], RW, class L, 11 Table 11-11. -/
def R.ERL_CTL_IRQ_CE : Fld := ⟨0x6000000, [], 0x6, 3, 1, .rw, .l⟩
/-- ERL_CTL.MIRROR_EN [4:4], RW, class L, 11 Table 11-11. -/
def R.ERL_CTL_MIRROR_EN : Fld := ⟨0x6000000, [], 0x6, 4, 1, .rw, .l⟩
/-- The register ERL_CTL. -/
def R.ERL_CTL : Reg := ⟨"ERL_CTL", 0x6000000, [], 0x6,
  [R.ERL_CTL_INVALID_LOG, R.ERL_CTL_CE_LOG, R.ERL_CTL_IRQ_UE, R.ERL_CTL_IRQ_CE, R.ERL_CTL_MIRROR_EN]⟩
/-- ERL_STATUS.COUNT [12:0], RO, class L, 11 Table 11-11. -/
def R.ERL_STATUS_COUNT : Fld := ⟨0x6000008, [], 0x0, 0, 13, .ro, .l⟩
/-- ERL_STATUS.LAST_CODE [31:16], RO, class L, 11 Table 11-11. -/
def R.ERL_STATUS_LAST_CODE : Fld := ⟨0x6000008, [], 0x0, 16, 16, .ro, .l⟩
/-- ERL_STATUS.LOST [47:32], RC, class L, 11 Table 11-11. -/
def R.ERL_STATUS_LOST : Fld := ⟨0x6000008, [], 0x0, 32, 16, .rc, .l⟩
/-- The register ERL_STATUS. -/
def R.ERL_STATUS : Reg := ⟨"ERL_STATUS", 0x6000008, [], 0x0,
  [R.ERL_STATUS_COUNT, R.ERL_STATUS_LAST_CODE, R.ERL_STATUS_LOST]⟩
/-- ERL_HEAD.INDEX [11:0], RO, class L, 11 Table 11-11. -/
def R.ERL_HEAD_INDEX : Fld := ⟨0x6000010, [], 0x0, 0, 12, .ro, .l⟩
/-- ERL_HEAD.SEQ [63:32], RO, class L, 11 Table 11-11. -/
def R.ERL_HEAD_SEQ : Fld := ⟨0x6000010, [], 0x0, 32, 32, .ro, .l⟩
/-- The register ERL_HEAD. -/
def R.ERL_HEAD : Reg := ⟨"ERL_HEAD", 0x6000010, [], 0x0,
  [R.ERL_HEAD_INDEX, R.ERL_HEAD_SEQ]⟩
/-- ERL_TAIL.INDEX [11:0], RW, class L, 11 Table 11-11. -/
def R.ERL_TAIL_INDEX : Fld := ⟨0x6000018, [], 0x0, 0, 12, .rw, .l⟩
/-- The register ERL_TAIL. -/
def R.ERL_TAIL : Reg := ⟨"ERL_TAIL", 0x6000018, [], 0x0,
  [R.ERL_TAIL_INDEX]⟩
/-- ERL_MIRROR.BASE [47:0], RW, class Q, 11 Table 11-11. -/
def R.ERL_MIRROR_BASE : Fld := ⟨0x6000020, [], 0x0, 0, 48, .rw, .q⟩
/-- The register ERL_MIRROR. -/
def R.ERL_MIRROR : Reg := ⟨"ERL_MIRROR", 0x6000020, [], 0x0,
  [R.ERL_MIRROR_BASE]⟩
/-- ERL_SCRUB.PERIOD_H [7:0], RW, class L, 11 Table 11-11. -/
def R.ERL_SCRUB_PERIOD_H : Fld := ⟨0x6000028, [], 0x18, 0, 8, .rw, .l⟩
/-- ERL_SCRUB.PASSES [47:16], RO, class L, 11 Table 11-11. -/
def R.ERL_SCRUB_PASSES : Fld := ⟨0x6000028, [], 0x18, 16, 32, .ro, .l⟩
/-- The register ERL_SCRUB. -/
def R.ERL_SCRUB : Reg := ⟨"ERL_SCRUB", 0x6000028, [], 0x18,
  [R.ERL_SCRUB_PERIOD_H, R.ERL_SCRUB_PASSES]⟩
/-- ERL_SCRUB_CNT.CE [31:0], RC, class L, 11 Table 11-11. -/
def R.ERL_SCRUB_CNT_CE : Fld := ⟨0x6000030, [], 0x0, 0, 32, .rc, .l⟩
/-- ERL_SCRUB_CNT.UE [63:32], RC, class L, 11 Table 11-11. -/
def R.ERL_SCRUB_CNT_UE : Fld := ⟨0x6000030, [], 0x0, 32, 32, .rc, .l⟩
/-- The register ERL_SCRUB_CNT. -/
def R.ERL_SCRUB_CNT : Reg := ⟨"ERL_SCRUB_CNT", 0x6000030, [], 0x0,
  [R.ERL_SCRUB_CNT_CE, R.ERL_SCRUB_CNT_UE]⟩
/-- ERL_THRESH.LANE_CE [7:0], RW, class L, 11 Table 11-11. -/
def R.ERL_THRESH_LANE_CE : Fld := ⟨0x6000038, [], 0x4010, 0, 8, .rw, .l⟩
/-- ERL_THRESH.UE_FENCE [15:8], RW, class L, 11 Table 11-11. -/
def R.ERL_THRESH_UE_FENCE : Fld := ⟨0x6000038, [], 0x4010, 8, 8, .rw, .l⟩
/-- The register ERL_THRESH. -/
def R.ERL_THRESH : Reg := ⟨"ERL_THRESH", 0x6000038, [], 0x4010,
  [R.ERL_THRESH_LANE_CE, R.ERL_THRESH_UE_FENCE]⟩
/-- ERL_COUNTS.CE [31:0], RC, class L, 11 Table 11-11. -/
def R.ERL_COUNTS_CE : Fld := ⟨0x6000040, [], 0x0, 0, 32, .rc, .l⟩
/-- ERL_COUNTS.UE [63:32], RC, class L, 11 Table 11-11. -/
def R.ERL_COUNTS_UE : Fld := ⟨0x6000040, [], 0x0, 32, 32, .rc, .l⟩
/-- The register ERL_COUNTS. -/
def R.ERL_COUNTS : Reg := ⟨"ERL_COUNTS", 0x6000040, [], 0x0,
  [R.ERL_COUNTS_CE, R.ERL_COUNTS_UE]⟩
/-- ERL_RETIRE.TYPE [1:0], WO, class L, 11 Table 11-11. -/
def R.ERL_RETIRE_TYPE : Fld := ⟨0x6000048, [], 0x0, 0, 2, .wo, .l⟩
/-- ERL_RETIRE.TIER [2:2], WO, class L, 11 Table 11-11. -/
def R.ERL_RETIRE_TIER : Fld := ⟨0x6000048, [], 0x0, 2, 1, .wo, .l⟩
/-- ERL_RETIRE.PERSIST [3:3], WO, class L, 11 Table 11-11. -/
def R.ERL_RETIRE_PERSIST : Fld := ⟨0x6000048, [], 0x0, 3, 1, .wo, .l⟩
/-- ERL_RETIRE.TARGET [47:8], WO, class L, 11 Table 11-11. -/
def R.ERL_RETIRE_TARGET : Fld := ⟨0x6000048, [], 0x0, 8, 40, .wo, .l⟩
/-- The register ERL_RETIRE. -/
def R.ERL_RETIRE : Reg := ⟨"ERL_RETIRE", 0x6000048, [], 0x0,
  [R.ERL_RETIRE_TYPE, R.ERL_RETIRE_TIER, R.ERL_RETIRE_PERSIST, R.ERL_RETIRE_TARGET]⟩
/-- ERL_RETIRE_STATUS.BUSY [0:0], RO, class L, 11 Table 11-11. -/
def R.ERL_RETIRE_STATUS_BUSY : Fld := ⟨0x6000050, [], 0x0, 0, 1, .ro, .l⟩
/-- ERL_RETIRE_STATUS.DONE [1:1], W1C, class L, 11 Table 11-11. -/
def R.ERL_RETIRE_STATUS_DONE : Fld := ⟨0x6000050, [], 0x0, 1, 1, .w1c, .l⟩
/-- ERL_RETIRE_STATUS.STATUS [31:16], RO, class L, 11 Table 11-11. -/
def R.ERL_RETIRE_STATUS_STATUS : Fld := ⟨0x6000050, [], 0x0, 16, 16, .ro, .l⟩
/-- The register ERL_RETIRE_STATUS. -/
def R.ERL_RETIRE_STATUS : Reg := ⟨"ERL_RETIRE_STATUS", 0x6000050, [], 0x0,
  [R.ERL_RETIRE_STATUS_BUSY, R.ERL_RETIRE_STATUS_DONE, R.ERL_RETIRE_STATUS_STATUS]⟩
/-- ERL_INJECT.LINE [47:6], WO, class L, 11 Table 11-11. -/
def R.ERL_INJECT_LINE : Fld := ⟨0x6000058, [], 0x0, 6, 42, .wo, .l⟩
/-- ERL_INJECT.KIND [49:48], WO, class L, 11 Table 11-11. -/
def R.ERL_INJECT_KIND : Fld := ⟨0x6000058, [], 0x0, 48, 2, .wo, .l⟩
/-- The register ERL_INJECT. -/
def R.ERL_INJECT : Reg := ⟨"ERL_INJECT", 0x6000058, [], 0x0,
  [R.ERL_INJECT_LINE, R.ERL_INJECT_KIND]⟩
/-- ERL_RAS_COUNT.PAGES [10:0], RO, class L, 11 Table 11-11. -/
def R.ERL_RAS_COUNT_PAGES : Fld := ⟨0x6000060, [], 0x0, 0, 11, .ro, .l⟩
/-- ERL_RAS_COUNT.BANKS [17:11], RO, class L, 11 Table 11-11. -/
def R.ERL_RAS_COUNT_BANKS : Fld := ⟨0x6000060, [], 0x0, 11, 7, .ro, .l⟩
/-- ERL_RAS_COUNT.CHANNELS [24:18], RO, class L, 11 Table 11-11. -/
def R.ERL_RAS_COUNT_CHANNELS : Fld := ⟨0x6000060, [], 0x0, 18, 7, .ro, .l⟩
/-- ERL_RAS_COUNT.SUBCH [28:25], RO, class L, 11 Table 11-11. -/
def R.ERL_RAS_COUNT_SUBCH : Fld := ⟨0x6000060, [], 0x0, 25, 4, .ro, .l⟩
/-- The register ERL_RAS_COUNT. -/
def R.ERL_RAS_COUNT : Reg := ⟨"ERL_RAS_COUNT", 0x6000060, [], 0x0,
  [R.ERL_RAS_COUNT_PAGES, R.ERL_RAS_COUNT_BANKS, R.ERL_RAS_COUNT_CHANNELS, R.ERL_RAS_COUNT_SUBCH]⟩
/-- ERL_LANE.CHANNEL [9:0], RO, class L, 11 Table 11-11. -/
def R.ERL_LANE_CHANNEL : Fld := ⟨0x6010000, [8], 0x0, 0, 10, .ro, .l⟩
/-- ERL_LANE.TIER [10:10], RO, class L, 11 Table 11-11. -/
def R.ERL_LANE_TIER : Fld := ⟨0x6010000, [8], 0x0, 10, 1, .ro, .l⟩
/-- ERL_LANE.LANE [16:11], RO, class L, 11 Table 11-11. -/
def R.ERL_LANE_LANE : Fld := ⟨0x6010000, [8], 0x0, 11, 6, .ro, .l⟩
/-- ERL_LANE.VALID [63:63], RO, class L, 11 Table 11-11. -/
def R.ERL_LANE_VALID : Fld := ⟨0x6010000, [8], 0x0, 63, 1, .ro, .l⟩
/-- The register ERL_LANE. -/
def R.ERL_LANE : Reg := ⟨"ERL_LANE", 0x6010000, [(64, 8)], 0x0,
  [R.ERL_LANE_CHANNEL, R.ERL_LANE_TIER, R.ERL_LANE_LANE, R.ERL_LANE_VALID]⟩
/-- ERL_PAGE.PAGE [47:21], RO, class L, 11 Table 11-11. -/
def R.ERL_PAGE_PAGE : Fld := ⟨0x6020000, [8], 0x0, 21, 27, .ro, .l⟩
/-- ERL_PAGE.VALID [63:63], RO, class L, 11 Table 11-11. -/
def R.ERL_PAGE_VALID : Fld := ⟨0x6020000, [8], 0x0, 63, 1, .ro, .l⟩
/-- The register ERL_PAGE. -/
def R.ERL_PAGE : Reg := ⟨"ERL_PAGE", 0x6020000, [(1024, 8)], 0x0,
  [R.ERL_PAGE_PAGE, R.ERL_PAGE_VALID]⟩
/-- ERL_BANK.CHANNEL [9:0], RO, class L, 11 Table 11-11. -/
def R.ERL_BANK_CHANNEL : Fld := ⟨0x6030000, [8], 0x0, 0, 10, .ro, .l⟩
/-- ERL_BANK.SID [11:10], RO, class L, 11 Table 11-11. -/
def R.ERL_BANK_SID : Fld := ⟨0x6030000, [8], 0x0, 10, 2, .ro, .l⟩
/-- ERL_BANK.BANK [15:12], RO, class L, 11 Table 11-11. -/
def R.ERL_BANK_BANK : Fld := ⟨0x6030000, [8], 0x0, 12, 4, .ro, .l⟩
/-- ERL_BANK.TIER [16:16], RO, class L, 11 Table 11-11. -/
def R.ERL_BANK_TIER : Fld := ⟨0x6030000, [8], 0x0, 16, 1, .ro, .l⟩
/-- ERL_BANK.VALID [63:63], RO, class L, 11 Table 11-11. -/
def R.ERL_BANK_VALID : Fld := ⟨0x6030000, [8], 0x0, 63, 1, .ro, .l⟩
/-- The register ERL_BANK. -/
def R.ERL_BANK : Reg := ⟨"ERL_BANK", 0x6030000, [(64, 8)], 0x0,
  [R.ERL_BANK_CHANNEL, R.ERL_BANK_SID, R.ERL_BANK_BANK, R.ERL_BANK_TIER, R.ERL_BANK_VALID]⟩
/-- ERL_ENTRY.WORD [63:0], RO, class L, 11 Table 11-11. -/
def R.ERL_ENTRY_WORD : Fld := ⟨0x6100000, [64, 8], 0x0, 0, 64, .ro, .l⟩
/-- The register ERL_ENTRY. -/
def R.ERL_ENTRY : Reg := ⟨"ERL_ENTRY", 0x6100000, [(4096, 64), (8, 8)], 0x0,
  [R.ERL_ENTRY_WORD]⟩
/-- NLK_CTL.ENABLE [0:0], RW, class L, 12 Table 12-8. -/
def R.NLK_CTL_ENABLE : Fld := ⟨0x20000000, [1048576], 0x1, 0, 1, .rw, .l⟩
/-- NLK_CTL.RETRAIN [1:1], WO, class L, 12 Table 12-8. -/
def R.NLK_CTL_RETRAIN : Fld := ⟨0x20000000, [1048576], 0x1, 1, 1, .wo, .l⟩
/-- NLK_CTL.TEST [3:2], RW, class Q, 12 Table 12-8. -/
def R.NLK_CTL_TEST : Fld := ⟨0x20000000, [1048576], 0x1, 2, 2, .rw, .q⟩
/-- The register NLK_CTL. -/
def R.NLK_CTL : Reg := ⟨"NLK_CTL", 0x20000000, [(12, 1048576)], 0x1,
  [R.NLK_CTL_ENABLE, R.NLK_CTL_RETRAIN, R.NLK_CTL_TEST]⟩
/-- NLK_STATUS.STATE [2:0], RO, class L, 12 Table 12-9. -/
def R.NLK_STATUS_STATE : Fld := ⟨0x20000008, [1048576], 0x0, 0, 3, .ro, .l⟩
/-- NLK_STATUS.WIDTH_ACT [4:3], RO, class L, 12 Table 12-9. -/
def R.NLK_STATUS_WIDTH_ACT : Fld := ⟨0x20000008, [1048576], 0x0, 3, 2, .ro, .l⟩
/-- NLK_STATUS.LANE_REV [5:5], RO, class L, 12 Table 12-9. -/
def R.NLK_STATUS_LANE_REV : Fld := ⟨0x20000008, [1048576], 0x0, 5, 1, .ro, .l⟩
/-- NLK_STATUS.POL_INV [13:6], RO, class L, 12 Table 12-9. -/
def R.NLK_STATUS_POL_INV : Fld := ⟨0x20000008, [1048576], 0x0, 6, 8, .ro, .l⟩
/-- NLK_STATUS.PEER_NODE [25:14], RO, class L, 12 Table 12-9. -/
def R.NLK_STATUS_PEER_NODE : Fld := ⟨0x20000008, [1048576], 0x0, 14, 12, .ro, .l⟩
/-- NLK_STATUS.PEER_PORT [29:26], RO, class L, 12 Table 12-9. -/
def R.NLK_STATUS_PEER_PORT : Fld := ⟨0x20000008, [1048576], 0x0, 26, 4, .ro, .l⟩
/-- NLK_STATUS.PEER_LOST [30:30], W1C, class L, 12 Table 12-9. -/
def R.NLK_STATUS_PEER_LOST : Fld := ⟨0x20000008, [1048576], 0x0, 30, 1, .w1c, .l⟩
/-- NLK_STATUS.CFG_BUSY [31:31], W1C, class L, 12 Table 12-9. -/
def R.NLK_STATUS_CFG_BUSY : Fld := ⟨0x20000008, [1048576], 0x0, 31, 1, .w1c, .l⟩
/-- NLK_STATUS.PEER_FLAGS [39:32], RO, class L, 12 Table 12-9. -/
def R.NLK_STATUS_PEER_FLAGS : Fld := ⟨0x20000008, [1048576], 0x0, 32, 8, .ro, .l⟩
/-- The register NLK_STATUS. -/
def R.NLK_STATUS : Reg := ⟨"NLK_STATUS", 0x20000008, [(12, 1048576)], 0x0,
  [R.NLK_STATUS_STATE, R.NLK_STATUS_WIDTH_ACT, R.NLK_STATUS_LANE_REV, R.NLK_STATUS_POL_INV, R.NLK_STATUS_PEER_NODE, R.NLK_STATUS_PEER_PORT, R.NLK_STATUS_PEER_LOST, R.NLK_STATUS_CFG_BUSY, R.NLK_STATUS_PEER_FLAGS]⟩
/-- NLK_CFG.EXPECT_NODE [11:0], RO, class S, 12 Table 12-10. -/
def R.NLK_CFG_EXPECT_NODE : Fld := ⟨0x20000010, [1048576], 0x84ffff, 0, 12, .ro, .s⟩
/-- NLK_CFG.EXPECT_PORT [15:12], RO, class S, 12 Table 12-10. -/
def R.NLK_CFG_EXPECT_PORT : Fld := ⟨0x20000010, [1048576], 0x84ffff, 12, 4, .ro, .s⟩
/-- NLK_CFG.WIDTH [17:16], RO, class S, 12 Table 12-10. -/
def R.NLK_CFG_WIDTH : Fld := ⟨0x20000010, [1048576], 0x84ffff, 16, 2, .ro, .s⟩
/-- NLK_CFG.DEGRADE [18:18], RO, class S, 12 Table 12-10. -/
def R.NLK_CFG_DEGRADE : Fld := ⟨0x20000010, [1048576], 0x84ffff, 18, 1, .ro, .s⟩
/-- NLK_CFG.TIME_ROLE [20:19], RO, class S, 12 Table 12-10. -/
def R.NLK_CFG_TIME_ROLE : Fld := ⟨0x20000010, [1048576], 0x84ffff, 19, 2, .ro, .s⟩
/-- NLK_CFG.VC3_WEIGHT [24:21], RO, class S, 12 Table 12-10. -/
def R.NLK_CFG_VC3_WEIGHT : Fld := ⟨0x20000010, [1048576], 0x84ffff, 21, 4, .ro, .s⟩
/-- The register NLK_CFG. -/
def R.NLK_CFG : Reg := ⟨"NLK_CFG", 0x20000010, [(12, 1048576)], 0x84ffff,
  [R.NLK_CFG_EXPECT_NODE, R.NLK_CFG_EXPECT_PORT, R.NLK_CFG_WIDTH, R.NLK_CFG_DEGRADE, R.NLK_CFG_TIME_ROLE, R.NLK_CFG_VC3_WEIGHT]⟩
/-- NLK_POOL_LO.VC0 [7:0], RO, class S, 12 Table 12-10. -/
def R.NLK_POOL_LO_VC0 : Fld := ⟨0x20000018, [1048576], 0x202020208040101, 0, 8, .ro, .s⟩
/-- NLK_POOL_LO.VC1 [15:8], RO, class S, 12 Table 12-10. -/
def R.NLK_POOL_LO_VC1 : Fld := ⟨0x20000018, [1048576], 0x202020208040101, 8, 8, .ro, .s⟩
/-- NLK_POOL_LO.VC2 [23:16], RO, class S, 12 Table 12-10. -/
def R.NLK_POOL_LO_VC2 : Fld := ⟨0x20000018, [1048576], 0x202020208040101, 16, 8, .ro, .s⟩
/-- NLK_POOL_LO.VC3 [31:24], RO, class S, 12 Table 12-10. -/
def R.NLK_POOL_LO_VC3 : Fld := ⟨0x20000018, [1048576], 0x202020208040101, 24, 8, .ro, .s⟩
/-- NLK_POOL_LO.VC4 [39:32], RO, class S, 12 Table 12-10. -/
def R.NLK_POOL_LO_VC4 : Fld := ⟨0x20000018, [1048576], 0x202020208040101, 32, 8, .ro, .s⟩
/-- NLK_POOL_LO.VC5 [47:40], RO, class S, 12 Table 12-10. -/
def R.NLK_POOL_LO_VC5 : Fld := ⟨0x20000018, [1048576], 0x202020208040101, 40, 8, .ro, .s⟩
/-- NLK_POOL_LO.VC6 [55:48], RO, class S, 12 Table 12-10. -/
def R.NLK_POOL_LO_VC6 : Fld := ⟨0x20000018, [1048576], 0x202020208040101, 48, 8, .ro, .s⟩
/-- NLK_POOL_LO.VC7 [63:56], RO, class S, 12 Table 12-10. -/
def R.NLK_POOL_LO_VC7 : Fld := ⟨0x20000018, [1048576], 0x202020208040101, 56, 8, .ro, .s⟩
/-- The register NLK_POOL_LO. -/
def R.NLK_POOL_LO : Reg := ⟨"NLK_POOL_LO", 0x20000018, [(12, 1048576)], 0x202020208040101,
  [R.NLK_POOL_LO_VC0, R.NLK_POOL_LO_VC1, R.NLK_POOL_LO_VC2, R.NLK_POOL_LO_VC3, R.NLK_POOL_LO_VC4, R.NLK_POOL_LO_VC5, R.NLK_POOL_LO_VC6, R.NLK_POOL_LO_VC7]⟩
/-- NLK_POOL_HI.VC8 [7:0], RO, class S, 12 Table 12-10. -/
def R.NLK_POOL_HI_VC8 : Fld := ⟨0x20000020, [1048576], 0x202020202020202, 0, 8, .ro, .s⟩
/-- NLK_POOL_HI.VC9 [15:8], RO, class S, 12 Table 12-10. -/
def R.NLK_POOL_HI_VC9 : Fld := ⟨0x20000020, [1048576], 0x202020202020202, 8, 8, .ro, .s⟩
/-- NLK_POOL_HI.VC10 [23:16], RO, class S, 12 Table 12-10. -/
def R.NLK_POOL_HI_VC10 : Fld := ⟨0x20000020, [1048576], 0x202020202020202, 16, 8, .ro, .s⟩
/-- NLK_POOL_HI.VC11 [31:24], RO, class S, 12 Table 12-10. -/
def R.NLK_POOL_HI_VC11 : Fld := ⟨0x20000020, [1048576], 0x202020202020202, 24, 8, .ro, .s⟩
/-- NLK_POOL_HI.VC12 [39:32], RO, class S, 12 Table 12-10. -/
def R.NLK_POOL_HI_VC12 : Fld := ⟨0x20000020, [1048576], 0x202020202020202, 32, 8, .ro, .s⟩
/-- NLK_POOL_HI.VC13 [47:40], RO, class S, 12 Table 12-10. -/
def R.NLK_POOL_HI_VC13 : Fld := ⟨0x20000020, [1048576], 0x202020202020202, 40, 8, .ro, .s⟩
/-- NLK_POOL_HI.VC14 [55:48], RO, class S, 12 Table 12-10. -/
def R.NLK_POOL_HI_VC14 : Fld := ⟨0x20000020, [1048576], 0x202020202020202, 48, 8, .ro, .s⟩
/-- NLK_POOL_HI.VC15 [63:56], RO, class S, 12 Table 12-10. -/
def R.NLK_POOL_HI_VC15 : Fld := ⟨0x20000020, [1048576], 0x202020202020202, 56, 8, .ro, .s⟩
/-- The register NLK_POOL_HI. -/
def R.NLK_POOL_HI : Reg := ⟨"NLK_POOL_HI", 0x20000020, [(12, 1048576)], 0x202020202020202,
  [R.NLK_POOL_HI_VC8, R.NLK_POOL_HI_VC9, R.NLK_POOL_HI_VC10, R.NLK_POOL_HI_VC11, R.NLK_POOL_HI_VC12, R.NLK_POOL_HI_VC13, R.NLK_POOL_HI_VC14, R.NLK_POOL_HI_VC15]⟩
/-- NLK_FEC.CW_CORR [31:0], RC, class L, 12 Table 12-11. -/
def R.NLK_FEC_CW_CORR : Fld := ⟨0x20000028, [1048576], 0x0, 0, 32, .rc, .l⟩
/-- NLK_FEC.CW_UNCORR [63:32], RC, class L, 12 Table 12-11. -/
def R.NLK_FEC_CW_UNCORR : Fld := ⟨0x20000028, [1048576], 0x0, 32, 32, .rc, .l⟩
/-- The register NLK_FEC. -/
def R.NLK_FEC : Reg := ⟨"NLK_FEC", 0x20000028, [(12, 1048576)], 0x0,
  [R.NLK_FEC_CW_CORR, R.NLK_FEC_CW_UNCORR]⟩
/-- NLK_RETRY.CRC_FAIL [31:0], RC, class L, 12 Table 12-11. -/
def R.NLK_RETRY_CRC_FAIL : Fld := ⟨0x20000030, [1048576], 0x0, 0, 32, .rc, .l⟩
/-- NLK_RETRY.REPLAYS [47:32], RC, class L, 12 Table 12-11. -/
def R.NLK_RETRY_REPLAYS : Fld := ⟨0x20000030, [1048576], 0x0, 32, 16, .rc, .l⟩
/-- NLK_RETRY.RETRAINS [63:48], RC, class L, 12 Table 12-11. -/
def R.NLK_RETRY_RETRAINS : Fld := ⟨0x20000030, [1048576], 0x0, 48, 16, .rc, .l⟩
/-- The register NLK_RETRY. -/
def R.NLK_RETRY : Reg := ⟨"NLK_RETRY", 0x20000030, [(12, 1048576)], 0x0,
  [R.NLK_RETRY_CRC_FAIL, R.NLK_RETRY_REPLAYS, R.NLK_RETRY_RETRAINS]⟩
/-- NLK_HB.HB_RX [31:0], RO, class L, 12 Table 12-11. -/
def R.NLK_HB_HB_RX : Fld := ⟨0x20000038, [1048576], 0x0, 0, 32, .ro, .l⟩
/-- NLK_HB.MAX_GAP [47:32], RC, class L, 12 Table 12-11. -/
def R.NLK_HB_MAX_GAP : Fld := ⟨0x20000038, [1048576], 0x0, 32, 16, .rc, .l⟩
/-- The register NLK_HB. -/
def R.NLK_HB : Reg := ⟨"NLK_HB", 0x20000038, [(12, 1048576)], 0x0,
  [R.NLK_HB_HB_RX, R.NLK_HB_MAX_GAP]⟩
/-- NLK_TIME.DELAY [31:0], RO, class L, 12 Table 12-11. -/
def R.NLK_TIME_DELAY : Fld := ⟨0x20000040, [1048576], 0x0, 0, 32, .ro, .l⟩
/-- NLK_TIME.OFFSET [63:32], RO, class L, 12 Table 12-11. -/
def R.NLK_TIME_OFFSET : Fld := ⟨0x20000040, [1048576], 0x0, 32, 32, .ro, .l⟩
/-- The register NLK_TIME. -/
def R.NLK_TIME : Reg := ⟨"NLK_TIME", 0x20000040, [(12, 1048576)], 0x0,
  [R.NLK_TIME_DELAY, R.NLK_TIME_OFFSET]⟩
/-- NLK_TIME_ADJ.ASYM [31:0], RW, class L, 12 Table 12-11. -/
def R.NLK_TIME_ADJ_ASYM : Fld := ⟨0x20000048, [1048576], 0x0, 0, 32, .rw, .l⟩
/-- The register NLK_TIME_ADJ. -/
def R.NLK_TIME_ADJ : Reg := ⟨"NLK_TIME_ADJ", 0x20000048, [(12, 1048576)], 0x0,
  [R.NLK_TIME_ADJ_ASYM]⟩
/-- NLK_FLITS.TX [31:0], RO, class L, 12 Table 12-11. -/
def R.NLK_FLITS_TX : Fld := ⟨0x20000050, [1048576], 0x0, 0, 32, .ro, .l⟩
/-- NLK_FLITS.RX [63:32], RO, class L, 12 Table 12-11. -/
def R.NLK_FLITS_RX : Fld := ⟨0x20000050, [1048576], 0x0, 32, 32, .ro, .l⟩
/-- The register NLK_FLITS. -/
def R.NLK_FLITS : Reg := ⟨"NLK_FLITS", 0x20000050, [(12, 1048576)], 0x0,
  [R.NLK_FLITS_TX, R.NLK_FLITS_RX]⟩
/-- NLK_RECOVERED.CREDITS [31:0], RO, class L, 12 Table 12-11. -/
def R.NLK_RECOVERED_CREDITS : Fld := ⟨0x20000058, [1048576], 0x0, 0, 32, .ro, .l⟩
/-- NLK_RECOVERED.DISCARDED [63:32], RO, class L, 12 Table 12-11. -/
def R.NLK_RECOVERED_DISCARDED : Fld := ⟨0x20000058, [1048576], 0x0, 32, 32, .ro, .l⟩
/-- The register NLK_RECOVERED. -/
def R.NLK_RECOVERED : Reg := ⟨"NLK_RECOVERED", 0x20000058, [(12, 1048576)], 0x0,
  [R.NLK_RECOVERED_CREDITS, R.NLK_RECOVERED_DISCARDED]⟩
/-- NLK_LEDGER.ISSUED [31:0], RO, class L, 12 Table 12-11. -/
def R.NLK_LEDGER_ISSUED : Fld := ⟨0x20000100, [1048576, 8], 0x0, 0, 32, .ro, .l⟩
/-- NLK_LEDGER.RETURNED [63:32], RO, class L, 12 Table 12-11. -/
def R.NLK_LEDGER_RETURNED : Fld := ⟨0x20000100, [1048576, 8], 0x0, 32, 32, .ro, .l⟩
/-- The register NLK_LEDGER. -/
def R.NLK_LEDGER : Reg := ⟨"NLK_LEDGER", 0x20000100, [(12, 1048576), (17, 8)], 0x0,
  [R.NLK_LEDGER_ISSUED, R.NLK_LEDGER_RETURNED]⟩
/-- NLK_NODE.NODE_ID [11:0], RO, class S, 12 Table 12-12. -/
def R.NLK_NODE_NODE_ID : Fld := ⟨0x20c00000, [], 0x3e87000, 0, 12, .ro, .s⟩
/-- NLK_NODE.TTL_INIT [14:12], RO, class S, 12 Table 12-12. -/
def R.NLK_NODE_TTL_INIT : Fld := ⟨0x20c00000, [], 0x3e87000, 12, 3, .ro, .s⟩
/-- NLK_NODE.REQ_TIMEOUT [31:16], RO, class S, 12 Table 12-12. -/
def R.NLK_NODE_REQ_TIMEOUT : Fld := ⟨0x20c00000, [], 0x3e87000, 16, 16, .ro, .s⟩
/-- The register NLK_NODE. -/
def R.NLK_NODE : Reg := ⟨"NLK_NODE", 0x20c00000, [], 0x3e87000,
  [R.NLK_NODE_NODE_ID, R.NLK_NODE_TTL_INIT, R.NLK_NODE_REQ_TIMEOUT]⟩
/-- NLK_ROUTE_DROP.NO_ROUTE [31:0], RC, class L, 12 Table 12-12. -/
def R.NLK_ROUTE_DROP_NO_ROUTE : Fld := ⟨0x20c00008, [], 0x0, 0, 32, .rc, .l⟩
/-- NLK_ROUTE_DROP.TTL [63:32], RC, class L, 12 Table 12-12. -/
def R.NLK_ROUTE_DROP_TTL : Fld := ⟨0x20c00008, [], 0x0, 32, 32, .rc, .l⟩
/-- The register NLK_ROUTE_DROP. -/
def R.NLK_ROUTE_DROP : Reg := ⟨"NLK_ROUTE_DROP", 0x20c00008, [], 0x0,
  [R.NLK_ROUTE_DROP_NO_ROUTE, R.NLK_ROUTE_DROP_TTL]⟩
/-- NLK_MEMBER.NODE [11:0], RO, class S, 12 Table 12-12. -/
def R.NLK_MEMBER_NODE : Fld := ⟨0x20c00100, [8], 0x0, 0, 12, .ro, .s⟩
/-- NLK_MEMBER.VALID [63:63], RO, class S, 12 Table 12-12. -/
def R.NLK_MEMBER_VALID : Fld := ⟨0x20c00100, [8], 0x0, 63, 1, .ro, .s⟩
/-- The register NLK_MEMBER. -/
def R.NLK_MEMBER : Reg := ⟨"NLK_MEMBER", 0x20c00100, [(64, 8)], 0x0,
  [R.NLK_MEMBER_NODE, R.NLK_MEMBER_VALID]⟩
/-- NLK_ROUTE.PORT [3:0], RO, class S, 12 Table 12-12. -/
def R.NLK_ROUTE_PORT : Fld := ⟨0x20c10000, [8], 0x0, 0, 4, .ro, .s⟩
/-- NLK_ROUTE.ALT_PORT [7:4], RO, class S, 12 Table 12-12. -/
def R.NLK_ROUTE_ALT_PORT : Fld := ⟨0x20c10000, [8], 0x0, 4, 4, .ro, .s⟩
/-- NLK_ROUTE.VALID [8:8], RO, class S, 12 Table 12-12. -/
def R.NLK_ROUTE_VALID : Fld := ⟨0x20c10000, [8], 0x0, 8, 1, .ro, .s⟩
/-- NLK_ROUTE.ALT_EN [9:9], RO, class S, 12 Table 12-12. -/
def R.NLK_ROUTE_ALT_EN : Fld := ⟨0x20c10000, [8], 0x0, 9, 1, .ro, .s⟩
/-- The register NLK_ROUTE. -/
def R.NLK_ROUTE : Reg := ⟨"NLK_ROUTE", 0x20c10000, [(4096, 8)], 0x0,
  [R.NLK_ROUTE_PORT, R.NLK_ROUTE_ALT_PORT, R.NLK_ROUTE_VALID, R.NLK_ROUTE_ALT_EN]⟩
/-- COL_CTL.CANCEL_GROUP [5:0], WO, class L, 13 Table 13-10. -/
def R.COL_CTL_CANCEL_GROUP : Fld := ⟨0x21000000, [], 0x0, 0, 6, .wo, .l⟩
/-- COL_CTL.CANCEL [6:6], WO, class L, 13 Table 13-10. -/
def R.COL_CTL_CANCEL : Fld := ⟨0x21000000, [], 0x0, 6, 1, .wo, .l⟩
/-- COL_CTL.ABORT_IRQ [7:7], RW, class L, 13 Table 13-10. -/
def R.COL_CTL_ABORT_IRQ : Fld := ⟨0x21000000, [], 0x0, 7, 1, .rw, .l⟩
/-- The register COL_CTL. -/
def R.COL_CTL : Reg := ⟨"COL_CTL", 0x21000000, [], 0x0,
  [R.COL_CTL_CANCEL_GROUP, R.COL_CTL_CANCEL, R.COL_CTL_ABORT_IRQ]⟩
/-- COL_CFG.WIRE [1:0], RW, class G, 13 Table 13-11. -/
def R.COL_CFG_WIRE : Fld := ⟨0x21000008, [], 0x400, 0, 2, .rw, .g⟩
/-- COL_CFG.RND [4:2], RW, class G, 13 Table 13-11. -/
def R.COL_CFG_RND : Fld := ⟨0x21000008, [], 0x400, 2, 3, .rw, .g⟩
/-- COL_CFG.OVF [5:5], RW, class G, 13 Table 13-11. -/
def R.COL_CFG_OVF : Fld := ⟨0x21000008, [], 0x400, 5, 1, .rw, .g⟩
/-- COL_CFG.SR_BITS [10:6], RW, class G, 13 Table 13-11. -/
def R.COL_CFG_SR_BITS : Fld := ⟨0x21000008, [], 0x400, 6, 5, .rw, .g⟩
/-- The register COL_CFG. -/
def R.COL_CFG : Reg := ⟨"COL_CFG", 0x21000008, [], 0x400,
  [R.COL_CFG_WIRE, R.COL_CFG_RND, R.COL_CFG_OVF, R.COL_CFG_SR_BITS]⟩
/-- COL_SR_SEED.SEED [63:0], RW, class G, 13 Table 13-12. -/
def R.COL_SR_SEED_SEED : Fld := ⟨0x21000010, [], 0x0, 0, 64, .rw, .g⟩
/-- The register COL_SR_SEED. -/
def R.COL_SR_SEED : Reg := ⟨"COL_SR_SEED", 0x21000010, [], 0x0,
  [R.COL_SR_SEED_SEED]⟩
/-- COL_STATUS.ACTIVE [3:0], RO, class L, 13 Table 13-13. -/
def R.COL_STATUS_ACTIVE : Fld := ⟨0x21000018, [], 0x0, 0, 4, .ro, .l⟩
/-- COL_STATUS.VC_HELD [15:4], RO, class L, 13 Table 13-13. -/
def R.COL_STATUS_VC_HELD : Fld := ⟨0x21000018, [], 0x0, 4, 12, .ro, .l⟩
/-- COL_STATUS.INFLIGHT [26:16], RO, class L, 13 Table 13-13. -/
def R.COL_STATUS_INFLIGHT : Fld := ⟨0x21000018, [], 0x0, 16, 11, .ro, .l⟩
/-- COL_STATUS.LAST_STATUS [47:32], RO, class L, 13 Table 13-13. -/
def R.COL_STATUS_LAST_STATUS : Fld := ⟨0x21000018, [], 0x0, 32, 16, .ro, .l⟩
/-- The register COL_STATUS. -/
def R.COL_STATUS : Reg := ⟨"COL_STATUS", 0x21000018, [], 0x0,
  [R.COL_STATUS_ACTIVE, R.COL_STATUS_VC_HELD, R.COL_STATUS_INFLIGHT, R.COL_STATUS_LAST_STATUS]⟩
/-- COL_COUNTS.STEPS [31:0], RO, class L, 13 Table 13-14. -/
def R.COL_COUNTS_STEPS : Fld := ⟨0x21000020, [], 0x0, 0, 32, .ro, .l⟩
/-- COL_COUNTS.ABORTS [47:32], RC, class L, 13 Table 13-14. -/
def R.COL_COUNTS_ABORTS : Fld := ⟨0x21000020, [], 0x0, 32, 16, .rc, .l⟩
/-- COL_COUNTS.LATE [63:48], RC, class L, 13 Table 13-14. -/
def R.COL_COUNTS_LATE : Fld := ⟨0x21000020, [], 0x0, 48, 16, .rc, .l⟩
/-- The register COL_COUNTS. -/
def R.COL_COUNTS : Reg := ⟨"COL_COUNTS", 0x21000020, [], 0x0,
  [R.COL_COUNTS_STEPS, R.COL_COUNTS_ABORTS, R.COL_COUNTS_LATE]⟩
/-- COL_ABORT_LAST0.RECORD [62:0], RO, class L, 13 Table 13-15. -/
def R.COL_ABORT_LAST0_RECORD : Fld := ⟨0x21000028, [], 0x0, 0, 63, .ro, .l⟩
/-- COL_ABORT_LAST0.VALID [63:63], W1C, class L, 13 Table 13-15. -/
def R.COL_ABORT_LAST0_VALID : Fld := ⟨0x21000028, [], 0x0, 63, 1, .w1c, .l⟩
/-- The register COL_ABORT_LAST0. -/
def R.COL_ABORT_LAST0 : Reg := ⟨"COL_ABORT_LAST0", 0x21000028, [], 0x0,
  [R.COL_ABORT_LAST0_RECORD, R.COL_ABORT_LAST0_VALID]⟩
/-- COL_ABORT_LAST1.GROUP [5:0], RO, class L, 13 Table 13-15. -/
def R.COL_ABORT_LAST1_GROUP : Fld := ⟨0x21000030, [], 0x0, 0, 6, .ro, .l⟩
/-- COL_ABORT_LAST1.BUCKET [21:6], RO, class L, 13 Table 13-15. -/
def R.COL_ABORT_LAST1_BUCKET : Fld := ⟨0x21000030, [], 0x0, 6, 16, .ro, .l⟩
/-- COL_ABORT_LAST1.GEN [37:22], RO, class L, 13 Table 13-15. -/
def R.COL_ABORT_LAST1_GEN : Fld := ⟨0x21000030, [], 0x0, 22, 16, .ro, .l⟩
/-- The register COL_ABORT_LAST1. -/
def R.COL_ABORT_LAST1 : Reg := ⟨"COL_ABORT_LAST1", 0x21000030, [], 0x0,
  [R.COL_ABORT_LAST1_GROUP, R.COL_ABORT_LAST1_BUCKET, R.COL_ABORT_LAST1_GEN]⟩
/-- COL_GROUP_W0.DEFINED [0:0], RO, class L, 13 Table 13-16. -/
def R.COL_GROUP_W0_DEFINED : Fld := ⟨0x21001000, [32], 0x0, 0, 1, .ro, .l⟩
/-- COL_GROUP_W0.ACTIVE [1:1], RO, class L, 13 Table 13-16. -/
def R.COL_GROUP_W0_ACTIVE : Fld := ⟨0x21001000, [32], 0x0, 1, 1, .ro, .l⟩
/-- COL_GROUP_W0.VC [5:2], RO, class L, 13 Table 13-16. -/
def R.COL_GROUP_W0_VC : Fld := ⟨0x21001000, [32], 0x0, 2, 4, .ro, .l⟩
/-- COL_GROUP_W0.WEIGHT [9:6], RO, class L, 13 Table 13-16. -/
def R.COL_GROUP_W0_WEIGHT : Fld := ⟨0x21001000, [32], 0x0, 6, 4, .ro, .l⟩
/-- COL_GROUP_W0.N [22:10], RO, class L, 13 Table 13-16. -/
def R.COL_GROUP_W0_N : Fld := ⟨0x21001000, [32], 0x0, 10, 13, .ro, .l⟩
/-- COL_GROUP_W0.RANK [34:23], RO, class L, 13 Table 13-16. -/
def R.COL_GROUP_W0_RANK : Fld := ⟨0x21001000, [32], 0x0, 23, 12, .ro, .l⟩
/-- COL_GROUP_W0.GRACE_EN [35:35], RO, class L, 13 Table 13-16. -/
def R.COL_GROUP_W0_GRACE_EN : Fld := ⟨0x21001000, [32], 0x0, 35, 1, .ro, .l⟩
/-- COL_GROUP_W0.SLOWCNT_EN [36:36], RO, class L, 13 Table 13-16. -/
def R.COL_GROUP_W0_SLOWCNT_EN : Fld := ⟨0x21001000, [32], 0x0, 36, 1, .ro, .l⟩
/-- The register COL_GROUP_W0. -/
def R.COL_GROUP_W0 : Reg := ⟨"COL_GROUP_W0", 0x21001000, [(64, 32)], 0x0,
  [R.COL_GROUP_W0_DEFINED, R.COL_GROUP_W0_ACTIVE, R.COL_GROUP_W0_VC, R.COL_GROUP_W0_WEIGHT, R.COL_GROUP_W0_N, R.COL_GROUP_W0_RANK, R.COL_GROUP_W0_GRACE_EN, R.COL_GROUP_W0_SLOWCNT_EN]⟩
/-- COL_GROUP_W1.TIMEOUT_US [31:0], RO, class L, 13 Table 13-16. -/
def R.COL_GROUP_W1_TIMEOUT_US : Fld := ⟨0x21001008, [32], 0x0, 0, 32, .ro, .l⟩
/-- COL_GROUP_W1.HASH [63:32], RO, class L, 13 Table 13-16. -/
def R.COL_GROUP_W1_HASH : Fld := ⟨0x21001008, [32], 0x0, 32, 32, .ro, .l⟩
/-- The register COL_GROUP_W1. -/
def R.COL_GROUP_W1 : Reg := ⟨"COL_GROUP_W1", 0x21001008, [(64, 32)], 0x0,
  [R.COL_GROUP_W1_TIMEOUT_US, R.COL_GROUP_W1_HASH]⟩
/-- COL_GROUP_W2.SLOWCNT [47:0], RO, class L, 13 Table 13-16. -/
def R.COL_GROUP_W2_SLOWCNT : Fld := ⟨0x21001010, [32], 0x0, 0, 48, .ro, .l⟩
/-- The register COL_GROUP_W2. -/
def R.COL_GROUP_W2 : Reg := ⟨"COL_GROUP_W2", 0x21001010, [(64, 32)], 0x0,
  [R.COL_GROUP_W2_SLOWCNT]⟩
/-- COL_GROUP_W3.INFLIGHT [10:0], RO, class L, 13 Table 13-16. -/
def R.COL_GROUP_W3_INFLIGHT : Fld := ⟨0x21001018, [32], 0x0, 0, 11, .ro, .l⟩
/-- The register COL_GROUP_W3. -/
def R.COL_GROUP_W3 : Reg := ⟨"COL_GROUP_W3", 0x21001018, [(64, 32)], 0x0,
  [R.COL_GROUP_W3_INFLIGHT]⟩
/-- COL_SLOW_W0.LAST_RANK [11:0], RO, class L, 13 Table 13-17. -/
def R.COL_SLOW_W0_LAST_RANK : Fld := ⟨0x21002000, [16], 0x0, 0, 12, .ro, .l⟩
/-- COL_SLOW_W0.LAST_SPREAD [47:16], RO, class L, 13 Table 13-17. -/
def R.COL_SLOW_W0_LAST_SPREAD : Fld := ⟨0x21002000, [16], 0x0, 16, 32, .ro, .l⟩
/-- The register COL_SLOW_W0. -/
def R.COL_SLOW_W0 : Reg := ⟨"COL_SLOW_W0", 0x21002000, [(64, 16)], 0x0,
  [R.COL_SLOW_W0_LAST_RANK, R.COL_SLOW_W0_LAST_SPREAD]⟩
/-- COL_SLOW_W1.GRACES [31:0], RC, class L, 13 Table 13-17. -/
def R.COL_SLOW_W1_GRACES : Fld := ⟨0x21002008, [16], 0x0, 0, 32, .rc, .l⟩
/-- COL_SLOW_W1.TIMEOUTS [63:32], RC, class L, 13 Table 13-17. -/
def R.COL_SLOW_W1_TIMEOUTS : Fld := ⟨0x21002008, [16], 0x0, 32, 32, .rc, .l⟩
/-- The register COL_SLOW_W1. -/
def R.COL_SLOW_W1 : Reg := ⟨"COL_SLOW_W1", 0x21002008, [(64, 16)], 0x0,
  [R.COL_SLOW_W1_GRACES, R.COL_SLOW_W1_TIMEOUTS]⟩
/-- COL_SLOT_LEDGER.ISSUED [31:0], RO, class L, 14 Table 14-6. -/
def R.COL_SLOT_LEDGER_ISSUED : Fld := ⟨0x21000038, [], 0x0, 0, 32, .ro, .l⟩
/-- COL_SLOT_LEDGER.RETURNED [63:32], RO, class L, 14 Table 14-6. -/
def R.COL_SLOT_LEDGER_RETURNED : Fld := ⟨0x21000038, [], 0x0, 32, 32, .ro, .l⟩
/-- The register COL_SLOT_LEDGER. -/
def R.COL_SLOT_LEDGER : Reg := ⟨"COL_SLOT_LEDGER", 0x21000038, [], 0x0,
  [R.COL_SLOT_LEDGER_ISSUED, R.COL_SLOT_LEDGER_RETURNED]⟩
/-- COL_EXCH_COUNTS.RERUNS [31:0], RC, class L, 14 Table 14-7. -/
def R.COL_EXCH_COUNTS_RERUNS : Fld := ⟨0x21000040, [], 0x0, 0, 32, .rc, .l⟩
/-- COL_EXCH_COUNTS.FEED_WAITS [63:32], RC, class L, 14 Table 14-7. -/
def R.COL_EXCH_COUNTS_FEED_WAITS : Fld := ⟨0x21000040, [], 0x0, 32, 32, .rc, .l⟩
/-- The register COL_EXCH_COUNTS. -/
def R.COL_EXCH_COUNTS : Reg := ⟨"COL_EXCH_COUNTS", 0x21000040, [], 0x0,
  [R.COL_EXCH_COUNTS_RERUNS, R.COL_EXCH_COUNTS_FEED_WAITS]⟩
/-- COL_SLOT_FREE.GROUP [5:0], WO, class L, 14 Table 14-8. -/
def R.COL_SLOT_FREE_GROUP : Fld := ⟨0x21000048, [], 0x0, 0, 6, .wo, .l⟩
/-- COL_SLOT_FREE.SLOT [10:6], WO, class L, 14 Table 14-8. -/
def R.COL_SLOT_FREE_SLOT : Fld := ⟨0x21000048, [], 0x0, 6, 5, .wo, .l⟩
/-- COL_SLOT_FREE.GO [11:11], WO, class L, 14 Table 14-8. -/
def R.COL_SLOT_FREE_GO : Fld := ⟨0x21000048, [], 0x0, 11, 1, .wo, .l⟩
/-- The register COL_SLOT_FREE. -/
def R.COL_SLOT_FREE : Reg := ⟨"COL_SLOT_FREE", 0x21000048, [], 0x0,
  [R.COL_SLOT_FREE_GROUP, R.COL_SLOT_FREE_SLOT, R.COL_SLOT_FREE_GO]⟩
/-- COL_SLOT_W0.STATE [1:0], RO, class L, 14 Table 14-9. -/
def R.COL_SLOT_W0_STATE : Fld := ⟨0x21020000, [512, 16], 0x0, 0, 2, .ro, .l⟩
/-- COL_SLOT_W0.LB_DST [2:2], RO, class L, 14 Table 14-9. -/
def R.COL_SLOT_W0_LB_DST : Fld := ⟨0x21020000, [512, 16], 0x0, 2, 1, .ro, .l⟩
/-- COL_SLOT_W0.RERUN [3:3], RO, class L, 14 Table 14-9. -/
def R.COL_SLOT_W0_RERUN : Fld := ⟨0x21020000, [512, 16], 0x0, 3, 1, .ro, .l⟩
/-- COL_SLOT_W0.LOCAL [4:4], RO, class L, 14 Table 14-9. -/
def R.COL_SLOT_W0_LOCAL : Fld := ⟨0x21020000, [512, 16], 0x0, 4, 1, .ro, .l⟩
/-- COL_SLOT_W0.BUCKET [31:16], RO, class L, 14 Table 14-9. -/
def R.COL_SLOT_W0_BUCKET : Fld := ⟨0x21020000, [512, 16], 0x0, 16, 16, .ro, .l⟩
/-- COL_SLOT_W0.GEN [47:32], RO, class L, 14 Table 14-9. -/
def R.COL_SLOT_W0_GEN : Fld := ⟨0x21020000, [512, 16], 0x0, 32, 16, .ro, .l⟩
/-- COL_SLOT_W0.LANDED [60:48], RO, class L, 14 Table 14-9. -/
def R.COL_SLOT_W0_LANDED : Fld := ⟨0x21020000, [512, 16], 0x0, 48, 13, .ro, .l⟩
/-- The register COL_SLOT_W0. -/
def R.COL_SLOT_W0 : Reg := ⟨"COL_SLOT_W0", 0x21020000, [(64, 512), (32, 16)], 0x0,
  [R.COL_SLOT_W0_STATE, R.COL_SLOT_W0_LB_DST, R.COL_SLOT_W0_RERUN, R.COL_SLOT_W0_LOCAL, R.COL_SLOT_W0_BUCKET, R.COL_SLOT_W0_GEN, R.COL_SLOT_W0_LANDED]⟩
/-- COL_SLOT_W1.BOUND [15:0], RO, class L, 14 Table 14-9. -/
def R.COL_SLOT_W1_BOUND : Fld := ⟨0x21020008, [512, 16], 0x0, 0, 16, .ro, .l⟩
/-- COL_SLOT_W1.WAITING [47:16], RO, class L, 14 Table 14-9. -/
def R.COL_SLOT_W1_WAITING : Fld := ⟨0x21020008, [512, 16], 0x0, 16, 32, .ro, .l⟩
/-- The register COL_SLOT_W1. -/
def R.COL_SLOT_W1 : Reg := ⟨"COL_SLOT_W1", 0x21020008, [(64, 512), (32, 16)], 0x0,
  [R.COL_SLOT_W1_BOUND, R.COL_SLOT_W1_WAITING]⟩
/-- WQS_W0.BASE [47:0], RW, class Q, 15 Table 15-8. -/
def R.WQS_W0_BASE : Fld := ⟨0x9000000, [64], 0x4000000000000, 0, 48, .rw, .q⟩
/-- WQS_W0.LOG2_N [52:48], RW, class Q, 15 Table 15-8. -/
def R.WQS_W0_LOG2_N : Fld := ⟨0x9000000, [64], 0x4000000000000, 48, 5, .rw, .q⟩
/-- WQS_W0.KIND [53:53], RW, class Q, 15 Table 15-8. -/
def R.WQS_W0_KIND : Fld := ⟨0x9000000, [64], 0x4000000000000, 53, 1, .rw, .q⟩
/-- WQS_W0.HOME [55:54], RW, class Q, 15 Table 15-8. -/
def R.WQS_W0_HOME : Fld := ⟨0x9000000, [64], 0x4000000000000, 54, 2, .rw, .q⟩
/-- The register WQS_W0. -/
def R.WQS_W0 : Reg := ⟨"WQS_W0", 0x9000000, [(262144, 64)], 0x4000000000000,
  [R.WQS_W0_BASE, R.WQS_W0_LOG2_N, R.WQS_W0_KIND, R.WQS_W0_HOME]⟩
/-- WQS_W1.STATE [1:0], RW, class L, 15 Table 15-8. -/
def R.WQS_W1_STATE : Fld := ⟨0x9000008, [64], 0x0, 0, 2, .rw, .l⟩
/-- WQS_W1.CFG_BUSY [2:2], W1C, class L, 15 Table 15-8. -/
def R.WQS_W1_CFG_BUSY : Fld := ⟨0x9000008, [64], 0x0, 2, 1, .w1c, .l⟩
/-- WQS_W1.STOP_STATUS [31:16], RO, class L, 15 Table 15-8. -/
def R.WQS_W1_STOP_STATUS : Fld := ⟨0x9000008, [64], 0x0, 16, 16, .ro, .l⟩
/-- The register WQS_W1. -/
def R.WQS_W1 : Reg := ⟨"WQS_W1", 0x9000008, [(262144, 64)], 0x0,
  [R.WQS_W1_STATE, R.WQS_W1_CFG_BUSY, R.WQS_W1_STOP_STATUS]⟩
/-- WQS_W2.PI [31:0], RO, class L, 15 Table 15-8. -/
def R.WQS_W2_PI : Fld := ⟨0x9000010, [64], 0x0, 0, 32, .ro, .l⟩
/-- WQS_W2.CI [63:32], RO, class L, 15 Table 15-8. -/
def R.WQS_W2_CI : Fld := ⟨0x9000010, [64], 0x0, 32, 32, .ro, .l⟩
/-- The register WQS_W2. -/
def R.WQS_W2 : Reg := ⟨"WQS_W2", 0x9000010, [(262144, 64)], 0x0,
  [R.WQS_W2_PI, R.WQS_W2_CI]⟩
/-- WQS_W3.CQ [17:0], RW, class Q, 15 Table 15-8. -/
def R.WQS_W3_CQ : Fld := ⟨0x9000018, [64], 0x0, 0, 18, .rw, .q⟩
/-- WQS_W3.VECTOR [28:18], RW, class L, 15 Table 15-8. -/
def R.WQS_W3_VECTOR : Fld := ⟨0x9000018, [64], 0x0, 18, 11, .rw, .l⟩
/-- WQS_W3.IRQ_EN [29:29], RW, class L, 15 Table 15-8. -/
def R.WQS_W3_IRQ_EN : Fld := ⟨0x9000018, [64], 0x0, 29, 1, .rw, .l⟩
/-- The register WQS_W3. -/
def R.WQS_W3 : Reg := ⟨"WQS_W3", 0x9000018, [(262144, 64)], 0x0,
  [R.WQS_W3_CQ, R.WQS_W3_VECTOR, R.WQS_W3_IRQ_EN]⟩
/-- WQS_W4.DONE [31:0], RO, class L, 15 Table 15-8. -/
def R.WQS_W4_DONE : Fld := ⟨0x9000020, [64], 0x0, 0, 32, .ro, .l⟩
/-- WQS_W4.RESERVED [63:32], RO, class L, 15 Table 15-8. -/
def R.WQS_W4_RESERVED : Fld := ⟨0x9000020, [64], 0x0, 32, 32, .ro, .l⟩
/-- The register WQS_W4. -/
def R.WQS_W4 : Reg := ⟨"WQS_W4", 0x9000020, [(262144, 64)], 0x0,
  [R.WQS_W4_DONE, R.WQS_W4_RESERVED]⟩
/-- WQS_W5.HEAD_AGE [15:0], RO, class L, 15 Table 15-8. -/
def R.WQS_W5_HEAD_AGE : Fld := ⟨0x9000028, [64], 0x0, 0, 16, .ro, .l⟩
/-- The register WQS_W5. -/
def R.WQS_W5 : Reg := ⟨"WQS_W5", 0x9000028, [(262144, 64)], 0x0,
  [R.WQS_W5_HEAD_AGE]⟩
/-- The register WQS_W6. -/
def R.WQS_W6 : Reg := ⟨"WQS_W6", 0x9000030, [(262144, 64)], 0x0,
  []⟩
/-- The register WQS_W7. -/
def R.WQS_W7 : Reg := ⟨"WQS_W7", 0x9000038, [(262144, 64)], 0x0,
  []⟩
/-- EVC.VALUE [63:0], RW, class L, 15 Table 15-9. -/
def R.EVC_VALUE : Fld := ⟨0xa000000, [8], 0x0, 0, 64, .rw, .l⟩
/-- The register EVC. -/
def R.EVC : Reg := ⟨"EVC", 0xa000000, [(65536, 8)], 0x0,
  [R.EVC_VALUE]⟩
/-- EVC_ADD.ADD [63:0], WO, class L, 15 Table 15-9. -/
def R.EVC_ADD_ADD : Fld := ⟨0xa080000, [8], 0x0, 0, 64, .wo, .l⟩
/-- The register EVC_ADD. -/
def R.EVC_ADD : Reg := ⟨"EVC_ADD", 0xa080000, [(65536, 8)], 0x0,
  [R.EVC_ADD_ADD]⟩
/-- QMC_STATUS.INFLIGHT [10:0], RO, class L, 15 Table 15-9. -/
def R.QMC_STATUS_INFLIGHT : Fld := ⟨0xb000000, [], 0x0, 0, 11, .ro, .l⟩
/-- QMC_STATUS.CQ_WAITS [63:32], RC, class L, 15 Table 15-9. -/
def R.QMC_STATUS_CQ_WAITS : Fld := ⟨0xb000000, [], 0x0, 32, 32, .rc, .l⟩
/-- The register QMC_STATUS. -/
def R.QMC_STATUS : Reg := ⟨"QMC_STATUS", 0xb000000, [], 0x0,
  [R.QMC_STATUS_INFLIGHT, R.QMC_STATUS_CQ_WAITS]⟩
/-- QMC_CTX_W0.PRIO [2:0], RW, class L, 15 Table 15-9. -/
def R.QMC_CTX_W0_PRIO : Fld := ⟨0xb010000, [16], 0x0, 0, 3, .rw, .l⟩
/-- QMC_CTX_W0.SLICE [3:3], RW, class Q, 15 Table 15-9. -/
def R.QMC_CTX_W0_SLICE : Fld := ⟨0xb010000, [16], 0x0, 3, 1, .rw, .q⟩
/-- QMC_CTX_W0.ENABLE [4:4], RW, class L, 15 Table 15-9. -/
def R.QMC_CTX_W0_ENABLE : Fld := ⟨0xb010000, [16], 0x0, 4, 1, .rw, .l⟩
/-- QMC_CTX_W0.HOLD [5:5], RW, class L, 15 Table 15-9. -/
def R.QMC_CTX_W0_HOLD : Fld := ⟨0xb010000, [16], 0x0, 5, 1, .rw, .l⟩
/-- QMC_CTX_W0.SHARE [15:8], RW, class G, 15 Table 15-9. -/
def R.QMC_CTX_W0_SHARE : Fld := ⟨0xb010000, [16], 0x0, 8, 8, .rw, .g⟩
/-- QMC_CTX_W0.INFLIGHT [26:16], RO, class L, 15 Table 15-9. -/
def R.QMC_CTX_W0_INFLIGHT : Fld := ⟨0xb010000, [16], 0x0, 16, 11, .ro, .l⟩
/-- The register QMC_CTX_W0. -/
def R.QMC_CTX_W0 : Reg := ⟨"QMC_CTX_W0", 0xb010000, [(4096, 16)], 0x0,
  [R.QMC_CTX_W0_PRIO, R.QMC_CTX_W0_SLICE, R.QMC_CTX_W0_ENABLE, R.QMC_CTX_W0_HOLD, R.QMC_CTX_W0_SHARE, R.QMC_CTX_W0_INFLIGHT]⟩
/-- QMC_CTX_W1.GROUPS [63:0], RW, class G, 15 Table 15-9. -/
def R.QMC_CTX_W1_GROUPS : Fld := ⟨0xb010008, [16], 0x0, 0, 64, .rw, .g⟩
/-- The register QMC_CTX_W1. -/
def R.QMC_CTX_W1 : Reg := ⟨"QMC_CTX_W1", 0xb010008, [(4096, 16)], 0x0,
  [R.QMC_CTX_W1_GROUPS]⟩
/-- QMC_MBX_W0.IN_PI [31:0], RW, class L, 15 Table 15-9. -/
def R.QMC_MBX_W0_IN_PI : Fld := ⟨0xb001000, [32], 0x0, 0, 32, .rw, .l⟩
/-- QMC_MBX_W0.IN_CI [63:32], RO, class L, 15 Table 15-9. -/
def R.QMC_MBX_W0_IN_CI : Fld := ⟨0xb001000, [32], 0x0, 32, 32, .ro, .l⟩
/-- The register QMC_MBX_W0. -/
def R.QMC_MBX_W0 : Reg := ⟨"QMC_MBX_W0", 0xb001000, [(8, 32)], 0x0,
  [R.QMC_MBX_W0_IN_PI, R.QMC_MBX_W0_IN_CI]⟩
/-- QMC_MBX_W1.OUT_PI [31:0], RO, class L, 15 Table 15-9. -/
def R.QMC_MBX_W1_OUT_PI : Fld := ⟨0xb001008, [32], 0x0, 0, 32, .ro, .l⟩
/-- QMC_MBX_W1.OUT_CI [63:32], RW, class L, 15 Table 15-9. -/
def R.QMC_MBX_W1_OUT_CI : Fld := ⟨0xb001008, [32], 0x0, 32, 32, .rw, .l⟩
/-- The register QMC_MBX_W1. -/
def R.QMC_MBX_W1 : Reg := ⟨"QMC_MBX_W1", 0xb001008, [(8, 32)], 0x0,
  [R.QMC_MBX_W1_OUT_PI, R.QMC_MBX_W1_OUT_CI]⟩
/-- QMC_MBX_W2.FW_EPOCH [31:0], RO, class L, 15 Table 15-9. -/
def R.QMC_MBX_W2_FW_EPOCH : Fld := ⟨0xb001010, [32], 0x0, 0, 32, .ro, .l⟩
/-- QMC_MBX_W2.MAJOR [39:32], RO, class L, 15 Table 15-9. -/
def R.QMC_MBX_W2_MAJOR : Fld := ⟨0xb001010, [32], 0x0, 32, 8, .ro, .l⟩
/-- QMC_MBX_W2.MINOR [47:40], RO, class L, 15 Table 15-9. -/
def R.QMC_MBX_W2_MINOR : Fld := ⟨0xb001010, [32], 0x0, 40, 8, .ro, .l⟩
/-- QMC_MBX_W2.OUT_PENDING [48:48], RO, class L, 15 Table 15-9. -/
def R.QMC_MBX_W2_OUT_PENDING : Fld := ⟨0xb001010, [32], 0x0, 48, 1, .ro, .l⟩
/-- The register QMC_MBX_W2. -/
def R.QMC_MBX_W2 : Reg := ⟨"QMC_MBX_W2", 0xb001010, [(8, 32)], 0x0,
  [R.QMC_MBX_W2_FW_EPOCH, R.QMC_MBX_W2_MAJOR, R.QMC_MBX_W2_MINOR, R.QMC_MBX_W2_OUT_PENDING]⟩
/-- QMC_MBX_W3.OUT_IRQ_EN [0:0], RW, class L, 15 Table 15-9. -/
def R.QMC_MBX_W3_OUT_IRQ_EN : Fld := ⟨0xb001018, [32], 0x0, 0, 1, .rw, .l⟩
/-- QMC_MBX_W3.VECTOR [11:1], RW, class L, 15 Table 15-9. -/
def R.QMC_MBX_W3_VECTOR : Fld := ⟨0xb001018, [32], 0x0, 1, 11, .rw, .l⟩
/-- The register QMC_MBX_W3. -/
def R.QMC_MBX_W3 : Reg := ⟨"QMC_MBX_W3", 0xb001018, [(8, 32)], 0x0,
  [R.QMC_MBX_W3_OUT_IRQ_EN, R.QMC_MBX_W3_VECTOR]⟩
/-- QMC_LEDGER_DIE.ISSUED [31:0], RO, class L, 15 Table 15-10. -/
def R.QMC_LEDGER_DIE_ISSUED : Fld := ⟨0xb000100, [8], 0x0, 0, 32, .ro, .l⟩
/-- QMC_LEDGER_DIE.RETURNED [63:32], RO, class L, 15 Table 15-10. -/
def R.QMC_LEDGER_DIE_RETURNED : Fld := ⟨0xb000100, [8], 0x0, 32, 32, .ro, .l⟩
/-- The register QMC_LEDGER_DIE. -/
def R.QMC_LEDGER_DIE : Reg := ⟨"QMC_LEDGER_DIE", 0xb000100, [(4, 8)], 0x0,
  [R.QMC_LEDGER_DIE_ISSUED, R.QMC_LEDGER_DIE_RETURNED]⟩
/-- QMC_LEDGER_CQE.ISSUED [31:0], RO, class L, 15 Table 15-10. -/
def R.QMC_LEDGER_CQE_ISSUED : Fld := ⟨0xb000120, [], 0x0, 0, 32, .ro, .l⟩
/-- QMC_LEDGER_CQE.RETURNED [63:32], RO, class L, 15 Table 15-10. -/
def R.QMC_LEDGER_CQE_RETURNED : Fld := ⟨0xb000120, [], 0x0, 32, 32, .ro, .l⟩
/-- The register QMC_LEDGER_CQE. -/
def R.QMC_LEDGER_CQE : Reg := ⟨"QMC_LEDGER_CQE", 0xb000120, [], 0x0,
  [R.QMC_LEDGER_CQE_ISSUED, R.QMC_LEDGER_CQE_RETURNED]⟩
/-- QMC_LEDGER_SIG.ISSUED [31:0], RO, class L, 15 Table 15-10. -/
def R.QMC_LEDGER_SIG_ISSUED : Fld := ⟨0xb000128, [], 0x0, 0, 32, .ro, .l⟩
/-- QMC_LEDGER_SIG.RETURNED [63:32], RO, class L, 15 Table 15-10. -/
def R.QMC_LEDGER_SIG_RETURNED : Fld := ⟨0xb000128, [], 0x0, 32, 32, .ro, .l⟩
/-- The register QMC_LEDGER_SIG. -/
def R.QMC_LEDGER_SIG : Reg := ⟨"QMC_LEDGER_SIG", 0xb000128, [], 0x0,
  [R.QMC_LEDGER_SIG_ISSUED, R.QMC_LEDGER_SIG_RETURNED]⟩
/-- FWP_STATUS.STATE [1:0], RO, class L, 16 Table 16-8. -/
def R.FWP_STATUS_STATE : Fld := ⟨0x4000000, [65536], 0x0, 0, 2, .ro, .l⟩
/-- FWP_STATUS.LAST_CAUSE [15:8], RO, class L, 16 Table 16-8. -/
def R.FWP_STATUS_LAST_CAUSE : Fld := ⟨0x4000000, [65536], 0x0, 8, 8, .ro, .l⟩
/-- FWP_STATUS.RESTARTS [31:16], RC, class L, 16 Table 16-8. -/
def R.FWP_STATUS_RESTARTS : Fld := ⟨0x4000000, [65536], 0x0, 16, 16, .rc, .l⟩
/-- The register FWP_STATUS. -/
def R.FWP_STATUS : Reg := ⟨"FWP_STATUS", 0x4000000, [(8, 65536)], 0x0,
  [R.FWP_STATUS_STATE, R.FWP_STATUS_LAST_CAUSE, R.FWP_STATUS_RESTARTS]⟩
/-- FWP_WDOG.PERIOD_MS [9:0], RW, class L, 16 Table 16-9. -/
def R.FWP_WDOG_PERIOD_MS : Fld := ⟨0x4000008, [65536], 0x0, 0, 10, .rw, .l⟩
/-- FWP_WDOG.WEAVE_MS [25:16], RO, class S, 16 Table 16-9. -/
def R.FWP_WDOG_WEAVE_MS : Fld := ⟨0x4000008, [65536], 0x0, 16, 10, .ro, .s⟩
/-- FWP_WDOG.EXPIRIES [47:32], RC, class L, 16 Table 16-9. -/
def R.FWP_WDOG_EXPIRIES : Fld := ⟨0x4000008, [65536], 0x0, 32, 16, .rc, .l⟩
/-- FWP_WDOG.KICK [63:63], WO, class L, 16 Table 16-9. -/
def R.FWP_WDOG_KICK : Fld := ⟨0x4000008, [65536], 0x0, 63, 1, .wo, .l⟩
/-- The register FWP_WDOG. -/
def R.FWP_WDOG : Reg := ⟨"FWP_WDOG", 0x4000008, [(8, 65536)], 0x0,
  [R.FWP_WDOG_PERIOD_MS, R.FWP_WDOG_WEAVE_MS, R.FWP_WDOG_EXPIRIES, R.FWP_WDOG_KICK]⟩
/-- FWP_CRASH.PC [31:0], RO, class L, 16 Table 16-10. -/
def R.FWP_CRASH_PC : Fld := ⟨0x4000010, [65536], 0x0, 0, 32, .ro, .l⟩
/-- FWP_CRASH.CAUSE [39:32], RO, class L, 16 Table 16-10. -/
def R.FWP_CRASH_CAUSE : Fld := ⟨0x4000010, [65536], 0x0, 32, 8, .ro, .l⟩
/-- FWP_CRASH.MCAUSE [47:40], RO, class L, 16 Table 16-10. -/
def R.FWP_CRASH_MCAUSE : Fld := ⟨0x4000010, [65536], 0x0, 40, 8, .ro, .l⟩
/-- The register FWP_CRASH. -/
def R.FWP_CRASH : Reg := ⟨"FWP_CRASH", 0x4000010, [(8, 65536)], 0x0,
  [R.FWP_CRASH_PC, R.FWP_CRASH_CAUSE, R.FWP_CRASH_MCAUSE]⟩
/-- FWP_CRASH_TIME.TIME [63:0], RO, class L, 16 Table 16-10. -/
def R.FWP_CRASH_TIME_TIME : Fld := ⟨0x4000018, [65536], 0x0, 0, 64, .ro, .l⟩
/-- The register FWP_CRASH_TIME. -/
def R.FWP_CRASH_TIME : Reg := ⟨"FWP_CRASH_TIME", 0x4000018, [(8, 65536)], 0x0,
  [R.FWP_CRASH_TIME_TIME]⟩
/-- FWP_VERSION.VERSION [63:0], RO, class L, 16 Table 16-11. -/
def R.FWP_VERSION_VERSION : Fld := ⟨0x4000020, [65536], 0x0, 0, 64, .ro, .l⟩
/-- The register FWP_VERSION. -/
def R.FWP_VERSION : Reg := ⟨"FWP_VERSION", 0x4000020, [(8, 65536)], 0x0,
  [R.FWP_VERSION_VERSION]⟩
/-- FWP_CTL.RESTART [0:0], WO, class L, 16 Table 16-11. -/
def R.FWP_CTL_RESTART : Fld := ⟨0x4000028, [65536], 0x0, 0, 1, .wo, .l⟩
/-- The register FWP_CTL. -/
def R.FWP_CTL : Reg := ⟨"FWP_CTL", 0x4000028, [(8, 65536)], 0x0,
  [R.FWP_CTL_RESTART]⟩
/-- FWP_UPDATE.STATE [2:0], RO, class L, 16 Table 16-12. -/
def R.FWP_UPDATE_STATE : Fld := ⟨0x4100000, [], 0x0, 0, 3, .ro, .l⟩
/-- FWP_UPDATE.AOB [3:3], RO, class L, 16 Table 16-12. -/
def R.FWP_UPDATE_AOB : Fld := ⟨0x4100000, [], 0x0, 3, 1, .ro, .l⟩
/-- FWP_UPDATE.DEFERRALS [31:16], RC, class L, 16 Table 16-12. -/
def R.FWP_UPDATE_DEFERRALS : Fld := ⟨0x4100000, [], 0x0, 16, 16, .rc, .l⟩
/-- FWP_UPDATE.LAST_STATUS [47:32], RO, class L, 16 Table 16-12. -/
def R.FWP_UPDATE_LAST_STATUS : Fld := ⟨0x4100000, [], 0x0, 32, 16, .ro, .l⟩
/-- The register FWP_UPDATE. -/
def R.FWP_UPDATE : Reg := ⟨"FWP_UPDATE", 0x4100000, [], 0x0,
  [R.FWP_UPDATE_STATE, R.FWP_UPDATE_AOB, R.FWP_UPDATE_DEFERRALS, R.FWP_UPDATE_LAST_STATUS]⟩
/-- FWP_STAGED_VER.VERSION [63:0], RO, class L, 16 Table 16-12. -/
def R.FWP_STAGED_VER_VERSION : Fld := ⟨0x4100008, [], 0x0, 0, 64, .ro, .l⟩
/-- The register FWP_STAGED_VER. -/
def R.FWP_STAGED_VER : Reg := ⟨"FWP_STAGED_VER", 0x4100008, [], 0x0,
  [R.FWP_STAGED_VER_VERSION]⟩
/-- FWP_SVN.STAGED [31:0], RO, class L, 16 Table 16-12. -/
def R.FWP_SVN_STAGED : Fld := ⟨0x4100010, [], 0x0, 0, 32, .ro, .l⟩
/-- FWP_SVN.COUNTER [63:32], RO, class L, 16 Table 16-12. -/
def R.FWP_SVN_COUNTER : Fld := ⟨0x4100010, [], 0x0, 32, 32, .ro, .l⟩
/-- The register FWP_SVN. -/
def R.FWP_SVN : Reg := ⟨"FWP_SVN", 0x4100010, [], 0x0,
  [R.FWP_SVN_STAGED, R.FWP_SVN_COUNTER]⟩
/-- FWP_STABLE.STABLE_MS [15:0], RO, class L, 16 Table 16-12. -/
def R.FWP_STABLE_STABLE_MS : Fld := ⟨0x4100018, [], 0x0, 0, 16, .ro, .l⟩
/-- The register FWP_STABLE. -/
def R.FWP_STABLE : Reg := ⟨"FWP_STABLE", 0x4100018, [], 0x0,
  [R.FWP_STABLE_STABLE_MS]⟩
/-- NRG_BUDGET.WINDOW_UJ [31:0], RO, class L, 17 Table 17-5. -/
def R.NRG_BUDGET_WINDOW_UJ : Fld := ⟨0x3000000, [], 0x0, 0, 32, .ro, .l⟩
/-- NRG_BUDGET.PENDING_UJ [63:32], RO, class L, 17 Table 17-5. -/
def R.NRG_BUDGET_PENDING_UJ : Fld := ⟨0x3000000, [], 0x0, 32, 32, .ro, .l⟩
/-- The register NRG_BUDGET. -/
def R.NRG_BUDGET : Reg := ⟨"NRG_BUDGET", 0x3000000, [], 0x0,
  [R.NRG_BUDGET_WINDOW_UJ, R.NRG_BUDGET_PENDING_UJ]⟩
/-- NRG_ENV_WEAVE.VMAX_MV [9:0], RO, class S, 17 Table 17-6. -/
def R.NRG_ENV_WEAVE_VMAX_MV : Fld := ⟨0x3000008, [], 0x8000000001b80000, 0, 10, .ro, .s⟩
/-- NRG_ENV_WEAVE.THROTTLE_C [17:10], RO, class S, 17 Table 17-6. -/
def R.NRG_ENV_WEAVE_THROTTLE_C : Fld := ⟨0x3000008, [], 0x8000000001b80000, 10, 8, .ro, .s⟩
/-- NRG_ENV_WEAVE.TRIP_C [25:18], RO, class S, 17 Table 17-6. -/
def R.NRG_ENV_WEAVE_TRIP_C : Fld := ⟨0x3000008, [], 0x8000000001b80000, 18, 8, .ro, .s⟩
/-- NRG_ENV_WEAVE.ICL_DA [37:26], RO, class S, 17 Table 17-6. -/
def R.NRG_ENV_WEAVE_ICL_DA : Fld := ⟨0x3000008, [], 0x8000000001b80000, 26, 12, .ro, .s⟩
/-- NRG_ENV_WEAVE.LOCK [63:63], RO, class S, 17 Table 17-6. -/
def R.NRG_ENV_WEAVE_LOCK : Fld := ⟨0x3000008, [], 0x8000000001b80000, 63, 1, .ro, .s⟩
/-- The register NRG_ENV_WEAVE. -/
def R.NRG_ENV_WEAVE : Reg := ⟨"NRG_ENV_WEAVE", 0x3000008, [], 0x8000000001b80000,
  [R.NRG_ENV_WEAVE_VMAX_MV, R.NRG_ENV_WEAVE_THROTTLE_C, R.NRG_ENV_WEAVE_TRIP_C, R.NRG_ENV_WEAVE_ICL_DA, R.NRG_ENV_WEAVE_LOCK]⟩
/-- NRG_ENVELOPE.VMAX_MV [9:0], RO, class L, 17 Table 17-6. -/
def R.NRG_ENVELOPE_VMAX_MV : Fld := ⟨0x3000010, [], 0x1b80000, 0, 10, .ro, .l⟩
/-- NRG_ENVELOPE.THROTTLE_C [17:10], RO, class L, 17 Table 17-6. -/
def R.NRG_ENVELOPE_THROTTLE_C : Fld := ⟨0x3000010, [], 0x1b80000, 10, 8, .ro, .l⟩
/-- NRG_ENVELOPE.TRIP_C [25:18], RO, class L, 17 Table 17-6. -/
def R.NRG_ENVELOPE_TRIP_C : Fld := ⟨0x3000010, [], 0x1b80000, 18, 8, .ro, .l⟩
/-- NRG_ENVELOPE.ICL_DA [37:26], RO, class L, 17 Table 17-6. -/
def R.NRG_ENVELOPE_ICL_DA : Fld := ⟨0x3000010, [], 0x1b80000, 26, 12, .ro, .l⟩
/-- NRG_ENVELOPE.LOCK [63:63], RO, class L, 17 Table 17-6. -/
def R.NRG_ENVELOPE_LOCK : Fld := ⟨0x3000010, [], 0x1b80000, 63, 1, .ro, .l⟩
/-- The register NRG_ENVELOPE. -/
def R.NRG_ENVELOPE : Reg := ⟨"NRG_ENVELOPE", 0x3000010, [], 0x1b80000,
  [R.NRG_ENVELOPE_VMAX_MV, R.NRG_ENVELOPE_THROTTLE_C, R.NRG_ENVELOPE_TRIP_C, R.NRG_ENVELOPE_ICL_DA, R.NRG_ENVELOPE_LOCK]⟩
/-- NRG_POOL.GENERAL [31:0], RO, class L, 17 Table 17-7. -/
def R.NRG_POOL_GENERAL : Fld := ⟨0x3000018, [], 0x0, 0, 32, .ro, .l⟩
/-- NRG_POOL.RESERVE [63:32], RO, class L, 17 Table 17-7. -/
def R.NRG_POOL_RESERVE : Fld := ⟨0x3000018, [], 0x0, 32, 32, .ro, .l⟩
/-- The register NRG_POOL. -/
def R.NRG_POOL : Reg := ⟨"NRG_POOL", 0x3000018, [], 0x0,
  [R.NRG_POOL_GENERAL, R.NRG_POOL_RESERVE]⟩
/-- NRG_WINDOW.INPUT_UJ [31:0], RO, class L, 17 Table 17-7. -/
def R.NRG_WINDOW_INPUT_UJ : Fld := ⟨0x3000020, [], 0x0, 0, 32, .ro, .l⟩
/-- NRG_WINDOW.BASE_UJ [63:32], RO, class L, 17 Table 17-7. -/
def R.NRG_WINDOW_BASE_UJ : Fld := ⟨0x3000020, [], 0x0, 32, 32, .ro, .l⟩
/-- The register NRG_WINDOW. -/
def R.NRG_WINDOW : Reg := ⟨"NRG_WINDOW", 0x3000020, [], 0x0,
  [R.NRG_WINDOW_INPUT_UJ, R.NRG_WINDOW_BASE_UJ]⟩
/-- NRG_LEDGER_ISSUED.UJ [63:0], RO, class L, 17 Table 17-8. -/
def R.NRG_LEDGER_ISSUED_UJ : Fld := ⟨0x3000040, [], 0x0, 0, 64, .ro, .l⟩
/-- The register NRG_LEDGER_ISSUED. -/
def R.NRG_LEDGER_ISSUED : Reg := ⟨"NRG_LEDGER_ISSUED", 0x3000040, [], 0x0,
  [R.NRG_LEDGER_ISSUED_UJ]⟩
/-- NRG_LEDGER_BASE.UJ [63:0], RO, class L, 17 Table 17-8. -/
def R.NRG_LEDGER_BASE_UJ : Fld := ⟨0x3000048, [], 0x0, 0, 64, .ro, .l⟩
/-- The register NRG_LEDGER_BASE. -/
def R.NRG_LEDGER_BASE : Reg := ⟨"NRG_LEDGER_BASE", 0x3000048, [], 0x0,
  [R.NRG_LEDGER_BASE_UJ]⟩
/-- NRG_LEDGER_DEBITED.UJ [63:0], RO, class L, 17 Table 17-8. -/
def R.NRG_LEDGER_DEBITED_UJ : Fld := ⟨0x3000050, [], 0x0, 0, 64, .ro, .l⟩
/-- The register NRG_LEDGER_DEBITED. -/
def R.NRG_LEDGER_DEBITED : Reg := ⟨"NRG_LEDGER_DEBITED", 0x3000050, [], 0x0,
  [R.NRG_LEDGER_DEBITED_UJ]⟩
/-- NRG_LEDGER_DRAWN.UJ [63:0], RO, class L, 17 Table 17-8. -/
def R.NRG_LEDGER_DRAWN_UJ : Fld := ⟨0x3000058, [], 0x0, 0, 64, .ro, .l⟩
/-- The register NRG_LEDGER_DRAWN. -/
def R.NRG_LEDGER_DRAWN : Reg := ⟨"NRG_LEDGER_DRAWN", 0x3000058, [], 0x0,
  [R.NRG_LEDGER_DRAWN_UJ]⟩
/-- NRG_LEDGER_RETURNED.UJ [63:0], RO, class L, 17 Table 17-8. -/
def R.NRG_LEDGER_RETURNED_UJ : Fld := ⟨0x3000060, [], 0x0, 0, 64, .ro, .l⟩
/-- The register NRG_LEDGER_RETURNED. -/
def R.NRG_LEDGER_RETURNED : Reg := ⟨"NRG_LEDGER_RETURNED", 0x3000060, [], 0x0,
  [R.NRG_LEDGER_RETURNED_UJ]⟩
/-- NRG_LEDGER_LAPSED.UJ [63:0], RO, class L, 17 Table 17-8. -/
def R.NRG_LEDGER_LAPSED_UJ : Fld := ⟨0x3000068, [], 0x0, 0, 64, .ro, .l⟩
/-- The register NRG_LEDGER_LAPSED. -/
def R.NRG_LEDGER_LAPSED : Reg := ⟨"NRG_LEDGER_LAPSED", 0x3000068, [], 0x0,
  [R.NRG_LEDGER_LAPSED_UJ]⟩
/-- NRG_HOLD.HOLDS [31:0], RC, class L, 17 Table 17-9. -/
def R.NRG_HOLD_HOLDS : Fld := ⟨0x3000070, [], 0x0, 0, 32, .rc, .l⟩
/-- NRG_HOLD.OVERDRAWS [63:32], RC, class L, 17 Table 17-9. -/
def R.NRG_HOLD_OVERDRAWS : Fld := ⟨0x3000070, [], 0x0, 32, 32, .rc, .l⟩
/-- The register NRG_HOLD. -/
def R.NRG_HOLD : Reg := ⟨"NRG_HOLD", 0x3000070, [], 0x0,
  [R.NRG_HOLD_HOLDS, R.NRG_HOLD_OVERDRAWS]⟩
/-- NRG_THR.HOT [4:0], RO, class L, 17 Table 17-9. -/
def R.NRG_THR_HOT : Fld := ⟨0x3000078, [], 0x26c0000, 0, 5, .ro, .l⟩
/-- NRG_THR.ICL [5:5], RO, class L, 17 Table 17-9. -/
def R.NRG_THR_ICL : Fld := ⟨0x3000078, [], 0x26c0000, 5, 1, .ro, .l⟩
/-- NRG_THR.OVERSHOOT [6:6], RO, class L, 17 Table 17-9. -/
def R.NRG_THR_OVERSHOOT : Fld := ⟨0x3000078, [], 0x26c0000, 6, 1, .ro, .l⟩
/-- NRG_THR.BRAKE [7:7], RO, class L, 17 Table 17-9. -/
def R.NRG_THR_BRAKE : Fld := ⟨0x3000078, [], 0x26c0000, 7, 1, .ro, .l⟩
/-- NRG_THR.FW1_DOWN [8:8], RO, class L, 17 Table 17-9. -/
def R.NRG_THR_FW1_DOWN : Fld := ⟨0x3000078, [], 0x26c0000, 8, 1, .ro, .l⟩
/-- NRG_THR.THROTTLE [9:9], RO, class L, 17 Table 17-9. -/
def R.NRG_THR_THROTTLE : Fld := ⟨0x3000078, [], 0x26c0000, 9, 1, .ro, .l⟩
/-- NRG_THR.HOT_MV [25:16], RW, class L, 17 Table 17-9. -/
def R.NRG_THR_HOT_MV : Fld := ⟨0x3000078, [], 0x26c0000, 16, 10, .rw, .l⟩
/-- NRG_THR.ENTRIES [63:48], RC, class L, 17 Table 17-9. -/
def R.NRG_THR_ENTRIES : Fld := ⟨0x3000078, [], 0x26c0000, 48, 16, .rc, .l⟩
/-- The register NRG_THR. -/
def R.NRG_THR : Reg := ⟨"NRG_THR", 0x3000078, [], 0x26c0000,
  [R.NRG_THR_HOT, R.NRG_THR_ICL, R.NRG_THR_OVERSHOOT, R.NRG_THR_BRAKE, R.NRG_THR_FW1_DOWN, R.NRG_THR_THROTTLE, R.NRG_THR_HOT_MV, R.NRG_THR_ENTRIES]⟩
/-- NRG_COEF.COEF [15:0], RO, class L, 17 Table 17-10. -/
def R.NRG_COEF_COEF : Fld := ⟨0x3000088, [8], 0x100, 0, 16, .ro, .l⟩
/-- The register NRG_COEF. -/
def R.NRG_COEF : Reg := ⟨"NRG_COEF", 0x3000088, [(12, 8)], 0x100,
  [R.NRG_COEF_COEF]⟩
/-- NRG_DIE_W0.SETPOINT_MV [9:0], RO, class L, 17 Table 17-11. -/
def R.NRG_DIE_W0_SETPOINT_MV : Fld := ⟨0x3000100, [16], 0x8000000002bc, 0, 10, .ro, .l⟩
/-- NRG_DIE_W0.HOTSPOT [31:16], RO, class L, 17 Table 17-11. -/
def R.NRG_DIE_W0_HOTSPOT : Fld := ⟨0x3000100, [16], 0x8000000002bc, 16, 16, .ro, .l⟩
/-- NRG_DIE_W0.MAX_HOTSPOT [47:32], RC, class L, 17 Table 17-11. -/
def R.NRG_DIE_W0_MAX_HOTSPOT : Fld := ⟨0x3000100, [16], 0x8000000002bc, 32, 16, .rc, .l⟩
/-- The register NRG_DIE_W0. -/
def R.NRG_DIE_W0 : Reg := ⟨"NRG_DIE_W0", 0x3000100, [(5, 16)], 0x8000000002bc,
  [R.NRG_DIE_W0_SETPOINT_MV, R.NRG_DIE_W0_HOTSPOT, R.NRG_DIE_W0_MAX_HOTSPOT]⟩
/-- NRG_DIE_W1.DROOPS [31:0], RC, class L, 17 Table 17-11. -/
def R.NRG_DIE_W1_DROOPS : Fld := ⟨0x3000108, [16], 0x0, 0, 32, .rc, .l⟩
/-- The register NRG_DIE_W1. -/
def R.NRG_DIE_W1 : Reg := ⟨"NRG_DIE_W1", 0x3000108, [(5, 16)], 0x0,
  [R.NRG_DIE_W1_DROOPS]⟩
/-- NRG_RAIL.MJ [63:0], RO, class L, 17 Table 17-12. -/
def R.NRG_RAIL_MJ : Fld := ⟨0x3000200, [8], 0x0, 0, 64, .ro, .l⟩
/-- The register NRG_RAIL. -/
def R.NRG_RAIL : Reg := ⟨"NRG_RAIL", 0x3000200, [(11, 8)], 0x0,
  [R.NRG_RAIL_MJ]⟩
/-- BSU_STATUS.STAGE [3:0], RO, class L, 18 Table 18-10. -/
def R.BSU_STATUS_STAGE : Fld := ⟨0x30000000, [], 0x1, 0, 4, .ro, .l⟩
/-- BSU_STATUS.READY [4:4], RO, class L, 18 Table 18-10. -/
def R.BSU_STATUS_READY : Fld := ⟨0x30000000, [], 0x1, 4, 1, .ro, .l⟩
/-- BSU_STATUS.START_FAIL [5:5], RO, class L, 18 Table 18-10. -/
def R.BSU_STATUS_START_FAIL : Fld := ⟨0x30000000, [], 0x1, 5, 1, .ro, .l⟩
/-- BSU_STATUS.RECOVERY [6:6], RO, class L, 18 Table 18-10. -/
def R.BSU_STATUS_RECOVERY : Fld := ⟨0x30000000, [], 0x1, 6, 1, .ro, .l⟩
/-- BSU_STATUS.DEBUG [7:7], RO, class L, 18 Table 18-10. -/
def R.BSU_STATUS_DEBUG : Fld := ⟨0x30000000, [], 0x1, 7, 1, .ro, .l⟩
/-- BSU_STATUS.TIME_LOCKED [8:8], RO, class L, 18 Table 18-10. -/
def R.BSU_STATUS_TIME_LOCKED : Fld := ⟨0x30000000, [], 0x1, 8, 1, .ro, .l⟩
/-- BSU_STATUS.FALLBACK [9:9], RO, class L, 18 Table 18-10. -/
def R.BSU_STATUS_FALLBACK : Fld := ⟨0x30000000, [], 0x1, 9, 1, .ro, .l⟩
/-- BSU_STATUS.LAST_CODE [31:16], RO, class L, 18 Table 18-10. -/
def R.BSU_STATUS_LAST_CODE : Fld := ⟨0x30000000, [], 0x1, 16, 16, .ro, .l⟩
/-- BSU_STATUS.READY_US [63:32], RO, class L, 18 Table 18-10. -/
def R.BSU_STATUS_READY_US : Fld := ⟨0x30000000, [], 0x1, 32, 32, .ro, .l⟩
/-- The register BSU_STATUS. -/
def R.BSU_STATUS : Reg := ⟨"BSU_STATUS", 0x30000000, [], 0x1,
  [R.BSU_STATUS_STAGE, R.BSU_STATUS_READY, R.BSU_STATUS_START_FAIL, R.BSU_STATUS_RECOVERY, R.BSU_STATUS_DEBUG, R.BSU_STATUS_TIME_LOCKED, R.BSU_STATUS_FALLBACK, R.BSU_STATUS_LAST_CODE, R.BSU_STATUS_READY_US]⟩
/-- BSU_DEVICE_ID.ID [63:0], RO, class L, 18 Table 18-10. -/
def R.BSU_DEVICE_ID_ID : Fld := ⟨0x30000008, [], 0x0, 0, 64, .ro, .l⟩
/-- The register BSU_DEVICE_ID. -/
def R.BSU_DEVICE_ID : Reg := ⟨"BSU_DEVICE_ID", 0x30000008, [], 0x0,
  [R.BSU_DEVICE_ID_ID]⟩
/-- BSU_KEYHASH.HASH [63:0], RO, class L, 18 Table 18-10. -/
def R.BSU_KEYHASH_HASH : Fld := ⟨0x30000010, [8], 0x0, 0, 64, .ro, .l⟩
/-- The register BSU_KEYHASH. -/
def R.BSU_KEYHASH : Reg := ⟨"BSU_KEYHASH", 0x30000010, [(4, 8)], 0x0,
  [R.BSU_KEYHASH_HASH]⟩
/-- BSU_ROM.ROM_VERSION [31:0], RO, class S, 18 Table 18-10. -/
def R.BSU_ROM_ROM_VERSION : Fld := ⟨0x30000030, [], 0x0, 0, 32, .ro, .s⟩
/-- BSU_ROM.FW_SLOT [32:32], RO, class L, 18 Table 18-10. -/
def R.BSU_ROM_FW_SLOT : Fld := ⟨0x30000030, [], 0x0, 32, 1, .ro, .l⟩
/-- BSU_ROM.WEAVE_SLOT [33:33], RO, class L, 18 Table 18-10. -/
def R.BSU_ROM_WEAVE_SLOT : Fld := ⟨0x30000030, [], 0x0, 33, 1, .ro, .l⟩
/-- The register BSU_ROM. -/
def R.BSU_ROM : Reg := ⟨"BSU_ROM", 0x30000030, [], 0x0,
  [R.BSU_ROM_ROM_VERSION, R.BSU_ROM_FW_SLOT, R.BSU_ROM_WEAVE_SLOT]⟩
/-- BSU_WEAVE_VER.VERSION [63:0], RO, class L, 18 Table 18-10. -/
def R.BSU_WEAVE_VER_VERSION : Fld := ⟨0x30000038, [], 0x0, 0, 64, .ro, .l⟩
/-- The register BSU_WEAVE_VER. -/
def R.BSU_WEAVE_VER : Reg := ⟨"BSU_WEAVE_VER", 0x30000038, [], 0x0,
  [R.BSU_WEAVE_VER_VERSION]⟩
/-- BSU_SVN.WEAVE_SVN [31:0], RO, class L, 18 Table 18-10. -/
def R.BSU_SVN_WEAVE_SVN : Fld := ⟨0x30000040, [], 0x0, 0, 32, .ro, .l⟩
/-- BSU_SVN.WEAVE_COUNTER [63:32], RO, class L, 18 Table 18-10. -/
def R.BSU_SVN_WEAVE_COUNTER : Fld := ⟨0x30000040, [], 0x0, 32, 32, .ro, .l⟩
/-- The register BSU_SVN. -/
def R.BSU_SVN : Reg := ⟨"BSU_SVN", 0x30000040, [], 0x0,
  [R.BSU_SVN_WEAVE_SVN, R.BSU_SVN_WEAVE_COUNTER]⟩
/-- BSU_BOOTS.COLD_BOOTS [31:0], RO, class L, 18 Table 18-10. -/
def R.BSU_BOOTS_COLD_BOOTS : Fld := ⟨0x30000048, [], 0x0, 0, 32, .ro, .l⟩
/-- BSU_BOOTS.REWEAVES [63:32], RO, class L, 18 Table 18-10. -/
def R.BSU_BOOTS_REWEAVES : Fld := ⟨0x30000048, [], 0x0, 32, 32, .ro, .l⟩
/-- The register BSU_BOOTS. -/
def R.BSU_BOOTS : Reg := ⟨"BSU_BOOTS", 0x30000048, [], 0x0,
  [R.BSU_BOOTS_COLD_BOOTS, R.BSU_BOOTS_REWEAVES]⟩
/-- BSU_REWEAVE_ADDR.ADDR [47:0], RW, class L, 18 Table 18-10. -/
def R.BSU_REWEAVE_ADDR_ADDR : Fld := ⟨0x30000050, [], 0x0, 0, 48, .rw, .l⟩
/-- The register BSU_REWEAVE_ADDR. -/
def R.BSU_REWEAVE_ADDR : Reg := ⟨"BSU_REWEAVE_ADDR", 0x30000050, [], 0x0,
  [R.BSU_REWEAVE_ADDR_ADDR]⟩
/-- BSU_REWEAVE_CTL.LENGTH [20:0], RW, class L, 18 Table 18-10. -/
def R.BSU_REWEAVE_CTL_LENGTH : Fld := ⟨0x30000058, [], 0x0, 0, 21, .rw, .l⟩
/-- BSU_REWEAVE_CTL.PERSIST [21:21], RW, class L, 18 Table 18-10. -/
def R.BSU_REWEAVE_CTL_PERSIST : Fld := ⟨0x30000058, [], 0x0, 21, 1, .rw, .l⟩
/-- BSU_REWEAVE_CTL.GO [63:63], WO, class L, 18 Table 18-10. -/
def R.BSU_REWEAVE_CTL_GO : Fld := ⟨0x30000058, [], 0x0, 63, 1, .wo, .l⟩
/-- The register BSU_REWEAVE_CTL. -/
def R.BSU_REWEAVE_CTL : Reg := ⟨"BSU_REWEAVE_CTL", 0x30000058, [], 0x0,
  [R.BSU_REWEAVE_CTL_LENGTH, R.BSU_REWEAVE_CTL_PERSIST, R.BSU_REWEAVE_CTL_GO]⟩
/-- BSU_REWEAVE_STATUS.STATE [2:0], RO, class L, 18 Table 18-10. -/
def R.BSU_REWEAVE_STATUS_STATE : Fld := ⟨0x30000060, [], 0x0, 0, 3, .ro, .l⟩
/-- BSU_REWEAVE_STATUS.ACK [3:3], W1C, class L, 18 Table 18-10. -/
def R.BSU_REWEAVE_STATUS_ACK : Fld := ⟨0x30000060, [], 0x0, 3, 1, .w1c, .l⟩
/-- BSU_REWEAVE_STATUS.STATUS [31:16], RO, class L, 18 Table 18-10. -/
def R.BSU_REWEAVE_STATUS_STATUS : Fld := ⟨0x30000060, [], 0x0, 16, 16, .ro, .l⟩
/-- BSU_REWEAVE_STATUS.LAST_MS [63:32], RO, class L, 18 Table 18-10. -/
def R.BSU_REWEAVE_STATUS_LAST_MS : Fld := ⟨0x30000060, [], 0x0, 32, 32, .ro, .l⟩
/-- The register BSU_REWEAVE_STATUS. -/
def R.BSU_REWEAVE_STATUS : Reg := ⟨"BSU_REWEAVE_STATUS", 0x30000060, [], 0x0,
  [R.BSU_REWEAVE_STATUS_STATE, R.BSU_REWEAVE_STATUS_ACK, R.BSU_REWEAVE_STATUS_STATUS, R.BSU_REWEAVE_STATUS_LAST_MS]⟩
/-- GLB_WEAVE.ROLE [0:0], RO, class S, 18 Table 18-11. -/
def R.GLB_WEAVE_ROLE : Fld := ⟨0x80, [], 0x0, 0, 1, .ro, .s⟩
/-- GLB_WEAVE.MEMBER [6:1], RO, class S, 18 Table 18-11. -/
def R.GLB_WEAVE_MEMBER : Fld := ⟨0x80, [], 0x0, 1, 6, .ro, .s⟩
/-- GLB_WEAVE.DEBUG [7:7], RO, class S, 18 Table 18-11. -/
def R.GLB_WEAVE_DEBUG : Fld := ⟨0x80, [], 0x0, 7, 1, .ro, .s⟩
/-- GLB_WEAVE.MAJOR [39:24], RO, class S, 18 Table 18-11. -/
def R.GLB_WEAVE_MAJOR : Fld := ⟨0x80, [], 0x0, 24, 16, .ro, .s⟩
/-- The register GLB_WEAVE. -/
def R.GLB_WEAVE : Reg := ⟨"GLB_WEAVE", 0x80, [], 0x0,
  [R.GLB_WEAVE_ROLE, R.GLB_WEAVE_MEMBER, R.GLB_WEAVE_DEBUG, R.GLB_WEAVE_MAJOR]⟩
/-- GLB_WEAVE_HASH.HASH [63:0], RO, class S, 18 Table 18-11. -/
def R.GLB_WEAVE_HASH_HASH : Fld := ⟨0x88, [8], 0x0, 0, 64, .ro, .s⟩
/-- The register GLB_WEAVE_HASH. -/
def R.GLB_WEAVE_HASH : Reg := ⟨"GLB_WEAVE_HASH", 0x88, [(4, 8)], 0x0,
  [R.GLB_WEAVE_HASH_HASH]⟩
/-- HRT_STATUS.RUNNING [15:0], RO, class L, 19 Table 19-5. -/
def R.HRT_STATUS_RUNNING : Fld := ⟨0xc000000, [], 0x0, 0, 16, .ro, .l⟩
/-- The register HRT_STATUS. -/
def R.HRT_STATUS : Reg := ⟨"HRT_STATUS", 0xc000000, [], 0x0,
  [R.HRT_STATUS_RUNNING]⟩
/-- HRT_START.LOADER_ADDR [47:0], RO, class S, 19 Table 19-5. -/
def R.HRT_START_LOADER_ADDR : Fld := ⟨0xc000008, [], 0x0, 0, 48, .ro, .s⟩
/-- HRT_START.HART_MASK [63:48], RO, class S, 19 Table 19-5. -/
def R.HRT_START_HART_MASK : Fld := ⟨0xc000008, [], 0x0, 48, 16, .ro, .s⟩
/-- The register HRT_START. -/
def R.HRT_START : Reg := ⟨"HRT_START", 0xc000008, [], 0x0,
  [R.HRT_START_LOADER_ADDR, R.HRT_START_HART_MASK]⟩
/-- HRT_ROUTE.VECTOR [10:0], RW, class L, 19 Table 19-5. -/
def R.HRT_ROUTE_VECTOR : Fld := ⟨0xc000040, [8], 0x0, 0, 11, .rw, .l⟩
/-- HRT_ROUTE.EN [11:11], RW, class L, 19 Table 19-5. -/
def R.HRT_ROUTE_EN : Fld := ⟨0xc000040, [8], 0x0, 11, 1, .rw, .l⟩
/-- The register HRT_ROUTE. -/
def R.HRT_ROUTE : Reg := ⟨"HRT_ROUTE", 0xc000040, [(8, 8)], 0x0,
  [R.HRT_ROUTE_VECTOR, R.HRT_ROUTE_EN]⟩
/-- HRT_FWD.FORWARD [0:0], RW, class L, 19 Table 19-5. -/
def R.HRT_FWD_FORWARD : Fld := ⟨0xc000080, [], 0x0, 0, 1, .rw, .l⟩
/-- HRT_FWD.VECTOR [11:1], RW, class L, 19 Table 19-5. -/
def R.HRT_FWD_VECTOR : Fld := ⟨0xc000080, [], 0x0, 1, 11, .rw, .l⟩
/-- The register HRT_FWD. -/
def R.HRT_FWD : Reg := ⟨"HRT_FWD", 0xc000080, [], 0x0,
  [R.HRT_FWD_FORWARD, R.HRT_FWD_VECTOR]⟩
/-- HRT_PENDING.SOURCES [9:0], W1C, class L, 19 Table 19-5. -/
def R.HRT_PENDING_SOURCES : Fld := ⟨0xc000088, [], 0x0, 0, 10, .w1c, .l⟩
/-- The register HRT_PENDING. -/
def R.HRT_PENDING : Reg := ⟨"HRT_PENDING", 0xc000088, [], 0x0,
  [R.HRT_PENDING_SOURCES]⟩
/-- TIM_NOW.NS [63:0], RO, class L, 19 Table 19-6. -/
def R.TIM_NOW_NS : Fld := ⟨0x2000000, [], 0x0, 0, 64, .ro, .l⟩
/-- The register TIM_NOW. -/
def R.TIM_NOW : Reg := ⟨"TIM_NOW", 0x2000000, [], 0x0,
  [R.TIM_NOW_NS]⟩
/-- TIM_FRAC.FRAC [15:0], RO, class L, 19 Table 19-6. -/
def R.TIM_FRAC_FRAC : Fld := ⟨0x2000008, [], 0x0, 0, 16, .ro, .l⟩
/-- The register TIM_FRAC. -/
def R.TIM_FRAC : Reg := ⟨"TIM_FRAC", 0x2000008, [], 0x0,
  [R.TIM_FRAC_FRAC]⟩
/-- TIM_CFG.PRIMARY [1:0], RO, class S, 19 Table 19-6. -/
def R.TIM_CFG_PRIMARY : Fld := ⟨0x2000010, [], 0x0, 0, 2, .ro, .s⟩
/-- TIM_CFG.BACKUP [3:2], RO, class S, 19 Table 19-6. -/
def R.TIM_CFG_BACKUP : Fld := ⟨0x2000010, [], 0x0, 2, 2, .ro, .s⟩
/-- TIM_CFG.PTP_DOMAIN [11:4], RO, class S, 19 Table 19-6. -/
def R.TIM_CFG_PTP_DOMAIN : Fld := ⟨0x2000010, [], 0x0, 4, 8, .ro, .s⟩
/-- TIM_CFG.LOCK_NS [31:16], RO, class S, 19 Table 19-6. -/
def R.TIM_CFG_LOCK_NS : Fld := ⟨0x2000010, [], 0x0, 16, 16, .ro, .s⟩
/-- The register TIM_CFG. -/
def R.TIM_CFG : Reg := ⟨"TIM_CFG", 0x2000010, [], 0x0,
  [R.TIM_CFG_PRIMARY, R.TIM_CFG_BACKUP, R.TIM_CFG_PTP_DOMAIN, R.TIM_CFG_LOCK_NS]⟩
/-- TIM_STATUS.ACTIVE [1:0], RO, class L, 19 Table 19-6. -/
def R.TIM_STATUS_ACTIVE : Fld := ⟨0x2000018, [], 0x0, 0, 2, .ro, .l⟩
/-- TIM_STATUS.LOCKED [2:2], RO, class L, 19 Table 19-6. -/
def R.TIM_STATUS_LOCKED : Fld := ⟨0x2000018, [], 0x0, 2, 1, .ro, .l⟩
/-- TIM_STATUS.HOLDOVER [3:3], RO, class L, 19 Table 19-6. -/
def R.TIM_STATUS_HOLDOVER : Fld := ⟨0x2000018, [], 0x0, 3, 1, .ro, .l⟩
/-- TIM_STATUS.PORT [7:4], RO, class L, 19 Table 19-6. -/
def R.TIM_STATUS_PORT : Fld := ⟨0x2000018, [], 0x0, 4, 4, .ro, .l⟩
/-- TIM_STATUS.OFFSET [63:32], RO, class L, 19 Table 19-6. -/
def R.TIM_STATUS_OFFSET : Fld := ⟨0x2000018, [], 0x0, 32, 32, .ro, .l⟩
/-- The register TIM_STATUS. -/
def R.TIM_STATUS : Reg := ⟨"TIM_STATUS", 0x2000018, [], 0x0,
  [R.TIM_STATUS_ACTIVE, R.TIM_STATUS_LOCKED, R.TIM_STATUS_HOLDOVER, R.TIM_STATUS_PORT, R.TIM_STATUS_OFFSET]⟩
/-- TIM_RATE.PPB [31:0], RO, class L, 19 Table 19-6. -/
def R.TIM_RATE_PPB : Fld := ⟨0x2000020, [], 0x0, 0, 32, .ro, .l⟩
/-- The register TIM_RATE. -/
def R.TIM_RATE : Reg := ⟨"TIM_RATE", 0x2000020, [], 0x0,
  [R.TIM_RATE_PPB]⟩
/-- TIM_PPS_CTL.OUT_EN [0:0], RW, class L, 19 Table 19-6. -/
def R.TIM_PPS_CTL_OUT_EN : Fld := ⟨0x2000028, [], 0x30d40, 0, 1, .rw, .l⟩
/-- TIM_PPS_CTL.WIDTH_US [19:1], RW, class L, 19 Table 19-6. -/
def R.TIM_PPS_CTL_WIDTH_US : Fld := ⟨0x2000028, [], 0x30d40, 1, 19, .rw, .l⟩
/-- The register TIM_PPS_CTL. -/
def R.TIM_PPS_CTL : Reg := ⟨"TIM_PPS_CTL", 0x2000028, [], 0x30d40,
  [R.TIM_PPS_CTL_OUT_EN, R.TIM_PPS_CTL_WIDTH_US]⟩
/-- TIM_PPS_IN.NS [63:0], RO, class L, 19 Table 19-6. -/
def R.TIM_PPS_IN_NS : Fld := ⟨0x2000030, [], 0x0, 0, 64, .ro, .l⟩
/-- The register TIM_PPS_IN. -/
def R.TIM_PPS_IN : Reg := ⟨"TIM_PPS_IN", 0x2000030, [], 0x0,
  [R.TIM_PPS_IN_NS]⟩
/-- TIM_COUNTS.SAMPLES [31:0], RO, class L, 19 Table 19-6. -/
def R.TIM_COUNTS_SAMPLES : Fld := ⟨0x2000038, [], 0x0, 0, 32, .ro, .l⟩
/-- TIM_COUNTS.UNLOCKS [47:32], RC, class L, 19 Table 19-6. -/
def R.TIM_COUNTS_UNLOCKS : Fld := ⟨0x2000038, [], 0x0, 32, 16, .rc, .l⟩
/-- TIM_COUNTS.SWITCHES [63:48], RC, class L, 19 Table 19-6. -/
def R.TIM_COUNTS_SWITCHES : Fld := ⟨0x2000038, [], 0x0, 48, 16, .rc, .l⟩
/-- The register TIM_COUNTS. -/
def R.TIM_COUNTS : Reg := ⟨"TIM_COUNTS", 0x2000038, [], 0x0,
  [R.TIM_COUNTS_SAMPLES, R.TIM_COUNTS_UNLOCKS, R.TIM_COUNTS_SWITCHES]⟩
/-- TIM_ELAPSED.NS [63:0], RO, class L, 19 Table 19-6. -/
def R.TIM_ELAPSED_NS : Fld := ⟨0x2000040, [], 0x0, 0, 64, .ro, .l⟩
/-- The register TIM_ELAPSED. -/
def R.TIM_ELAPSED : Reg := ⟨"TIM_ELAPSED", 0x2000040, [], 0x0,
  [R.TIM_ELAPSED_NS]⟩
/-- MGT_CTL.ENABLE [0:0], RW, class L, 19 Table 19-7. -/
def R.MGT_CTL_ENABLE : Fld := ⟨0x24000000, [], 0x1, 0, 1, .rw, .l⟩
/-- MGT_CTL.MBX_EN [8:1], RW, class Q, 19 Table 19-7. -/
def R.MGT_CTL_MBX_EN : Fld := ⟨0x24000000, [], 0x1, 1, 8, .rw, .q⟩
/-- The register MGT_CTL. -/
def R.MGT_CTL : Reg := ⟨"MGT_CTL", 0x24000000, [], 0x1,
  [R.MGT_CTL_ENABLE, R.MGT_CTL_MBX_EN]⟩
/-- MGT_CFG.RS_FEC [0:0], RO, class S, 19 Table 19-7. -/
def R.MGT_CFG_RS_FEC : Fld := ⟨0x24000008, [], 0x0, 0, 1, .ro, .s⟩
/-- The register MGT_CFG. -/
def R.MGT_CFG : Reg := ⟨"MGT_CFG", 0x24000008, [], 0x0,
  [R.MGT_CFG_RS_FEC]⟩
/-- MGT_MAC.MAC [47:0], RW, class Q, 19 Table 19-7. -/
def R.MGT_MAC_MAC : Fld := ⟨0x24000010, [], 0x0, 0, 48, .rw, .q⟩
/-- The register MGT_MAC. -/
def R.MGT_MAC : Reg := ⟨"MGT_MAC", 0x24000010, [], 0x0,
  [R.MGT_MAC_MAC]⟩
/-- MGT_STATUS.LINK_UP [0:0], RO, class L, 19 Table 19-7. -/
def R.MGT_STATUS_LINK_UP : Fld := ⟨0x24000018, [], 0x0, 0, 1, .ro, .l⟩
/-- MGT_STATUS.LAST_STATUS [31:16], RO, class L, 19 Table 19-7. -/
def R.MGT_STATUS_LAST_STATUS : Fld := ⟨0x24000018, [], 0x0, 16, 16, .ro, .l⟩
/-- The register MGT_STATUS. -/
def R.MGT_STATUS : Reg := ⟨"MGT_STATUS", 0x24000018, [], 0x0,
  [R.MGT_STATUS_LINK_UP, R.MGT_STATUS_LAST_STATUS]⟩
/-- MGT_PEER.PEER [47:0], RW, class Q, 19 Table 19-7. -/
def R.MGT_PEER_PEER : Fld := ⟨0x24000020, [], 0x0, 0, 48, .rw, .q⟩
/-- The register MGT_PEER. -/
def R.MGT_PEER : Reg := ⟨"MGT_PEER", 0x24000020, [], 0x0,
  [R.MGT_PEER_PEER]⟩
/-- MGT_COUNTS.RX_GOOD [31:0], RC, class L, 19 Table 19-7. -/
def R.MGT_COUNTS_RX_GOOD : Fld := ⟨0x24000028, [], 0x0, 0, 32, .rc, .l⟩
/-- MGT_COUNTS.DROPPED [47:32], RC, class L, 19 Table 19-7. -/
def R.MGT_COUNTS_DROPPED : Fld := ⟨0x24000028, [], 0x0, 32, 16, .rc, .l⟩
/-- MGT_COUNTS.FCS_ERR [63:48], RC, class L, 19 Table 19-7. -/
def R.MGT_COUNTS_FCS_ERR : Fld := ⟨0x24000028, [], 0x0, 48, 16, .rc, .l⟩
/-- The register MGT_COUNTS. -/
def R.MGT_COUNTS : Reg := ⟨"MGT_COUNTS", 0x24000028, [], 0x0,
  [R.MGT_COUNTS_RX_GOOD, R.MGT_COUNTS_DROPPED, R.MGT_COUNTS_FCS_ERR]⟩
/-- PCI_STATUS.LINK_UP [0:0], RO, class L, 19 Table 19-8. -/
def R.PCI_STATUS_LINK_UP : Fld := ⟨0x23000000, [], 0x0, 0, 1, .ro, .l⟩
/-- PCI_STATUS.SPEED [3:1], RO, class L, 19 Table 19-8. -/
def R.PCI_STATUS_SPEED : Fld := ⟨0x23000000, [], 0x0, 1, 3, .ro, .l⟩
/-- PCI_STATUS.WIDTH [8:4], RO, class L, 19 Table 19-8. -/
def R.PCI_STATUS_WIDTH : Fld := ⟨0x23000000, [], 0x0, 4, 5, .ro, .l⟩
/-- PCI_STATUS.FLIT [9:9], RO, class L, 19 Table 19-8. -/
def R.PCI_STATUS_FLIT : Fld := ⟨0x23000000, [], 0x0, 9, 1, .ro, .l⟩
/-- PCI_STATUS.LAST_STATUS [31:16], RO, class L, 19 Table 19-8. -/
def R.PCI_STATUS_LAST_STATUS : Fld := ⟨0x23000000, [], 0x0, 16, 16, .ro, .l⟩
/-- The register PCI_STATUS. -/
def R.PCI_STATUS : Reg := ⟨"PCI_STATUS", 0x23000000, [], 0x0,
  [R.PCI_STATUS_LINK_UP, R.PCI_STATUS_SPEED, R.PCI_STATUS_WIDTH, R.PCI_STATUS_FLIT, R.PCI_STATUS_LAST_STATUS]⟩
/-- PCI_CTL.PERST [0:0], RW, class L, 19 Table 19-8. -/
def R.PCI_CTL_PERST : Fld := ⟨0x23000008, [], 0x1, 0, 1, .rw, .l⟩
/-- PCI_CTL.RETRAIN [1:1], WO, class L, 19 Table 19-8. -/
def R.PCI_CTL_RETRAIN : Fld := ⟨0x23000008, [], 0x1, 1, 1, .wo, .l⟩
/-- The register PCI_CTL. -/
def R.PCI_CTL : Reg := ⟨"PCI_CTL", 0x23000008, [], 0x1,
  [R.PCI_CTL_PERST, R.PCI_CTL_RETRAIN]⟩
/-- PCI_OB.BUS_BASE [63:0], RW, class Q, 19 Table 19-8. -/
def R.PCI_OB_BUS_BASE : Fld := ⟨0x23000010, [], 0x0, 0, 64, .rw, .q⟩
/-- The register PCI_OB. -/
def R.PCI_OB : Reg := ⟨"PCI_OB", 0x23000010, [], 0x0,
  [R.PCI_OB_BUS_BASE]⟩
/-- PCI_MSI.BUS_BASE [63:0], RW, class Q, 19 Table 19-8. -/
def R.PCI_MSI_BUS_BASE : Fld := ⟨0x23000018, [], 0x0, 0, 64, .rw, .q⟩
/-- The register PCI_MSI. -/
def R.PCI_MSI : Reg := ⟨"PCI_MSI", 0x23000018, [], 0x0,
  [R.PCI_MSI_BUS_BASE]⟩
/-- PCI_CFG_ADDR.BUS [7:0], RW, class L, 19 Table 19-8. -/
def R.PCI_CFG_ADDR_BUS : Fld := ⟨0x23000020, [], 0xf0000000, 0, 8, .rw, .l⟩
/-- PCI_CFG_ADDR.DEV [12:8], RW, class L, 19 Table 19-8. -/
def R.PCI_CFG_ADDR_DEV : Fld := ⟨0x23000020, [], 0xf0000000, 8, 5, .rw, .l⟩
/-- PCI_CFG_ADDR.FN [15:13], RW, class L, 19 Table 19-8. -/
def R.PCI_CFG_ADDR_FN : Fld := ⟨0x23000020, [], 0xf0000000, 13, 3, .rw, .l⟩
/-- PCI_CFG_ADDR.REG [27:16], RW, class L, 19 Table 19-8. -/
def R.PCI_CFG_ADDR_REG : Fld := ⟨0x23000020, [], 0xf0000000, 16, 12, .rw, .l⟩
/-- PCI_CFG_ADDR.BE [31:28], RW, class L, 19 Table 19-8. -/
def R.PCI_CFG_ADDR_BE : Fld := ⟨0x23000020, [], 0xf0000000, 28, 4, .rw, .l⟩
/-- PCI_CFG_ADDR.WRITE [32:32], RW, class L, 19 Table 19-8. -/
def R.PCI_CFG_ADDR_WRITE : Fld := ⟨0x23000020, [], 0xf0000000, 32, 1, .rw, .l⟩
/-- PCI_CFG_ADDR.GO [63:63], WO, class L, 19 Table 19-8. -/
def R.PCI_CFG_ADDR_GO : Fld := ⟨0x23000020, [], 0xf0000000, 63, 1, .wo, .l⟩
/-- The register PCI_CFG_ADDR. -/
def R.PCI_CFG_ADDR : Reg := ⟨"PCI_CFG_ADDR", 0x23000020, [], 0xf0000000,
  [R.PCI_CFG_ADDR_BUS, R.PCI_CFG_ADDR_DEV, R.PCI_CFG_ADDR_FN, R.PCI_CFG_ADDR_REG, R.PCI_CFG_ADDR_BE, R.PCI_CFG_ADDR_WRITE, R.PCI_CFG_ADDR_GO]⟩
/-- PCI_CFG_DATA.DATA [31:0], RW, class L, 19 Table 19-8. -/
def R.PCI_CFG_DATA_DATA : Fld := ⟨0x23000028, [], 0x0, 0, 32, .rw, .l⟩
/-- PCI_CFG_DATA.DONE [32:32], RO, class L, 19 Table 19-8. -/
def R.PCI_CFG_DATA_DONE : Fld := ⟨0x23000028, [], 0x0, 32, 1, .ro, .l⟩
/-- PCI_CFG_DATA.UR [33:33], RO, class L, 19 Table 19-8. -/
def R.PCI_CFG_DATA_UR : Fld := ⟨0x23000028, [], 0x0, 33, 1, .ro, .l⟩
/-- The register PCI_CFG_DATA. -/
def R.PCI_CFG_DATA : Reg := ⟨"PCI_CFG_DATA", 0x23000028, [], 0x0,
  [R.PCI_CFG_DATA_DATA, R.PCI_CFG_DATA_DONE, R.PCI_CFG_DATA_UR]⟩
/-- GLB_CAMP.SIZE [6:0], RO, class S, 19 Table 19-9. -/
def R.GLB_CAMP_SIZE : Fld := ⟨0xa8, [], 0x0, 0, 7, .ro, .s⟩
/-- The register GLB_CAMP. -/
def R.GLB_CAMP : Reg := ⟨"GLB_CAMP", 0xa8, [], 0x0,
  [R.GLB_CAMP_SIZE]⟩
/-- GLB_CAMP_MASK.MASK [63:0], RO, class S, 19 Table 19-9. -/
def R.GLB_CAMP_MASK_MASK : Fld := ⟨0xb0, [], 0x0, 0, 64, .ro, .s⟩
/-- The register GLB_CAMP_MASK. -/
def R.GLB_CAMP_MASK : Reg := ⟨"GLB_CAMP_MASK", 0xb0, [], 0x0,
  [R.GLB_CAMP_MASK_MASK]⟩

/-- The registers defined in chapter 00. -/
def regs00 : List Reg := [R.GLB_CAPS]
/-- The registers defined in chapter 02. -/
def regs02 : List Reg := [R.GLB_PACE_CD, R.GLB_PACE_HUB]
/-- The registers defined in chapter 03. -/
def regs03 : List Reg := [R.TIL_ID, R.TIL_STATUS, R.TIL_GROUPS, R.GLB_TILE_SUMMARY, R.TIL_ARB_WEIGHT, R.TIL_RTR_STAT, R.EPO_CTL, R.EPO_STATUS, R.EPO_CUR, R.EPO_DRAIN, R.EPO_TIMES]
/-- The registers defined in chapter 04. -/
def regs04 : List Reg := [R.TIL_NUM_CTL, R.TIL_SR_SEED]
/-- The registers defined in chapter 06. -/
def regs06 : List Reg := [R.TIL_MAT_STATUS, R.TIL_MAT_CTL, R.TIL_MAT_STEPS, R.TIL_MAT_STALL, R.TIL_MAT_EXC]
/-- The registers defined in chapter 07. -/
def regs07 : List Reg := [R.TIL_REED_STATUS, R.TIL_REED_TRAP, R.TIL_REED_TVAL, R.TIL_REED_STEPS, R.TIL_REED_SUMM]
/-- The registers defined in chapter 08. -/
def regs08 : List Reg := [R.TIL_PLAIT_STATUS, R.TIL_PLAIT_STALL]
/-- The registers defined in chapter 09. -/
def regs09 : List Reg := [R.TRN_CTL, R.TRN_STATUS, R.TRN_STEP, R.TRN_COUNT, R.TRN_SNAP, R.TRN_LMT_CFG, R.TRN_LMT_BASE, R.TRN_ALARM, R.TRN_ALARM_MAP, R.TRN_GATE_W0, R.TRN_GATE_W1, R.TRN_LAYER, R.TRN_LMT_THR, R.TRN_LMT_LAST_D, R.TRN_LMT_LAST_W]
/-- The registers defined in chapter 10. -/
def regs10 : List Reg := [R.STK_MAP, R.STK_CHMAP, R.STK_STATUS, R.STK_TRAFFIC, R.SCA_NARROW, R.SCA_CFG, R.SCA_STAT, R.SCA_REGION_W0, R.SCA_REGION_W1, R.RIM_MAP, R.RIM_STATUS]
/-- The registers defined in chapter 11. -/
def regs11 : List Reg := [R.ERL_CTL, R.ERL_STATUS, R.ERL_HEAD, R.ERL_TAIL, R.ERL_MIRROR, R.ERL_SCRUB, R.ERL_SCRUB_CNT, R.ERL_THRESH, R.ERL_COUNTS, R.ERL_RETIRE, R.ERL_RETIRE_STATUS, R.ERL_INJECT, R.ERL_RAS_COUNT, R.ERL_LANE, R.ERL_PAGE, R.ERL_BANK, R.ERL_ENTRY]
/-- The registers defined in chapter 12. -/
def regs12 : List Reg := [R.NLK_CTL, R.NLK_STATUS, R.NLK_CFG, R.NLK_POOL_LO, R.NLK_POOL_HI, R.NLK_FEC, R.NLK_RETRY, R.NLK_HB, R.NLK_TIME, R.NLK_TIME_ADJ, R.NLK_FLITS, R.NLK_RECOVERED, R.NLK_LEDGER, R.NLK_NODE, R.NLK_ROUTE_DROP, R.NLK_MEMBER, R.NLK_ROUTE]
/-- The registers defined in chapter 13. -/
def regs13 : List Reg := [R.COL_CTL, R.COL_CFG, R.COL_SR_SEED, R.COL_STATUS, R.COL_COUNTS, R.COL_ABORT_LAST0, R.COL_ABORT_LAST1, R.COL_GROUP_W0, R.COL_GROUP_W1, R.COL_GROUP_W2, R.COL_GROUP_W3, R.COL_SLOW_W0, R.COL_SLOW_W1]
/-- The registers defined in chapter 14. -/
def regs14 : List Reg := [R.COL_SLOT_LEDGER, R.COL_EXCH_COUNTS, R.COL_SLOT_FREE, R.COL_SLOT_W0, R.COL_SLOT_W1]
/-- The registers defined in chapter 15. -/
def regs15 : List Reg := [R.WQS_W0, R.WQS_W1, R.WQS_W2, R.WQS_W3, R.WQS_W4, R.WQS_W5, R.WQS_W6, R.WQS_W7, R.EVC, R.EVC_ADD, R.QMC_STATUS, R.QMC_CTX_W0, R.QMC_CTX_W1, R.QMC_MBX_W0, R.QMC_MBX_W1, R.QMC_MBX_W2, R.QMC_MBX_W3, R.QMC_LEDGER_DIE, R.QMC_LEDGER_CQE, R.QMC_LEDGER_SIG]
/-- The registers defined in chapter 16. -/
def regs16 : List Reg := [R.FWP_STATUS, R.FWP_WDOG, R.FWP_CRASH, R.FWP_CRASH_TIME, R.FWP_VERSION, R.FWP_CTL, R.FWP_UPDATE, R.FWP_STAGED_VER, R.FWP_SVN, R.FWP_STABLE]
/-- The registers defined in chapter 17. -/
def regs17 : List Reg := [R.NRG_BUDGET, R.NRG_ENV_WEAVE, R.NRG_ENVELOPE, R.NRG_POOL, R.NRG_WINDOW, R.NRG_LEDGER_ISSUED, R.NRG_LEDGER_BASE, R.NRG_LEDGER_DEBITED, R.NRG_LEDGER_DRAWN, R.NRG_LEDGER_RETURNED, R.NRG_LEDGER_LAPSED, R.NRG_HOLD, R.NRG_THR, R.NRG_COEF, R.NRG_DIE_W0, R.NRG_DIE_W1, R.NRG_RAIL]
/-- The registers defined in chapter 18. -/
def regs18 : List Reg := [R.BSU_STATUS, R.BSU_DEVICE_ID, R.BSU_KEYHASH, R.BSU_ROM, R.BSU_WEAVE_VER, R.BSU_SVN, R.BSU_BOOTS, R.BSU_REWEAVE_ADDR, R.BSU_REWEAVE_CTL, R.BSU_REWEAVE_STATUS, R.GLB_WEAVE, R.GLB_WEAVE_HASH]
/-- The registers defined in chapter 19. -/
def regs19 : List Reg := [R.HRT_STATUS, R.HRT_START, R.HRT_ROUTE, R.HRT_FWD, R.HRT_PENDING, R.TIM_NOW, R.TIM_FRAC, R.TIM_CFG, R.TIM_STATUS, R.TIM_RATE, R.TIM_PPS_CTL, R.TIM_PPS_IN, R.TIM_COUNTS, R.TIM_ELAPSED, R.MGT_CTL, R.MGT_CFG, R.MGT_MAC, R.MGT_STATUS, R.MGT_PEER, R.MGT_COUNTS, R.PCI_STATUS, R.PCI_CTL, R.PCI_OB, R.PCI_MSI, R.PCI_CFG_ADDR, R.PCI_CFG_DATA, R.GLB_CAMP, R.GLB_CAMP_MASK]

/-- Every register of Table 20-2 with a field map. -/
def allRegs : List Reg := regs00 ++ regs02 ++ regs03 ++ regs04 ++ regs06 ++ regs07 ++ regs08 ++ regs09 ++ regs10 ++ regs11 ++ regs12 ++ regs13 ++ regs14 ++ regs15 ++ regs16 ++ regs17 ++ regs18 ++ regs19

/-- The register, and the instance, at a register-space offset. -/
def regAt? (off : Nat) : List Reg → Option (Reg × List Nat)
  | [] => none
  | r :: t => if off < r.base then regAt? off t else
    match unDims r.dims (off - r.base) with
    | some ix => some (r, ix)
    | none => regAt? off t

/-- The register, and the instance, at a register-space offset (Table 20-2). -/
def regAt (off : Nat) : Option (Reg × List Nat) := regAt? off allRegs

end Sys2Proof.Machine
end

