-- ==== Sys2Proof/Machine/Types2.lean ====
section
/-! DEFINITION. The parts of the state that belong to work items: items, gate groups, energy, rails, epochs, firmware processors. -/

namespace Sys2Proof.Machine
open Sys2Proof

/-- A work descriptor, 128 bytes, little-endian (R413). -/
abbrev Desc := BitVec 1024

/-- Where an item in flight stands. -/
inductive Phase where
  /-- Dispatched, waiting for its cores or its slot (R175, R160). -/
  | waiting
  /-- Running. -/
  | running
  /-- To be run again from its descriptor copy after a ladder step (R241). -/
  | reissued
  /-- Ended; its record is withheld by an open gate group (R238). -/
  | withheld
  deriving DecidableEq, Repr

/-- A work item in flight (R409 to R412). -/
structure Item where
  queue : Nat
  desc : Desc
  /-- Address the descriptor was read at. -/
  place : Nat
  epoch : Nat
  die : Nat
  phase : Phase
  status : Nat
  flags : Nat
  flush : Nat
  exc : Nat
  classWord : Nat
  frozenSkip : Bool
  /-- The registers with G fields as they stood when the item was dispatched: the bank of its epoch (R67, R70, R71). -/
  cfg : FMap Word
  debited : Nat
  /-- Energy reported for the present run. -/
  measured : Nat
  /-- Energy attributed to the item in the windows of the present run that have ended (R462). -/
  metered : Nat
  /-- Admitted and debited in the present run; an item that completes at dispatch is not (R467). -/
  admitted : Bool
  gate : Option Nat
  /-- Ladder rungs of the output and of the LADDER_SRC operand at the present dispatch (R243). -/
  rung : Nat
  srcRung : Nat
  /-- An output conversion raised OVERFLOW in this run (R239). -/
  overflow : Bool
  /-- BLOCK_EVC increments withheld by the gate (R238). -/
  evc : List Nat
  /-- Output blocks written in this run: max-abs value, poison at bit 32, invalid record from bit 33. -/
  blocks : FMap Nat
  /-- BLOCK_EVC increments released so far in this run, counted or withheld (R386). -/
  evcOut : Nat
  /-- The auxiliary block of a MATRIX item as the engine read it at the start of the run (R144); none while it has still to be fetched. -/
  aux : Option Nat
  /-- Bound landing slots (group × 32 + slot), and the piece the item waits on: twice its number, plus 1 for operand B (R157, R158). -/
  bound : List Nat
  waitPiece : Option Nat
  lbWaited : Bool
  /-- Instances not yet exited, ORed exit flags and codes of a launch (R176, R180). -/
  live : List Nat
  exits : Nat
  /-- Lines of other members read for it (R511), and remote requests without an answer. -/
  remote : FMap (List Byte × Nat)
  pendingRemote : Nat
  /-- Elapsed count at the start of the run. -/
  t0 : Nat
  deriving DecidableEq, Repr

/-- An open gate group (R236). -/
structure Gate where
  layer : Nat
  slice : Nat
  step : Nat
  queue : Nat
  items : List Nat
  lastSeen : Bool
  epoch : Nat
  deriving DecidableEq, Repr

/-- The energy account beside its registers (17). -/
structure Energy where
  general : Int
  reserve : Nat
  /-- Energy attributed to items in the present window. -/
  attributed : Nat
  /-- Debits of each context in the present window (R474). -/
  ctxDebits : FMap Nat
  /-- Held head's queue by die (R471). -/
  held : FMap Nat
  debtLogged : Bool
  /-- General tokens issued for the present window. -/
  issuedGeneral : Nat
  /-- Consecutive windows above the envelope (Table 17-3). -/
  above : Nat
  deriving DecidableEq, Repr

/-- One core rail (17, R478): FW1's setpoint, throttle stage, ceilings, droop. -/
structure Rail where
  fw1 : Nat
  stage : Nat
  /-- Ceiling left by a cap that has ended, raised by RAIL_RAMP_STEP. -/
  ramp : Option Nat
  /-- The input-current throttle's cap (Table 17-3). -/
  icl : Option Nat
  /-- Matrix admission held by a droop (R44). -/
  droop : Bool
  deriving DecidableEq, Repr

/-- The epoch engine beside its registers (R73 to R77). -/
structure EpochSt where
  acked : List Nat
  /-- Elapsed count at PREPARE. -/
  t0 : Nat
  /-- EPOCH items that wait for the outcome. -/
  items : List Nat
  deriving DecidableEq, Repr

/-- A firmware processor beside its registers (15, 16). -/
structure FwProc where
  /-- Elapsed times of crashes that count toward R448, newest first. -/
  crashes : List Nat
  /-- A reply held for want of an OUT slot (R442). -/
  heldReply : Option (List Byte)
  /-- Waiting events by TYPE. -/
  events : FMap (List Byte)
  /-- The firmware's own event count. -/
  seq : Nat
  /-- Cause of the restart in progress. -/
  cause : Nat
  /-- The watchdog's count restarted at this elapsed count. -/
  kicked : Nat
  deriving DecidableEq, Repr

/-- The firmware update in progress (16). -/
structure Update where
  /-- The image being staged and the request it answers. -/
  staging : Option FwImage
  /-- Elapsed count at the end of the last emergency, none while one is in force. -/
  stableFrom : Option Nat
  /-- A trip has occurred since the last cold boot or re-weave (R454). -/
  tripped : Bool
  /-- Processors an activation has still to restart, the one restarting first (Table 16-7). -/
  chain : List Nat
  deriving DecidableEq, Repr

/-- A request of a unit that waits in an arbiter (R57 to R62). -/
structure Waiting where
  age : Nat
  tile : Nat
  /-- Its source at the tile's injection arbiter: a core 0 to 7, the DMA 9 (Table 3-9). -/
  src : Nat
  stale : Bool
  deriving DecidableEq, Repr

/-- The layer monitor and other marks a step commit uses (R247 to R250). -/
structure Train where
  /-- Layers touched by OPTSTEP items of the present step: step by layer. -/
  touched : FMap Nat
  /-- The step for which each layer is frozen (R234), by layer. -/
  frozenStep : FMap Unit
  /-- CLEAR_EVAL_RUNGS staged for the next work-item boundary. -/
  clearEval : Bool
  deriving DecidableEq, Repr

end Sys2Proof.Machine
end

