-- ==== Sys2Proof/Machine/Types3.lean ====
section
/-! DEFINITION. The parts of the state that belong to reed cores, plaits and collectives. -/

namespace Sys2Proof.Machine
open Sys2Proof

/-- What a blocked reed core waits for (R199, R206). -/
inductive Blocked where
  | no
  /-- PLSEND of an entry: register bits and granule poison. -/
  | send (v vp : Nat)
  /-- PLRECV into v[vd]. -/
  | recv (vd : Nat)
  /-- VSUMM of a value with its poison. -/
  | summ (v : Nat) (p : Bool)
  /-- SUMMRD of a slot into rd, with the poison of its selector. -/
  | summrd (rd slot : Nat) (p : Bool)
  /-- SUMMOR of a mask into rd, with the poison of its selector. -/
  | summor (rd mask : Nat) (p : Bool)
  deriving DecidableEq, Repr

/-- One reed core (07). Registers at 0, and cleared poison, are not listed. -/
structure Reed where
  /-- The launch or plait item it runs; none: idle, or its instance has exited. -/
  item : Option Nat
  inst : Nat
  count : Nat
  pc : Nat
  /-- x1 to x31 and their poison. -/
  x : FMap Nat
  xp : FMap Unit
  /-- v0 to v31: 512-bit values, and poison of the eight granules. -/
  v : FMap Nat
  vp : FMap Nat
  /-- p1 to p7 and their poison. -/
  p : FMap Nat
  pp : FMap Unit
  vl : Nat
  fcsr : Nat
  vflags : Nat
  vrm : Nat
  vfxrm : Nat
  vtid : Nat
  vstep : Nat
  vsrbase : Nat
  vflush : Nat
  /-- Issue steps: the cycle and instret CSRs (R169). -/
  steps : Nat
  blocked : Blocked
  /-- Lines of the data cache, newest first: line address, data, poison (R171). -/
  dcache : List (Nat × List Byte × Nat)
  /-- The trap the reed monitor took last on this core. -/
  mepc : Nat
  mcause : Nat
  mtval : Nat
  deriving DecidableEq, Repr

/-- A group of the hardware group table (R350). -/
structure Group where
  record : Nat
  vc : Nat
  weight : Nat
  n : Nat
  rank : Nat
  grace : Bool
  slowEn : Bool
  /-- T in µs. -/
  timeout : Nat
  members : List Nat
  slowcnt : Nat
  lbBase : Nat
  slotSize : Nat
  hash : Nat
  deriving DecidableEq, Repr

/-- What a step in flight waits for before it runs. -/
inductive ColWait where
  | run
  /-- Its group is not defined while FW6 restarts (R379). -/
  | fw6
  /-- Its group has been defined since; its VC or its slot is not free (R353, R379). -/
  | vc
  /-- Lines of other members that it reads (R511). -/
  | lines
  /-- All its rounds are over; writes to other members are not acknowledged (R342). -/
  | writes
  deriving DecidableEq, Repr

/-- Data of one chunk as it travels: bytes and the poison of each 64-byte line. -/
structure Chunk where
  bytes : List Byte
  poison : Nat
  deriving DecidableEq, Repr

/-- A collective step in flight (13, 14), by its item. -/
structure Col where
  wait : ColWait
  /-- Pass: 0 the data of a native step, 1 agreement, 2 block-scaled data, 3 flag maps, 4 native re-run. -/
  pass : Nat
  /-- The round whose input is awaited, from 1. -/
  round : Nat
  /-- Elapsed ns at which the round's timer started (R368), and whether it runs with grace. -/
  t0 : Nat
  graced : Bool
  /-- A member, or this device, has shown THROTTLE or SLOW since the dispatch (R370). -/
  sawSlow : Bool
  /-- Members that showed one while the step waited for its group to be defined (R370, R379). -/
  slowFrom : List Nat
  /-- Age stamp it was dispatched with (R59, R353). -/
  age : Nat
  /-- The node that a request of the step failed at (R342). -/
  failed : Option Nat
  ready : Nat
  lateTime : Nat
  lateRank : Nat
  /-- Chunks whose feed counter has been waited for and reached; the chunk waited for now (R384). -/
  fed : List Nat
  feedWait : Option Nat
  /-- Final or forwarded chunks held until they are written. -/
  held : FMap Chunk
  /-- Agreed exponent bytes (R396) and broken wire blocks (R398). -/
  agreed : FMap Nat
  broken : FMap Unit
  /-- Blocks received by an all-to-all: source ranks with delivered and dropped counts. -/
  got : FMap (Nat × Nat)
  flags : Nat
  flush : Nat
  dropped : Nat
  deriving DecidableEq, Repr

/-- An incoming stream (R327, R328): its descriptor and what has arrived. -/
structure InStream where
  src : Nat
  /-- TAG of the stream open, and whether it has been accepted; the number given. -/
  tag : Nat
  accepted : Bool
  number : Nat
  /-- Lines the stream holds, known once it is accepted. -/
  lines : Nat
  hash : Nat
  bucket : Nat
  gen : Nat
  params : Nat
  chunk : Nat
  lateRank : Nat
  round : Nat
  lateTime : Nat
  bytes : List Byte
  poison : Nat
  /-- The last flit has landed. -/
  done : Bool
  deriving DecidableEq, Repr

/-- An outgoing stream that waits for its accept. -/
structure OutStream where
  item : Nat
  dst : Nat
  vc : Nat
  bytes : List Byte
  poison : Nat
  deriving DecidableEq, Repr

/-- A request that waits for a TAG that may be used again (R342): its flit, its record, and the stream it opens. -/
structure Ask where
  flit : Flit
  req : Req
  stream : Option OutStream
  deriving DecidableEq, Repr

/-- What a bucket slot keeps beside its register (R376, R394). -/
structure Slot where
  /-- Landed chunks. -/
  landed : FMap Unit
  /-- Exception field of the abort record. -/
  abort : Nat
  /-- A write to COL_SLOT_FREE, or a claim, waits for bound items (R160). -/
  freeing : Bool
  /-- The bucket's operation, for a bound item: OP, FMT, resolved WIRE, COUNT. -/
  op : Nat
  fmt : Nat
  wire : Nat
  countE : Nat
  deriving DecidableEq, Repr

/-- The camp roster FW0 keeps (R512). -/
structure Roster where
  /-- STATE of each member. -/
  state : FMap Nat
  /-- The states last announced. -/
  told : FMap Nat
  gen : Nat
  deriving DecidableEq, Repr

end Sys2Proof.Machine
end

