-- ==== Sys2Proof/Machine/State.lean ====
section
/-! DEFINITION. The state of the block, its reset value, and the reasons a step can stop. -/

namespace Sys2Proof.Machine
open Sys2Proof

/-- Why a step may stop with a fault. No command of this model raises one: every error of the EV7 is a code it reports while it goes on (21).
Safe: the type only keeps the interface closed. -/
inductive Fault where
  /-- Raised by no command: kept so that the type is inhabited. Safe. -/
  | none
  deriving DecidableEq, Repr

/-- Why a command may be refused. -/
inductive Refusal where
  /-- The command has no meaning in the model yet; raised by Dispatch alone. Safe. -/
  | notModelled (mnemonic : String)
  deriving DecidableEq, Repr

/-- The job-fatal sequence and what outlasts it (21). -/
structure JobFatal where
  /-- A sequence has run since the last cold boot or re-weave. -/
  running : Bool
  code : Nat
  /-- A severity-4 fault since the last cold boot (R535). -/
  sev4 : Bool
  /-- Memory export has ended (R539, R540). -/
  noExport : Bool
  /-- Tile stores are power-gated (R538). -/
  tilesOff : Bool
  deriving DecidableEq, Repr

/-- What the management port keeps of a relayed request (R515). -/
structure Mgt where
  /-- Source address of the last request and its processor. -/
  from? : Option Nat
  /-- Request frames accepted and not yet handled, each with the age stamp of its entry (R58). -/
  rx : List (Nat × List Byte)
  /-- PTP frames accepted and not yet handled. -/
  ptp : List (List Byte)
  /-- Relayed requests without a reply, by processor. -/
  relayed : FMap Nat
  deriving DecidableEq, Repr

/-- The state of the block. -/
structure State where
  pins : Pins
  sb : Sideband
  /-- Register words that differ from the Reset column, by register-space offset. -/
  regs : FMap Word
  /-- Hub-SRAM words with their poison bit set, by register-space offset / 8 (R285). -/
  hubPoison : FMap Unit
  /-- Epoch staging: written mask and value by offset (R73). -/
  staged : FMap (Word × Word)
  /-- G writes waiting for the next work-item boundary (R67). -/
  atBoundary : FMap (Word × Word)
  time : Time
  mem : Mem
  boot : Boot
  flash : Flash
  ports : FMap Port
  /-- Outstanding link requests by TAG. -/
  reqs : FMap Req
  nextTag : Nat
  /-- Elapsed count at which each TAG was last taken (R342). -/
  tagUsed : FMap Nat
  /-- Requests that wait for a TAG, oldest first. -/
  tagWait : List Ask
  /-- Narrow requests of tile DMA engines that the limit of their die holds, oldest first (R267). -/
  narrowWait : List Ask
  /-- Abort messages written to COL_ABORT_RX and not yet taken. -/
  abortRx : List (List Byte)
  harts : FMap Hart
  /-- Accesses that wait for the end of a re-weave, oldest first (R502). -/
  held : List HubAccess
  /-- Outstanding PCIe requests by tag. -/
  pcieReqs : FMap Req
  /-- Bytes of the root port's own Type 1 header that hold other than 0 (R519). -/
  pcieHdr : FMap Nat
  mgt : Mgt
  job : JobFatal
  /-- Items in flight, by number, and the number of the next. -/
  items : FMap Item
  nextItem : Nat
  /-- Open gate groups, by entry 0 to 15. -/
  gates : FMap Gate
  nrg : Energy
  /-- Core rails by die, 4 = hub. -/
  rails : FMap Rail
  epo : EpochSt
  fw : FMap FwProc
  update : Update
  waiting : FMap Waiting
  /-- Arbiters of the narrow requests that wait: tile p's at p, die d's at 1,024 + d (Table 3-9). -/
  arbs : FMap Arb
  train : Train
  /-- Reed cores by 8 × physical tile + core. -/
  reeds : FMap Reed
  /-- Summary slots holding a value, by core (R199): value and poison. -/
  summ : FMap (Nat × Bool)
  /-- Plait FIFOs by 8 × physical tile + link: entries and granule poison, oldest first (R205). -/
  fifos : FMap (List (Nat × Nat))
  /-- Tile registers: 64-bit elements by 1,024 × physical tile + 32 × row + column, and the elements whose poison bit is clear: an unwritten one reads poisoned (R287). -/
  treg : FMap Nat
  tregC : FMap Unit
  groups : FMap Group
  /-- Collective steps in flight, by item. -/
  cols : FMap Col
  inStreams : List InStream
  nextStream : Nat
  /-- Outgoing streams by the TAG of their stream open. -/
  outStreams : FMap OutStream
  /-- Bucket slots by 32 × group + slot. -/
  slots : FMap Slot
  /-- Abort records of buckets that no slot holds, by 65,536 × group + bucket: generation, exception field (R376). -/
  keptAborts : FMap (Nat × Nat)
  /-- The generation that ended last here, by 65,536 × group + bucket (R377). -/
  ended : FMap Nat
  /-- Group that holds each of VC4 to VC15. -/
  vcHeld : FMap Nat
  /-- Abort messages already forwarded: hash, bucket, generation (R375). -/
  forwarded : List (Nat × Nat × Nat)
  roster : Roster
  /-- Queues whose head has been counted in CQ_WAITS (R411). -/
  cqMarks : FMap Unit
  out : List Out
  /-- Index of the next free value: the model's own. -/
  fresh : Nat
  /-- Commands that wait, first in first out: the model's own. -/
  pending : List Instr
  deriving DecidableEq, Repr

/-- The reference weave image of the module that State.reset describes: see the assumption log. -/
def Weave.reference : Weave :=
  { version := 0x0001000000000000, svn := 0, debugFlag := false, deviceId := 0, sigOk := true, formatOk := true,
    certDevice := 0, certDebug := false, opcert := [], hash := 0,
    tiles := ((List.range 576).map fun p => (p, if p % 144 < 128 then 0 else if p % 144 < 136 then 1 else 2)).filter fun e => e.2 != 0,
    groups := [(2 ^ 128 - 1) * (1 + 2 ^ 144 + 2 ^ 288 + 2 ^ 432), 255 * 2 ^ 128 * (1 + 2 ^ 144 + 2 ^ 288 + 2 ^ 432)], unitsMask := 0, role := 0, node := 0x3E87000, members := [(0, 2 ^ 63)],
    envelope := 850 + 100 * 2 ^ 10 + 110 * 2 ^ 18 + 523 * 2 ^ 26 + 2 ^ 63, wdog := List.replicate 8 10,
    links := List.replicate 12 [0x84FFFF, 0x0202020208040101, 0x0202020202020202], routes := [],
    stkMap := 2 ^ 512 - 1, rimMap := 2 ^ 32 - 1, localU := 0, ways := 1, time := 0, hearth := 0 }

/-- The firmware image in slot 0 of the module that State.reset describes: see the assumption log. -/
def FwImage.reference : FwImage := { version := 0x0001000000000000, svn := 0, hash := 0, rootKey := [], sigOk := true, fits := true, loader := [], compat := 12 }

/-- The manifest of that module before its MAC: the images of the slots 0 in force, nothing staged. -/
def Manifest.reference : Manifest :=
  { seq := 0, fwActive := 0, update := 0, aob := false, weaveActive := 0, fwHash := 0, stagedHash := 0, weaveHash := 0, mac := 0 }

/-- The machine right after reset: module unpowered, every register at its Reset column, memory with nothing listed. -/
def State.reset : State :=
  { pins := { modEn := false, modRstN := false, modPwrgd := false, modReady := false, thermAlertN := true, thermTripN := true,
              pwrBrakeN := true, recoveryN := true, ppsIn := false, ppsOut := false, perstN := false, modId := 1,
              underVoltLatch := false, released := false, trstN := false, extest := none, tdo := 0 },
    sb := { trip := false, coolantBit := false, startFail := false, lastStatus := 0, hotspot := 0, stackTemp := 0, coolant := 0,
            power := 0, vin := 0, alertSrc := 0, active := 0 },
    regs := [], hubPoison := [], staged := [], atBoundary := [],
    time := { now := 0, elapsed := 0, ppb := 0, holdover := false, good := 0, bad := 0, primaryBack := 0, active := 0,
              locked := false, gone := [], rates := [(0, 0)], ptp := [], master := none, delaySeq := 0, delayWait := false, ppsAt := 0 },
    mem := { cells := [], poison := [], errs := [], checks := [], era := 0, inject := none, side := [], ovfLogged := [], reserved := [], l3 := [],
             lanes := [], ceTimes := [], scrubTimes := [], ueTimes := [], fencedBanks := [], tripped := [], scrubCe := 0, scrubUe := 0, persist := [], laneDue := [], retireDue := false,
             slices := [], remote := [], wrote := [], cur := .none, curDie := none },
    boot := { stage := 1, failed := false, listening := false, forever := false, recvd := [], recvBegun := false,
              recoveryRun := false, weave := none, fw := none, newWeave := none, newPersist := false, keyReady := false,
              stkMask := 0, rimMask := 0, localU := 0, adapted := [], t0 := 0, stepped := false },
    flash := { man0 := Manifest.reference.seal 0, man1 := Manifest.reference, copy1 := false,
               fw0 := some FwImage.reference, fw1 := none, weave0 := some Weave.reference, weave1 := none, recovery := none,
               devCert := [], keyHash := 0, mfgRec := [], mfgCaps := 0x17D0001F3FFF, mfgDefective := 0, mfgStkFailed := 0,
               mfgRimFailed := 0, helper := [], secret := 0, romVersion := 0, romHash := 0, romRoot := shakeNat FwImage.reference.rootKey, ras := [], ctrFw := 0, ctrWeave := 0,
               ctrManifest := 0, ctrBoots := 0 },
    ports := [], reqs := [], nextTag := 0, tagUsed := [], tagWait := [], narrowWait := [], abortRx := [], harts := [], held := [], pcieReqs := [], pcieHdr := [],
    mgt := { from? := none, rx := [], ptp := [], relayed := [] },
    job := { running := false, code := 0, sev4 := false, noExport := false, tilesOff := false },
    items := [], nextItem := 0, gates := [],
    nrg := { general := 0, reserve := 0, attributed := 0, ctxDebits := [], held := [], debtLogged := false, issuedGeneral := 0,
             above := 0 },
    rails := [], epo := { acked := [], t0 := 0, items := [] }, fw := [],
    update := { staging := none, stableFrom := some 0, tripped := false, chain := [] }, waiting := [], arbs := [],
    train := { touched := [], frozenStep := [], clearEval := false },
    reeds := [], summ := [], fifos := [], treg := [], tregC := [], groups := [], cols := [], inStreams := [],
    nextStream := 0, outStreams := [], slots := [], keptAborts := [], ended := [], vcHeld := [], forwarded := [], roster := { state := [], told := [], gen := 0 }, cqMarks := [],
    out := [], fresh := 0, pending := [] }

end Sys2Proof.Machine
end

