-- ==== Sys2Proof/Machine/Regs.lean ====
section
/-! DEFINITION. Reading and writing register fields; the state's small helpers. -/

namespace Sys2Proof.Machine
open Sys2Proof

/-- A field's value. -/
def State.fld (s : State) (f : Fld) (ix : List Nat := []) : Nat :=
  bits (s.regs.getD (f.at ix) f.rst).toNat f.lo f.w

/-- A field set by hardware. -/
def State.setFld (s : State) (f : Fld) (v : Nat) (ix : List Nat := []) : State :=
  { s with regs := s.regs.setD (f.at ix) f.rst (BitVec.ofNat 64 (putBits (s.regs.getD (f.at ix) f.rst).toNat f.lo f.w v)) }

/-- A field that is a flag. -/
def State.flag (s : State) (f : Fld) (ix : List Nat := []) : Bool := s.fld f ix == 1

/-- A one-bit field set or cleared. -/
def State.setFlag (s : State) (f : Fld) (b : Bool) (ix : List Nat := []) : State := s.setFld f (b2n b) ix

/-- A counter that sticks at its greatest value. -/
def State.bumpSat (s : State) (f : Fld) (ix : List Nat := []) (d : Nat := 1) : State :=
  s.setFld f (satInc f.w (s.fld f ix) d) ix

/-- A counter that wraps. -/
def State.bump (s : State) (f : Fld) (ix : List Nat := []) (d : Nat := 1) : State :=
  s.setFld f (s.fld f ix + d) ix

/-- One bit of a field set or cleared. -/
def State.setFldBit (s : State) (f : Fld) (i : Nat) (b : Bool) (ix : List Nat := []) : State :=
  s.setFld f (putBit (s.fld f ix) i b) ix

/-- A field raised to a value when that is greater. -/
def State.maxFld (s : State) (f : Fld) (v : Nat) (ix : List Nat := []) : State := s.setFld f (max v (s.fld f ix)) ix

/-- The reset word of the register at an offset. -/
def rstAt (off : Nat) : Word := match regAt off with
  | some r => r.1.rst
  | none => 0

/-- The bits of a word that `mask` selects replaced. -/
def mergeWord (old mask val : Word) : Word := (old &&& ~~~mask) ||| (val &&& mask)

/-- The word at an offset with the bits that `mask` selects replaced. -/
def State.mergeReg (s : State) (off : Nat) (mask val : Word) : State :=
  { s with regs := s.regs.setD off (rstAt off) (mergeWord (s.regs.getD off (rstAt off)) mask val) }

/-- Device time in ns (R520). -/
def State.nowNs (s : State) : Nat := s.time.now / 10000000000 % 2 ^ 64

/-- The elapsed count in ns (R522). -/
def State.elapsedNs (s : State) : Nat := s.time.elapsed / 10000000000 % 2 ^ 64

/-- The current age stamp (R57). -/
def State.ageStamp (s : State) : Nat := bits s.elapsedNs 6 16

/-- The block's units run: powered, internal reset released, S fields loaded, start-up not failed and no recovery boot (R484, R498), and no warm reset in progress (R500). -/
def State.up (s : State) : Bool :=
  s.pins.modPwrgd && s.pins.released && decide (5 ≤ s.boot.stage) && !s.boot.failed && !s.boot.recoveryRun && !s.boot.listening
    && !(s.fld R.BSU_REWEAVE_STATUS_STATE == 2 || s.fld R.BSU_REWEAVE_STATUS_STATE == 3)

/-- The hub's own blocks run: as `State.up`, and through a re-weave as well (R502). -/
def State.hubUp (s : State) : Bool :=
  s.pins.modPwrgd && s.pins.released && decide (5 ≤ s.boot.stage) && !s.boot.failed && !s.boot.recoveryRun && !s.boot.listening

/-- An access of the hub's own units waits while a re-weave resets and trains the rest of the device (R502); it has no effect on a device that does not run. -/
def State.holdAccess (s : State) (a : HubAccess) : State := if s.hubUp then { s with held := s.held ++ [a] } else s

/-- A value sent out. -/
def State.emit (s : State) (o : Out) : State := { s with out := s.out ++ [o] }

/-- A fresh undefined word; the model's counter moves on. -/
def State.free (s : State) : Word × State := (Config.freeWord s.fresh, { s with fresh := s.fresh + 1 })

/-- A word of register space carries its poison bit (R285). -/
def State.regPoison (s : State) (off : Nat) : Bool := (s.hubPoison.find? (off / 8)).isSome

/-- The poison bit of a word of register space set or cleared. -/
def State.markReg (s : State) (off : Nat) (p : Bool) : State :=
  { s with hubPoison := if p then s.hubPoison.put (off / 8) () else FMap.del (off / 8) s.hubPoison }

/-- A member of a hart file, with what an absent entry stands for. -/
def State.hart (s : State) (h : Nat) : Hart :=
  s.harts.getD h { running := false, remote := 0, fencing := false, imsicM := 0, imsicS := 0 }

/-- A hart's record replaced. -/
def State.setHart (s : State) (h : Nat) (v : Hart) : State := { s with harts := s.harts.put h v }

/-- A port as full training finds it first: nothing sent, received or held. -/
def Port.fresh : Port :=
  { txq := [], replay := [], resend := [], replayed := [], nextSeq := 0, expSeq := 0, nakDue := false, nakSent := false,
    credits := [], used := [], owed := [], rxq := [], deficit := [], rr := 15, slots := [], hbSeq := 0, lastHb := none,
    lost := false, hbFirst := false, cause := 0, stamps := [], arbs := [] }

/-- A port. -/
def State.port (s : State) (k : Nat) : Port := s.ports.getD k Port.fresh

/-- A port replaced. -/
def State.setPort (s : State) (k : Nat) (p : Port) : State := { s with ports := s.ports.put k p }

/-- A port changed. -/
def State.modPort (s : State) (k : Nat) (f : Port → Port) : State := s.setPort k (f (s.port k))

/-- Whether GLB_CAPS reports a Nelax port (R3). -/
def State.hasPort (s : State) (k : Nat) : Bool := decide (k < 12) && bit (s.fld R.GLB_CAPS_NLK_PORTS) k

end Sys2Proof.Machine
end

