-- ==== Sys2Proof/Machine/Arbiter.lean ====
section
/-! DEFINITION. The arbiters (R59 to R62). -/

namespace Sys2Proof.Machine
open Sys2Proof

/-- Whether stamp a is older than stamp b (R59). -/
def olderStamp (a b : Nat) : Bool := decide (1 ≤ (b + 65536 - a) % 65536 ∧ (b + 65536 - a) % 65536 ≤ 32767)

/-- The head request of one source. -/
structure ArbHead where
  src : Nat
  age : Nat
  stale : Bool
  deriving DecidableEq, Repr

/-- An arbiter that has granted nothing. DESIGN CHOICE (log 120): its pointer stands at source 0. -/
def Arb.fresh : Arb := { ptr := 0, wins := 0, grants := [] }

/-- Grants source b has had while the head of source a has waited. -/
def Arb.had (r : Arb) (a b : Nat) : Nat := r.grants.getD (4096 * a + b) 0

/-- A source below the two-grant cap of every other waiting head (R62). -/
def Arb.open' (r : Arb) (hs : List ArbHead) (h : ArbHead) : Bool := hs.all fun a => a.src == h.src || decide (r.had a.src h.src < 2)

/-- How far a source stands from the pointer. -/
def Arb.turn (r : Arb) (src : Nat) : Nat := (src + 4096 - r.ptr) % 4096

/-- Two heads that only the pointer can order: both stale, or of one stamp (R60, R61). -/
def tiedHeads (a b : ArbHead) : Bool := (a.stale && b.stale) || (!a.stale && !b.stale && a.age == b.age)

/-- Whether head a goes before head b: stale first, then the older, then by the pointer (R60, R61). -/
def Arb.before (r : Arb) (a b : ArbHead) : Bool :=
  if tiedHeads a b then decide (r.turn a.src < r.turn b.src) else if a.stale then true else !b.stale && olderStamp a.age b.age

/-- The first of some heads. -/
def Arb.first (r : Arb) : List ArbHead → Option ArbHead
  | [] => none
  | h :: t => match r.first t with
    | none => some h
    | some g => some (if r.before h g then h else g)

/-- A grant: the head that goes, the arbiter after it, whether the cap withheld another head, and the grants the winner has waited behind (R61, R62).
DESIGN CHOICE (log 120): the pointer stands at the source that has won a tie until it has won `weight` ties in a row, then at the next source number. -/
def Arb.grant (r : Arb) (weight : Nat → Nat) (hs : List ArbHead) : Option (ArbHead × Arb × Bool × Nat) :=
  match r.first (hs.filter (r.open' hs)) with
  | none => none
  | some w =>
    let tie := hs.any fun h => h.src != w.src && r.open' hs h && tiedHeads h w
    let wins := if r.ptr = w.src then r.wins + 1 else 1
    let moved := decide (weight w.src ≤ wins)
    let others := hs.filter fun h => h.src != w.src
    let kept := FMap.keep (fun k _ => k / 4096 != w.src) r.grants
    let r' : Arb :=
      { ptr := if tie then (if moved then w.src + 1 else w.src) else r.ptr
        wins := if tie then (if moved then 0 else wins) else r.wins
        grants := others.foldl (fun m h => m.put (4096 * h.src + w.src) (r.had h.src w.src + 1)) kept }
    some (w, r', r.first hs != some w, (r.grants.filter fun e => e.1 / 4096 == w.src).foldl (fun n e => n + e.2) 0)

end Sys2Proof.Machine
end

