-- ==== Sys2Proof/Machine/Crc.lean ====
section
/-! DEFINITION. The codes of chapters 11 and 12: CRC-16 travel check, CRC-32, CRC-32C, RS(72,66), the on-chip BCH word code. -/

namespace Sys2Proof.Machine
open Sys2Proof

/-- `n` steps of an MSB-first 16-bit CRC with polynomial 0x8BB7. -/
def crc16Steps : Nat → Nat → Nat
  | 0, c => c
  | n + 1, c => crc16Steps n (if c ≥ 0x8000 then ((c * 2) % 0x10000) ^^^ 0x8BB7 else c * 2)

/-- The travel check of a line (R291). -/
def travelCheck (data : List Byte) : Nat := data.foldl (fun c b => crc16Steps 8 (c ^^^ (b.toNat * 256))) 0

/-- The travel check that marks a line poisoned (R295). -/
def poisonCheck (data : List Byte) : Nat := travelCheck data ^^^ 0xA5C3

/-- `n` steps of a reflected 32-bit CRC. -/
def crcRSteps (poly : Nat) : Nat → Nat → Nat
  | 0, c => c
  | n + 1, c => crcRSteps poly n (if c % 2 = 1 then (c / 2) ^^^ poly else c / 2)

/-- A reflected CRC-32 with initial value and final XOR of all ones. -/
def crcR (poly : Nat) (data : List Byte) : Nat :=
  (data.foldl (fun c b => crcRSteps poly 8 (c ^^^ b.toNat)) 0xFFFFFFFF) ^^^ 0xFFFFFFFF

/-- The IEEE 802.3 CRC-32 (R326). -/
def crc32 (data : List Byte) : Nat := crcR 0xEDB88320 data

/-- CRC-32C (Castagnoli), used for group hashes (R351). -/
def crc32c (data : List Byte) : Nat := crcR 0x82F63B78 data

/-- Multiplication by α in GF(2^8) on 0x11D (R288). -/
def gfDouble (a : Nat) : Nat := if a ≥ 128 then ((a * 2) % 256) ^^^ 0x1D else a * 2

/-- Multiplication in GF(2^8), `k` bits of the second factor. -/
def gfMulAux : Nat → Nat → Nat → Nat
  | 0, _, _ => 0
  | k + 1, a, b => (if b % 2 = 1 then a else 0) ^^^ gfMulAux k (gfDouble a) (b / 2)

/-- Multiplication in GF(2^8). -/
def gfMul (a b : Nat) : Nat := gfMulAux 8 a b

/-- α^k. -/
def gfPow : Nat → Nat
  | 0 => 1
  | k + 1 => gfDouble (gfPow k)

/-- The inverse of a non-zero element: its 254th power. -/
def gfInv (a : Nat) : Nat :=
  let a2 := gfMul a a; let a4 := gfMul a2 a2; let a8 := gfMul a4 a4; let a16 := gfMul a8 a8
  let a32 := gfMul a16 a16; let a64 := gfMul a32 a32; let a128 := gfMul a64 a64
  gfMul a128 (gfMul a64 (gfMul a32 (gfMul a16 (gfMul a8 (gfMul a4 a2)))))

/-- X^j for the symbol at codeword byte `p` (R288: byte i carries x^(71−i)). -/
def rsTerm (j p : Nat) : Nat := gfPow (j * (71 - p) % 255)

/-- The syndromes c(α^0) .. c(α^5) of an error pattern. -/
def rsSyndromes (errs : List (Nat × Nat)) : List Nat :=
  (List.range 6).map fun j => errs.foldl (fun a e => a ^^^ gfMul e.2 (rsTerm j e.1)) 0

/-- Solves for `n` unknowns; each row holds `n` coefficients and the right side. -/
def rsSolve : Nat → List (List Nat) → Option (List Nat)
  | 0, rows => if rows.all (fun r => r.all (· == 0)) then some [] else none
  | n + 1, rows =>
    match rows.find? (fun r => r.headD 0 != 0) with
    | none => none
    | some p =>
      let inv := gfInv (p.headD 0)
      let piv := p.tail.map (gfMul inv)
      let rest := (rows.erase p).map fun r => List.zipWith (fun a b => a ^^^ gfMul (r.headD 0) b) r.tail piv
      match rsSolve n rest with
      | none => none
      | some vs =>
        let dot := (List.zipWith gfMul piv vs).foldl (· ^^^ ·) 0
        some ((dot ^^^ piv.getLastD 0) :: vs)

/-- The symbol values at positions `ps` that explain the syndromes, when there are such. -/
def rsFit (synd ps : List Nat) : Option (List (Nat × Nat)) :=
  let rows := (List.range 6).zipWith (fun j s => ps.map (rsTerm j) ++ [s]) synd
  (rsSolve ps.length rows).map fun vs => ps.zip vs

/-- How many further symbols the decoder corrects beside erasures (Table 11-2). -/
def rsReach (marked : Nat) : Nat := 2 - marked

/-- Sets of at most `t` positions below 72 outside the erasures, smaller sets first. -/
def rsSets (erased : List Nat) : Nat → List (List Nat)
  | 0 => [[]]
  | 1 => [[]] ++ ((List.range 72).filter (fun p => !erased.contains p)).map fun p => [p]
  | _ => let ps := (List.range 72).filter (fun p => !erased.contains p)
    [[]] ++ ps.map (fun p => [p]) ++ ps.flatMap fun p => (ps.filter (fun r => decide (p < r))).map fun r => [p, r]

/-- The correction the decoder applies to an error pattern with the given erasures; none = uncorrectable (R289). -/
def rsDecode (errs : List (Nat × Nat)) (erased : List Nat) : Option (List (Nat × Nat)) :=
  let synd := rsSyndromes errs
  if synd.all (· == 0) then some []
  else (rsSets erased (rsReach (erased.length / 2))).findSome? fun u => rsFit synd (erased ++ u)

/-- Adds an error value at a position of a pattern. -/
def addErr : Nat → Nat → List (Nat × Nat) → List (Nat × Nat)
  | p, v, [] => if v = 0 then [] else [(p, v)]
  | p, v, (q, w) :: t =>
    if q = p then (if w ^^^ v = 0 then t else (q, w ^^^ v) :: t)
    else (q, w) :: addErr p v t

/-- Two error patterns together. -/
def mergeErrs (a b : List (Nat × Nat)) : List (Nat × Nat) := b.foldl (fun acc e => addErr e.1 e.2 acc) a

/-- The outcome of decoding an on-chip word (R285): clean, corrected, or uncorrectable, with the bits left wrong. -/
inductive WordOutcome where
  | clean (left : Nat)
  | corrected (left : Nat)
  | uncorrectable
  deriving DecidableEq, Repr

/-- g(x) of R284: (x^7 + x^3 + 1)(x^7 + x^3 + x^2 + x + 1). -/
def bchPoly : Nat := 0x4377

/-- x^k mod g(x). -/
def bchPow : Nat → Nat
  | 0 => 1
  | k + 1 => let a := bchPow k * 2; if a ≥ 0x4000 then a ^^^ bchPoly else a

/-- The syndrome of one wrong bit of the 80-bit word (R283, R284). -/
def bchBit (b : Nat) : Nat := if b ≤ 64 then bchPow (b + 14) else if b ≤ 78 then bchPow (b - 65) else 0

/-- The bits of an 80-bit pattern. -/
def bitsSet (n : Nat) : List Nat := (List.range 80).filter fun i => bit n i

/-- Decoding of an 80-bit word whose stored bits differ from the codeword by `e`. -/
def bchDecode (e : Nat) : WordOutcome :=
  let bs := bitsSet e
  let s := bs.foldl (fun a b => a ^^^ bchBit b) 0
  if bs.length % 2 = 1 then
    match (List.range 80).find? (fun b => bchBit b == s) with
    | some b => .corrected (e ^^^ 2 ^ b)
    | none => .uncorrectable
  else if s = 0 then .clean e
  else
    match (List.range 80).findSome? (fun b => ((List.range b).find? fun c => (bchBit b ^^^ bchBit c) == s).map fun c => (b, c)) with
    | some (b, c) => .corrected (e ^^^ 2 ^ b ^^^ 2 ^ c)
    | none => .uncorrectable

end Sys2Proof.Machine
end

