-- ==== Sys2Proof/Machine/Net.lean ====
section
/-! DEFINITION. Sending over the Nelax ports, delivering interrupts, and writing the error log. -/

namespace Sys2Proof.Machine
open Sys2Proof

/-- `n` zero bytes. -/
def zeros (n : Nat) : List Byte := List.replicate n 0

/-- A list cut or filled with zeros to `n` bytes. -/
def padTo (n : Nat) (l : List Byte) : List Byte := (l ++ zeros (n - l.length)).take n

/-- A sequenced flit before it takes its slot. -/
def Flit.mk' (ftype vc dst : Nat) (payload : List Byte) : Flit :=
  { ftype := ftype, vc := vc, seq := 0, ack := 0, crVc := 0, crCount := 0, crSh := false, dst := dst, stream := 0, offset := 0,
    pmask := 0, last := false, ttl := 0, sh := false, payload := padTo 240 payload, src := 5, age := 0, stale := false, step := none }

/-- The TXN payload of Table 12-4. -/
def txnPayload (addr tag src op lines pmark status arg : Nat) (data : List Byte) : List Byte :=
  toBytes 8 (addr % 2 ^ 41 + tag % 2 ^ 16 * 2 ^ 48) ++ toBytes 2 (src % 2 ^ 12 + op * 2 ^ 12) ++ toBytes 1 (lines + pmark * 4)
    ++ toBytes 1 status ++ toBytes 4 arg ++ padTo 192 data ++ zeros 32

/-- Bytes [off, off + n) of a payload or message, as a number. -/
def fieldAt (l : List Byte) (off n : Nat) : Nat := ofBytes ((l.drop off).take n)

/-- This device's node ID (R340). -/
def State.node (s : State) : Nat := s.fld R.NLK_NODE_NODE_ID

/-- The port toward a node (R340): PORT, or ALT_PORT when ALT_EN is 1 and PORT is in DOWN. -/
def State.route (s : State) (dst : Nat) : Option Nat :=
  if s.flag R.NLK_ROUTE_VALID [dst] then
    let p := s.fld R.NLK_ROUTE_PORT [dst]
    some (if s.flag R.NLK_ROUTE_ALT_EN [dst] && s.fld R.NLK_STATUS_STATE [p] == 4 then s.fld R.NLK_ROUTE_ALT_PORT [dst] else p)
  else none

/-- A flit created now (R57). -/
def Flit.stamped (f : Flit) (s : State) : Flit := { f with age := s.ageStamp }

/-- Puts a flit on the send path of its port, with the stamp of its creation or of its entry (R57, R58); the flag says that it found no way out and was discarded and counted (R341). -/
def State.sendRaw (s : State) (f : Flit) : State × Bool :=
  match s.route f.dst with
  | none => (s.bumpSat R.NLK_ROUTE_DROP_NO_ROUTE, true)
  | some k =>
    if s.fld R.NLK_STATUS_STATE [k] == 4 || !s.hasPort k then (s.bumpSat R.NLK_ROUTE_DROP_NO_ROUTE, true)
    else (s.modPort k fun p => { p with txq := p.txq ++ [f] }, false)

/-- A TAG may be taken: no request holds it, and twice REQ_TIMEOUT has passed since it was last taken (R342). -/
def State.tagFree (s : State) (t : Nat) : Bool :=
  (s.reqs.find? t).isNone && match s.tagUsed.find? t with
    | some e => decide (e + 2000 * s.fld R.NLK_NODE_REQ_TIMEOUT ≤ s.elapsedNs)
    | none => true

/-- The first TAG that may be taken among `fuel` from `t` on. -/
def State.scanTags (s : State) : Nat → Nat → Option Nat
  | 0, _ => none
  | fuel + 1, t => if s.tagFree t then some t else State.scanTags s fuel ((t + 1) % 65536)

/-- The TAG the next request takes; none while another request waits for one, or every TAG is barred (R342). -/
def State.freeTag (s : State) : Option Nat := if s.tagWait.isEmpty then s.scanTags 65536 s.nextTag else none

/-- A TAG taken. -/
def State.takeTag (s : State) (tag : Nat) : State := { s with nextTag := (tag + 1) % 65536, tagUsed := s.tagUsed.put tag s.elapsedNs }

/-- The 64 bytes of an error-log entry (Table 11-8). -/
def logBytes (time code unit sev flags count seq epoch addr detail : Nat) : List Byte :=
  toBytes 8 time ++ toBytes 2 code ++ toBytes 2 unit ++ toBytes 1 sev ++ toBytes 1 flags ++ toBytes 2 count ++ toBytes 4 seq
    ++ toBytes 4 epoch ++ toBytes 8 addr ++ toBytes 32 detail

/-- The index of the newest log entry. -/
def State.newest (s : State) : Nat := (s.fld R.ERL_HEAD_INDEX + 4095) % 4096

/-- Writes an entry at the head of the error log, with no mirror and no interrupt (R310, R311). -/
def State.logEntry (s : State) (code unit sev epoch addr detail : Nat) (mirrored : Bool) : State :=
  let i := s.fld R.ERL_HEAD_INDEX
  let full := s.fld R.ERL_STATUS_COUNT == 4096
  let bytes := logBytes s.nowNs code unit sev (b2n full + 2 * b2n mirrored) 1 (s.fld R.ERL_HEAD_SEQ) epoch (addr % 2 ^ 48) detail
  let s := (List.range 8).foldl (fun s k => (s.markReg (R.ERL_ENTRY_WORD.at [i, k]) false).setFld R.ERL_ENTRY_WORD (fieldAt bytes (8 * k) 8) [i, k]) s
  let s := s.setFld R.ERL_HEAD_INDEX ((i + 1) % 4096)
  let s := s.bump R.ERL_HEAD_SEQ
  let s := s.setFld R.ERL_STATUS_LAST_CODE code
  if full then (s.setFld R.ERL_TAIL_INDEX ((s.fld R.ERL_TAIL_INDEX + 1) % 4096)).bumpSat R.ERL_STATUS_LOST
  else s.bump R.ERL_STATUS_COUNT

/-- Sets an interrupt identity pending in the target's file; identity 0 delivers nothing (R508). -/
def State.deliver (s : State) (vector : Nat) : State :=
  let id := bits vector 0 6
  if id = 0 then s else
    let h := bits vector 7 4
    let hart := s.hart h
    let hart := if bit vector 6 then { hart with imsicS := putBit hart.imsicS id true } else { hart with imsicM := putBit hart.imsicM id true }
    (s.setHart h hart).emit (.irq vector)

/-- The place of hart h's interrupt file f in the manager's view. The manual gives no address: a free value. -/
def imsicAddr (vector : Nat) : Nat := Config.imsicFile (vector / 64) % 2 ^ 41

end Sys2Proof.Machine
end

