-- ==== Sys2Proof/Machine/Ops.lean ====
section
/-! DEFINITION. The named operations over device memory: the address map, the interleave, lines and words with poison, the error log with its mirror, fences. -/

namespace Sys2Proof.Machine
open Sys2Proof

/-- Where an address of the device's view lies. -/
inductive Region where
  | stack (off : Nat)
  | rim (off : Nat)
  | window (off : Nat)
  | tile (p off : Nat)
  | regs (off : Nat)
  | pcie (off : Nat)
  | remote (m off : Nat)
  | hole
  deriving DecidableEq, Repr

/-- The local address map (00, 10, R50, R528). -/
def localRegion (a : Nat) : Region :=
  if a < 0x09000000000 then .stack a
  else if 0x0C000000000 ≤ a ∧ a < 0x0C010000000 then .window (a - 0x0C000000000)
  else if 0x0D000000000 ≤ a ∧ a < 0x0D000000000 + 576 * 0x400000 then .tile ((a - 0x0D000000000) / 0x400000) ((a - 0x0D000000000) % 0x400000)
  else if 0x0F000000000 ≤ a ∧ a < 0x0F100000000 then .regs (a - 0x0F000000000)
  else if 0x10000000000 ≤ a ∧ a < 0x20000000000 then .rim (a - 0x10000000000)
  else if 0x400000000000 ≤ a ∧ a < 0x410000000000 then .pcie (a - 0x400000000000)
  else .hole

/-- The local address an access for this device's own member index reaches (R510). -/
def State.localAddr (s : State) (a : Nat) : Nat :=
  if 0x800000000000 ≤ a ∧ a < 0x1000000000000 ∧ bits a 41 6 = s.fld R.GLB_WEAVE_MEMBER then a % 2 ^ 41 else a

/-- Where an address lies, remote windows included (R510). -/
def State.regionOf (s : State) (a : Nat) : Region :=
  let a := s.localAddr a
  if 0x800000000000 ≤ a ∧ a < 0x1000000000000 then
    if s.flag R.NLK_MEMBER_VALID [bits a 41 6] then .remote (bits a 41 6) (a % 2 ^ 41) else .hole
  else localRegion a

/-- Active pseudo-channels, N (R255). -/
def State.chanN (s : State) : Nat := popcount 512 s.boot.stkMask

/-- Active pseudo-channels of die d, N_d. -/
def State.chanNd (s : State) (d : Nat) : Nat := popcount 128 (bits s.boot.stkMask (128 * d) 128)

/-- Active rim sub-channels, N_r (R260). -/
def State.rimN (s : State) : Nat := popcount 32 s.boot.rimMask

/-- Bytes of one rim sub-channel. -/
def State.subBytes (s : State) : Nat :=
  match s.fld R.RIM_MAP_SUB_SIZE with
  | 1 => 16 * 2 ^ 30
  | 2 => 32 * 2 ^ 30
  | _ => 0

/-- Bytes of the global region, G (R256). -/
def State.globalBytes (s : State) : Nat := s.chanN * (9 - s.boot.localU) * 2 ^ 27

/-- The top of stack memory (R256). -/
def State.stackTop (s : State) : Nat := s.chanN * 9 * 2 ^ 27

/-- The top of rim memory (R260). -/
def State.rimTop (s : State) : Nat := s.rimN * s.subBytes

/-- Whether the tile store of a tile is there: the tile is enabled (R50). -/
def State.tileOn (s : State) (p : Nat) : Bool := decide (s.fld R.TIL_ID_ROLE [p / 144, p % 144] < 2) && !s.job.tilesOff

/-- Whether an address is backed by memory of this device (R5, R50, R257, R273). -/
def State.mapped (s : State) (a : Nat) : Bool :=
  match s.regionOf a with
  | .stack o => decide (o < s.stackTop)
  | .rim o => s.flag R.GLB_CAPS_RIM_PRESENT && decide (o < s.rimTop)
  | .window o => decide (2 ^ 22 - s.fld R.SCA_CFG_WAYS [bits o 26 2, bits o 22 4] * 2 ^ 18 ≤ o % 2 ^ 22)
  | .tile p o => decide (o < 2 ^ 21) && s.tileOn p
  | .remote _ _ => true
  | .pcie _ => s.flag R.GLB_CAPS_PCIE_PRESENT && s.flag R.PCI_STATUS_LINK_UP
  | _ => false

/-- The place of the n-th set bit of a mask, scanning `fuel` bits from `i`. -/
def nthBit (mask : Nat) : Nat → Nat → Nat → Nat
  | 0, i, _ => i
  | fuel + 1, i, n => if bit mask i then (if n = 0 then i else nthBit mask fuel (i + 1) (n - 1)) else nthBit mask fuel (i + 1) n

/-- place(a, n) of R258: index in the list, and position. -/
def place (a n : Nat) : Nat × Nat :=
  let l := a / 64
  let q := l / n
  ((l % n + (bits q 0 9 ^^^ bits q 9 9 ^^^ bits q 18 7)) % n, q)

/-- Where a line of a tier lies: channel key (g, or 512 + g_r) and position (R256, R258, R260). -/
structure Spot where
  key : Nat
  pos : Nat
  deriving DecidableEq, Repr

/-- The die whose local region holds a stack offset, and that region's first byte. -/
def State.localDie (s : State) (o : Nat) : Nat → Nat → Nat → Option (Nat × Nat)
  | 0, _, _ => none
  | fuel + 1, d, base =>
    let top := base + s.chanNd d * s.boot.localU * 2 ^ 27
    if o < top then some (d, base) else State.localDie s o fuel (d + 1) top

/-- The channel and position of a line of stack or rim memory; none for other places. -/
def State.spot (s : State) (a : Nat) : Option Spot :=
  match s.regionOf a with
  | .stack o =>
    if o < s.globalBytes then
      let (c, q) := place o s.chanN
      some ⟨nthBit s.boot.stkMask 512 0 c, q⟩
    else
      match s.localDie o 4 0 s.globalBytes with
      | none => none
      | some (d, base) =>
        let (c, q) := place (o - base) (s.chanNd d)
        some ⟨128 * d + nthBit (bits s.boot.stkMask (128 * d) 128) 128 0 c, (9 - s.boot.localU) * 2 ^ 21 + q⟩
  | .rim o => if s.rimN = 0 then none else
      let (c, q) := place o s.rimN
      some ⟨512 + nthBit s.boot.rimMask 32 0 c, q⟩
  | _ => none

/-- sid, bank, column line and row of a position (R259, R260). -/
def spotCell (sp : Spot) : Nat × Nat × Nat × Nat :=
  if sp.key < 512 then
    let m := sp.pos / 3
    (sp.pos % 3, bits m 4 4 ^^^ bits (m / 256) 0 4, bits m 0 4, m / 256)
  else (0, bits sp.pos 6 4 ^^^ bits sp.pos 10 4, bits sp.pos 0 6, sp.pos / 1024)

/-- The home die of a line (Table 10-5). -/
def homeDie (sp : Spot) : Nat := if sp.key < 512 then sp.key / 128 else (sp.key - 512) % 4

/-- The home slice of a line within its die (Table 10-5). -/
def homeSlice (sp : Spot) : Nat :=
  if sp.key < 512 then sp.key % 128 % 16 else (sp.key - 512) / 4 + 8 * (sp.pos % 2)

/-- The unit ID of a channel's stack or rim controller (R72). -/
def chanUnit (key : Nat) : Nat :=
  if key < 512 then 0x1210 + 0x400 * (key / 128) + key / 32 % 4 else 0x2210 + (key - 512) / 2

/-- Whether a channel has been fenced (R317). -/
def State.chanFenced (s : State) (key : Nat) : Bool :=
  if key < 512 then !bit (s.fld R.STK_CHMAP_LIVE [key / 128, key / 32 % 4]) (key % 32)
  else !bit (s.fld R.RIM_STATUS_LIVE [(key - 512) / 2]) (key % 2)

/-- Whether a stack or rim package is tripped (R265). -/
def State.chanTripped (s : State) (key : Nat) : Bool :=
  s.mem.tripped.contains (if key < 512 then key / 32 else 16 + (key - 512) / 2)

/-- Whether a line is out of reach: fenced channel or bank, or tripped stack (R265, R317, R318). -/
def State.spotShut (s : State) (sp : Spot) : Bool :=
  s.chanFenced sp.key || s.chanTripped sp.key || s.mem.fencedBanks.contains (sp.key, (spotCell sp).1, (spotCell sp).2.1)

/-- The byte a cell holds, 0 when it has never been written. -/
def Mem.byteAt (m : Mem) (a : Nat) : Byte := FMap.getD m.cells a 0

/-- Whether a byte has been written. -/
def Mem.written (m : Mem) (a : Nat) : Bool := (FMap.find? a m.cells).isSome

/-- The stored bytes of [a, a + n). -/
def Mem.bytesAt (m : Mem) (a n : Nat) : List Byte := (List.range n).map fun i => m.byteAt (a + i)

/-- Whether the word at byte address 8 w is marked poisoned, or has never been written. -/
def Mem.wordPoison (m : Mem) (w : Nat) : Bool := (FMap.find? w m.poison).isSome || !m.written (8 * w)

/-- Bytes written to consecutive cells. -/
def Mem.putBytes (m : Mem) : Nat → List Byte → Mem
  | _, [] => m
  | a, b :: t => Mem.putBytes { m with cells := FMap.put a b m.cells } (a + 1) t

/-- The poison mark of word w set or cleared. -/
def Mem.mark (m : Mem) (w : Nat) (p : Bool) : Mem :=
  { m with poison := if p then FMap.put w () m.poison else FMap.del w m.poison }

/-- What a read of a line gives: outcome as in Table 11-9, data, poison mark of each word, positions corrected. -/
structure LineView where
  outcome : Nat
  data : List Byte
  poison : Nat
  symbols : List Nat
  deriving DecidableEq, Repr

/-- The erased symbol positions of a channel's marked lanes (R289). -/
def State.erasures (s : State) (key : Nat) : List Nat := (s.mem.lanes.getD key []).flatMap fun l => [2 * l, 2 * l + 1]

/-- Symbol values laid over data bytes. -/
def xorAt (data : List Byte) (errs : List (Nat × Nat)) : List Byte :=
  errs.foldl (fun d e => if e.1 < 64 then d.set e.1 (d.getD e.1 0 ^^^ BitVec.ofNat 8 e.2) else d) data

/-- The error value at codeword byte p. -/
def errAt (errs : List (Nat × Nat)) (p : Nat) : Nat := ((errs.find? fun e => e.1 == p).map (·.2)).getD 0

/-- Decoding a written line with stored symbol errors (R289, R290). -/
def decodeLine (data : List Byte) (poisoned : Bool) (errs : List (Nat × Nat)) (erased : List Nat) : LineView :=
  match rsDecode errs erased with
  | none => ⟨2, xorAt data errs, 255, []⟩
  | some fix =>
    let left := mergeErrs errs fix
    let d := xorAt data left
    let tc := (if poisoned then poisonCheck data else travelCheck data) ^^^ (errAt left 64 + 256 * errAt left 65)
    let done := !fix.isEmpty
    if tc = travelCheck d then ⟨b2n done, d, 0, fix.map (·.1)⟩
    else if tc = poisonCheck d then ⟨b2n done, d, 255, fix.map (·.1)⟩
    else ⟨if done then 4 else 3, d, 255, fix.map (·.1)⟩

/-- What the tier itself gives for the line at `a` (Table 11-3, R287, R304). -/
def State.tierView (s : State) (sp : Spot) (a : Nat) : LineView :=
  if s.mem.written a then
    let data := s.mem.bytesAt a 64
    let p := s.mem.wordPoison (a / 8)
    match s.mem.errs.getD (a / 64) [] with
    | [] => ⟨0, data, if p then 255 else 0, []⟩
    | errs => decodeLine data p errs (s.erasures sp.key)
  else
    let data := (List.range 64).map fun i => Config.dramByte s.mem.era (a + i)
    match (Config.dramOutcome s.mem.era a).val with
    | 0 => ⟨2, data, 255, []⟩
    | 1 => ⟨3, data, 255, []⟩
    | _ => ⟨0, data, 0, []⟩

/-- What a read of a written on-chip line gives: each word with its poison bit; one that fails its travel check is poisoned (R294). -/
def Mem.chipView (m : Mem) (a : Nat) : LineView :=
  let p := (List.range 8).foldl (fun p i => p + b2n (m.wordPoison (a / 8 + i)) * 2 ^ i) 0
  if (m.checks.find? (a / 64)).isSome then ⟨3, m.bytesAt a 64, 255, []⟩ else ⟨0, m.bytesAt a 64, p, []⟩

/-- What a read of the 64-byte line at `a` (line-aligned, mapped) gives (R270, R287, R317): out of reach poisoned; a line the L3 holds dirty as its write-back leaves it (R507); a line its slice holds as the slice holds it; else what the tier gives. -/
def State.lineView (s : State) (a : Nat) : LineView :=
  let a := s.localAddr a
  let far : LineView := match s.mem.remote.find? (a / 64) with
    | some (d, p) => ⟨0, d, p, []⟩
    | none => ⟨0, zeros 64, 255, []⟩
  match s.regionOf a with
  | .remote _ _ => far
  | .pcie _ => far
  | _ =>
  match s.spot a with
  | none => s.mem.chipView a
  | some sp =>
    if s.spotShut sp then ⟨5, s.mem.bytesAt a 64, 255, []⟩
    else match s.mem.l3.getD (a / 64) none with
    | some (d, p) => ⟨0, d, if p = 0 then 0 else 255, []⟩
    | none =>
    match s.mem.slices.find? (a / 64) with
    | some (d, p) => if (s.mem.checks.find? (a / 64)).isSome then ⟨3, d, 255, []⟩ else ⟨0, d, p, []⟩
    | none => s.tierView sp a

/-- The bytes and poison marks of the aligned word at `a`. -/
def State.wordView (s : State) (a : Nat) : List Byte × Bool :=
  let v := s.lineView (a / 64 * 64)
  ((v.data.drop (a % 64 / 8 * 8)).take 8, bit v.poison (a % 64 / 8))

/-- The corruption an injection of a kind stores, its places and values taken from a free value (R290). -/
def injection (w : Word) (kind : Nat) : List (Nat × Nat) :=
  let v := fun i => bits w.toNat (8 * i) 8 % 255 + 1
  let p0 := bits w.toNat 24 16 % 70
  match kind with
  | 1 => [(p0, v 0)]
  | 2 => [(p0, v 0), (p0 + 1, v 1), (p0 + 2, v 2)]
  | _ => [(256, bits w.toNat 40 4)]

/-- Whether a line of a tier is held in a full codeword that injection corrupts next (R290): the corruption to store. -/
def State.injected (s : State) (line : Nat) : List (Nat × Nat) × State :=
  match s.mem.inject with
  | some (l, kind) =>
    if l = line then (injection s.free.1 kind, { s.free.2 with mem := { s.mem with inject := none } })
    else ([], s)
  | none => ([], s)

/-- A code word of RS(72,66) that differs from the stored one in one travel-check bit, made with fresh check symbols:
the error pattern (travel-check byte and its check symbols) whose syndromes are zero. -/
def tcBitPattern (i : Nat) : List (Nat × Nat) :=
  let e : Nat × Nat := (64 + i / 8 % 2, 2 ^ (i % 8))
  match rsFit (rsSyndromes [e]) [66, 67, 68, 69, 70, 71] with
  | some fix => e :: fix
  | none => [e]

/-- Reservations on any word of a range end (R274). -/
def Mem.dropReservations (m : Mem) (a n : Nat) : Mem :=
  { m with reserved := FMap.keep (fun _ w => !(decide (a / 64 * 64 ≤ w) && decide (w < a + n))) m.reserved }

/-- An access that reaches the DRAM of a stack: counted, and held for a while where a cap is in force, whether it is being a free bit (R263, Table 10-10). Rim packages have no such counter. -/
def State.tierAccess (s : State) (sp : Spot) : State :=
  if sp.key < 512 then
    let ix := [sp.key / 128, sp.key / 32 % 4]
    let s := s.bump R.STK_TRAFFIC_LINES ix
    if s.fld R.STK_STATUS_STATE ix = 2 ∨ s.fld R.STK_STATUS_STATE ix = 3 then
      if bit s.free.1.toNat 0 then s.free.2.bumpSat R.STK_TRAFFIC_CAP_HOLDS ix else s.free.2
    else s
  else s

/-- The set of its home slice that a line goes to: 65,536 sets a die. DESIGN CHOICE (log 9): the position in the channel, modulo 4,096. -/
def sliceSet (sp : Spot) : Nat := (homeDie sp * 16 + homeSlice sp) * 4096 + sp.pos % 4096

/-- The lines of a set that its slice holds. -/
def State.setLines (s : State) (k : Nat) : List Nat :=
  (s.mem.slices.filter fun e => match s.spot (64 * e.1) with
    | some sp => sliceSet sp == k
    | none => false).map (·.1)

/-- A line filled from its tier is kept by its slice, in one of the 16 ways less those of the window (R270, R273); in a full set it takes the place of a line that a free value picks. -/
def State.keepLine (s : State) (sp : Spot) (a : Nat) (v : LineView) : State :=
  let ls := s.setLines (sliceSet sp)
  let ways := 16 - s.fld R.SCA_CFG_WAYS [homeDie sp, homeSlice sp]
  let s := if ls.length < ways then s else
    let (w, s) := s.free
    let l := ls.getD (w.toNat % max 1 ls.length) 0
    { s with mem := { s.mem with slices := FMap.del l s.mem.slices, checks := FMap.del l s.mem.checks } }
  { s with mem := { s.mem with slices := s.mem.slices.put (a / 64) (v.data, v.poison), checks := FMap.del (a / 64) s.mem.checks } }

/-- A full line written at its home slice, which ends the L3's copy (R288, R295, R296, R317, R507); a write to a channel that is shut is discarded, and the DRAM untouched.
DESIGN CHOICE (log 9): the slice writes through to the tier at once and keeps no copy of what is written. -/
def State.storeHome (s : State) (a : Nat) (data : List Byte) (poison : Nat) : State :=
  let a := s.localAddr a
  match s.spot a with
  | none =>
    let m := (s.mem.putBytes a (padTo 64 data)).dropReservations a 64
    let m := (List.range 8).foldl (fun m i => m.mark (a / 8 + i) (bit poison i)) m
    { s with mem := { m with checks := FMap.del (a / 64) m.checks } }
  | some sp =>
    if s.spotShut sp then s else
      let s := s.tierAccess sp
      let inj := s.injected (a / 64)
      let s := inj.2
      let errs := match inj.1 with | [(256, i)] => tcBitPattern i | e => e
      let m := (s.mem.putBytes a (padTo 64 data)).dropReservations a 64
      let m := (List.range 8).foldl (fun m i => m.mark (a / 8 + i) (poison % 256 != 0)) m
      { s with mem := { m with errs := FMap.setD m.errs (a / 64) [] errs, l3 := FMap.del (a / 64) m.l3, slices := FMap.del (a / 64) m.slices, checks := FMap.del (a / 64) m.checks } }

/-- An interrupt of a source is delivered locally, or forwarded to member 0 while FORWARD is 1 (R508, R509); the flag says that the forwarding write found no route and was dropped (R341). -/
def State.interruptRaw (s : State) (src vector : Nat) : State × Bool :=
  if s.flag R.HRT_FWD_FORWARD then
    if bit (s.fld R.HRT_PENDING_SOURCES) src then (s, false) else
      let s := s.setFldBit R.HRT_PENDING_SOURCES src true
      let v := s.fld R.HRT_FWD_VECTOR
      let dst := s.fld R.NLK_MEMBER_NODE [0]
      let f := fun tag => { Flit.mk' 7 2 dst (txnPayload (imsicAddr v) tag s.node 6 1 0 0 0x0F (toBytes 4 (bits v 0 6))) with ttl := s.fld R.NLK_NODE_TTL_INIT }
      let req : Req := { waiter := .none, dst := dst, vc := 2, op := 6, addr := imsicAddr v, len := 4, age := s.ageStamp, narrow := none }
      match s.freeTag with
      | none => ({ s with tagWait := s.tagWait ++ [{ flit := f 0, req := req, stream := none }] }, false)
      | some tag =>
        let (s, dropped) := (s.takeTag tag).sendRaw { f tag with age := req.age }
        (if dropped then s else { s with reqs := s.reqs.put tag req }, dropped)
  else (s.deliver vector, false)

/-- Writes an entry to the error log with its mirror (R310, R311, R313). -/
def State.logMirrored (s : State) (code unit sev epoch addr detail : Nat) : State :=
  let base := s.fld R.ERL_MIRROR_BASE / 2 ^ 18 * 2 ^ 18
  let i := s.fld R.ERL_HEAD_INDEX
  let ma := base + 64 * i
  let mir := s.flag R.ERL_CTL_MIRROR_EN && decide (ma < s.stackTop) && (match s.spot ma with | some sp => !s.spotShut sp | none => false)
  let s := s.logEntry code unit sev epoch addr detail mir
  if mir then s.storeHome ma ((List.range 8).flatMap fun k => toBytes 8 (s.fld R.ERL_ENTRY_WORD [i, k])) 0 else s

/-- The unit a flit error or an item code is logged for: the shared link block (R72). -/
abbrev linkUnit : Nat := 0x20C0

/-- An interrupt whose forwarding write is dropped leaves ROUTE_DROP in the log (R341). -/
def State.interruptOnce (s : State) (src vector : Nat) : State × Bool :=
  let (s, dropped) := s.interruptRaw src vector
  (if dropped then s.logMirrored Code.ROUTE_DROP linkUnit 2 (s.fld R.EPO_CUR_EPOCH) 0 0 else s, dropped)

/-- The interrupt of an entry of the log, where ERL_CTL asks for it (R314); a ROUTE_DROP that it leaves finds the source pending, and raises no other. -/
def State.logInterrupt (s : State) (sev : Nat) : State :=
  if ((2 ≤ sev ∧ s.flag R.ERL_CTL_IRQ_UE) ∨ (sev = 1 ∧ s.flag R.ERL_CTL_IRQ_CE)) ∧ s.flag R.HRT_ROUTE_EN [0] then (s.interruptOnce 0 (s.fld R.HRT_ROUTE_VECTOR [0])).1 else s

/-- Writes an entry to the error log with its mirror and interrupt (R310 to R314). -/
def State.logFull (s : State) (code unit sev epoch addr detail : Nat) : State := (s.logMirrored code unit sev epoch addr detail).logInterrupt sev

/-- An interrupt of a source (R508, R509), with the entry and the log interrupt of a forwarding write that is dropped (R314, R341). -/
def State.interrupt (s : State) (src vector : Nat) : State :=
  let (s, dropped) := s.interruptOnce src vector
  if dropped then s.logInterrupt 2 else s

/-- A device-wide source routed by HRT_ROUTE (R508). -/
def State.interruptRoute (s : State) (src : Nat) : State :=
  if s.flag R.HRT_ROUTE_EN [src] then s.interrupt src (s.fld R.HRT_ROUTE_VECTOR [src]) else s

/-- Logs a code with the epoch of the event (R310); a corrected error may coalesce or go unlogged (R312). -/
def State.logAt (s : State) (code unit epoch addr detail : Nat) : State :=
  if code = Code.MEM_CE ∨ code = Code.WORD_CE then
    if s.flag R.ERL_CTL_CE_LOG then
      let n := s.newest
      let w1 := s.fld R.ERL_ENTRY_WORD [n, 1]
      let same := s.fld R.ERL_HEAD_SEQ != 0 && bits w1 0 16 == code && bits w1 16 16 == unit
        && s.fld R.ERL_ENTRY_WORD [n, 3] == addr % 2 ^ 48 && decide (s.nowNs < s.fld R.ERL_ENTRY_WORD [n, 0] + 1000000)
      if same then s.setFld R.ERL_ENTRY_WORD (putBits w1 48 16 (satInc 16 (bits w1 48 16))) [n, 1]
      else s.logFull code unit 1 epoch addr detail
    else s
  else s.logFull code unit (severityOf code) epoch addr detail

/-- Logs a code in the present epoch. -/
def State.log (s : State) (code unit : Nat) (addr : Nat := 0) (detail : Nat := 0) : State :=
  s.logAt code unit (s.fld R.EPO_CUR_EPOCH) addr detail

/-- DETAIL of a memory entry (Table 11-9); `v` lists the erased symbols before the others corrected. -/
def memDetail (sp : Spot) (v : LineView) (src marked cause : Nat) : Nat :=
  let c := spotCell sp
  let sy := fun i => if i < v.symbols.length then v.symbols.getD i 0 else 0xFF
  ofBytes (toBytes 2 (sp.key % 512 + b2n (decide (512 ≤ sp.key)) * 1024) ++ toBytes 1 (c.1 + c.2.1 * 4) ++ toBytes 1 c.2.2.1
    ++ toBytes 4 c.2.2.2 ++ toBytes 1 (sy 0) ++ toBytes 1 (sy 1) ++ toBytes 1 (sy 2) ++ toBytes 1 (sy 3)
    ++ toBytes 1 v.outcome ++ toBytes 1 src ++ toBytes 1 marked ++ toBytes 1 cause)

/-- Fences a channel by a trigger of R316 (R317). -/
def State.fenceChannel (s : State) (key cause : Nat) : State :=
  if s.chanFenced key then s else
    let s := if key < 512 then s.setFldBit R.STK_CHMAP_LIVE (key % 32) false [key / 128, key / 32 % 4]
      else s.setFldBit R.RIM_STATUS_LIVE (key % 2) false [(key - 512) / 2]
    s.log Code.CHANNEL_FENCED (chanUnit key) 0 (memDetail ⟨key, 0⟩ ⟨5, [], 0, []⟩ 0 (s.mem.lanes.getD key []).length cause)

/-- All marked lanes of the device. -/
def State.laneCount (s : State) : Nat := (s.mem.lanes.map fun e => e.2.length).sum

/-- FW7 marks a lane (R315). -/
def State.putLane (s : State) (key lane : Nat) : State :=
  let i := s.laneCount
  let s := { s with mem := { s.mem with lanes := s.mem.lanes.put key (s.mem.lanes.getD key [] ++ [lane]) } }
  let s := s.setFld R.ERL_LANE_CHANNEL (key % 512) [i]
  let s := s.setFld R.ERL_LANE_TIER (key / 512) [i]
  let s := s.setFld R.ERL_LANE_LANE lane [i]
  let s := s.setFld R.ERL_LANE_VALID 1 [i]
  s.log Code.LANE_ERASED (chanUnit key)

/-- One more lane of a channel may be marked: two of it, 64 of the device (R315). -/
def State.laneRoom (s : State) (key : Nat) : Bool :=
  decide ((s.mem.lanes.getD key []).length + (s.mem.laneDue.filter fun e => e.1 == key).length < 2 ∧ s.laneCount + s.mem.laneDue.length < 64)

/-- A lane that meets R315: marked, at once or when FW7 has restarted (Table 16-4), or the channel fenced by trigger 1, which outcomes of the scrub do not count toward (R308, R316). -/
def State.markLane (s : State) (key lane : Nat) (fence : Bool) : State :=
  let old := s.mem.lanes.getD key []
  let due := s.mem.laneDue
  if old.contains lane || due.contains (key, lane) then s
  else if !s.laneRoom key then (if fence then s.fenceChannel key 1 else s)
  else if s.fld R.FWP_STATUS_STATE [7] = 0 then s.putLane key lane
  else { s with mem := { s.mem with laneDue := due ++ [(key, lane)] } }

/-- FW7 has restarted: the lanes that fell due are marked, and retirements that waited are done (Table 16-4). -/
def State.resumeRas (s : State) : State :=
  let due := s.mem.laneDue
  let ret := s.mem.retireDue
  let s := { s with mem := { s.mem with laneDue := [], retireDue := false } }
  let s := due.foldl (fun s e => s.putLane e.1 e.2) s
  if ret then
    ((s.setFlag R.ERL_RETIRE_STATUS_DONE true).setFld R.ERL_RETIRE_STATUS_STATUS 0).setFlag R.ERL_RETIRE_STATUS_BUSY (!s.mem.persist.isEmpty)
  else s

/-- A corrected line counts toward lane marking when its symbols lie in one unmarked lane (R315). Those of the scrub mark a lane with the others, but fence nothing: trigger 1 of R316 needs the threshold reached without them (R308). -/
def State.countCe (s : State) (key : Nat) (symbols : List Nat) (scrub : Bool := false) : State :=
  let lanes := (symbols.map (· / 2)).eraseDups.filter fun l => !(s.mem.lanes.getD key []).contains l
  match lanes with
  | [l] =>
    let th := s.fld R.ERL_THRESH_LANE_CE
    let k := key * 64 + l
    let recent := fun (m : FMap (List Nat)) => (m.getD k []).filter fun t => decide (s.elapsedNs < t + 1000000)
    let reads := (if scrub then [] else [s.elapsedNs]) ++ recent s.mem.ceTimes
    let scrubs := (if scrub then [s.elapsedNs] else []) ++ recent s.mem.scrubTimes
    let fence := decide (th ≤ reads.length)
    if th ≠ 0 ∧ th ≤ reads.length + scrubs.length ∧ (fence || s.laneRoom key) then
      { s with mem := { s.mem with ceTimes := FMap.del k s.mem.ceTimes, scrubTimes := FMap.del k s.mem.scrubTimes } }.markLane key l fence
    else { s with mem := { s.mem with ceTimes := s.mem.ceTimes.put k reads, scrubTimes := FMap.setD s.mem.scrubTimes k [] scrubs } }
  | _ => s

/-- An uncorrectable or miscorrected read of an engine, the narrow path or a hearth core counts toward trigger 3 (R316). -/
def State.countUe (s : State) (key src : Nat) : State :=
  if src = 0 ∨ src = 2 ∨ src = 3 then
    let th := s.fld R.ERL_THRESH_UE_FENCE
    let ts := s.elapsedNs :: (s.mem.ueTimes.getD key []).filter fun t => decide (s.elapsedNs < t + 1000000000)
    let s := { s with mem := { s.mem with ueTimes := s.mem.ueTimes.put key ts } }
    if th ≠ 0 ∧ th ≤ ts.length then s.fenceChannel key 3 else s
  else s

/-- The marks a read of a tier line leaves: traffic, counters, log entries, lane marks and fences (Table 11-3, R312, R315, R316). -/
def State.noteRead (s : State) (a : Nat) (v : LineView) (src : Nat) : State :=
  match s.spot a with
  | none => s
  | some sp =>
    let s := (s.tierAccess sp).bumpSat R.SCA_STAT_MISSES [homeDie sp, homeSlice sp]
    let er := s.erasures sp.key
    let d := memDetail sp { v with symbols := er ++ v.symbols.filter fun p => !er.contains p } src (s.mem.lanes.getD sp.key []).length 0
    let u := chanUnit sp.key
    match v.outcome with
    | 1 => (((s.bumpSat R.ERL_COUNTS_CE).log Code.MEM_CE u a d).countCe sp.key v.symbols)
    | 2 => (((s.bumpSat R.ERL_COUNTS_UE).log Code.MEM_UE u a d).countUe sp.key src)
    | 3 => (s.bumpSat R.ERL_COUNTS_UE).log Code.TC_MISMATCH u a d
    | 4 => (((s.bumpSat R.ERL_COUNTS_UE).log Code.MEM_UE u a d).countUe sp.key src)
    | _ => s

/-- A line the L3 holds is recalled: dirty data is written back, and for a write or an atomic the copy ends (R507). -/
def State.recall (s : State) (a : Nat) (invalidate : Bool) : State :=
  let l := a / 64
  match s.mem.l3.find? l with
  | none => s
  | some held =>
    let s := match held with
      | none => s
      | some (d, p) => s.storeHome (l * 64) d p
    { s with mem := { s.mem with l3 := if invalidate then FMap.del l s.mem.l3 else s.mem.l3.put l none } }

/-- The unit ID of a tile (R72). -/
def tileUnit (p : Nat) : Nat := 0x1000 + 0x400 * (p / 144) + p % 144

/-- The unit ID of a shared-cache slice (R72). -/
def sliceUnit (d l : Nat) : Nat := 0x1110 + 0x400 * d + l

/-- The unit an on-chip line belongs to: a tile, or a shared-cache slice (R72). -/
def chipUnit (a : Nat) : Nat :=
  match localRegion a with
  | .tile p _ => tileUnit p
  | .window o => sliceUnit (bits o 26 2) (bits o 22 4)
  | _ => 0

/-- The unit that holds a line and sends it over the mesh: the home slice of a memory line, or the line's on-chip unit (R72). -/
def State.senderUnit (s : State) (a : Nat) : Nat :=
  match s.spot a with
  | some sp => sliceUnit (homeDie sp) (homeSlice sp)
  | none => chipUnit a

/-- An on-chip line's travel check made at a reader: a failure is counted and logged (R294). -/
def State.noteChip (s : State) (a : Nat) (v : LineView) : State :=
  if v.outcome = 3 then (s.bumpSat R.ERL_COUNTS_UE).log Code.TC_MISMATCH (s.senderUnit a) a else s

/-- An on-chip line about to be changed in part: it is checked first, and where the check fails all its words are poisoned; a new check goes with what is written (R293). -/
def State.settleLine (s : State) (a : Nat) : State :=
  let v := s.mem.chipView a
  let s := s.noteChip a v
  let m := if v.outcome = 3 then (List.range 8).foldl (fun m i => m.mark (a / 8 + i) true) s.mem else s.mem
  { s with mem := { m with checks := FMap.del (a / 64) m.checks } }

/-- A line read at its home slice: recall, then the slice's own copy, or a fill that decodes the tier's line, leaves its marks, and is kept where it decoded (R270, R290, R507). A line out of reach touches neither (R317).
DESIGN CHOICE (log 9): a line that did not decode is not kept, so that every read of it reaches the tier. -/
def State.readLine (s : State) (a src : Nat) : LineView × State :=
  let a := s.localAddr a
  let s := s.recall a false
  let v := s.lineView a
  match s.spot a with
  | none => (v, s.noteChip a v)
  | some sp =>
    if s.spotShut sp then (v, s)
    else if (s.mem.slices.find? (a / 64)).isSome then (v, (s.bumpSat R.SCA_STAT_HITS [homeDie sp, homeSlice sp]).noteChip a v)
    else
      let s := s.noteRead a v src
      (v, if v.outcome ≤ 1 then s.keepLine sp a v else s)

/-- A full-line write as an access to the slice: it hits where the slice holds the line (Table 10-13). -/
def State.writeLine (s : State) (a : Nat) (data : List Byte) (poison : Nat) : State :=
  let a := s.localAddr a
  let s := s.recall a true
  let s := match s.spot a with
    | some sp => if (s.mem.slices.find? (a / 64)).isSome ∧ s.spotShut sp = false then s.bumpSat R.SCA_STAT_HITS [homeDie sp, homeSlice sp] else s
    | none => s
  s.storeHome a data poison

/-- DETAIL of POISON_CONSUMED (Table 11-10). -/
def poisonDetail (site core inst q pc : Nat) : Nat :=
  ofBytes (toBytes 1 site ++ toBytes 1 core ++ toBytes 2 inst ++ toBytes 4 q ++ toBytes 8 pc)

/-- The queue of the item whose write is under way, 0 where it is none's (Table 11-10). -/
def State.curQueue (s : State) : Nat :=
  match s.mem.cur with
  | .item id => ((s.items.find? id).map (·.queue)).getD 0
  | _ => 0

/-- Logs POISON_CONSUMED for a place outside the reed cores (R300). -/
def State.logPoison (s : State) (site unit q addr pc : Nat) : State :=
  s.log Code.POISON_CONSUMED unit addr (poisonDetail site 0xFF 0xFFFF q pc)

/-- A remote write of a hart has been answered; a FENCE that waited for the last one ends (R511). -/
def State.remoteDone (s : State) (h : Nat) : State :=
  let n := (s.hart h).remote - 1
  let waits := (s.hart h).fencing && n == 0
  let s := s.setHart h { s.hart h with remote := n, fencing := (s.hart h).fencing && n != 0 }
  if waits then s.emit (.hearthFenceDone h) else s

/-- A remote request that fails with a response status (R342). -/
def State.failRequest (s : State) (r : Req) : State :=
  match r.waiter with
  | .item id => match s.items.find? id with
    | none => s
    | some it =>
      let s := match s.cols.find? id with
        | some c => { s with cols := s.cols.put id { c with failed := some r.dst } }
        | none => s
      { s with items := s.items.put id { it with status := if it.status = 0 then Code.REMOTE_UNREACHABLE else it.status, pendingRemote := it.pendingRemote - 1 } }
  | .hearth h isLoad =>
    let s := if isLoad then s else
      s.remoteDone h
    s.emit (.hearthFault h r.addr)
  | .core c => { s with mem := { s.mem with remote := s.mem.remote.put (r.addr / 64 + 2 ^ 60 * (c + 1)) ([], 256) } }
  | .roster m => { s with roster := { s.roster with state := s.roster.state.put m 3 } }
  | .none => s

/-- A request sent under a TAG, with the stamp of its creation (R57); one that finds no route is answered with STATUS 1 (R341). -/
def State.sendReq (s : State) (f : Flit) (req : Req) (tag : Nat) : State :=
  let (s, dropped) := (s.takeTag tag).sendRaw { f with age := req.age }
  if dropped then (s.log Code.ROUTE_DROP linkUnit).failRequest req else { s with reqs := s.reqs.put tag req }

/-- The hub unit that feeds a requester's flits to a port (Table 3-9).
DESIGN CHOICE (log 134): which units are the sources 0 to 7 of a virtual channel: the bridges of the dies 0 to 3, the hearth 4, firmware, link control and the other hub units 5, the collective engine 6, another port 7. -/
def State.feeder (s : State) : Waiter → Nat
  | .item id => ((s.items.find? id).map (·.die)).getD 5
  | .core c => c / 1152
  | .hearth _ _ => 4
  | _ => 5

/-- Narrow requests that the units of a die have issued and that have no answer (R267). -/
def State.narrowOut' (s : State) (die : Nat) : Nat :=
  (s.reqs.filter fun e => e.2.narrow == some die).length + (s.tagWait.filter fun a => a.req.narrow == some die).length

/-- A request sent under the next TAG, or waiting for one (R342). -/
def State.sendAny (s : State) (f : Nat → Flit) (req : Req) : State :=
  match s.freeTag with
  | some tag => s.sendReq (f tag) req tag
  | none => { s with tagWait := s.tagWait ++ [{ flit := f 0, req := req, stream := none }] }

/-- A narrow request of an item's DMA engine waits at the limit of its die, and behind those of its own that wait (R267, R268). -/
def State.narrowHeld (s : State) (req : Req) : Bool :=
  match req.narrow, req.waiter with
  | some die, .item _ => decide (4096 ≤ s.narrowOut' die) || s.narrowWait.any fun a => a.req.waiter == req.waiter
  | _, _ => false

/-- The collective step a request belongs to. -/
def State.stepOfWaiter (s : State) : Waiter → Option Nat
  | .item id => if (s.cols.find? id).isSome then some id else none
  | _ => none

/-- One TXN request to a member (R327, R511); VC2 for register space, VC3 otherwise. It waits at the narrow limit (R267), and where no TAG may be taken (R342). -/
def State.askRemote (s : State) (w : Waiter) (m off op lines pmark arg : Nat) (data : List Byte) (addr len : Nat) : State :=
  let vc := if 0x0F000000000 ≤ off ∧ off < 0x0F100000000 then 2 else 3
  let dst := s.fld R.NLK_MEMBER_NODE [m]
  let s := match w with
    | .item id => match s.items.find? id with
      | some it => { s with items := s.items.put id { it with pendingRemote := it.pendingRemote + 1 } }
      | none => s
    | _ => s
  let req : Req := { waiter := w, dst := dst, vc := vc, op := op, addr := addr, len := len, age := s.ageStamp, narrow := s.mem.curDie }
  let f := fun tag => { Flit.mk' 7 vc dst (txnPayload off tag s.node op lines pmark 0 arg data) with ttl := s.fld R.NLK_NODE_TTL_INIT, src := s.feeder w, step := s.stepOfWaiter w }
  if s.narrowHeld req then
    ({ s with narrowWait := s.narrowWait ++ [({ flit := f 0, req := req, stream := none } : Ask)] } : State).bumpSat R.SCA_NARROW_FULL_WAITS [req.narrow.getD 0]
  else s.sendAny f req

/-- The bus address of an offset of the outbound window; the low 12 bits of BUS_BASE are ignored (R517). -/
def State.busAddr (s : State) (off : Nat) : Nat := (s.fld R.PCI_OB_BUS_BASE / 4096 * 4096 + off) % 2 ^ 64

/-- Writes sent through the PCIe port, with EP set for poison (R299, R517). -/
def State.pcieOut (s : State) (off a : Nat) (data : List Byte) (poison : Bool) : State :=
  let s := if poison then s.logPoison 0x09 0x2300 s.curQueue a 0 else s
  s.emit (.pcieReq 0 true (s.busAddr off) data poison)

/-- A full line written where its address lies: at home, to another member, or through the PCIe port; a poisoned line is not sent to a member (R299). -/
def State.storeLine (s : State) (a : Nat) (data : List Byte) (poison : Nat) : State :=
  match s.regionOf a with
  | .remote m off =>
    if poison = 0 then s.askRemote s.mem.cur m off 1 1 0 0 (padTo 64 data) a 64
    else (s.logPoison 0x08 linkUnit s.curQueue a 0).askRemote s.mem.cur m off 1 1 1 0 (zeros 64) a 64
  | .pcie off => s.pcieOut off a (padTo 64 data) (poison != 0)
  | _ => s.writeLine a data poison

/-- Narrow writes of the words of one line to another member (R511).
DESIGN CHOICE (log 138): so goes also a work item's write of part of a line, since a line operation carries no byte enables and a read in its place would not be one access (Table 12-4). -/
def State.narrowOut (s : State) (m off a : Nat) (data : List Byte) (poison : Bool) : State :=
  let w0 := off / 8
  (List.range ((off + data.length - 1) / 8 + 1 - w0)).foldl (fun s i =>
    let base := (w0 + i) * 8
    let lo := max base off
    let hi := min (base + 8) (off + data.length)
    let en := (2 ^ (hi - lo) - 1) * 2 ^ (lo - base)
    let bytes := zeros (lo - base) ++ (data.drop (lo - off)).take (hi - lo)
    if poison then (s.logPoison 0x08 linkUnit s.curQueue a 0).askRemote s.mem.cur m base 6 1 1 en (zeros 64) (a - off + base) 8
    else s.askRemote s.mem.cur m base 6 0 0 en (padTo 8 bytes) (a - off + base) 8) s

/-- The part of a line between two offsets replaced. -/
def splice (old : List Byte) (off : Nat) (new : List Byte) : List Byte := old.take off ++ new ++ old.drop (off + new.length)

/-- A write of part of one line: merged at the home slice on a tier, word by word on chip (R269, R552). -/
def State.storePart (s : State) (a : Nat) (data : List Byte) (poison : Bool) (src : Nat) : State :=
  let a := s.localAddr a
  let base := a / 64 * 64
  let off := a % 64
  if data.length = 0 then s else
  match s.regionOf a with
  | .remote m o => if off = 0 ∧ 64 ≤ data.length then s.storeLine a (data.take 64) (if poison then 255 else 0) else s.narrowOut m o a data poison
  | .pcie o => s.pcieOut o a data poison
  | _ =>
  if off = 0 ∧ 64 ≤ data.length then s.writeLine a (data.take 64) (if poison then 255 else 0)
  else
    let s := s.recall base true
    match s.spot base with
    | some _ =>
      let unwritten := !s.mem.written base
      let (v, s) := s.readLine base src
      s.storeHome base (splice v.data off data) (if v.poison ≠ 0 ∨ poison ∨ unwritten then 255 else 0)
    | none =>
      let s := s.settleLine base
      let v := s.lineView base
      let whole := fun i => decide (off ≤ 8 * i) && decide (8 * i + 8 ≤ off + data.length)
      let touched := fun i => decide (off < 8 * i + 8) && decide (8 * i < off + data.length)
      let words := (List.range 8).filter touched
      let new := splice v.data off data
      let m := words.foldl (fun m i =>
        (m.putBytes (base + 8 * i) ((new.drop (8 * i)).take 8)).mark (base / 8 + i) (poison || (!whole i && bit v.poison i))) s.mem
      { s with mem := m.dropReservations base 64 }

/-- Bytes written over any number of lines. -/
def State.storeBytesAux (src : Nat) (poison : Bool) : Nat → State → Nat → List Byte → State
  | 0, s, _, _ => s
  | fuel + 1, s, a, data =>
    if data.isEmpty then s else
      let n := 64 - a % 64
      State.storeBytesAux src poison fuel (s.storePart a (data.take n) poison src) (a + n) (data.drop n)

/-- Bytes written over any number of lines, each line whole where it is covered. -/
def State.storeBytes (s : State) (a : Nat) (data : List Byte) (poison : Bool) (src : Nat) : State :=
  State.storeBytesAux src poison (data.length / 64 + 2) s a data

/-- The lines of [a, a + n) read once each, with their marks. -/
def State.touchLines (s : State) (a n src : Nat) : State :=
  if n = 0 then s else
    (List.range ((a + n - 1) / 64 + 1 - a / 64)).foldl (fun s i => (s.readLine ((a / 64 + i) * 64) src).2) s

/-- The bytes of [a, a + n) as reads deliver them, with whether any word touched is poisoned. -/
def State.peek (s : State) (a n : Nat) : List Byte × Bool :=
  if n = 0 then ([], false) else
    let views := (List.range ((a + n - 1) / 64 + 1 - a / 64)).map fun i => ((a / 64 + i) * 64, s.lineView ((a / 64 + i) * 64))
    let data := ((views.flatMap (·.2.data)).drop (a % 64)).take n
    let p := views.any fun (b, v) => (List.range 8).any fun i =>
      bit v.poison i && decide (a < b + 8 * i + 8) && decide (b + 8 * i < a + n)
    (data, p)

/-- A little-endian number of `n` bytes at `a`, with its poison. -/
def State.peekNat (s : State) (a n : Nat) : Nat × Bool :=
  let (d, p) := s.peek a n
  (ofBytes d, p)

/-- Whether every byte of [a, a + n) is mapped memory of this device. -/
def State.mappedRange (s : State) (a n : Nat) : Bool :=
  n == 0 || (List.range ((a + n - 1) / 64 + 1 - a / 64)).all fun i => s.mapped ((a / 64 + i) * 64)

/-- The canonical form of memory: cell addresses and poison marks strictly rising. An unlisted byte is one that nothing has written, which no entry can say, so no entry equals it (R287, R304). -/
def Mem.wf (m : Mem) : Bool := FMap.sorted m.cells && FMap.sorted m.poison

end Sys2Proof.Machine
end

