-- ==== Sys2Proof/Machine/Operands.lean ====
section
/-! DEFINITION. Operand forms: the fields of a work descriptor's common header (Table 15-1), queue rings, contexts, tile groups, and the elements of a stored array. -/

namespace Sys2Proof.Machine
open Sys2Proof

/-- Bits [lo + w - 1 : lo] of the little-endian field that starts at byte `off`. -/
def dsc (d : Desc) (off lo w : Nat) : Nat := bits d.toNat (8 * off + lo) w

/-- CLASS. -/
def hClass (d : Desc) : Nat := dsc d 0x00 0 8
/-- SR_BITS. -/
def hSrBits (d : Desc) : Nat := dsc d 0x01 0 5
/-- CONTEXT. -/
def hContext (d : Desc) : Nat := dsc d 0x02 0 12
/-- TAG. -/
def hTag (d : Desc) : Nat := dsc d 0x04 0 16
/-- LAYER_ID. -/
def hLayer (d : Desc) : Nat := dsc d 0x06 0 16
/-- TENSOR_ID. -/
def hTensor (d : Desc) : Nat := dsc d 0x08 0 32
/-- STEP. -/
def hStep (d : Desc) : Nat := dsc d 0x0C 0 32
/-- ENERGY_EST. -/
def hEst (d : Desc) : Nat := dsc d 0x10 0 32
/-- A flag bit of FLAGS. -/
def hFlag (d : Desc) (i : Nat) : Bool := dsc d 0x14 i 1 == 1
/-- TGROUP. -/
def hTgroup (d : Desc) : Nat := dsc d 0x16 0 6
/-- LADDER_SRC. -/
def hLadderSrc (d : Desc) : Nat := dsc d 0x2E 0 16
/-- GATE. -/
abbrev hGate (d : Desc) : Bool := hFlag d 0
/-- GATE_LAST. -/
abbrev hGateLast (d : Desc) : Bool := hFlag d 1
/-- LADDER_EN. -/
abbrev hLadderEn (d : Desc) : Bool := hFlag d 2
/-- LADDER_OPD: operand B. -/
abbrev hLadderOpd (d : Desc) : Bool := hFlag d 3
/-- OPTSTEP. -/
abbrev hOptstep (d : Desc) : Bool := hFlag d 4
/-- STEP_COMMIT. -/
abbrev hStepCommit (d : Desc) : Bool := hFlag d 5
/-- SNAPSHOT. -/
abbrev hSnapshot (d : Desc) : Bool := hFlag d 6
/-- NO_CQE. -/
abbrev hNoCqe (d : Desc) : Bool := hFlag d 12

/-- Whether every bit of the class area is 0. -/
def classAreaZero (d : Desc) : Bool := dsc d 0x30 0 640 == 0

/-- Whether a class uses TGROUP (Table 15-2). -/
def usesTgroup (cls : Nat) : Bool := decide (1 ≤ cls ∧ cls ≤ 7)

/-- Ring base of a queue; the low 12 bits are ignored (Table 15-8). -/
def State.qBase (s : State) (q : Nat) : Nat := s.fld R.WQS_W0_BASE [q] / 4096 * 4096

/-- Entries of a queue's ring. -/
def State.qLen (s : State) (q : Nat) : Nat := 2 ^ s.fld R.WQS_W0_LOG2_N [q]

/-- Address of ring entry i (R404). -/
def State.ringAddr (s : State) (q i size : Nat) : Nat := s.qBase q + size * (i % s.qLen q)

/-- Address of a work queue's head descriptor. -/
def State.headAddr (s : State) (q : Nat) : Nat := s.ringAddr q (s.fld R.WQS_W2_CI [q]) 128

/-- The head descriptor's bits. -/
def State.headDesc (s : State) (q : Nat) : Desc := BitVec.ofNat 1024 (s.peekNat (s.headAddr q) 128).1

/-- Poison of the head's 16 words. -/
def State.headPoison (s : State) (q : Nat) : Nat :=
  let a := s.headAddr q
  (List.range 16).foldl (fun m i => m + b2n (s.wordView (a + 8 * i)).2 * 2 ^ i) 0

/-- Whether a ring of `n` bytes at `b` lies wholly inside present stack or rim memory (R404). -/
def State.inTier (s : State) (b n : Nat) : Bool :=
  (decide (b + n ≤ s.stackTop)) ||
  (s.flag R.GLB_CAPS_RIM_PRESENT && decide (0x10000000000 ≤ b) && decide (b + n ≤ 0x10000000000 + s.rimTop))

/-- (a − b) mod 2^w < 2^(w−1): the comparison of counts that wrap. -/
def reached (w a b : Nat) : Bool := decide ((a + 2 ^ w - b % 2 ^ w) % 2 ^ w < 2 ^ (w - 1))

/-- Whether event counter k has reached a 48-bit value (R415). -/
def State.evcReached (s : State) (k v : Nat) : Bool := reached 48 (s.fld R.EVC_VALUE [k] % 2 ^ 48) (v % 2 ^ 48)

/-- Whether both waits of a header are met (R415). -/
def State.waitsMet (s : State) (d : Desc) : Bool :=
  (!hFlag d 7 || s.evcReached (dsc d 0x18 0 16) (dsc d 0x18 16 48)) && (!hFlag d 8 || s.evcReached (dsc d 0x20 0 16) (dsc d 0x20 16 48))

/-- The context's slice: 1 evaluation. -/
def State.ctxSlice (s : State) (c : Nat) : Nat := s.fld R.QMC_CTX_W0_SLICE [c]

/-- Die and local index of a physical tile. -/
abbrev tix (p : Nat) : List Nat := [p / 144, p % 144]

/-- Whether a tile belongs to a tile group. -/
def State.inGroup (s : State) (g p : Nat) : Bool := bit (s.fld R.TIL_GROUPS_MASK (tix p)) g

/-- The tiles of a tile group in logical order, which within one slice is physical order (R53). -/
def State.groupTiles (s : State) (g : Nat) : List Nat := (List.range 576).filter (s.inGroup g)

/-- The slice of a tile group's tiles; none for a group without tiles. -/
def State.groupSlice (s : State) (g : Nat) : Option Nat := (s.groupTiles g).head?.map fun p => s.fld R.TIL_ID_ROLE (tix p)

/-- An element of a packed array: `w` bits at bit position w × i from byte address `a` (R82). -/
def packedAt (bytes : List Byte) (w i : Nat) : Nat :=
  if w % 8 = 0 then fieldAt bytes (w / 8 * i) (w / 8)
  else bits (fieldAt bytes (w * i / 8) 2) (w * i % 8) w

/-- Elements packed into bytes, the last byte filled with zeros (R82). -/
def packElems (w : Nat) (es : List Nat) : List Byte :=
  toBytes ((w * es.length + 7) / 8) (es.foldr (fun e acc => e % 2 ^ w + 2 ^ w * acc) 0)

/-- Whether two byte ranges share a byte. -/
def overlaps (a n b m : Nat) : Bool := decide (0 < n) && decide (0 < m) && decide (a < b + m) && decide (b < a + n)

/-- Whether a byte range takes in memory of a unit GLB_CAPS reports absent: rim memory or the PCIe port (R4); the own member's window names local memory, rim memory at its place there (R510). -/
def State.rangeAbsent (s : State) (a n : Nat) : Bool :=
  let own := 0x800000000000 + s.fld R.GLB_WEAVE_MEMBER * 2 ^ 41
  ((overlaps a n 0x10000000000 0x10000000000 || overlaps a n (own + 0x10000000000) 0x10000000000) && !s.flag R.GLB_CAPS_RIM_PRESENT) ||
  (overlaps a n 0x400000000000 0x10000000000 && !s.flag R.GLB_CAPS_PCIE_PRESENT)

/-- Whether an address names memory of an absent unit (R4). -/
def State.namesAbsent (s : State) (a : Nat) : Bool := s.rangeAbsent a 1

end Sys2Proof.Machine
end

