-- ==== Sys2Proof/Machine/Flags.lean ====
section
/-! DEFINITION. Flags: the numeric-flag byte (Table 4-9), the rounding control a descriptor selects (R97 to R103, R106), the ladder's formats (R102, R243). -/

namespace Sys2Proof.Machine
open Sys2Proof

/-- Whether a numeric-flag byte has a flag. -/
def hasFlag (flags f : Nat) : Bool := flags / f % 2 == 1

/-- The OR of numeric-flag bytes. -/
def orFlags (l : List Nat) : Nat := l.foldl (· ||| ·) 0

/-- A flush count that sticks at 0x3FF in a completion record (Table 15-3). -/
def flush10 (n : Nat) : Nat := min n 0x3FF

/-- A rounding code a descriptor may carry (R98). -/
def rndOk (code : Nat) : Bool := code < 5 || code == 7

/-- An SR_BITS value a descriptor may carry (R103). -/
def srBitsOk (r : Nat) : Bool := r == 0 || (8 ≤ r && r ≤ 24)

/-- Registers with G fields that software writes: TIL_NUM_CTL, TIL_SR_SEED, COL_CFG, COL_SR_SEED, TRN_LMT_CFG, TRN_LAYER, QMC_CTX. -/
def isModeReg (off : Nat) : Bool :=
  (decide (0x10000000 ≤ off ∧ off < 0x20000000) && (off % 0x10000 == 0x40 || off % 0x10000 == 0x48)) ||
    off == 0x21000008 || off == 0x21000010 || off == 0x07000028 || decide (0x07100000 ≤ off ∧ off < 0x07108000) ||
    decide (0x0B010000 ≤ off ∧ off < 0x0B020000)

/-- The configuration in force now, which an item dispatched now runs with (R67, R70). -/
def State.modeRegs (s : State) : FMap Word := FMap.keep (fun off _ => isModeReg off) s.regs

/-- A field of the configuration an item runs with (R70). -/
def cfgFld (it : Item) (f : Fld) (ix : List Nat := []) : Nat := bits (FMap.getD it.cfg (f.at ix) f.rst).toNat f.lo f.w

/-- The rounding mode of a code on a tile (R97). -/
def rndMode (it : Item) (p code : Nat) : Nat := if code = 7 then cfgFld it R.TIL_NUM_CTL_RND (tix p) else code

/-- The overflow mode: field 00 the tile's default, 01 IEEE, 10 saturate (R101, Table 6-7). -/
def ovfMode (it : Item) (p code : Nat) : Bool :=
  if code = 0 then cfgFld it R.TIL_NUM_CTL_OVF (tix p) == 1 else code == 2

/-- R of stochastic rounding (R103). -/
def srBits (it : Item) (p : Nat) : Nat :=
  if hSrBits it.desc = 0 then cfgFld it R.TIL_NUM_CTL_SR_BITS (tix p) else hSrBits it.desc

/-- The rounding control of the element with a logical index, on a tile (R105, R106). -/
def rndCtl (it : Item) (p rnd ovf index : Nat) : Rnd :=
  let mode := rndMode it p rnd
  { mode := mode, ovf := ovfMode it p ovf, r := srBits it p
    word := if mode = 4 then genWord (cfgFld it R.TIL_SR_SEED_SEED (tix p)) (hTensor it.desc) index (hStep it.desc) else 0 }

/-- A layer's present rung in a slice (R241). -/
def State.rungOf (s : State) (slice layer : Nat) : Nat :=
  if slice = 0 then s.fld R.TRN_LAYER_RUNG_T [layer] else s.fld R.TRN_LAYER_RUNG_E [layer]

/-- A row stride rewritten for a format (R243). -/
def ladderStride (stride oldFmt newFmt : Nat) : Nat := stride * fmtBits newFmt / fmtBits oldFmt

/-- Whether the strides of every rung up to `top` are whole multiples of 64 bytes (R244). -/
def ladderStridesOk (stride fmt top : Nat) (sc : Bool) : Bool :=
  (List.range (top + 1)).all fun r =>
    let f := (ladderTo r fmt sc).1
    stride * fmtBits f % fmtBits fmt == 0 && ladderStride stride fmt f % 64 == 0

end Sys2Proof.Machine
end

