-- ==== Sys2Proof/Machine/Power.lean ====
section
/-! DEFINITION. Rails, throttles and the flags they raise: the effective setpoint (R478), THROTTLE (R481) and SLOW (R264), STATUS flits (R369), emergencies (R454), alert sources (R30). -/

namespace Sys2Proof.Machine
open Sys2Proof

/-- A core rail's record: die 0 to 3, 4 the hub. -/
def State.rail (s : State) (d : Nat) : Rail := s.rails.getD d { fw1 := 700, stage := 0, ramp := none, icl := none, droop := false }

/-- A core rail's record changed. -/
def State.modRail (s : State) (d : Nat) (f : Rail → Rail) : State := { s with rails := s.rails.put d (f (s.rail d)) }

/-- Whether firmware processor p runs (Table 16-8). -/
def State.fwRuns (s : State) (p : Nat) : Bool := s.fld R.FWP_STATUS_STATE [p] == 0

/-- The smaller of a number and a cap, where there is one. -/
def capBy (n : Nat) : Option Nat → Nat
  | some c => min n c
  | none => n

/-- FW1 controls the rails: the units run, and so does FW1 (R19).
DESIGN CHOICE (log 134): after a start-up that has failed it does not. -/
def State.fw1Controls (s : State) : Bool := s.up && s.fwRuns 1

/-- The setpoint a rail moves to: the smallest of the values of R478, never below 600 mV; a hotspot trip commands 600 mV (Table 17-4).
DESIGN CHOICE (log 118): before the image has set VMAX there is none, and the trip's 600 mV stand until MOD_EN falls. -/
def State.railTarget (s : State) (d : Nat) : Nat :=
  let r := s.rail d
  let low := s.flag R.NRG_THR_OVERSHOOT || s.flag R.NRG_THR_BRAKE || s.sb.trip || r.stage == 2
  let v := if s.fw1Controls then r.fw1 else 700
  let v := if s.up || s.fld R.NRG_ENVELOPE_VMAX_MV != 0 then min v (s.fld R.NRG_ENVELOPE_VMAX_MV) else v
  let v := if 1 ≤ r.stage then min v (s.fld R.NRG_THR_HOT_MV) else v
  let v := capBy v r.icl
  max 600 (if low then 600 else v)

/-- A rail falls to its target at once; it rises in one move while FW1 is away, and otherwise waits for RAIL_RAMP_STEP (Table 17-3). -/
def State.moveRail (s : State) (d : Nat) : State :=
  let t := s.railTarget d
  let cur := s.fld R.NRG_DIE_W0_SETPOINT_MV [d]
  if s.fw1Controls ∧ cur < t then s.modRail d fun r => { r with ramp := some cur }
  else (s.setFld R.NRG_DIE_W0_SETPOINT_MV t [d]).modRail d fun r => { r with ramp := none }

/-- A throttle of Table 17-3 is in force. -/
def State.throttled (s : State) : Bool :=
  s.fld R.NRG_THR_HOT != 0 || s.flag R.NRG_THR_ICL || s.flag R.NRG_THR_OVERSHOOT || s.flag R.NRG_THR_BRAKE

/-- SLOW: a stack is capped to 40 % (R264). -/
def State.slowStands (s : State) : Bool :=
  (List.range 16).any fun k => s.fld R.STK_STATUS_STATE [k / 4, k % 4] == 3

/-- FLAGS of a heartbeat or STATUS flit (Table 12-7). -/
def State.hbFlags (s : State) (fenced : Bool) : Nat :=
  b2n s.slowStands + 2 * b2n (s.flag R.NRG_THR_THROTTLE) + 4 * b2n fenced + 8 * b2n s.time.locked

/-- The payload of Table 12-7. -/
def hbPayload (time node port flags seq : Nat) : List Byte :=
  toBytes 8 time ++ toBytes 2 node ++ toBytes 1 port ++ toBytes 1 flags ++ toBytes 4 seq

/-- A flit of this device put on its way, created now; one without a way out is discarded, counted and logged (R341). -/
def State.sendFlit (s : State) (f : Flit) : State :=
  let (s, dropped) := s.sendRaw (f.stamped s)
  if dropped then s.log Code.ROUTE_DROP linkUnit else s

/-- A STATUS flit to a node (R345, R369); the manual gives no heartbeat count for it: a free value. -/
def State.sendStatus (s : State) (node : Nat) : State :=
  let (w, s) := s.free
  s.sendFlit { Flit.mk' 6 1 node (hbPayload s.nowNs s.node 0xF (s.hbFlags s.job.running) (bits w.toNat 0 32)) with ttl := s.fld R.NLK_NODE_TTL_INIT, src := 6 }

/-- GROUP of a COLLECTIVE_STEP descriptor (Table 13-2). -/
def cGroup (d : Desc) : Nat := dsc d 0x30 0 6

/-- The groups with a step in flight, lowest first; one that waits for FW6 or for its VC is not (R353, R379). -/
def State.activeGroups (s : State) : List Nat :=
  (List.range 64).filter fun g => s.cols.any fun e => match s.items.find? e.1 with
    | some it => cGroup it.desc == g && e.2.wait != .fw6 && e.2.wait != .vc
    | none => false

/-- The other members of a group, by node. -/
def State.peers (s : State) (g : Nat) : List Nat :=
  match s.groups.find? g with
  | some gr => gr.members.filter fun n => n != s.node
  | none => []

/-- STATUS flits to every member of every group with a step in flight (R369). -/
def State.statusToAll (s : State) : State :=
  ((s.activeGroups.flatMap s.peers).eraseDups).foldl State.sendStatus s

/-- The effects of a change of THROTTLE or SLOW (R369, R370). -/
def State.flagsMoved (s : State) (oldThr oldSlow : Bool) : State :=
  let thr := s.flag R.NRG_THR_THROTTLE
  let slow := s.slowStands
  let rises := (thr && !oldThr) || (slow && !oldSlow)
  let s := if rises then { s with cols := s.cols.mapVals fun _ c => { c with sawSlow := true } } else s
  if rises || ((oldThr || oldSlow) && !thr && !slow) then s.statusToAll else s

/-- An emergency is in force; a low level on PWR_BRAKE_N is one (R33, R454). -/
def State.emergency (s : State) : Bool := s.sb.active != 0 || s.throttled || s.update.tripped || !s.pins.pwrBrakeN

/-- The stable window starts when the last emergency ends, and stops when one begins (R454). -/
def State.noteEmergency (s : State) : State :=
  if s.emergency then { s with update := { s.update with stableFrom := none } }
  else match s.update.stableFrom with
    | some _ => s
    | none => { s with update := { s.update with stableFrom := some s.elapsedNs } }

/-- Setpoints, THROTTLE and the emergency follow a change of the conditions that set them. -/
def State.powerMoved (s : State) : State :=
  let oldThr := s.flag R.NRG_THR_THROTTLE
  let s := s.setFlag R.NRG_THR_FW1_DOWN (!s.fw1Controls)
  let s := s.setFlag R.NRG_THR_THROTTLE (s.throttled || !s.fw1Controls)
  let s := (List.range 5).foldl State.moveRail s
  (s.flagsMoved oldThr s.slowStands).noteEmergency

/-- What PWR_BRAKE_N asks for, and what a latched trip commands, wherever the rails are up (R19, R32). -/
def State.pinsOnRails (s : State) : State :=
  if s.pins.pwrBrakeN && !s.sb.trip then s.noteEmergency else (s.setFlag R.NRG_THR_BRAKE (!s.pins.pwrBrakeN)).powerMoved

/-- A source of Table 1-8 becomes active: THERM_ALERT_N low, the sticky bit, an in-band interrupt (R30). -/
def State.alertOn (s : State) (src : Nat) : State :=
  if bit s.sb.active src then s else
    let s := { s with sb := { s.sb with active := putBit s.sb.active src true, alertSrc := putBit s.sb.alertSrc src true }
                      pins := { s.pins with thermAlertN := false } }
    (s.emit (.ibi src)).noteEmergency

/-- A source is no longer active; the pin rises when none remains (R30). -/
def State.alertOff (s : State) (src : Nat) : State :=
  let a := putBit s.sb.active src false
  ({ s with sb := { s.sb with active := a }, pins := { s.pins with thermAlertN := a == 0 } }).noteEmergency

/-- A stable window of 50 ms has passed (R454). -/
def State.envStable (s : State) : Bool :=
  match s.update.stableFrom with
  | some t => decide (t + 50000000 ≤ s.elapsedNs)
  | none => false

end Sys2Proof.Machine
end

