-- ==== Sys2Proof/Machine/Slots.lean ====
section
/-! DEFINITION. The fields and checks of a COLLECTIVE_STEP descriptor (Tables 13-2 and 14-1, R355, R383), chunks (R358), bucket slots and their claims (R389, R390), groups and their VCs (R353). -/

namespace Sys2Proof.Machine
open Sys2Proof

/-- What the checks at dispatch find: a status, the exception field, a frozen skip, or completion at once with status 0. -/
structure Verdict where
  status : Nat
  exc : Nat
  skip : Bool
  early : Bool
  deriving DecidableEq, Repr

/-- Nothing found: the item runs. -/
def Verdict.run : Verdict := ⟨0, 0, false, false⟩

/-- A status that ends the item at dispatch. -/
def Verdict.fail (code : Nat) : Verdict := ⟨code, 0, false, true⟩

/-- The first code of a list of checks that fails. -/
def firstCode : List (Bool × Nat) → Nat
  | [] => 0
  | (bad, c) :: t => if bad then c else firstCode t

/-- OP. -/
def cOp (d : Desc) : Nat := dsc d 0x30 6 4
/-- FMT. -/
def cFmt (d : Desc) : Nat := dsc d 0x30 10 4
/-- WIRE as written. -/
def cWire (d : Desc) : Nat := dsc d 0x30 14 2
/-- RND. -/
def cRnd (d : Desc) : Nat := dsc d 0x30 16 3
/-- ROOT. -/
def cRoot (d : Desc) : Nat := dsc d 0x30 19 12
/-- BUCKET. -/
def cBucket (d : Desc) : Nat := dsc d 0x30 32 16
/-- GEN. -/
def cGen (d : Desc) : Nat := dsc d 0x30 48 16
/-- SRC. -/
def cSrc (d : Desc) : Nat := dsc d 0x38 0 48
/-- DST. -/
def cDst (d : Desc) : Nat := dsc d 0x40 0 48
/-- COUNT. -/
def cCount (d : Desc) : Nat := dsc d 0x48 0 40
/-- CAP. -/
def cCap (d : Desc) : Nat := dsc d 0x50 0 24
/-- SENDLIST. -/
def cSendlist (d : Desc) : Nat := dsc d 0x58 0 48
/-- RECV_STAT. -/
def cRecvStat (d : Desc) : Nat := dsc d 0x60 0 48
/-- MASK. -/
def cMask (d : Desc) : Nat := dsc d 0x68 0 48
/-- FEED_MODE. -/
def cFeed (d : Desc) : Nat := dsc d 0x70 0 2
/-- LB_DST. -/
def cLbDst (d : Desc) : Bool := dsc d 0x70 2 1 == 1
/-- FEED_EVC. -/
def cFeedEvc (d : Desc) : Nat := dsc d 0x70 16 16
/-- FEED_COLS. -/
def cFeedCols (d : Desc) : Nat := dsc d 0x70 32 17
/-- FEED_VALUE. -/
def cFeedValue (d : Desc) : Nat := dsc d 0x78 0 64
/-- h as resolved (R396). -/
def cHeadroom (d : Desc) : Nat := if dsc d 0x70 8 4 = 0 then 4 else dsc d 0x70 8 4

/-- A reducing operation (R355). -/
def cReduces (d : Desc) : Bool := decide (cOp d ≤ 1)

/-- WIRE as resolved against COL_CFG.WIRE. -/
def cWireWith (cfg : Nat) (d : Desc) : Nat := if cWire d = 3 then cfg else cWire d

/-- Bytes of `n` packed elements of a format. -/
def elemBytes (fmt n : Nat) : Nat := (n * fmtBits fmt + 7) / 8

/-- Chunk size q of R358. -/
def chunkQ (count n : Nat) : Nat := if n = 0 then 0 else 256 * (((count + 255) / 256 + n - 1) / n)

/-- First element of chunk c. -/
def chunkLo (count n c : Nat) : Nat := min (c * chunkQ count n) count

/-- Elements of chunk c. -/
def chunkLen (count n c : Nat) : Nat := chunkLo count n (c + 1) - chunkLo count n c

/-- Bytes of an element of the accumulation format A (R360). -/
def accBytes (fmt : Nat) : Nat := if fmt = 0 then 8 else 4

/-- What R355 and R383 check without the group. -/
def colStaticBad (d : Desc) (wire : Nat) : Bool :=
  let op := cOp d
  decide (5 < op) || cWire d == 2 || dsc d 0x30 31 1 == 1 || dsc d 0x38 48 16 != 0 || dsc d 0x40 48 16 != 0 ||
  dsc d 0x48 40 24 != 0 || dsc d 0x50 24 40 != 0 || dsc d 0x58 48 16 != 0 || dsc d 0x60 48 16 != 0 || dsc d 0x68 48 16 != 0 ||
  (op != 3 && dsc d 0x50 0 256 != 0) ||
  (cReduces d && decide (3 < cFmt d)) ||
  (wire == 1 && (cFmt d == 0 || !cReduces d)) ||
  (op == 3 && (cCap d == 0 || cCap d % 128 != 0)) ||
  cSrc d % 64 != 0 || cDst d % 64 != 0 || cSendlist d % 64 != 0 || cRecvStat d % 64 != 0 || cMask d % 64 != 0 ||
  dsc d 0x70 3 5 != 0 || dsc d 0x70 12 4 != 0 || dsc d 0x70 49 15 != 0 || cFeed d == 3 ||
  (cFeed d != 0 && (op == 3 || op == 5)) ||
  (cFeed d == 2 && (cFeedCols d == 0 || decide (65536 < cFeedCols d))) ||
  (cLbDst d && ((op != 2 && op != 4) || cDst d != 0)) ||
  dsc d 0x70 8 4 == 15 || (dsc d 0x70 8 4 != 0 && wire == 0)

/-- The bytes a step reads at SRC and writes at DST (R355); none for a barrier and for all-to-all, which R355 checks apart. -/
def colRanges (d : Desc) (n r : Nat) : (Nat × Nat) × (Nat × Nat) :=
  let all := elemBytes (cFmt d) (cCount d)
  let own := elemBytes (cFmt d) (chunkLen (cCount d) n r)
  match cOp d with
  | 0 => ((cSrc d, all), (cDst d, all))
  | 1 => ((cSrc d, all), (cDst d, own))
  | 2 => ((cSrc d, own), (cDst d, if cLbDst d then 0 else all))
  | 4 => ((cSrc d, all), (cDst d, if cLbDst d then 0 else all))
  | _ => ((0, 0), (0, 0))

/-- The in-place forms of R355. -/
def colInPlace (d : Desc) (n r : Nat) : Bool :=
  let off := elemBytes (cFmt d) (r * chunkQ (cCount d) n)
  match cOp d with
  | 0 => cSrc d == cDst d
  | 1 => cDst d == cSrc d + off
  | 2 => cSrc d == cDst d + off
  | 4 => cSrc d == cDst d
  | _ => true

/-- The arrays an all-to-all writes and reads beside its blocks (R355). -/
def a2aArrays (d : Desc) (n : Nat) : List (Nat × Nat) :=
  [(cDst d, elemBytes (cFmt d) (n * cCap d)), (cSendlist d, 8 * n), (cRecvStat d, 8 * n), (cMask d, (n * cCap d + 7) / 8)]

/-- Entry of the send list for a destination: element offset, count, poison (R366). -/
def State.sendEntry (s : State) (d : Desc) (r : Nat) : Nat × Nat × Bool :=
  let (w, p) := s.peekNat (cSendlist d + 8 * r) 8
  (bits w 0 40, bits w 40 24, p)

/-- The source block for a destination, as the bytes its elements stand in (R355, R366). -/
def State.a2aBlock (s : State) (d : Desc) (r : Nat) : Nat × Nat :=
  let (o, k, _) := s.sendEntry d r
  (cSrc d + o * fmtBits (cFmt d) / 8, if min k (cCap d) = 0 then 0 else (o * fmtBits (cFmt d) % 8 + min k (cCap d) * fmtBits (cFmt d) + 7) / 8)

/-- Some pair of ranges of a list shares a byte. -/
def anyPairOverlap : List (Nat × Nat) → Bool
  | [] => false
  | a :: t => t.any (fun b => overlaps a.1 a.2 b.1 b.2) || anyPairOverlap t

/-- What R355 and R383 check against the group: ROOT, the feed counters, and overlaps. -/
def State.colGroupBad (s : State) (d : Desc) (gr : Group) : Bool :=
  let rg := colRanges d gr.n gr.rank
  decide (gr.n ≤ cRoot d) || (cFeed d == 1 && decide (65535 < cFeedEvc d + gr.n - 1)) ||
  (!colInPlace d gr.n gr.rank && overlaps rg.1.1 rg.1.2 rg.2.1 rg.2.2) ||
  (cOp d == 3 && (anyPairOverlap (a2aArrays d gr.n) ||
    (List.range gr.n).any fun r => let b := s.a2aBlock d r; (a2aArrays d gr.n).any fun a => overlaps b.1 b.2 a.1 a.2))

/-- Every byte a step of the group reads or writes is mapped (R5, R257). -/
def State.colMapped (s : State) (d : Desc) (gr : Group) : Bool :=
  let rg := colRanges d gr.n gr.rank
  s.mappedRange rg.1.1 rg.1.2 && s.mappedRange rg.2.1 rg.2.2 &&
    (cOp d != 3 || ((a2aArrays d gr.n).all (fun a => s.mappedRange a.1 a.2) &&
      (List.range gr.n).all fun r => let b := s.a2aBlock d r; s.mappedRange b.1 b.2))

/-- Index of a slot register. -/
def slotIx (g b : Nat) : List Nat := [g, b % 32]

/-- Key of a slot record. -/
def slotKey (g b : Nat) : Nat := 32 * g + b % 32

/-- Key of a bucket in what is kept beside its slot. -/
def bucketKey (g b : Nat) : Nat := 65536 * g + b % 65536

/-- A slot with nothing in it. -/
def Slot.empty : Slot := { landed := [], abort := 0, freeing := false, op := 0, fmt := 0, wire := 0, countE := 0 }

/-- A slot just claimed, with what PARAMS of Table 13-3 says of its bucket (R157). -/
def Slot.ofParams (p : Nat) : Slot := { Slot.empty with op := bits p 0 4, fmt := bits p 4 4, wire := bits p 8 2, countE := bits p 22 40 }

/-- What a slot keeps beside its register. -/
def State.slot (s : State) (g b : Nat) : Slot := s.slots.getD (slotKey g b) Slot.empty

/-- What a claim meets (Table 14-3). -/
inductive Claim where
  | free
  | joins
  | aborted
  | stale
  | waits
  | reuse
  deriving DecidableEq, Repr

/-- (b − a) mod 2^16 in 32,768 to 65,535: b is older than a (R389). -/
def olderGen (b a : Nat) : Bool := decide (32768 ≤ (b + 65536 - a) % 65536)

/-- The abort record kept for a bucket that its slot does not hold (R376). -/
def State.keptAbort (s : State) (g b gen : Nat) : Option Nat :=
  (s.keptAborts.find? (bucketKey g b)).bind fun e => if e.1 = gen then some e.2 else none

/-- Claim of bucket (b, gen) of group g (Table 14-3, R160, R376). -/
def State.claim (s : State) (g b gen : Nat) : Claim :=
  if (s.keptAbort g b gen).isSome then .aborted else
  let ix := slotIx g b
  let st := s.fld R.COL_SLOT_W0_STATE ix
  let b0 := s.fld R.COL_SLOT_W0_BUCKET ix
  let g0 := s.fld R.COL_SLOT_W0_GEN ix
  if st = 0 then .free
  else if b0 = b ∧ g0 = gen ∧ st = 1 then .joins
  else if b0 = b ∧ g0 = gen ∧ st = 3 then .aborted
  else if b0 = b ∧ olderGen gen g0 then .stale
  else if st = 1 then .waits
  else if s.fld R.COL_SLOT_W1_BOUND ix = 0 then .reuse else .waits

/-- Bytes of one landing buffer of a group. -/
def lbBytes (gr : Group) : Nat := if gr.lbBase = 0 then 0 else gr.slotSize * 65536

/-- The buffer a step needs (R392). -/
def lbNeed (d : Desc) (n : Nat) : Nat :=
  if cReduces d then chunkQ (cCount d) n * accBytes (cFmt d)
  else if cLbDst d then (elemBytes (cFmt d) (cCount d) + 63) / 64 * 64 else 0

/-- Whether a layer is frozen for a step (R234). -/
def State.layerFrozen (s : State) (d : Desc) : Bool :=
  decide (hLayer d < 4096) && s.flag R.TRN_LAYER_FROZEN_T [hLayer d] && (s.train.frozenStep.find? (hStep d * 4096 + hLayer d)).isSome

/-- FW6 is restarting, so that a step of an undefined group waits (R379). -/
def State.fw6Away (s : State) : Bool := !s.fwRuns 6

/-- The checks of a step that need its group: R355, R376, R392, R393; without the group it waits for FW6 or fails (R379). -/
def State.groupVerdict (s : State) (d : Desc) : Verdict :=
  match s.groups.find? (cGroup d) with
  | none => if s.fw6Away then .run else .fail Code.COL_GROUP_UNDEFINED
  | some gr =>
    if s.colGroupBad d gr then .fail Code.COL_FIELD
    else if !s.colMapped d gr then .fail Code.ADDR_UNMAPPED
    else
      let cl := s.claim (cGroup d) (cBucket d) (cGen d)
      if lbBytes gr < lbNeed d gr.n then .fail Code.COL_LB_SMALL
      else if cl = .aborted then ⟨Code.COLL_ABORT, (s.keptAbort (cGroup d) (cBucket d) (cGen d)).getD (s.slot (cGroup d) (cBucket d)).abort, false, true⟩
      else if cl = .stale then .fail Code.COL_BUCKET_STALE
      else .run

/-- The checks of a step at dispatch, with COL_CFG.WIRE given: R355, R81, R98, R103, R234, R376, R383, R392, R393. -/
def State.colVerdict (s : State) (d : Desc) (cfgWire : Nat) : Verdict :=
  let wire := cWireWith cfgWire d
  if colStaticBad d wire then .fail Code.COL_FIELD
  else if 0xB < cFmt d then .fail Code.FORMAT_INVALID
  else if cRnd d = 5 ∨ cRnd d = 6 ∨ !srBitsOk (hSrBits d) then .fail Code.ROUND_INVALID
  else if cOp d ≠ 5 ∧ [cSrc d, cDst d, cSendlist d, cRecvStat d, cMask d].any s.namesAbsent then .fail Code.UNIT_ABSENT
  else if s.layerFrozen d then ⟨0, 0, true, true⟩
  else s.groupVerdict d

/-- A group has a step in flight (R353). -/
def State.groupActive (s : State) (g : Nat) : Bool := s.activeGroups.contains g

end Sys2Proof.Machine
end

