-- ==== Sys2Proof/Machine/Items.lean ====
section
/-! DEFINITION. Work items: heads and their order (R409 to R411, R233), header checks (R414, R417, R230, R236), admission (R470 to R475), completion, signals and records (R412, R416 to R419), gate groups (R236 to R243). -/

namespace Sys2Proof.Machine
open Sys2Proof

/-- STATE of a queue; every queue is FROZEN after a job-fatal fault (R430). -/
def State.qState (s : State) (q : Nat) : Nat := if s.job.running then 3 else s.fld R.WQS_W1_STATE [q]

/-- The completion queue of a work queue. -/
def State.cqOf (s : State) (q : Nat) : Nat := s.fld R.WQS_W3_CQ [q]

/-- Home die of a queue. -/
def State.homeOf (s : State) (q : Nat) : Nat := s.fld R.WQS_W0_HOME [q]

/-- Whether a completion queue has an unreserved entry: enabled, and unread records and reservations leave room (R411, R429, R431). -/
def State.cqRoom (s : State) (c : Nat) : Bool :=
  s.fld R.WQS_W0_KIND [c] == 1 && s.qState c == 1 &&
    decide ((s.fld R.WQS_W2_PI [c] + 2 ^ 32 - s.fld R.WQS_W2_CI [c]) % 2 ^ 32 + s.fld R.WQS_W4_RESERVED [c] < s.qLen c)

/-- The in-flight limits of R410 leave room for one more item of a die. -/
def State.slotRoom (s : State) (die : Nat) : Bool :=
  decide (s.items.length < 1024) && decide ((s.items.filter fun e => e.2.die == die).length < 256)

/-- A work queue that can be served: running unit, no barrier, its processor running, enabled, not empty (R75, R410, R430, R449). -/
def State.served (s : State) (q : Nat) : Bool :=
  decide (q < 262144) && s.up && !s.job.running && s.fld R.EPO_STATUS_STATE != 3 && s.fwRuns (2 + s.homeOf q) && s.qState q == 1 &&
    s.fld R.WQS_W0_KIND [q] == 0 && s.fld R.WQS_W2_PI [q] != s.fld R.WQS_W2_CI [q]

/-- Layer ID and flags are in order (R230). -/
def trnOk (d : Desc) : Bool :=
  let l := hLayer d
  let c := hClass d
  (decide (l < 4096) || l == 0xFFFF) && (decide (hLadderSrc d < 4096) || hLadderSrc d == 0xFFFF) &&
    !((hGate d || hLadderEn d || hOptstep d) && l == 0xFFFF) && !(hLadderEn d && !hGate d) && !(hLadderEn d && c != 1) &&
    !(hLadderSrc d != 0xFFFF && c != 1 && c != 4) && !(hSnapshot d && c != 4) && !(hStepCommit d && c != 0x0B)

/-- The open gate group an item with this header would meet: its entry. -/
def State.gateOf (s : State) (d : Desc) : Option (Nat × Gate) :=
  List.find? (fun e => e.2.layer == hLayer d && e.2.step == hStep d && e.2.slice == s.ctxSlice (hContext d)) s.gates

/-- A gated item that waits for a group to close (R236, R237). -/
def State.gateWaits (s : State) (d : Desc) : Bool :=
  hGate d && decide (hLayer d < 4096) &&
    match s.gateOf d with
    | some e => e.2.lastSeen
    | none => decide (16 ≤ s.gates.length)

/-- A gated item that breaks its group: another queue, or a 65th item (R236). -/
def State.gateBreaks (s : State) (q : Nat) (d : Desc) : Bool :=
  hGate d && decide (hLayer d < 4096) &&
    match s.gateOf d with
    | some e => !e.2.lastSeen && (e.2.queue != q || decide (64 ≤ e.2.items.length))
    | none => false

/-- DESC_FIELD checks (R414). -/
def headerOk (d : Desc) : Bool :=
  let c := hClass d
  decide (1 ≤ c ∧ c ≤ 0x0C) && dsc d 0x01 5 3 == 0 && dsc d 0x02 12 4 == 0 && dsc d 0x14 13 3 == 0 && dsc d 0x16 6 2 == 0 &&
    dsc d 0x17 0 8 == 0 && (usesTgroup c || hTgroup d == 0) && !(c == 0x0C && (hFlag d 9 || hFlag d 10 || hFlag d 11)) &&
    !((c == 0x0B || c == 0x0C) && !classAreaZero d) &&
    !(c == 0x0A && (dsc d 0x70 0 128 != 0 || (List.range 4).any fun i =>
        dsc d (0x30 + 16 * i) 16 2 == 3 || dsc d (0x30 + 16 * i) 18 46 != 0))

/-- The context covers the item (R417). -/
def State.ctxOk (s : State) (d : Desc) : Bool :=
  let c := hContext d
  s.flag R.QMC_CTX_W0_ENABLE [c] && (!usesTgroup (hClass d) ||
    (bit (s.fld R.QMC_CTX_W1_GROUPS [c]) (hTgroup d) && s.groupSlice (hTgroup d) == some (s.ctxSlice c)))

/-- The code the header earns: DESC_FIELD, CTX_INVALID, TRN_FIELD, in this order; 0 for none. -/
def State.headerCode (s : State) (q : Nat) (d : Desc) : Nat :=
  if !headerOk d then Code.DESC_FIELD else if !s.ctxOk d then Code.CTX_INVALID
  else if !trnOk d || s.gateBreaks q d then Code.TRN_FIELD else 0

/-- COLLECTIVE_STEP heads pass a held head (R471, R473). -/
abbrev isStep (d : Desc) : Bool := hClass d == 9

/-- The enabled queues. -/
def State.enabledQueues (s : State) : List Nat :=
  (s.regs.filter fun e => decide (0x9000000 ≤ e.1 ∧ e.1 < 0xA000000) && e.1 % 64 == 8 && bits e.2.toNat 0 2 == 1).map fun e => (e.1 - 0x9000000) / 64

/-- A step at a queue's head that names a group on a VC and waits for nothing else: its header's waits, a HOLD of its context, a gate group (R233, R236, R428). -/
def State.stepHead (s : State) (vc q : Nat) : Bool :=
  let d := s.headDesc q
  s.served q && isStep d && s.headPoison q == 0 && s.waitsMet d && !s.flag R.QMC_CTX_W0_HOLD [hContext d] && !s.gateWaits d &&
    match s.groups.find? (cGroup d) with
    | some gr => gr.vc == vc
    | none => false

/-- The queues whose head is a step that could take a VC. -/
def State.vcHeads (s : State) (vc : Nat) : List Nat := s.enabledQueues.filter (s.stepHead vc)

/-- The steps that wait for a VC, as age stamp and group: queue heads, and steps that waited for their group before (R353, R379). -/
def State.vcWaiters (s : State) (vc : Nat) : List (Nat × Nat) :=
  ((s.vcHeads vc).map fun r => (s.fld R.WQS_W5_HEAD_AGE [r], cGroup (s.headDesc r))) ++
    (s.cols.filter fun e => e.2.wait == .vc).filterMap fun e => match s.items.find? e.1 with
      | some it => (s.groups.find? (cGroup it.desc)).bind fun gr => if gr.vc = vc then some (e.2.age, cGroup it.desc) else none
      | none => none

/-- A step of group g finds its VC: held by its own group, or free with no older step of another group waiting for it (R353). -/
def State.vcReady (s : State) (g age vc : Nat) : Bool :=
  match s.vcHeld.find? vc with
  | some h => h == g
  | none => (s.vcWaiters vc).all fun w => w.2 == g || !olderStamp w.1 age

/-- A step waits at dispatch for its group's VC or its bucket's slot (R353, Table 14-3). -/
def State.stepWaits (s : State) (q : Nat) (d : Desc) : Bool :=
  s.colVerdict d (s.fld R.COL_CFG_WIRE) == Verdict.run &&
    match s.groups.find? (cGroup d) with
    | some gr => !s.vcReady (cGroup d) (s.fld R.WQS_W5_HEAD_AGE [q]) gr.vc || s.claim (cGroup d) (cBucket d) (cGen d) == .waits
    | none => false

/-- Conditions a class sets on dispatch: the fence of R248, BARRIER (R423), STEP_COMMIT (R247), a step's VC and slot (R353, R390). -/
def State.classReady (s : State) (q : Nat) (d : Desc) : Bool :=
  !(hOptstep d && s.fld R.TRN_STEP_COMMITS != 0 && decide (s.fld R.TRN_STEP_COMMITTED < hStep d) &&
      s.fld R.TRN_SNAP_EXPECT != 0 && decide (s.fld R.TRN_SNAP_DONE < s.fld R.TRN_SNAP_EXPECT)) &&
  !(hClass d == 0x0B && s.fld R.WQS_W2_CI [q] != s.fld R.WQS_W4_DONE [q]) &&
  !(isStep d && s.headerCode q d == 0 && s.stepWaits q d) &&
  !(hClass d == 0x0B && hStepCommit d &&
      (s.items.any (fun e => hOptstep e.2.desc && decide (hStep e.2.desc ≤ hStep d)) || s.gates.any fun e => e.2.slice == 0))

/-- A core as an instance finds it: everything at 0 (R176). -/
def Reed.zero : Reed :=
  { item := none, inst := 0, count := 0, pc := 0, x := [], xp := [], v := [], vp := [], p := [], pp := [], vl := 0, fcsr := 0, vflags := 0,
    vrm := 7, vfxrm := 0, vtid := 0, vstep := 0, vsrbase := 0, vflush := 0, steps := 0, blocked := .no, dcache := [], mepc := 0, mcause := 0, mtval := 0 }

/-- A core as start-up and a re-weave leave it: data 0 and every register poisoned, until an instance starts on it (R176, R287). -/
def Reed.idle : Reed :=
  { Reed.zero with xp := (List.range 31).map fun i => (i + 1, ()), vp := (List.range 32).map fun i => (i, 255), pp := (List.range 7).map fun i => (i + 1, ()) }

/-- A core's record. -/
def State.reed (s : State) (c : Nat) : Reed := s.reeds.getD c Reed.idle

/-- CORE_MASK. -/
def lMask (d : Desc) : Nat := dsc d 0x40 0 8
/-- The number of stages of a PLAIT item, and its first core (Table 8-1). -/
def plaitStages (d : Desc) : Nat := dsc d 0x40 3 3 + 1
/-- FIRST_CORE. -/
def plaitFirst (d : Desc) : Nat := dsc d 0x40 0 3

/-- The cores a launch or plait names on one tile. -/
def itemCores (d : Desc) : List Nat :=
  if hClass d = 3 then (List.range (min (plaitStages d) (8 - plaitFirst d))).map (plaitFirst d + ·) else (List.range 8).filter (bit (lMask d))

/-- The cores on all tiles of the group, instance order. -/
def State.allCores (s : State) (d : Desc) : List Nat := (s.groupTiles (hTgroup d)).flatMap fun p => (itemCores d).map (8 * p + ·)

/-- Every core an item names is idle, and no chain runs on its tiles where it is a chain itself (R175, R203). -/
def State.coresFree (s : State) (d : Desc) : Bool :=
  (s.allCores d).all (fun c => (s.reed c).item.isNone) &&
    (hClass d != 3 || (s.groupTiles (hTgroup d)).all fun p => !s.flag R.TIL_PLAIT_STATUS_ACTIVE (tix p))

/-- REED_LAUNCH or PLAIT. -/
def isLaunch (d : Desc) : Bool := hClass d == 2 || hClass d == 3

/-- Two launches that cannot run at the same time: a core of both, or two chains on one tile. -/
def State.launchClash (s : State) (d d' : Desc) : Bool :=
  ((itemCores d).any (itemCores d').contains || (hClass d == 3 && hClass d' == 3)) && (s.groupTiles (hTgroup d)).any (s.inGroup (hTgroup d'))

/-- The tile group can accept the head: the cores of a launch are idle, and no launch already dispatched waits for them (R175, R203, R233). -/
def State.groupAccepts (s : State) (d : Desc) : Bool :=
  !isLaunch d || (s.coresFree d && !s.items.any fun e => isLaunch e.2.desc && e.2.phase == .waiting && e.2.status == 0 && s.launchClash d e.2.desc)

/-- The head waits for nothing that its descriptor names, and its tile group can accept it (R233, R415, R428). -/
def State.headReady (s : State) (q : Nat) (d : Desc) : Bool :=
  s.headPoison q == 0 && s.waitsMet d && !s.flag R.QMC_CTX_W0_HOLD [hContext d] && !s.gateWaits d && s.classReady q d && s.groupAccepts d

/-- The debits of a context have reached its share of the window's tokens (R474). -/
def State.shareSpent (s : State) (c : Nat) : Bool :=
  let sh := s.fld R.QMC_CTX_W0_SHARE [c]
  sh != 0 && decide (sh * s.nrg.issuedGeneral ≤ 256 * s.nrg.ctxDebits.getD c 0)

/-- A head that waits for nothing but energy or its context's share. -/
def State.ready (s : State) (q : Nat) : Bool :=
  s.served q && s.headReady q (s.headDesc q) && s.slotRoom (s.homeOf q) && s.cqRoom (s.cqOf q)

/-- A head of another context is held by R471: one that is still ready, and that no cap holds back itself. -/
def State.otherHeld (s : State) (c : Nat) : Bool :=
  let ctx := fun (q : Nat) => hContext (s.headDesc q)
  let held := (s.nrg.held.map (·.2)).filter s.ready
  held.any fun q => ctx q != c && !(s.shareSpent (ctx q) && held.any fun r => ctx r != ctx q && !s.shareSpent (ctx r))

/-- The cap of a context holds its heads back (R474). -/
def State.capHolds (s : State) (d : Desc) : Bool := s.shareSpent (hContext d) && s.otherHeld (hContext d)

/-- A head its die could present (R470). -/
def State.presentable (s : State) (q : Nat) : Bool := s.ready q && !s.capHolds (s.headDesc q)

/-- The order of R233: context priority, age stamp, queue number. -/
def State.precedes (s : State) (a b : Nat) : Bool :=
  let pa := s.fld R.QMC_CTX_W0_PRIO [hContext (s.headDesc a)]
  let pb := s.fld R.QMC_CTX_W0_PRIO [hContext (s.headDesc b)]
  let ga := s.fld R.WQS_W5_HEAD_AGE [a]
  let gb := s.fld R.WQS_W5_HEAD_AGE [b]
  decide (pb < pa) || (pa == pb && (olderStamp ga gb || (!olderStamp gb ga && decide (a < b))))

/-- The head a die holds for energy, while it could still be presented (R471). -/
def State.heldOf (s : State) (die : Nat) : Option Nat := (s.nrg.held.find? die).filter s.presentable

/-- The head is the one its die presents: the held head, else the first in the order of R233; a held head stops every other head but collective steps (R470, R471). -/
def State.presented (s : State) (q : Nat) : Bool :=
  let die := s.homeOf q
  let same := s.enabledQueues.filter fun r => r != q && s.homeOf r == die && s.presentable r
  s.presentable q &&
    match s.heldOf die with
    | some h => h == q || (isStep (s.headDesc q) && same.all fun r => !(isStep (s.headDesc r) && s.precedes r q))
    | none => same.all fun r => !s.precedes r q

/-- AUX address. -/
def mAux (d : Desc) : Nat := dsc d 0x48 0 48
/-- AUX.VALID. -/
def mAuxValid (d : Desc) : Bool := dsc d 0x48 48 1 == 1

/-- An address lies with another member or behind the PCIe port. -/
def State.farByte (s : State) (a : Nat) : Bool :=
  match s.regionOf a with
  | .remote _ _ => true
  | .pcie _ => true
  | _ => false

/-- The auxiliary block of a MATRIX item as memory now gives it: 0 where it has none, none where it has to be fetched first (R144). -/
def State.auxNow (s : State) (d : Desc) : Option Nat :=
  if hClass d ≠ 1 ∨ !mAuxValid d then some 0
  else if s.farByte (mAux d) || s.farByte (mAux d + 127) then none
  else some (ofBytes (s.peek (mAux d) 128).1)

/-- An item with the ladder rungs of its output and of its LADDER_SRC operand as they stand for a slice (R243). -/
def State.withRungs (s : State) (slice : Nat) (it : Item) : Item :=
  { it with rung := if hLadderEn it.desc then s.rungOf slice (hLayer it.desc) else 0
            srcRung := if hLadderSrc it.desc < 4096 then s.rungOf slice (hLadderSrc it.desc) else 0 }

/-- An item as its head shows it (R70, R144, R243). -/
def State.newItem (s : State) (q : Nat) (d : Desc) : Item :=
  s.withRungs (s.ctxSlice (hContext d))
    { queue := q, desc := d, place := s.headAddr q, epoch := s.fld R.EPO_CUR_EPOCH, die := s.homeOf q, phase := .waiting, status := 0, flags := 0,
      flush := 0, exc := 0, classWord := 0, frozenSkip := false, cfg := s.modeRegs, debited := 0, measured := 0, metered := 0, admitted := false,
      gate := none, rung := 0, srcRung := 0, overflow := false, evc := [], blocks := [], evcOut := 0, aux := s.auxNow d, bound := [],
      waitPiece := none, lbWaited := false, live := [], exits := 0, remote := [], pendingRemote := 0, t0 := s.elapsedNs }

/-- An item changed, if it is in flight. -/
def State.modItem (s : State) (id : Nat) (f : Item → Item) : State :=
  match s.items.find? id with
  | some it => { s with items := s.items.put id (f it) }
  | none => s

/-- The first status an item meets stays. -/
def State.failItem (s : State) (id code : Nat) : State := s.modItem id fun it => if it.status = 0 then { it with status := code } else it

/-- Enabled signal counters of a header. -/
def signalsOf (d : Desc) : List Nat :=
  (if hFlag d 9 then [dsc d 0x28 0 16] else []) ++ (if hFlag d 10 then [dsc d 0x2A 0 16] else [])

/-- Adds to an event counter, modulo 2^64 (R421). -/
def State.evcAdd (s : State) (k n : Nat) : State := s.setFld R.EVC_VALUE (s.fld R.EVC_VALUE [k] + n) [k]

/-- The lowest free gate entry. -/
def State.freeGate (s : State) : Nat := ((List.range 16).find? fun g => (s.gates.find? g).isNone).getD 15

/-- The gate group a new item joins or opens (R236); items that break a group belong to none. -/
def State.joinGate (s : State) (q id : Nat) (d : Desc) : State :=
  if hGate d ∧ hLayer d < 4096 ∧ !s.gateBreaks q d then
    let e := match s.gateOf d with
      | some e => e
      | none => (s.freeGate, { layer := hLayer d, slice := s.ctxSlice (hContext d), step := hStep d, queue := q, items := [], lastSeen := false,
                               epoch := s.fld R.EPO_CUR_EPOCH })
    let g := { e.2 with items := e.2.items ++ [id], lastSeen := hGateLast d }
    { s with gates := s.gates.put e.1 g }.modItem id fun it => { it with gate := some e.1 }
  else s

/-- Takes a head: CI moves, the descriptor is copied, slot, reservation and signal tokens are issued (R409 to R411, R433). -/
def State.takeHead (s : State) (q : Nat) (it : Item) : Nat × State :=
  let id := s.nextItem
  let d := it.desc
  let c := s.cqOf q
  let s := { s with items := s.items.put id it, nextItem := id + 1, cqMarks := FMap.del q s.cqMarks }
  let s := s.bump R.WQS_W2_CI [q]
  let s := s.bump R.QMC_STATUS_INFLIGHT
  let s := s.bump R.QMC_CTX_W0_INFLIGHT [hContext d]
  let s := s.bump R.WQS_W4_RESERVED [c]
  let s := s.bump R.QMC_LEDGER_DIE_ISSUED [it.die]
  let s := s.bump R.QMC_LEDGER_CQE_ISSUED
  let s := s.bump R.QMC_LEDGER_SIG_ISSUED [] (signalsOf d).length
  (id, s.joinGate q id d)

/-- e′ of an item now (R469). -/
def State.corrected (s : State) (d : Desc) : Nat :=
  (hEst d * s.fld R.NRG_COEF_COEF [hClass d - 1] + 255) / 256

/-- Debits e′ of an item from a balance: a step from the reserve first (R470, R473). -/
def State.debit (s : State) (d : Desc) : State :=
  let e := s.corrected d
  let c := hContext d
  let fromRes := if isStep d then min e s.nrg.reserve else 0
  let n := { s.nrg with reserve := s.nrg.reserve - fromRes, general := s.nrg.general - ((e - fromRes : Nat) : Int)
                        ctxDebits := s.nrg.ctxDebits.put c (s.nrg.ctxDebits.getD c 0 + e) }
  { s with nrg := n }.bump R.NRG_LEDGER_DEBITED_UJ [] e

/-- Dies that hold tiles of an item's group. -/
def State.itemDies (s : State) (d : Desc) : List Nat := if usesTgroup (hClass d) then ((s.groupTiles (hTgroup d)).map (· / 144)).eraseDups else []

/-- The admission unit lets the head pass: collective steps always; otherwise no brake, no second-stage throttle or droop against it, and e′ within the general balance, or 0, or the overdraw of R472 (R470 to R475, R480, R44). -/
def State.admits (s : State) (d : Desc) (force : Bool) : Bool :=
  isStep d ||
    (!s.flag R.NRG_THR_BRAKE &&
      !((hClass d == 1 || hClass d == 3) && (s.itemDies d).any fun k => (s.rail k).stage == 2) &&
      !(hClass d == 1 && (s.itemDies d).any fun k => (s.rail k).droop) &&
      (force || s.corrected d == 0 || decide ((s.corrected d : Int) ≤ s.nrg.general)))

/-- The order of R470 among the dies: context priority, age stamp, die number. -/
def State.precedesDie (s : State) (a b : Nat) : Bool :=
  let pa := s.fld R.QMC_CTX_W0_PRIO [hContext (s.headDesc a)]
  let pb := s.fld R.QMC_CTX_W0_PRIO [hContext (s.headDesc b)]
  let ga := s.fld R.WQS_W5_HEAD_AGE [a]
  let gb := s.fld R.WQS_W5_HEAD_AGE [b]
  decide (pb < pa) || (pa == pb && (olderStamp ga gb || (!olderStamp gb ga && decide (s.homeOf a < s.homeOf b))))

/-- Another die presents a head that the admission unit serves before this one: it comes first, and is not merely held for energy (R470, R471). -/
def State.outranked (s : State) (q : Nat) : Bool :=
  s.enabledQueues.any fun r => s.homeOf r != s.homeOf q && s.precedesDie r q && s.presented r &&
    (s.heldOf (s.homeOf r) != some r || s.admits (s.headDesc r) false)

/-- A head that is not admitted is held (R471). -/
def State.hold (s : State) (q : Nat) : State :=
  let die := s.homeOf q
  if s.nrg.held.find? die = some q then s
  else { s with nrg := { s.nrg with held := s.nrg.held.put die q } }.bumpSat R.NRG_HOLD_HOLDS

/-- The hold of a die ends when its held head is admitted (R471). -/
def State.unhold (s : State) (q : Nat) : State :=
  let die := s.homeOf q
  if s.nrg.held.find? die = some q then { s with nrg := { s.nrg with held := FMap.del die s.nrg.held } } else s

/-- The 32 bytes of a completion record (Table 15-3). -/
def recordBytes (time tag exc cls epoch status flags : Nat) (skip phase : Bool) (energy flush : Nat) : List Byte :=
  toBytes 8 (time % 2 ^ 48 + tag * 2 ^ 48) ++ toBytes 8 exc ++ toBytes 4 cls ++ toBytes 4 epoch
    ++ toBytes 4 (status + flags * 2 ^ 16 + b2n skip * 2 ^ 24 + b2n phase * 2 ^ 31) ++ toBytes 4 (min energy 0x3FFFFF + flush10 flush * 2 ^ 22)

/-- The record written to the completion queue, or discarded where its line is out of reach; the reservation is returned (R411, R418, R419, R537). -/
def State.postRecord (s : State) (it : Item) : State :=
  let c := s.cqOf it.queue
  let s := s.setFld R.WQS_W4_RESERVED (s.fld R.WQS_W4_RESERVED [c] - 1) [c]
  let s := s.bump R.QMC_LEDGER_CQE_RETURNED
  if hNoCqe it.desc ∧ it.status = 0 then s else
    let pi := s.fld R.WQS_W2_PI [c]
    let a := s.ringAddr c pi 32
    let shut := match s.spot (a / 64 * 64) with
      | some sp => s.spotShut sp
      | none => true
    if shut then s else
      let phase := !bit pi (s.fld R.WQS_W0_LOG2_N [c])
      let b := recordBytes s.nowNs (hTag it.desc) it.exc it.classWord it.epoch it.status it.flags it.frozenSkip phase it.measured it.flush
      let s := (s.storePart a b false 0).bump R.WQS_W2_PI [c]
      if s.flag R.WQS_W3_IRQ_EN [c] then s.interrupt 8 (s.fld R.WQS_W3_VECTOR [c]) else s

/-- Whether an item uses the block of a register (R67). -/
def State.usesBlock (s : State) (it : Item) (off : Nat) : Bool :=
  if 0x10000000 ≤ off ∧ off < 0x20000000 then
    let d := (off - 0x10000000) / 0x4000000
    let l := off % 0x4000000 / 0x10000
    usesTgroup (hClass it.desc) && decide (l < 144) && s.inGroup (hTgroup it.desc) (144 * d + l)
  else if 0x21000000 ≤ off ∧ off < 0x22000000 then isStep it.desc
  else if 0xB010000 ≤ off ∧ off < 0xB020000 then hContext it.desc == (off - 0xB010000) / 16
  else true

/-- Staged G writes of the item's blocks take effect at its boundary (R67); with a staging open none is left here.
DESIGN CHOICE (log 122): the completion of any item that uses a block is the block's work-item boundary, other items of the block still in flight or not. -/
def State.boundary (s : State) (it : Item) : State :=
  let now := s.atBoundary.filter fun e => s.usesBlock it e.1
  let s := { s with atBoundary := s.atBoundary.filter fun e => !s.usesBlock it e.1 }
  let s := now.foldl (fun s e => s.mergeReg e.1 e.2.1 e.2.2) s
  if s.train.clearEval then
    let s := (List.range 4096).foldl (fun s l => if s.fld R.TRN_LAYER_RUNG_E [l] = 0 then s else s.setFld R.TRN_LAYER_RUNG_E 0 [l]) s
    { s with train := { s.train with clearEval := false } }
  else s

/-- What a completed item leaves in the training registers: touched layers and snapshots (R248, R249). -/
def State.trainMarks (s : State) (it : Item) : State :=
  let d := it.desc
  let s := if hOptstep d ∧ it.status = 0 ∧ !it.frozenSkip ∧ hLayer d < 4096 then
      { s with train := { s.train with touched := s.train.touched.put (hStep d * 4096 + hLayer d) 0 } } else s
  if hSnapshot d then
    let s := if it.status ≠ 0 then s.setFlag R.TRN_SNAP_FAILED true else s
    if hStep d = s.fld R.TRN_STEP_COMMITTED then s.bump R.TRN_SNAP_DONE else s
  else s

/-- Signals, record, and the tokens the item held are returned (R412, R416, R433). -/
def State.releaseItem (s : State) (id : Nat) : State :=
  match s.items.find? id with
  | none => s
  | some it =>
    let d := it.desc
    let sig := signalsOf d
    let s := it.evc.foldl (fun s k => s.evcAdd k 1) s
    let s := if it.status = 0 then sig.foldl (fun s k => s.evcAdd k 1) s
      else if hFlag d 11 then s.evcAdd (dsc d 0x2C 0 16) 1 else s
    let s := s.bump R.QMC_LEDGER_SIG_RETURNED [] sig.length
    let s := s.postRecord it
    let s := s.bump R.WQS_W4_DONE [it.queue]
    let s := s.bump R.QMC_LEDGER_DIE_RETURNED [it.die]
    let s := s.setFld R.QMC_STATUS_INFLIGHT (s.fld R.QMC_STATUS_INFLIGHT - 1)
    let c := hContext d
    let s := s.setFld R.QMC_CTX_W0_INFLIGHT (s.fld R.QMC_CTX_W0_INFLIGHT [c] - 1) [c]
    let s := s.trainMarks it
    let s := { s with items := FMap.del id s.items }
    s.boundary it

/-- Format and SCALED bit of a MATRIX item's output as compiled (Table 6-3). -/
def opdFmt (d : Desc) : Nat × Bool := (dsc d 0x40 48 4, dsc d 0x40 53 1 == 1)

/-- The output format of a MATRIX item in its present run (R243). -/
def presentFmt (it : Item) : Nat × Bool := ladderTo it.rung (opdFmt it.desc).1 (opdFmt it.desc).2

/-- The output format code of an item: OPD.FMT as it runs, a COPY's or a collective's destination, a region's elements. A launch has none of its own, and 0 stands (log 123). -/
def itemFmt (it : Item) : Nat :=
  match hClass it.desc with
  | 2 => 0
  | 3 => 0
  | 4 => dsc it.desc 0x38 48 4
  | 7 => dsc it.desc 0x58 1 4
  | 8 => dsc it.desc 0x38 4 4
  | 9 => dsc it.desc 0x30 10 4
  | _ => (presentFmt it).1

/-- DETAIL of LADDER_STEP and LADDER_TOP (Table 9-5). -/
def ladderDetail (g : Gate) (oldF newF rung tensor items ovf : Nat) : Nat :=
  ofBytes (toBytes 2 g.layer ++ toBytes 2 (oldF + newF * 16 + rung % 8 * 256 + g.slice * 2048) ++ toBytes 4 g.step ++ toBytes 4 tensor
    ++ toBytes 2 items ++ toBytes 2 ovf ++ toBytes 4 g.epoch ++ toBytes 4 g.queue)

/-- An item set back for another run from its descriptor copy (R241). -/
def Item.again (it : Item) : Item :=
  { it with phase := .reissued, status := 0, flags := 0, flush := 0, exc := 0, classWord := 0, frozenSkip := false, debited := 0, measured := 0, metered := 0,
            admitted := false, overflow := false, evc := [], blocks := [], evcOut := 0, bound := [], waitPiece := none, lbWaited := false, live := [],
            exits := 0, remote := [] }

/-- Code of the training chapter raised or logged last (Table 9-7). -/
def State.trnLast (s : State) (code : Nat) : State := s.setFld R.TRN_STATUS_LAST_STATUS code

/-- A gate group whose items up to GATE_LAST have all completed closes, unless the queues are frozen (R239, R241, R246). -/
def State.closeGate (s : State) (gi : Nat) : State :=
  match s.gates.find? gi with
  | none => s
  | some g =>
    let its := g.items.filterMap fun id => (s.items.find? id).map fun it => (id, it)
    if s.job.running || !g.lastSeen || its.any (fun e => e.2.phase != .withheld) then s else
      let open' := { s with gates := FMap.del gi s.gates }
      let ovf := its.filter fun e => e.2.overflow
      let succ := its.filter fun e => hClass e.2.desc == 1 && hLadderEn e.2.desc && (ladderNext (presentFmt e.2).1 (presentFmt e.2).2).isSome
      let laddered := its.any fun e => hClass e.2.desc == 1 && hLadderEn e.2.desc
      let rung := s.rungOf g.slice g.layer
      let top := (its.head?.map fun e => cfgFld e.2 R.TRN_LAYER_LADDER_MAX [g.layer]).getD 0
      let tensor := ((its.find? fun e => hGateLast e.2.desc).map fun e => hTensor e.2.desc).getD 0
      if its.any (fun e => e.2.status != 0) then
        let s := g.items.foldl State.releaseItem open'
        (s.logAt Code.GATE_FAILED 0x0700 g.epoch 0 0).trnLast Code.GATE_FAILED
      else if ovf.isEmpty then g.items.foldl State.releaseItem open'
      else if laddered ∧ rung < top ∧ !succ.isEmpty then
        let pick := ((succ.find? fun e => e.2.overflow).or succ.head?).map (·.2)
        let (oldF, newF) := match pick with
          | some it => ((presentFmt it).1, ((ladderNext (presentFmt it).1 (presentFmt it).2).map (·.1)).getD 0)
          | none => (0, 0)
        let s := if g.slice = 0 then s.setFld R.TRN_LAYER_RUNG_T (rung + 1) [g.layer] else s.setFld R.TRN_LAYER_RUNG_E (rung + 1) [g.layer]
        let s := (s.logAt Code.LADDER_STEP 0x0700 g.epoch 0 (ladderDetail g oldF newF (rung + 1) tensor its.length ovf.length)).trnLast Code.LADDER_STEP
        let s := s.bumpSat R.TRN_COUNT_LADDER_EVENTS
        g.items.foldl (fun s id => s.modItem id fun it => s.withRungs g.slice it.again) s
      else
        let f := (ovf.head?.map fun e => itemFmt e.2).getD 0
        let s := g.items.foldl State.releaseItem open'
        let s := (s.logAt Code.LADDER_TOP 0x0700 g.epoch 0 (ladderDetail g f f rung tensor its.length ovf.length)).trnLast Code.LADDER_TOP
        s.bumpSat R.TRN_COUNT_OVF_UNLADDERED [] ovf.length

/-- The run's energy is reconciled against the general balance (R467); what earlier windows attributed to the item is not attributed again (R462). -/
def State.reconcile (s : State) (it : Item) (measured : Nat) : State :=
  if it.admitted then
    let s := { s with nrg := { s.nrg with attributed := s.nrg.attributed + (measured - it.metered), general := s.nrg.general - ((measured : Int) - it.debited) } }
    if it.debited ≤ measured then s.bump R.NRG_LEDGER_DRAWN_UJ [] (measured - it.debited)
    else s.bump R.NRG_LEDGER_RETURNED_UJ [] (it.debited - measured)
  else s

/-- A weight-gradient item that completes by R151 marks its layer frozen for its step (R234). -/
def State.markFrozen (s : State) (it : Item) : State :=
  if it.frozenSkip ∧ hClass it.desc = 1 ∧ hLayer it.desc < 4096 then
    { s with train := { s.train with frozenStep := s.train.frozenStep.put (hStep it.desc * 4096 + hLayer it.desc) () } }.setFlag R.TRN_LAYER_FROZEN_T true [hLayer it.desc]
  else s

/-- A MATRIX item that ends lets go of its landing-buffer slots (R160). -/
def State.unbind (s : State) (it : Item) : State :=
  it.bound.foldl (fun s k => s.setFld R.COL_SLOT_W1_BOUND (s.fld R.COL_SLOT_W1_BOUND [k / 32, k % 32] - 1) [k / 32, k % 32]) s

/-- What the completion of a step leaves in the COL registers (Tables 13-10, 13-13, 13-14), and that it has completed, whatever its status (R377). -/
def State.colMarks (s : State) (it : Item) : State :=
  if isStep it.desc then
    let s := s.setFld R.COL_STATUS_LAST_STATUS it.status
    let s := if (s.groups.find? (cGroup it.desc)).isSome then { s with ended := s.ended.put (bucketKey (cGroup it.desc) (cBucket it.desc)) (cGen it.desc) } else s
    if it.status = 0 then s.bump R.COL_COUNTS_STEPS
    else if it.status = Code.COLL_ABORT then
      let s := s.bumpSat R.COL_COUNTS_ABORTS
      if s.flag R.COL_CTL_ABORT_IRQ then s.interruptRoute 1 else s
    else s
  else s

/-- The run of an item ends: energy, then its record and signals, or the gate that withholds them (R238, R412, R467). -/
def State.endRun (s : State) (id measured : Nat) : State :=
  match s.items.find? id with
  | none => s
  | some it =>
    let s := s.reconcile it measured
    let s := ((s.markFrozen it).unbind it).colMarks it
    let s := s.modItem id fun it => { it with bound := [], measured := if it.admitted then measured else 0 }
    match it.gate with
    | none => (if it.overflow then s.bumpSat R.TRN_COUNT_OVF_UNLADDERED else s).releaseItem id
    | some g => (s.modItem id fun it => { it with phase := .withheld }).closeGate g

/-- A run that ends by itself: the meters' reading is a free value. -/
def State.endNow (s : State) (id : Nat) : State :=
  let (w, s) := s.free
  s.endRun id (bits w.toNat 0 32)

end Sys2Proof.Machine
end

