-- ==== Sys2Proof/Machine/Fetch.lean ====
section
/-! DEFINITION. Lines of other members and of the PCIe window that an item or a core reads: asked for, kept, and put in front of its reads (R342, R511, R517). -/

namespace Sys2Proof.Machine
open Sys2Proof

/-- The line addresses that byte ranges touch. -/
def rangeLines (rs : List (Nat × Nat)) : List Nat :=
  (rs.flatMap fun r => if r.2 = 0 then [] else (List.range ((r.1 + r.2 - 1) / 64 + 1 - r.1 / 64)).map fun i => (r.1 / 64 + i) * 64).eraseDups

/-- Whether a line lies with another member or behind the PCIe port. -/
def State.farLine (s : State) (a : Nat) : Bool := s.farByte a

/-- The far lines of some ranges that have not been read yet. -/
def State.missingLines (s : State) (have' : FMap (List Byte × Nat)) (rs : List (Nat × Nat)) : List Nat :=
  (rangeLines rs).filter fun a => s.farLine a && (have'.find? (a / 64)).isNone

/-- The lowest PCIe tag not in use. -/
def State.freePcieTag (s : State) : Nat := ((List.range 1024).find? fun t => (s.pcieReqs.find? t).isNone).getD 1023

/-- One more request of an item without an answer. -/
def State.itemWaits (s : State) (w : Waiter) : State :=
  match w with
  | .item id => s.modItem id fun it => { it with pendingRemote := it.pendingRemote + 1 }
  | _ => s

/-- A read through the PCIe port (R517). -/
def State.pcieRead (s : State) (w : Waiter) (off a n : Nat) : State :=
  let tag := s.freePcieTag
  let s := s.itemWaits w
  let s := { s with pcieReqs := s.pcieReqs.put tag { waiter := w, dst := 0, vc := 0, op := 0, addr := a, len := n, age := s.ageStamp, narrow := none } }
  s.emit (.pcieReq tag false (s.busAddr off) [] false)

/-- A far line asked for by line read (R511). -/
def State.askLine (s : State) (w : Waiter) (a : Nat) : State :=
  match s.regionOf a with
  | .remote m off => s.askRemote w m off 0 1 0 0 [] a 64
  | .pcie off => s.pcieRead w off a 64
  | _ => s

/-- `f` run with its requests counted as narrow ones of a die, where one is named (R266). -/
def State.asNarrow (s : State) (die : Option Nat) (f : State → State) : State :=
  let t := f { s with mem := { s.mem with curDie := die } }
  { t with mem := { t.mem with curDie := none } }

/-- Far lines asked for. -/
def State.askLines (s : State) (w : Waiter) (l : List Nat) (die : Option Nat := none) : State :=
  s.asNarrow die fun s => l.foldl (fun s a => s.askLine w a) s

/-- `f` run with an item's far lines in front of its reads, and its writes to other members counted for it. -/
def State.asItem (s : State) (id : Nat) (f : State → State) : State :=
  let lines := match s.items.find? id with
    | some it => it.remote
    | none => []
  let old := s.mem.remote
  let s := f { s with mem := { s.mem with cur := .item id, remote := lines } }
  { s with mem := { s.mem with cur := .none, remote := old } }

/-- The unit an item's own errors are logged for: the first tile of its group, the collective engine, or the queue manager. -/
def State.itemUnit (s : State) (d : Desc) : Nat :=
  if isStep d then 0x2100 else match if usesTgroup (hClass d) then (s.groupTiles (hTgroup d)).head? else none with
    | some p => tileUnit p
    | none => 0x0B00

/-- An item marked OPTSTEP has stored a poisoned value (R302). -/
def State.optPoison (s : State) (id a : Nat) : State :=
  match s.items.find? id with
  | some it =>
    if hOptstep it.desc ∧ it.status = 0 then (s.logPoison 0x07 (s.itemUnit it.desc) it.queue a 0).failItem id Code.POISON_CONSUMED else s
  | none => s

/-- `n` undefined bytes. -/
def State.freeBytes (s : State) (n : Nat) : List Byte × State :=
  let k := (n + 7) / 8
  (((List.range k).flatMap fun i => toBytes 8 (Config.freeWord (s.fresh + i)).toNat).take n, { s with fresh := s.fresh + k })

/-- Lines read once each, kept by address / 64. -/
def State.fetchLines (s : State) (rs : List (Nat × Nat)) (src : Nat) : FMap LineView × State :=
  (rangeLines rs).foldl (fun acc a =>
    let (v, s) := acc.2.readLine a src
    (acc.1.put (a / 64) v, s)) ([], s)

/-- The bytes of [a, a + n) among fetched lines, and whether any word touched is poisoned. -/
def fromLines (c : FMap LineView) (a n : Nat) : List Byte × Bool :=
  if n = 0 then ([], false) else
    let views := (List.range ((a + n - 1) / 64 + 1 - a / 64)).map fun i => ((a / 64 + i) * 64, c.getD (a / 64 + i) ⟨0, zeros 64, 255, []⟩)
    (((views.flatMap (·.2.data)).drop (a % 64)).take n, views.any fun (b, v) => (List.range 8).any fun i =>
      bit v.poison i && decide (a < b + 8 * i + 8) && decide (b + 8 * i < a + n))

/-- The parts of a byte range, line by line. -/
def rangeParts (r : Nat × Nat) : List (Nat × Nat) :=
  (rangeLines [r]).map fun l => (max r.1 l, min (r.1 + r.2) (l + 64) - max r.1 l)

/-- A byte range whose contents are undefined: each line either keeps what it held or has been written with undefined data and the mark that the writes made so far have left (R551). -/
def State.undefine (s : State) (r : Nat × Nat) : State :=
  (rangeParts r).foldl (fun s p =>
    if !s.mapped p.1 || s.farLine p.1 then s else
      let (w, s) := s.free
      if bit w.toNat 0 then
        let old := (s.peek p.1 p.2).2
        let (bs, s) := s.freeBytes p.2
        s.storePart p.1 bs old 0
      else s) s

end Sys2Proof.Machine
end

