-- ==== Sys2Proof/Machine/Regions.lean ====
section
/-! DEFINITION. Declared reduction regions (R276 to R282) and the layer-monitor table as one of them (R249). -/

namespace Sys2Proof.Machine
open Sys2Proof

/-- First address of the shared-cache window. -/
abbrev windowBase : Nat := 0x0C000000000

/-- Window offset of the layer-monitor table (Table 9-12). -/
def State.lmtOff (s : State) : Nat := s.fld R.TRN_LMT_BASE_OFFSET / 2 ^ 17 * 2 ^ 17

/-- The table lies in the backed window. -/
def State.lmtOn (s : State) : Bool := s.mapped (windowBase + s.lmtOff)

/-- A declared region as its registers give it; the table is entry 3 of its slice. -/
structure Rgn where
  die : Nat
  slice : Nat
  entry : Nat
  /-- Window offset of element 0. -/
  off : Nat
  elements : Nat
  lmt : Bool
  deriving DecidableEq, Repr

/-- Register index of a region. -/
def Rgn.ix (r : Rgn) : List Nat := [r.die, r.slice, r.entry]

/-- Key of a region: slice × 4 + entry. -/
def Rgn.key (r : Rgn) : Nat := (16 * r.die + r.slice) * 4 + r.entry

/-- Die and slice of a window offset. -/
def sliceOfOff (o : Nat) : Nat × Nat := (bits o 26 2, bits o 22 4)

/-- The layer-monitor table as a region. -/
def State.lmtRgn (s : State) : Rgn :=
  let (d, l) := sliceOfOff s.lmtOff
  { die := d, slice := l, entry := 3, off := s.lmtOff, elements := 8192, lmt := true }

/-- Whether an entry is the table's. -/
def State.lmtEntry (s : State) (d l e : Nat) : Bool := s.lmtOn && e == 3 && sliceOfOff s.lmtOff == (d, l)

/-- The declared regions of a slice. -/
def State.regionsOf (s : State) (d l : Nat) : List Rgn :=
  (if s.lmtEntry d l 3 then [s.lmtRgn] else []) ++
  (List.range 4).filterMap fun e =>
    if !s.lmtEntry d l e && s.flag R.SCA_REGION_W0_VALID [d, l, e] then
      some { die := d, slice := l, entry := e, off := (16 * d + l) * 2 ^ 22 + s.fld R.SCA_REGION_W0_OFFSET [d, l, e]
             elements := s.fld R.SCA_REGION_W0_ELEMENTS [d, l, e], lmt := false }
    else none

/-- The region that holds a byte of the window, and the element. -/
def State.regionAt (s : State) (a : Nat) : Option (Rgn × Nat) :=
  match s.regionOf a with
  | .window o =>
    let (d, l) := sliceOfOff o
    (((s.regionsOf d l).find? fun r => decide (r.off ≤ o ∧ o < r.off + 16 * r.elements))).map fun r => (r, (o - r.off) / 16)
  | _ => none

/-- Whether a byte range touches an element of a declared region. -/
def State.hitsRegion (s : State) (a n : Nat) : Bool :=
  n != 0 && (match s.regionOf a with
    | .window o =>
      let (d, l) := sliceOfOff o
      (s.regionsOf d l).any fun r => overlaps o n r.off (16 * r.elements)
    | _ => false)

/-- L of R277 for an element, with the configuration a contributor runs with. -/
def State.rgnExp (s : State) (cfg : FMap Word) (r : Rgn) (i : Nat) : Int :=
  let g := fun (f : Fld) => bits (FMap.getD cfg (f.at []) f.rst).toNat f.lo f.w
  if r.lmt then sext 16 (if i % 2 = 0 then g R.TRN_LMT_CFG_EXP_D else g R.TRN_LMT_CFG_EXP_W)
  else
    let layer := s.fld R.SCA_REGION_W1_LAYER r.ix
    let rung := if layer < 4096 then s.fld R.TRN_LAYER_RUNG_T [layer] else 0
    sext 16 (s.fld R.SCA_REGION_W0_EXP r.ix) + s.fld R.SCA_REGION_W1_RUNG_SHIFT r.ix * rung

/-- Address of an element. -/
def Rgn.addr (r : Rgn) (i : Nat) : Nat := windowBase + r.off + 16 * i

/-- V of an element, and its poison. -/
def State.rgnV (s : State) (r : Rgn) (i : Nat) : Int × Bool :=
  let (n, p) := s.peekNat (r.addr i) 16
  (sext 128 n, p)

/-- V of an element written, its line checked first (R292). -/
def State.setRgnV (s : State) (r : Rgn) (i : Nat) (v : Int) (poison : Bool) : State :=
  let a := r.addr i
  let s := s.settleLine (a / 64 * 64)
  let m := (s.mem.putBytes a (toBytes 16 (wrapInt 128 v))).dropReservations a 16
  { s with mem := (m.mark (a / 8) poison).mark (a / 8 + 1) poison }

/-- Key of an element's side flags. -/
def Rgn.sideKey (r : Rgn) (i : Nat) : Nat := r.off / 16 + i

/-- No side flag. -/
def RFlags.none : RFlags := { ovf := Option.none, infPos := false, infNeg := false, nan := false }

/-- An element's side flags. -/
def State.rgnSide (s : State) (r : Rgn) (i : Nat) : RFlags := s.mem.side.getD (r.sideKey i) RFlags.none

/-- An element's side flags set. -/
def State.setRgnSide (s : State) (r : Rgn) (i : Nat) (f : RFlags) : State :=
  { s with mem := { s.mem with side := FMap.setD s.mem.side (r.sideKey i) RFlags.none f } }

/-- An element cleared: V, side flags and poison (R280). -/
def State.clearElem (s : State) (r : Rgn) (i : Nat) : State := (s.setRgnV r i 0 false).setRgnSide r i RFlags.none

/-- Zero bytes over a range, in one pass. -/
def Mem.zeroRange (m : Mem) (a n : Nat) : Mem :=
  { m with cells := FMap.keep (fun k _ => decide (k < a)) m.cells ++ (List.range n).map (fun i => (a + i, 0)) ++ FMap.keep (fun k _ => decide (a + n ≤ k)) m.cells
           poison := FMap.keep (fun w _ => !(decide (a ≤ 8 * w) && decide (8 * w < a + n))) m.poison
           checks := FMap.keep (fun l _ => !(decide (a / 64 ≤ l) && decide (64 * l < a + n))) m.checks }

/-- All elements of a region set to zero (R276, R280). -/
def State.clearRegion (s : State) (r : Rgn) : State :=
  let k0 := r.sideKey 0
  let s := (s.settleLine (r.addr 0 / 64 * 64)).settleLine (r.addr (r.elements - 1) / 64 * 64)
  { s with mem := { s.mem.zeroRange (r.addr 0) (16 * r.elements) with
      side := FMap.keep (fun k _ => !(decide (k0 ≤ k) && decide (k < k0 + r.elements))) s.mem.side
      ovfLogged := FMap.del r.key s.mem.ovfLogged } }

/-- The layer-monitor table's own declaration: its elements start at zero where it lies in the window (R249, R276). -/
def State.declareLmt (s : State) : State := if s.lmtOn then s.clearRegion s.lmtRgn else s

/-- Flags and flush count that something adds to an item. -/
structure Marks where
  flags : Nat
  flush : Nat
  deriving DecidableEq, Repr

/-- One contribution to an element (R277 to R280). `cfg`: the configuration its item runs with. Every finite contribution to an element with OVF counts in OVF_COUNT (Table 10-14); only the one that set OVF raises OVERFLOW. -/
def State.rgnAdd (s : State) (cfg : FMap Word) (r : Rgn) (i fmt b : Nat) (poison : Bool) : State × Marks :=
  let (v0, p0) := s.rgnV r i
  let side := s.rgnSide r i
  if poison then (s.setRgnV r i v0 true, ⟨0, 0⟩)
  else
    let (x, fl, n) := readElem fmt b
    match x with
    | .nan _ => (s.setRgnSide r i { side with nan := true }, ⟨fl, n⟩)
    | .inf neg => (s.setRgnSide r i (if neg then { side with infNeg := true } else { side with infPos := true }), ⟨fl, n⟩)
    | .fin neg m e =>
      if side.ovf.isSome then (s.bumpSat R.SCA_REGION_W1_OVF_COUNT r.ix, ⟨fl, n⟩)
      else if m = 0 then (s, ⟨fl, n⟩)
      else
        let l := s.rgnExp cfg r i
        let (q, odd) : Nat × Bool := if l ≤ e then (m * 2 ^ (e - l).toNat, false)
          else
            let k := (l - e).toNat
            let t := m / 2 ^ k
            if m % 2 ^ k = 0 then (t, false) else (if t % 2 = 0 then t + 1 else t, true)
        let sum := v0 + (if neg then -(q : Int) else q)
        let fl := if odd then fl ||| fInexact else fl
        if -(2 ^ 127 : Nat) ≤ sum ∧ sum < (2 ^ 127 : Nat) then (s.setRgnV r i sum p0, ⟨fl, n⟩)
        else
          let s := s.setRgnSide r i { side with ovf := some (decide (sum < 0)) }
          let s := s.bumpSat R.SCA_REGION_W1_OVF_COUNT r.ix
          let s := if (FMap.find? r.key s.mem.ovfLogged).isSome then s
            else { s with mem := { s.mem with ovfLogged := FMap.put r.key () s.mem.ovfLogged } }.log Code.REGION_OVERFLOW (sliceUnit r.die r.slice) (r.addr i)
          (s, ⟨fl ||| fOverflow, n⟩)

/-- What an element reads out as in a format (R281). -/
def State.rgnOut (s : State) (cfg : FMap Word) (r : Rgn) (i fmt : Nat) (c : Rnd) : Res :=
  let side := s.rgnSide r i
  match fpOf fmt with
  | none => ⟨0, 0, 0⟩
  | some f =>
    if side.nan ∨ (side.infPos ∧ side.infNeg) then ⟨canonNan f, if side.infPos && side.infNeg then fInvalid else 0, 0⟩
    else if side.infPos ∨ side.infNeg then ⟨packInf f side.infNeg, 0, 0⟩
    else match side.ovf with
      | some neg =>
        let (b, fl) := overflowBits f c neg
        ⟨b, fl, 0⟩
      | none =>
        let v := (s.rgnV r i).1
        encodeVal fmt c true (.fin (decide (v < 0)) v.natAbs (s.rgnExp cfg r i))

/-- OP of a REDUCE_REGION descriptor (Table 10-6). -/
def gOp (d : Desc) : Nat := dsc d 0x38 0 3
/-- REGION. -/
def gOff (d : Desc) : Nat := dsc d 0x30 0 28
/-- FMT. -/
def gFmt (d : Desc) : Nat := dsc d 0x38 4 4
/-- CLEAR_AFTER. -/
def gClearAfter (d : Desc) : Bool := dsc d 0x38 8 1 == 1
/-- RND. -/
def gRnd (d : Desc) : Nat := dsc d 0x38 9 3
/-- OVF. -/
def gOvf (d : Desc) : Nat := dsc d 0x38 12 2
/-- ELEMENTS. -/
def gElements (d : Desc) : Nat := dsc d 0x40 0 18
/-- FIRST. -/
def gFirst (d : Desc) : Nat := dsc d 0x48 0 18
/-- COUNT. -/
def gCount (d : Desc) : Nat := dsc d 0x48 18 18
/-- ADDR. -/
def gAddr (d : Desc) : Nat := dsc d 0x50 0 48

/-- ADD or OUT: the operations that move data. -/
def gMoves (d : Desc) : Bool := gOp d == 2 || gOp d == 3

/-- A FMT that Table 4-1 bars from an element without a block scale: required a scale, or allowed at no memory element (R81). -/
def gFmtBarred (d : Desc) : Bool := (decide (6 ≤ gFmt d) && decide (gFmt d ≤ 8)) || decide (12 ≤ gFmt d)

/-- Reserved bits and values (R276); a FMT that R81 bars has its own code where the operation reads elements by it. -/
def gFieldBad (d : Desc) : Bool :=
  (decide (1 < gFmt d) && !(gMoves d && gFmtBarred d)) ||
  dsc d 0x30 28 36 != 0 || decide (4 < gOp d) || dsc d 0x38 3 1 != 0 || gOvf d == 3 || dsc d 0x38 14 2 != 0 || dsc d 0x38 54 10 != 0 ||
    dsc d 0x40 18 46 != 0 || dsc d 0x48 36 28 != 0 || dsc d 0x50 48 16 != 0 || dsc d 0x58 0 320 != 0 ||
    (gOp d == 0 && decide (4096 ≤ dsc d 0x38 32 16) && dsc d 0x38 32 16 != 0xFFFF)

/-- A DECLARE breaks a limit, or overlaps a declared region (R276). -/
def State.declareBad (s : State) (d : Desc) : Bool :=
  let o := gOff d
  let n := gElements d
  let (die, l) := sliceOfOff o
  let rs := s.regionsOf die l
  decide (o % 16 ≠ 0) || n == 0 || decide (196608 < n) || decide (2 ^ 22 < o % 2 ^ 22 + 16 * n) || !s.mapped (windowBase + o) ||
    decide (4 ≤ rs.length) || rs.any fun r => overlaps o (16 * n) r.off (16 * r.elements)

/-- The region an operation names. -/
def State.namedRegion (s : State) (d : Desc) : Option Rgn :=
  let (die, l) := sliceOfOff (gOff d)
  (s.regionsOf die l).find? fun r => r.off == gOff d && !(r.lmt && gOp d == 4)

/-- The operation names no declared region, or elements beyond it (R276). -/
def State.undeclared (s : State) (d : Desc) : Bool :=
  gOp d != 0 && (match s.namedRegion d with
    | none => true
    | some r => decide (r.elements < gFirst d + gCount d))

/-- The dispatch checks of a REDUCE_REGION item. -/
def State.regionVerdict (s : State) (d : Desc) : Verdict :=
  let n := gCount d * (fmtBits (gFmt d) / 8)
  let code := firstCode [
    (gMoves d && s.namesAbsent (gAddr d), Code.UNIT_ABSENT),
    (gFieldBad d, Code.REGION_DECL),
    (gMoves d && gFmtBarred d, Code.FORMAT_INVALID),
    (!rndOk (gRnd d) || !srBitsOk (hSrBits d), Code.ROUND_INVALID),
    (gOp d == 0 && s.declareBad d, Code.REGION_DECL),
    (s.undeclared d, Code.REGION_UNDECLARED),
    (gMoves d && decide (gAddr d % (fmtBits (gFmt d) / 8) ≠ 0), Code.MAT_ALIGN),
    (gMoves d && !s.mappedRange (gAddr d) n, Code.ADDR_UNMAPPED),
    (gOp d == 3 && s.hitsRegion (gAddr d) n, Code.REGION_UNDECLARED)]
  if code = 0 then .run else .fail code

/-- The tile with logical index 0 (R281). -/
def State.tileZero (s : State) : Nat :=
  ((List.range 576).find? fun p => s.fld R.TIL_ID_LOGICAL (tix p) == 0 && decide (s.fld R.TIL_ID_ROLE (tix p) < 2)).getD 0

/-- Flags and flush count of an item grow; OVERFLOW counts for its gate (R239, R279). -/
def State.addMarks (s : State) (id : Nat) (m : Marks) : State :=
  s.modItem id fun it => { it with flags := it.flags ||| m.flags, flush := it.flush + m.flush, overflow := it.overflow || hasFlag m.flags fOverflow }

/-- The lowest free region entry of a slice. -/
def State.freeEntry (s : State) (d l : Nat) : Nat :=
  ((List.range 4).find? fun e => !s.lmtEntry d l e && !s.flag R.SCA_REGION_W0_VALID [d, l, e]).getD 0

/-- DECLARE: an entry taken, elements and side flags cleared (R276). -/
def State.regionDeclare (s : State) (d : Desc) : State :=
  let (die, l) := sliceOfOff (gOff d)
  let r : Rgn := { die := die, slice := l, entry := s.freeEntry die l, off := gOff d, elements := gElements d, lmt := false }
  let s := s.setFld R.SCA_REGION_W0_OFFSET (gOff d % 2 ^ 22) r.ix
  let s := s.setFld R.SCA_REGION_W0_ELEMENTS (gElements d) r.ix
  let s := s.setFld R.SCA_REGION_W0_EXP (dsc d 0x38 16 16) r.ix
  let s := s.setFld R.SCA_REGION_W0_VALID 1 r.ix
  let s := s.setFld R.SCA_REGION_W1_LAYER (dsc d 0x38 32 16) r.ix
  let s := s.setFld R.SCA_REGION_W1_RUNG_SHIFT (dsc d 0x38 48 6) r.ix
  s.clearRegion r

/-- CLEAR of COUNT elements from FIRST (R280). -/
def State.regionClear (s : State) (d : Desc) (r : Rgn) : State :=
  let s := { s with mem := { s.mem with ovfLogged := FMap.del r.key s.mem.ovfLogged } }
  (List.range (gCount d)).foldl (fun s i => s.clearElem r (gFirst d + i)) s

/-- ADD of a dense array (R278). -/
def State.regionAdd (s : State) (id : Nat) (it : Item) (r : Rgn) : State :=
  let d := it.desc
  let w := fmtBits (gFmt d) / 8
  let s := s.touchLines (gAddr d) (gCount d * w) 0
  (List.range (gCount d)).foldl (fun s i =>
    let (b, p) := s.peekNat (gAddr d + w * i) w
    let (s, m) := s.rgnAdd it.cfg r (gFirst d + i) (gFmt d) b p
    s.addMarks id m) s

/-- Part of one line written with a poison mark for each byte: in one write where its words share a mark or leave the chip, word by word on chip (R296, R552). -/
def State.storeMarked (s : State) (a : Nat) (cells : List (Byte × Bool)) (src : Nat) : State :=
  let b := s.localAddr a
  if (match s.regionOf b with | .tile _ _ => true | .window _ => true | _ => false) then
    (List.range 8).foldl (fun s i =>
      let word := (cells.zipIdx.filter fun e => (b + e.2) % 64 / 8 == i).map fun e => (e.1.1, e.1.2, e.2)
      match word with
      | [] => s
      | e :: _ => s.storePart (b + e.2.2) (word.map (·.1)) (word.any (·.2.1)) src) s
  else s.storePart b (cells.map (·.1)) (cells.any (·.2)) src

/-- The elements that OUT writes into one line: read, cleared in the same access where CLEAR_AFTER is 1, and stored in one write; an OPTSTEP item stops after a poisoned one (R281, R302). -/
def State.regionOutLine (s : State) (id : Nat) (it : Item) (r : Rgn) (p0 line : Nat) : State :=
  let d := it.desc
  let w := fmtBits (gFmt d) / 8
  let lo := max (gAddr d) line
  let es := (List.range ((min (gAddr d + w * gCount d) (line + 64) - lo) / w)).map fun k => gFirst d + (lo - gAddr d) / w + k
  let outs := es.map fun e => (s.rgnOut it.cfg r e (gFmt d) (rndCtl it p0 (gRnd d) (gOvf d) e), (s.rgnV r e).2)
  let s := s.touchLines (r.addr (es.headD 0)) (16 * es.length) 0
  let s := if gClearAfter d then es.foldl (fun s e => s.clearElem r e) s else s
  let s := outs.foldl (fun s o => if o.2 then s else s.addMarks id ⟨o.1.flags, o.1.flush⟩) s
  let s := s.storeMarked lo (outs.flatMap fun o => (toBytes w o.1.bits).map fun b => (b, o.2)) 0
  if outs.any (·.2) then s.optPoison id lo else s

/-- OUT of COUNT elements, line by line of its destination (R281). -/
def State.regionOut (s : State) (id : Nat) (it : Item) (r : Rgn) : State :=
  let d := it.desc
  let p0 := s.tileZero
  (rangeLines [(gAddr d, fmtBits (gFmt d) / 8 * gCount d)]).foldl (fun s l =>
    match s.items.find? id with
    | none => s
    | some now => if now.status ≠ 0 then s else s.regionOutLine id it r p0 l) s

/-- An element's bytes made undefined: free values under the marks they had (R282, R551). -/
def State.undefElem (s : State) (r : Rgn) (i : Nat) : State :=
  let (b, s) := (s.settleLine (r.addr i / 64 * 64)).freeBytes 16
  { s with mem := s.mem.putBytes (r.addr i) b }

/-- RELEASE: the entry is free again; the bytes remain as window data with undefined contents (R282). -/
def State.regionRelease (s : State) (r : Rgn) : State :=
  let s := s.setFld R.SCA_REGION_W0_VALID 0 r.ix
  let s := (List.range r.elements).foldl (fun s i => s.undefElem r i) s
  let k0 := r.sideKey 0
  { s with mem := { s.mem with side := FMap.keep (fun k _ => !(decide (k0 ≤ k) && decide (k < k0 + r.elements))) s.mem.side } }

/-- The work of a REDUCE_REGION item. -/
def State.regionWork (s : State) (id : Nat) : State :=
  match s.items.find? id with
  | none => s
  | some it =>
    if gOp it.desc = 0 then s.regionDeclare it.desc
    else match s.namedRegion it.desc with
      | none => s.failItem id Code.REGION_UNDECLARED
      | some r =>
        match gOp it.desc with
        | 1 => s.regionClear it.desc r
        | 2 => s.regionAdd id it r
        | 3 => s.regionOut id it r
        | _ => s.regionRelease r

/-- Runs an item's work once the far lines it reads are there; otherwise asks for them. -/
def State.workWith (s : State) (id : Nat) (ranges : List (Nat × Nat)) (work : State → State) (die : Option Nat := none) : State :=
  match s.items.find? id with
  | none => s
  | some it =>
    let miss := s.missingLines it.remote ranges
    if miss.isEmpty then (s.modItem id fun it => { it with phase := .running }).asItem id work
    else if it.pendingRemote = 0 ∧ it.status = 0 then s.askLines (.item id) miss die
    else s

/-- A REDUCE_REGION item starts, or goes on once its far source has arrived. -/
def State.regionStart (s : State) (id : Nat) : State :=
  match s.items.find? id with
  | none => s
  | some it =>
    let d := it.desc
    s.workWith id (if gOp d = 2 then [(gAddr d, gCount d * (fmtBits (gFmt d) / 8))] else []) fun s => s.regionWork id

end Sys2Proof.Machine
end

