-- ==== Sys2Proof/Machine/ColData.lean ====
section
/-! DEFINITION. The arithmetic of collectives: contributions, partials and final values (R360, R361), the block-scaled wire format (R396 to R400), rounds and their chunks (R358, R359), the stream of each round (Table 13-3). -/

namespace Sys2Proof.Machine
open Sys2Proof

/-- Elements of `w` bytes each. -/
def wordsOf (w : Nat) (l : List Byte) : List Nat := (chunksOf w l.length l).map ofBytes

/-- A whole number of lines. -/
def lineUp (n : Nat) : Nat := (n + 63) / 64 * 64

/-- Bytes with flags and flush count. -/
structure Sum where
  chunk : Chunk
  flags : Nat
  flush : Nat
  deriving DecidableEq, Repr

/-- The format code of A (R360). -/
def accFmt (fmt : Nat) : Nat := if fmt = 0 then 0 else 1

/-- A contribution in A: exact, subnormals of A read as zero (R90, R360). -/
def contrib (fmt b : Nat) : Res :=
  let (v, fl, n) := readElem fmt b
  match v with
  | .fin neg m e =>
    if m ≠ 0 ∧ accFmt fmt = 1 ∧ (Nat.log2 m : Int) + e < -126 then ⟨b2n neg * 2 ^ 31, fl ||| fFlush, n + 1⟩
    else ⟨(encodeVal (accFmt fmt) ⟨0, false, 0, 0⟩ true v).bits, fl, n⟩
  | _ => ⟨(encodeVal (accFmt fmt) ⟨0, false, 0, 0⟩ true v).bits, fl, n⟩

/-- The elements [lo, lo + n) of an array with the poison of the words they stand in. -/
def State.elems (s : State) (base fmt lo n : Nat) : List Nat × Bool :=
  let w := fmtBits fmt
  let a := base + lo * w / 8
  let (b, p) := s.peek a ((n * w + 7) / 8)
  ((List.range n).map (packedAt b w), p)

/-- This member's contribution to elements [lo, lo + n), as lines of A. -/
def State.ownNative (s : State) (d : Desc) (lo n : Nat) : Sum :=
  let ab := accBytes (cFmt d)
  let per := 64 / ab
  let parts := (List.range ((n + per - 1) / per)).map fun j =>
    let (es, p) := s.elems (cSrc d) (cFmt d) (lo + j * per) (min per (n - j * per))
    (es.map (contrib (cFmt d)), p)
  let rs := parts.flatMap (·.1)
  { chunk := { bytes := padTo (lineUp (n * ab)) (rs.flatMap fun r => toBytes ab r.bits)
               poison := (List.range parts.length).foldl (fun m j => m + b2n ((parts.map (·.2)).getD j false) * 2 ^ j) 0 }
    flags := orFlags (rs.map (·.flags)), flush := (rs.map (·.flush)).sum }

/-- partial + own, rounded once to nearest even in A (R360). -/
def addChunks (fmt n : Nat) (part : Chunk) (own : Sum) : Sum :=
  let ab := accBytes fmt
  let f := accFmt fmt
  let xs := (wordsOf ab part.bytes).take n
  let ys := (wordsOf ab own.chunk.bytes).take n
  let rs := List.zipWith (fun x y =>
    let (a, fa, na) := readElem f x
    let (b, _, _) := readElem f y
    let (v, fl) := addVal a b false
    let r := encodeVal f ⟨0, false, 0, 0⟩ true v
    (⟨r.bits, r.flags ||| fl ||| fa, r.flush + na⟩ : Res)) xs ys
  { chunk := { bytes := padTo (lineUp (n * ab)) (rs.flatMap fun r => toBytes ab r.bits), poison := part.poison ||| own.chunk.poison }
    flags := own.flags ||| orFlags (rs.map (·.flags)), flush := own.flush + (rs.map (·.flush)).sum }

/-- The rounding control of element `index` of a step's final conversion (R361). -/
def colRnd (it : Item) (index : Nat) : Rnd :=
  let d := it.desc
  let mode := if cRnd d = 7 then cfgFld it R.COL_CFG_RND else cRnd d
  { mode := mode, ovf := cfgFld it R.COL_CFG_OVF == 1
    r := if hSrBits d = 0 then cfgFld it R.COL_CFG_SR_BITS else hSrBits d
    word := if mode = 4 then genWord (cfgFld it R.COL_SR_SEED_SEED) (hTensor d) index (hStep d) else 0 }

/-- Final values written in FMT, element `lo` first, with the poison of the lines they leave (R361). -/
def finalBytes (it : Item) (lo : Nat) (vals : List Val) (flags0 : Nat) (perIn poisonIn : Nat) : Sum :=
  let fmt := cFmt it.desc
  let w := fmtBits fmt / 8
  let rs := vals.mapIdx fun i v => encodeVal fmt (colRnd it (lo + i)) true v
  let per := 64 / w
  let lines := (vals.length + per - 1) / per
  { chunk := { bytes := rs.flatMap fun r => toBytes w r.bits
               poison := (List.range lines).foldl (fun m l =>
                 m + b2n ((List.range per).any fun i => decide (l * per + i < vals.length) && bit poisonIn ((l * per + i) / perIn)) * 2 ^ l) 0 }
    flags := flags0 ||| orFlags (rs.map (·.flags)), flush := (rs.map (·.flush)).sum }

/-- The final value of a native chunk in FMT. -/
def finalNative (it : Item) (lo n : Nat) (c : Chunk) : Sum :=
  let fmt := cFmt it.desc
  let ab := accBytes fmt
  let vs := ((wordsOf ab c.bytes).take n).map (readElem (accFmt fmt))
  finalBytes it lo (vs.map (·.1)) 0 (64 / ab) c.poison

/-- Lines that a step writes, at any address; the last may be short. One on a region element fails the step (R282). A poisoned one of an OPTSTEP step bites, and it stores no more (R302).
DESIGN CHOICE (log 43): a step that has failed so still sends on what its rounds receive, so that every member comes to the same bite, and ends with the code at its last round. -/
def State.storeLines (s : State) (id a : Nat) (c : Chunk) : State :=
  (List.range ((c.bytes.length + 63) / 64)).foldl (fun s j =>
    if (s.items.find? id).any fun it => it.status != 0 then s else
      let part := (c.bytes.drop (64 * j)).take 64
      if s.hitsRegion (a + 64 * j) part.length then s.failItem id Code.REGION_UNDECLARED
      else
        let s := s.storeBytes (a + 64 * j) part (bit c.poison j) 0
        if bit c.poison j then s.optPoison id (a + 64 * j) else s) s

/-- Magnitude of an element in A as read, and whether it is NaN or infinite. -/
def accMag (fmt bits' : Nat) : Option (Nat × Int) :=
  match (readElem (accFmt fmt) bits').1 with
  | .fin _ m e => some (m, e)
  | _ => none

/-- a_b of wire block b (R396); poisoned elements count as zero. -/
def State.agreeByte (s : State) (d : Desc) (b : Nat) : Nat :=
  let n := min 256 (cCount d - 256 * b)
  let own := s.ownNative d (256 * b) n
  let ws := (wordsOf 4 own.chunk.bytes).take n
  let es := ws.mapIdx fun i w => if bit own.chunk.poison (i / 16) then some (0, (0 : Int)) else accMag (cFmt d) w
  if es.any Option.isNone then 0xFF
  else
    let m := es.foldl (fun acc e => match e with | some x => maxMag acc x | none => acc) (0, 0)
    if m.1 = 0 then 0 else (max 1 (min 0xFE ((Nat.log2 m.1 : Int) + m.2 + 1 + 127))).toNat

/-- Wire blocks of COUNT elements. -/
def wireBlocks (count : Nat) : Nat := (count + 255) / 256

/-- t of a block (R397). -/
def gridExp (d : Desc) (a : Nat) : Int := (a : Int) - 127 + cHeadroom d - 15

/-- n = x / 2^t to nearest even, and whether it was inexact (R99, R397); 0 for a poisoned element. -/
def gridInt (d : Desc) (a w : Nat) (poisoned : Bool) : Int × Bool :=
  if a = 0 ∨ a = 0xFF ∨ poisoned then (0, false)
  else match (readElem 1 w).1 with
    | .fin neg m e =>
      let (q, inexact) := roundGrid ⟨0, false, 0, 0⟩ neg m e (gridExp d a)
      (if neg then -(q : Int) else q, inexact)
    | _ => (0, false)

/-- Integers of a block-scaled chunk and its flag map, as a stream holds them (R398). -/
structure Wire where
  ints : List Int
  broken : List Bool
  poison : Nat
  deriving DecidableEq, Repr

/-- The stream of a block-scaled chunk. -/
def Wire.chunk (w : Wire) : Chunk :=
  let body := w.ints.flatMap fun i => toBytes 2 (wrapInt 16 i)
  let map := toBytes ((w.broken.length + 7) / 8) (w.broken.foldr (fun b acc => b2n b + 2 * acc) 0)
  { bytes := padTo (lineUp (body.length + map.length)) (body ++ map), poison := w.poison }

/-- A stream read as a block-scaled chunk of `n` elements. -/
def Wire.of (n : Nat) (c : Chunk) : Wire :=
  { ints := ((wordsOf 2 (c.bytes.take (2 * n)))).map (sext 16)
    broken := (List.range (wireBlocks n)).map fun i => bit (ofBytes (c.bytes.drop (2 * n))) i
    poison := c.poison % 2 ^ ((2 * n + 63) / 64) }

/-- This member's contribution to a chunk, on the agreed grid, added to an incoming chunk (R397, R398), with the flags and flush count of its conversions (R92, R99, R110). -/
def State.addWire (s : State) (d : Desc) (agreed : FMap Nat) (lo n : Nat) (part : Option Wire) : Wire × Nat × Nat :=
  let own := s.ownNative d lo n
  let ws := (wordsOf 4 own.chunk.bytes).take n
  let a := fun i => agreed.getD ((lo + i) / 256) 0
  let base : Wire := part.getD { ints := List.replicate n 0, broken := List.replicate (wireBlocks n) false, poison := 0 }
  let mine := ws.mapIdx fun i w => gridInt d (a i) w (bit own.chunk.poison (i / 16))
  let sums := List.zipWith (fun x y => x + y) base.ints (mine.map (·.1))
  let broken := base.broken.mapIdx fun b was => was || a (256 * b) == 0xFF ||
    ((sums.drop (256 * b)).take 256).any fun x => decide (x < -32768 ∨ 32767 < x)
  let halves := (List.range ((2 * n + 63) / 64)).foldl (fun m l =>
    m + b2n (bit own.chunk.poison (2 * l) || bit own.chunk.poison (2 * l + 1)) * 2 ^ l) 0
  ({ ints := sums.mapIdx fun i x => if broken.getD (i / 256) false then 0 else x, broken := broken, poison := base.poison ||| halves },
   own.flags ||| (if mine.any (·.2) then fInexact else 0), own.flush)

/-- The result of a block-scaled chunk in FMT (R400). -/
def finalWire (it : Item) (agreed : FMap Nat) (lo n : Nat) (c : Chunk) : Sum :=
  let d := it.desc
  let w := Wire.of n c
  let vs := w.ints.mapIdx fun i x => Val.fin (decide (x < 0)) x.natAbs (gridExp d (agreed.getD ((lo + i) / 256) 0))
  finalBytes it lo vs 0 32 w.poison

/-- Rounds of a pass (Table 13-4, R396, R399): 0 and 4 native, 1 agreement, 2 block-scaled data, 3 flag maps. -/
def passRounds (op n pass : Nat) : Nat :=
  match pass with
  | 1 => 2 * (n - 1)
  | 3 => n - 1
  | _ => match op with
    | 0 => 2 * (n - 1)
    | 1 => n - 1
    | 2 => n - 1
    | 5 => if n = 1 then 0 else 2
    | _ => if n = 1 then 0 else 1

/-- Rounds of a step before a pass: ROUND counts over the passes of a step. -/
def roundBase (op n pass : Nat) : Nat :=
  match pass with
  | 2 => 2 * (n - 1)
  | 3 => 2 * (n - 1) + passRounds op n 2
  | 4 => 2 * (n - 1) + passRounds op n 2 + (if op = 1 then n - 1 else 0)
  | _ => 0

/-- The pass a stream belongs to, from its resolved WIRE and ROUND. -/
def passOfRound (op n wire round : Nat) : Nat :=
  if wire = 0 then 0 else if round ≤ roundBase op n 2 then 1 else if round ≤ roundBase op n 3 then 2 else 3

/-- Chunk of round k's input at rank r (Table 13-4). -/
def roundChunk (op n pass r k : Nat) : Nat :=
  if pass = 3 ∨ (pass = 0 ∧ op = 2) then (r + n - k % n) % n
  else if k ≤ n - 1 then (r + 2 * n - k - 1) % n else (r + 3 * n - 1 - k) % n

/-- Elements a pass cuts into chunks: wire blocks for the agreement, the operand otherwise. -/
def passCount (d : Desc) (pass : Nat) : Nat := if pass = 1 then wireBlocks (cCount d) else cCount d

/-- Bytes of the stream that carries a chunk in a pass. -/
def streamLen (d : Desc) (n pass chunk : Nat) : Nat :=
  let len := chunkLen (passCount d pass) n chunk
  match pass with
  | 1 => lineUp len
  | 2 => if len = 0 then 0 else lineUp (2 * len + (wireBlocks len + 7) / 8)
  | 3 => lineUp ((wireBlocks len + 7) / 8)
  | _ => match cOp d with
    | 3 => elemBytes (cFmt d) (cCap d) + 64
    | 5 => 64
    | 2 => lineUp (elemBytes (cFmt d) len)
    | 4 => lineUp (elemBytes (cFmt d) len)
    | _ => lineUp (len * accBytes (cFmt d))

/-- PARAMS (Table 13-3). -/
def colParams (d : Desc) (wire : Nat) : Nat := cOp d + cFmt d * 16 + wire * 2 ^ 8 + cRoot d * 2 ^ 10 + cCount d * 2 ^ 22

/-- Operand chunks whose elements a contribution to a pass's chunk reads (R384). -/
def ownChunks (d : Desc) (n pass chunk : Nat) : List Nat :=
  if pass = 1 then
    let lo := 256 * chunkLo (wireBlocks (cCount d)) n chunk
    let hi := min (cCount d) (lo + 256 * chunkLen (wireBlocks (cCount d)) n chunk)
    let q := chunkQ (cCount d) n
    if hi ≤ lo ∨ q = 0 then [] else (List.range ((hi - 1) / q + 1 - lo / q)).map (lo / q + ·)
  else [chunk]

end Sys2Proof.Machine
end

