-- ==== Sys2Proof/Machine/MatFields.lean ====
section
/-! DEFINITION. The MATRIX descriptor (Tables 6-2 to 6-9), the rewrite of the ladder (R243), the dispatch checks of Table 6-19. -/

namespace Sys2Proof.Machine
open Sys2Proof

/-- An operand or output word of a MATRIX descriptor, ladder rewrite done (Tables 6-3, 6-4). -/
structure MOpd where
  addr : Nat
  fmt : Nat
  trans : Bool
  scaled : Bool
  lb : Bool
  frozen : Bool
  ld : Nat
  deriving DecidableEq, Repr

/-- The operand at a class-area offset with its stride field, as compiled. -/
def rawOpd (d : Desc) (off strideOff : Nat) : MOpd :=
  { addr := dsc d off 0 48, fmt := dsc d off 48 4, trans := dsc d off 52 1 == 1, scaled := dsc d off 53 1 == 1,
    lb := dsc d off 54 1 == 1, frozen := dsc d off 55 1 == 1, ld := dsc d strideOff 0 32 }

/-- Format, SCALED bit and stride taken `r` steps up the ladder (R243). -/
def MOpd.rung (o : MOpd) (r : Nat) : MOpd :=
  let f := ladderTo r o.fmt o.scaled
  { o with fmt := f.1, scaled := f.2, ld := if f.1 = o.fmt then o.ld else ladderStride o.ld o.fmt f.1 }

/-- A MATRIX descriptor as the engine reads it. -/
structure MDesc where
  d : Desc
  a : MOpd
  b : MOpd
  o : MOpd
  /-- The auxiliary block as read at the start of the item, 128 bytes (R144). -/
  aux : Nat
  deriving DecidableEq, Repr

/-- M. -/
def mM (d : Desc) : Nat := dsc d 0x50 0 17
/-- N. -/
def mN (d : Desc) : Nat := dsc d 0x50 17 17
/-- K. -/
def mK (d : Desc) : Nat := dsc d 0x50 34 26
/-- SPAN_S. -/
def mSpanS (d : Desc) : Nat := dsc d 0x60 32 20
/-- SPAN_M. -/
def mSpanM (d : Desc) : Nat := dsc d 0x60 52 5
/-- RND. -/
def mRnd (d : Desc) : Nat := dsc d 0x68 0 3
/-- OVF. -/
def mOvf (d : Desc) : Nat := dsc d 0x68 3 2
/-- FP64_MODE: exact-product. -/
def mExact (d : Desc) : Bool := dsc d 0x68 5 1 == 1
/-- OP. -/
def mOp (d : Desc) : Nat := dsc d 0x68 6 2
/-- OP is merge. -/
def mMerge (d : Desc) : Bool := mOp d == 1
/-- OUT_W. -/
def mOutW (d : Desc) : Bool := dsc d 0x68 8 1 == 1
/-- OUT_TREG. -/
def mTreg (d : Desc) : Bool := dsc d 0x68 9 1 == 1
/-- BIAS_EN. -/
def mBias (d : Desc) : Bool := dsc d 0x68 10 1 == 1
/-- CHSCALE_EN. -/
def mChscale (d : Desc) : Bool := dsc d 0x68 11 1 == 1
/-- CLIP_EN. -/
def mClip (d : Desc) : Bool := dsc d 0x68 12 1 == 1
/-- MAXABS. -/
def mMaxabs (d : Desc) : Nat := dsc d 0x68 13 2
/-- GRAD_ROLE. -/
def mGrad (d : Desc) : Nat := dsc d 0x68 15 2
/-- BLOCK_EVC. -/
def mBlockEvc (d : Desc) : Nat := dsc d 0x68 32 16
/-- BLOCK_EVC_EN. -/
def mBlockEvcEn (d : Desc) : Bool := dsc d 0x68 48 1 == 1

/-- The landing-buffer word of an operand (Table 6-8): LBA for A, LBB for B. -/
def lbOff (isB : Bool) : Nat := if isB then 0x78 else 0x70
/-- GROUP of a binding. -/
def lbGroup (d : Desc) (isB : Bool) : Nat := dsc d (lbOff isB) 0 6
/-- BUCKET of a binding. -/
def lbBucket (d : Desc) (isB : Bool) : Nat := dsc d (lbOff isB) 6 16
/-- GEN of a binding. -/
def lbGen (d : Desc) (isB : Bool) : Nat := dsc d (lbOff isB) 22 16
/-- PIECE_LOG2 of a binding. -/
def lbPiece (d : Desc) (isB : Bool) : Nat := dsc d (lbOff isB) 38 5

/-- Block count B (R115). -/
def mB (d : Desc) : Nat := (mK d + 31) / 32

/-- ⌈log2 n⌉, 0 for n ≤ 1. -/
def ceilLog2 (n : Nat) : Nat := if n ≤ 1 then 0 else Nat.log2 (n - 1) + 1

/-- Output block columns. -/
def mCols (d : Desc) : Nat := (mN d + 31) / 32

/-- Output blocks of the item (R140). -/
def mBlocks (d : Desc) : Nat := (mM d + 31) / 32 * mCols d

/-- The right partial of a merge is absent (R126, R147). -/
def mRightAbsent (d : Desc) : Bool := decide (2 * mB d ≤ 2 * mSpanS d + 2 ^ mSpanM d)

/-- The descriptor with the rungs of its output and of its LADDER_SRC operand (R243). The OPB word of a merge without a right partial is ignored (R147).
DESIGN CHOICE (log 123): its FMT and ADDR are; its reserved bits, TRANS, SCALED and LB are still checked, and LDB, which stands in LDAB, too. -/
def mdesc (d : Desc) (rung srcRung aux : Nat) : MDesc :=
  let a := rawOpd d 0x30 0x58
  let b := rawOpd d 0x38 0x5C
  let a := if hLadderOpd d then a else a.rung srcRung
  let b := if hLadderOpd d then b.rung srcRung else b
  { d := d, a := a, b := if mMerge d && mRightAbsent d then { b with fmt := a.fmt, addr := 0 } else b, o := (rawOpd d 0x40 0x60).rung rung, aux := aux }

/-- The descriptor an item runs with. -/
def Item.mat (it : Item) : MDesc := mdesc it.desc it.rung it.srcRung (it.aux.getD 0)

/-- The landing-buffer operands of an item. -/
def MDesc.lbOpds (m : MDesc) : List Bool := (if m.a.lb then [false] else []) ++ (if m.b.lb then [true] else [])

/-- Significand bits of W (R120, R147). -/
def MDesc.wp (m : MDesc) : Nat := if m.a.fmt = 0 ∨ m.b.fmt = 0 ∨ m.o.fmt = 0 then 112 else 64

/-- Bytes of a stored W partial (R128). -/
def MDesc.wBytes (m : MDesc) : Nat := if m.wp = 112 then 32 else 24

/-- Element bits of a bias or channel-scale element. -/
def MDesc.cFmt (m : MDesc) : Nat := if m.wp = 112 then 0 else 1

/-- Rows stored, and elements per stored row, of A, B and D (R145). -/
def MDesc.shapeA (m : MDesc) : Nat × Nat := if mMerge m.d || !m.a.trans then (mM m.d, if mMerge m.d then mN m.d else mK m.d) else (mK m.d, mM m.d)
/-- Stored rows and row length of B, or of the right partial. -/
def MDesc.shapeB (m : MDesc) : Nat × Nat :=
  if mMerge m.d then (if mRightAbsent m.d then (0, 0) else (mM m.d, mN m.d)) else if m.b.trans then (mN m.d, mK m.d) else (mK m.d, mN m.d)

/-- Bits of a stored element of an operand. -/
def MDesc.bitsOf (m : MDesc) (o : MOpd) : Nat := if mMerge m.d then 8 * m.wBytes else fmtBits o.fmt

/-- Bits of a stored output element. -/
def MDesc.bitsD (m : MDesc) : Nat := if mOutW m.d then 8 * m.wBytes else fmtBits m.o.fmt

/-- Bytes of one stored row. -/
def rowBytes (w n : Nat) : Nat := (w * n + 7) / 8

/-- The bounding byte range of stored rows (R149). -/
def boundRange (addr ld w : Nat) (sh : Nat × Nat) : Nat × Nat := (addr, if sh.1 = 0 ∨ sh.2 = 0 then 0 else ld * (sh.1 - 1) + rowBytes w sh.2)

/-- A word of the auxiliary block. -/
def MDesc.auxWord (m : MDesc) (off : Nat) : Nat := bits m.aux (8 * off) 64

/-- An address word of the auxiliary block. -/
def MDesc.auxAddr (m : MDesc) (off : Nat) : Nat := bits (m.auxWord off) 0 48

/-- ROW0, COL0 and NT (R144). -/
def MDesc.mOrigin (m : MDesc) : Nat × Nat × Nat :=
  if mAuxValid m.d then (bits (m.auxWord 0x40) 0 32, bits (m.auxWord 0x40) 32 32, bits (m.auxWord 0x48) 0 32) else (0, 0, mN m.d)

/-- Reserved bits and values of the class area, and contradictions within it (check 4 of Table 6-19). -/
def MDesc.fieldBad (m : MDesc) : Bool :=
  let d := m.d
  dsc d 0x30 56 8 != 0 || dsc d 0x38 56 8 != 0 || dsc d 0x40 56 8 != 0 || dsc d 0x40 52 1 != 0 || dsc d 0x40 54 1 != 0 ||
  dsc d 0x48 49 15 != 0 || dsc d 0x50 60 4 != 0 || decide (65536 < mM d) || decide (65536 < mN d) || dsc d 0x60 57 7 != 0 ||
  mOvf d == 3 || decide (2 ≤ mOp d) || mGrad d == 3 || dsc d 0x68 17 15 != 0 || dsc d 0x68 49 15 != 0 ||
  dsc d 0x70 43 21 != 0 || dsc d 0x78 43 21 != 0 || decide (20 < lbPiece d false) || decide (20 < lbPiece d true) ||
  (!m.a.lb && dsc d 0x70 0 64 != 0) || (!m.b.lb && dsc d 0x78 0 64 != 0) ||
  (!mAuxValid d && ((!mMerge d && (m.a.scaled || m.b.scaled)) || m.o.scaled || mBias d || mChscale d || mClip d || mMaxabs d != 0)) ||
  (mMerge d && (m.a.trans || m.a.scaled || m.a.lb || m.b.trans || m.b.scaled || m.b.lb)) ||
  (mTreg d && (decide (32 < mM d) || decide (32 < mN d) || mOutW d)) ||
  (mOutW d && (m.o.scaled || mBias d || mChscale d || mClip d || mMaxabs d != 0))

/-- A format code a matrix input may have (Table 4-1). -/
def matInOk (f : Nat) : Bool := decide (f ≤ 10)

/-- A format code a matrix output may have (Table 4-1). -/
def matOutOk (f : Nat) : Bool := decide (f ≤ 11) && f != 10

/-- Format checks (R81, check 5). -/
def MDesc.formatBad (m : MDesc) : Bool :=
  !matInOk m.a.fmt || !matInOk m.b.fmt || !matOutOk m.o.fmt || !scaleOk m.o.fmt m.o.scaled ||
    (!mMerge m.d && (!scaleOk m.a.fmt m.a.scaled || !scaleOk m.b.fmt m.b.scaled))

/-- Spans and merge precisions (R125, R127, R147, check 8). -/
def MDesc.spanBad (m : MDesc) : Bool :=
  let d := m.d
  let s := mSpanS d
  let v := mSpanM d
  decide (20 < v) || decide (s % 2 ^ v ≠ 0) || (if mB d = 0 then s != 0 || v != 0 else decide (mB d ≤ s)) ||
    (!mOutW d && (s != 0 || v != ceilLog2 (mB d))) ||
    (mMerge d && (v == 0 || mB d == 0 || (m.a.fmt == 0) != (m.b.fmt == 0) || (m.o.fmt == 0 && m.a.fmt != 0)))

/-- A stride that is not whole lines, or shorter than a stored row. -/
def strideBad (ld w n : Nat) : Bool := decide (ld % 64 ≠ 0) || decide (ld < rowBytes w n)

/-- Alignment and strides (R146, R244, check 9), but for the addresses the auxiliary block holds. D's address is ignored with OUT_TREG (Table 6-4), its stride is not. -/
def State.matAlignBad (s : State) (m : MDesc) (raw : MDesc) : Bool :=
  let d := m.d
  let top := fun l => s.fld R.TRN_LAYER_LADDER_MAX [l]
  let src := if hLadderOpd d then raw.b else raw.a
  decide (m.a.addr % 64 ≠ 0) || strideBad m.a.ld (m.bitsOf m.a) m.shapeA.2 ||
  decide (m.b.addr % 64 ≠ 0) || strideBad m.b.ld (m.bitsOf m.b) (if mMerge d then mN d else m.shapeB.2) ||
  (!mTreg d && decide (m.o.addr % 64 ≠ 0)) || strideBad m.o.ld m.bitsD (mN d) ||
  (mAuxValid d && decide (mAux d % 64 ≠ 0)) ||
  (hLadderEn d && decide (hLayer d < 4096) && !ladderStridesOk raw.o.ld raw.o.fmt (top (hLayer d)) raw.o.scaled) ||
  (decide (hLadderSrc d < 4096) && !ladderStridesOk src.ld src.fmt (top (hLadderSrc d)) src.scaled)

/-- Alignment of the addresses the auxiliary block holds (R146): words that can be read, before the checks of the block itself (Table 6-19). -/
def State.auxAlignBad (s : State) (m : MDesc) : Bool :=
  let eb := fmtBits m.cFmt / 8
  let off := fun o n => decide (m.auxAddr o % n ≠ 0) && !(s.peekNat (mAux m.d + o) 8).2
  mAuxValid m.d && s.mappedRange (mAux m.d) 128 && (off 0x18 eb || off 0x20 eb || off 0x38 4)

/-- Clip bounds, FP64, read as tensor data. -/
def MDesc.clipLo (m : MDesc) : Val := (readElem 0 (m.auxWord 0x28)).1
/-- The upper clip bound. -/
def MDesc.clipHi (m : MDesc) : Val := (readElem 0 (m.auxWord 0x30)).1

/-- Contents of the auxiliary block (R144, R154, R156, Table 6-9). DESIGN CHOICE (log 123): an empty output has no element whose index could fail R156. -/
def MDesc.auxBad (m : MDesc) : Bool :=
  let d := m.d
  let (r0, c0, nt) := m.mOrigin
  nt == 0 || [0x00, 0x08, 0x10, 0x18, 0x20, 0x38].any (fun o => bits (m.auxWord o) 48 16 != 0) || bits (m.auxWord 0x48) 32 32 != 0 ||
  (List.range 6).any (fun i => m.auxWord (0x50 + 8 * i) != 0) ||
  (mClip d && (m.clipLo.isNan || m.clipHi.isNan || ordVal false m.clipLo m.clipHi == .gt)) ||
  (mM d != 0 && mN d != 0 && decide (2 ^ 48 ≤ (r0 + mM d - 1) * nt + c0 + mN d - 1)) || (m.o.scaled && c0 % 32 != 0)

/-- The address of an operand's element (0, 0): in memory, or in the buffer of the slot it binds (R157). -/
def State.opdBase (s : State) (d : Desc) (o : MOpd) (isB : Bool) : Nat :=
  if o.lb then match s.groups.find? (lbGroup d isB) with
    | some gr => gr.lbBase + lbBucket d isB % 32 * lbBytes gr + o.addr
    | none => o.addr
  else o.addr

/-- The bounding range of an operand; none for one that binds to a group that is not defined or has no landing buffers (R149, R157, R388). -/
def State.opdRange (s : State) (m : MDesc) (isB : Bool) : Nat × Nat :=
  let o := if isB then m.b else m.a
  if o.lb && (s.groups.find? (lbGroup m.d isB)).all (·.lbBase == 0) then (0, 0)
  else boundRange (s.opdBase m.d o isB) o.ld (m.bitsOf o) (if isB then m.shapeB else m.shapeA)

/-- The byte ranges an item reads, by their bounds: A, B, scales of A and B, bias, channel scale. -/
def State.mReads (s : State) (m : MDesc) : List (Nat × Nat) :=
  let d := m.d
  let cb := fmtBits m.cFmt / 8
  [s.opdRange m false, s.opdRange m true] ++
  (if m.a.scaled && !mMerge d then [(m.auxAddr 0x00, mM d * mB d)] else []) ++
  (if m.b.scaled && !mMerge d then [(m.auxAddr 0x08, mN d * mB d)] else []) ++
  (if mBias d then [(m.auxAddr 0x18, mN d * cb)] else []) ++ (if mChscale d then [(m.auxAddr 0x20, mN d * cb)] else [])

/-- Bytes of the max-abs target. -/
def mMaxBytes (d : Desc) : Nat := match mMaxabs d with
  | 0 => 0
  | 2 => 4 * (mM d * mCols d)
  | _ => 4

/-- The range of D overlaps an input's, the auxiliary block's, a scale array's or the max-abs target's (R149). -/
def State.matOverlap (s : State) (m : MDesc) : Bool :=
  let d := m.d
  let r := boundRange m.o.addr m.o.ld m.bitsD (mM d, mN d)
  !mTreg d && ((s.mReads m ++ (if m.o.scaled then [(m.auxAddr 0x10, mM d * mCols d)] else []) ++
    (if mAuxValid d then [(mAux d, 128)] else []) ++ (if mMaxabs d = 0 then [] else [(m.auxAddr 0x38, mMaxBytes d)])).any
      fun x => overlaps r.1 r.2 x.1 x.2)

/-- Memory of an absent unit is named (R4, check 3). -/
def State.matAbsent (s : State) (m : MDesc) : Bool :=
  (!m.a.lb && s.namesAbsent m.a.addr) || (!m.b.lb && !(mMerge m.d && mRightAbsent m.d) && s.namesAbsent m.b.addr) ||
    (!mTreg m.d && s.namesAbsent m.o.addr) || (mAuxValid m.d && s.namesAbsent (mAux m.d))

/-- Checks 3 to 9 of Table 6-19. -/
def State.matCode1 (s : State) (m raw : MDesc) : Nat :=
  firstCode [(s.matAbsent m, Code.UNIT_ABSENT), (m.fieldBad, Code.MAT_FIELD), (m.formatBad, Code.FORMAT_INVALID),
    (!rndOk (mRnd m.d) || !srBitsOk (hSrBits m.d), Code.ROUND_INVALID), (decide (2 ^ 25 < mK m.d), Code.MAT_K_RANGE),
    (m.spanBad, Code.MAT_SPAN), (s.matAlignBad m raw, Code.MAT_ALIGN)]

/-- The weight gradient of a frozen layer without FROZEN (R235). -/
def State.frozenMix (s : State) (m : MDesc) : Bool := mGrad m.d == 2 && !m.o.frozen && s.layerFrozen m.d

/-- An operand binds to a group that is not defined (R157). -/
def State.lbGroupless (s : State) (m : MDesc) : Bool :=
  (m.a.lb && (s.groups.find? (lbGroup m.d false)).isNone) || (m.b.lb && (s.groups.find? (lbGroup m.d true)).isNone)

/-- The item is done at dispatch: an empty output (R150), or a frozen weight gradient (R151). -/
def MDesc.skips (m : MDesc) : Bool := mM m.d == 0 || mN m.d == 0 || (mGrad m.d == 2 && m.o.frozen)

/-- Checks 10 to 13 of Table 6-19, and the items that end with them (R150, R151). -/
def State.matVerdict2 (s : State) (m : MDesc) : Verdict :=
  let d := m.d
  let code := firstCode [
    (s.auxAlignBad m, Code.MAT_ALIGN),
    (mAuxValid d && !s.mappedRange (mAux d) 128, Code.ADDR_UNMAPPED),
    (mAuxValid d && (s.peek (mAux d) 128).2, Code.POISON_CONSUMED),
    (mAuxValid d && m.auxBad, Code.MAT_FIELD),
    (s.matOverlap m, Code.MAT_OVERLAP),
    (s.frozenMix m, Code.FROZEN_MIX)]
  if code ≠ 0 then .fail code
  else if mGrad d = 2 ∧ m.o.frozen then ⟨0, 0, true, true⟩
  else if m.skips then ⟨0, 0, false, true⟩
  else if s.lbGroupless m then .fail Code.MAT_LB_BIND
  else .run

/-- The dispatch checks of a MATRIX item (R549); those of a far auxiliary block wait until it has been read. -/
def State.matVerdict (s : State) (it : Item) : Verdict :=
  let code := s.matCode1 it.mat (mdesc it.desc 0 0 0)
  if code ≠ 0 then .fail code else if it.aux.isNone then .run else s.matVerdict2 it.mat

/-- Output block indices of block number `n`: row block, column block. -/
def blockAt (d : Desc) (n : Nat) : Nat × Nat := (n / mCols d, n % mCols d)

/-- First index and length of block `b` of a dimension cut by 32. -/
def part32 (n b : Nat) : Nat × Nat := (32 * b, min 32 (n - 32 * b))

/-- First k of the span, and one past its last. -/
def kSpan (d : Desc) : Nat × Nat := (min (32 * mSpanS d) (mK d), min (32 * (mSpanS d + 2 ^ mSpanM d)) (mK d))

/-- The stored window of an operand that holds rows or columns [x0, x0 + xn) and k in the span: first row, rows, first element, elements. -/
def opdWindow (kInRows : Bool) (x0 xn k0 k1 : Nat) : Nat × Nat × Nat × Nat := if kInRows then (k0, k1 - k0, x0, xn) else (x0, xn, k0, k1 - k0)

/-- The byte range of each stored row of a window. -/
def windowRanges (base ld w : Nat) (win : Nat × Nat × Nat × Nat) : List (Nat × Nat) :=
  let (r0, rn, c0, cn) := win
  (List.range rn).map fun r => (base + (r0 + r) * ld + c0 * w / 8, rowBytes w cn)

/-- The rows of memory that a MATRIX item has written so far. -/
def Item.writtenRows (it : Item) : List (Nat × Nat) :=
  let m := it.mat
  if mTreg it.desc then [] else it.blocks.flatMap fun e =>
    let (bi, bj) := blockAt it.desc e.1
    let (i0, iN) := part32 (mM it.desc) bi
    let (j0, jN) := part32 (mN it.desc) bj
    windowRanges m.o.addr m.o.ld m.bitsD (i0, iN, j0, jN)

end Sys2Proof.Machine
end

