-- ==== Sys2Proof/Machine/ColAbort.lean ====
section
/-! DEFINITION. Slots changing hands (Table 14-3), the abort of a step (R373 to R378, R395), what a completed step leaves (R380, R381, R390). -/

namespace Sys2Proof.Machine
open Sys2Proof

/-- The group whose hash is given (R375). -/
def State.groupByHash (s : State) (h : Nat) : Option Nat := (List.find? (fun e => e.2.hash == h) s.groups).map (·.1)

/-- The rank of a node. -/
def Group.rankOf (gr : Group) (node : Nat) : Option Nat := gr.members.findIdx? (· == node)

/-- The node of a rank. -/
def Group.nodeAt (gr : Group) (r : Nat) : Nat := gr.members.getD (r % gr.n) 0

/-- The abort records that a slot keeps when it is claimed for a generation: those of its buckets that are not older (R376). -/
def State.recordsPast (s : State) (g b gen : Nat) : FMap (Nat × Nat) :=
  FMap.keep (fun k e => !(k / 65536 == g && k % 32 == b % 32 && olderGen e.1 gen)) s.keptAborts

/-- A slot becomes OPEN for a bucket, after the ledger counts of R390; `params` is the PARAMS word of the claim (Table 13-3). -/
def State.openSlot (s : State) (g b gen params : Nat) : State :=
  let ix := slotIx g b
  let displaced := s.fld R.COL_SLOT_W0_STATE ix != 0
  let s := s.bump R.COL_SLOT_LEDGER_ISSUED
  let s := if displaced then s.bump R.COL_SLOT_LEDGER_RETURNED else s
  let s := { s with slots := s.slots.put (slotKey g b) (Slot.ofParams params), keptAborts := s.recordsPast g b gen }
  let s := s.setFld R.COL_SLOT_W0_STATE 1 ix
  let s := s.setFlag R.COL_SLOT_W0_LB_DST false ix
  let s := s.setFlag R.COL_SLOT_W0_RERUN false ix
  let s := s.setFlag R.COL_SLOT_W0_LOCAL false ix
  let s := s.setFld R.COL_SLOT_W0_BUCKET b ix
  let s := s.setFld R.COL_SLOT_W0_GEN gen ix
  s.setFld R.COL_SLOT_W0_LANDED 0 ix

/-- A slot becomes FREE (R390); the record of an ABORTED one is kept (R376). -/
def State.freeSlot (s : State) (g b : Nat) : State :=
  let ix := slotIx g b
  let s := s.bump R.COL_SLOT_LEDGER_RETURNED
  let s := if s.fld R.COL_SLOT_W0_STATE ix = 3 then
      { s with keptAborts := s.keptAborts.put (bucketKey g (s.fld R.COL_SLOT_W0_BUCKET ix)) (s.fld R.COL_SLOT_W0_GEN ix, (s.slot g b).abort) }
    else s
  let s := { s with slots := FMap.del (slotKey g b) s.slots }
  let s := s.setFld R.COL_SLOT_W0_STATE 0 ix
  let s := s.setFlag R.COL_SLOT_W0_LB_DST false ix
  let s := s.setFlag R.COL_SLOT_W0_RERUN false ix
  let s := s.setFlag R.COL_SLOT_W0_LOCAL false ix
  let s := s.setFld R.COL_SLOT_W0_BUCKET 0 ix
  let s := s.setFld R.COL_SLOT_W0_GEN 0 ix
  s.setFld R.COL_SLOT_W0_LANDED 0 ix

/-- A claim that succeeds: a FREE slot opens, a DONE or ABORTED one is reused, an OPEN one is joined. -/
def State.takeSlot (s : State) (g b gen params : Nat) : State :=
  match s.claim g b gen with
  | .free => s.openSlot g b gen params
  | .reuse => s.openSlot g b gen params
  | .joins => if (s.slot g b).freeing then { s with slots := s.slots.put (slotKey g b) { s.slot g b with freeing := false } } else s
  | _ => s

/-- The slot of a bucket holds it now. -/
def State.holdsBucket (s : State) (g b gen : Nat) : Bool :=
  let ix := slotIx g b
  s.fld R.COL_SLOT_W0_STATE ix != 0 && s.fld R.COL_SLOT_W0_BUCKET ix == b && s.fld R.COL_SLOT_W0_GEN ix == gen

/-- The exception field of Table 13-6. -/
def abortRecord (cause origin suspect detail : Nat) : Nat :=
  cause % 256 + origin % 4096 * 2 ^ 8 + suspect % 4096 * 2 ^ 20 + detail % 65536 * 2 ^ 32 + 2 ^ 63

/-- The last abort taken shows in COL_ABORT_LAST0 and COL_ABORT_LAST1 (Table 13-15). -/
def State.tookAbort (s : State) (g b gen exc : Nat) : State :=
  let s := s.setFld R.COL_ABORT_LAST0_RECORD (exc % 2 ^ 63)
  let s := s.setFld R.COL_ABORT_LAST0_VALID 1
  let s := s.setFld R.COL_ABORT_LAST1_GROUP g
  let s := s.setFld R.COL_ABORT_LAST1_BUCKET b
  s.setFld R.COL_ABORT_LAST1_GEN gen

/-- The abort message of Table 13-8. -/
def abortMessage (time node cause g b gen origin suspect detail round hash : Nat) : List Byte :=
  toBytes 2 0x4341 ++ toBytes 1 1 ++ toBytes 1 cause ++ toBytes 1 (g % 64) ++ toBytes 1 0 ++ toBytes 2 b ++ toBytes 2 gen
    ++ toBytes 2 (origin % 4096) ++ toBytes 2 (node % 4096) ++ toBytes 2 detail ++ toBytes 8 time ++ toBytes 2 (suspect % 4096)
    ++ toBytes 2 round ++ toBytes 4 hash ++ zeros 32

/-- COL_ABORT_RX in a member's view (R374). -/
abbrev abortRxOff : Nat := 0x0F021010000

/-- A line written to a node by a TXN on VC2, with nobody waiting for the acknowledgement. -/
def State.writeLineTo (s : State) (node off : Nat) (data : List Byte) : State :=
  let f := fun tag => { Flit.mk' 7 2 node (txnPayload off tag s.node 1 1 0 0 0 data) with ttl := s.fld R.NLK_NODE_TTL_INIT, src := 6 }
  let req : Req := { waiter := .none, dst := node, vc := 2, op := 1, addr := off, len := 64, age := s.ageStamp, narrow := none }
  match s.freeTag with
  | some tag => s.sendReq (f tag) req tag
  | none => { s with tagWait := s.tagWait ++ [{ flit := f 0, req := req, stream := none }] }

/-- An abort message passed on once to the ring successor (R375). -/
def State.forwardAbort (s : State) (gr : Group) (b gen : Nat) (m : List Byte) : State :=
  if s.forwarded.contains (gr.hash, b, gen) then s
  else { s with forwarded := s.forwarded ++ [(gr.hash, b, gen)] }.writeLineTo (gr.nodeAt (gr.rank + 1)) abortRxOff m

/-- A group without a step in flight gives its VC back (R353). -/
def State.releaseVc (s : State) (g : Nat) : State :=
  if s.groupActive g then s else { s with vcHeld := FMap.keep (fun _ h => h != g) s.vcHeld }

/-- A MATRIX item that waits for a bucket to have a slot. -/
def Item.awaits (it : Item) (g b gen : Nat) : Bool :=
  hClass it.desc == 1 && it.phase == .waiting && it.status == 0 &&
    it.mat.lbOpds.any fun x => lbGroup it.desc x == g && lbBucket it.desc x == b && lbGen it.desc x == gen

/-- MATRIX items bound to an aborted bucket, or waiting for it, complete with COLL_ABORT and its record; what they have written is undefined (R159, R376). One whose far lines are under way ends once they are answered. -/
def State.failBound (s : State) (g b gen exc : Nat) : State :=
  (s.items.filter fun e => (e.2.bound.contains (slotKey g b) && e.2.phase != .withheld) || e.2.awaits g b gen).foldl (fun s e =>
    let s := e.2.writtenRows.foldl State.undefine s
    let s := s.modItem e.1 fun it => { it with status := Code.COLL_ABORT, exc := exc }
    if e.2.phase = .waiting ∧ e.2.pendingRemote ≠ 0 then s else s.endNow e.1) s

/-- The landing buffer of a bucket's slot (R388). -/
def slotBuffer (gr : Group) (b : Nat) : Nat × Nat := (gr.lbBase + b % 32 * lbBytes gr, if gr.lbBase = 0 then 0 else lbBytes gr)

/-- What a step of a group writes, and the buffer of its bucket's slot. -/
def stepOutputs (d : Desc) (gr : Group) : List (Nat × Nat) :=
  (if cOp d = 3 then [(cDst d, elemBytes (cFmt d) (gr.n * cCap d)), (cRecvStat d, 8 * gr.n), (cMask d, (gr.n * cCap d + 7) / 8)] else [(colRanges d gr.n gr.rank).2])
    ++ [slotBuffer gr (cBucket d)]

/-- A step of this EV7 aborts (R373 to R377, R395): its record, its slot, bound items, and messages, to every member when it originates the abort, to the ring successor when it forwards one. -/
def State.abortStep (s : State) (id cause origin suspect detail : Nat) (originates : Bool) (message : List Byte) : State :=
  match s.items.find? id, s.cols.find? id with
  | some it, some c =>
    let d := it.desc
    let g := cGroup d
    let b := cBucket d
    let exc := abortRecord cause origin suspect detail
    let s := { s with cols := FMap.del id s.cols, outStreams := FMap.keep (fun _ o => o.item != id) s.outStreams }
    let s := s.modItem id fun it => { it with status := Code.COLL_ABORT, exc := exc, classWord := c.lateRank + b2n c.graced * 2 ^ 12 }
    let s := { s.tookAbort g b (cGen d) exc with ended := s.ended.put (bucketKey g b) (cGen d) }
    let s := match s.groups.find? g with
      | none => s
      | some gr =>
        let s := { s with inStreams := s.inStreams.filter fun i => !(i.hash == gr.hash && i.bucket == b && i.gen == cGen d && i.accepted) }
        let s := if s.holdsBucket g b (cGen d) ∧ c.wait ≠ ColWait.fw6 then
            let s := s.setFld R.COL_SLOT_W0_STATE 3 (slotIx g b)
            let s := { s with slots := s.slots.put (slotKey g b) { s.slot g b with abort := exc } }.failBound g b (cGen d) exc
            (stepOutputs d gr).foldl State.undefine s
          else { s with keptAborts := s.keptAborts.put (bucketKey g b) (cGen d, exc) }.failBound g b (cGen d) exc
        if originates then
          let m := abortMessage s.nowNs (gr.nodeAt origin) cause g b (cGen d) origin suspect detail c.round gr.hash
          (s.peers g).foldl (fun s n => s.writeLineTo n abortRxOff m) s
        else if message.isEmpty then s
        else s.forwardAbort gr b (cGen d) message
    (s.endNow id).releaseVc g
  | _, _ => s

/-- The steps in flight of a group. -/
def State.stepsOf (s : State) (g : Nat) : List Nat :=
  (s.cols.filter fun e => match s.items.find? e.1 with
    | some it => cGroup it.desc == g
    | none => false).map (·.1)

/-- Every step of a group aborted, originated here (R373, R374). -/
def State.abortGroup (s : State) (g cause origin suspect detail : Nat) : State :=
  (s.stepsOf g).foldl (fun s id => s.abortStep id cause origin suspect detail true []) s

/-- This EV7's rank in a group. -/
def State.myRank (s : State) (g : Nat) : Nat := ((s.groups.find? g).map (·.rank)).getD 0

/-- Every step in flight aborted, one that waits for its group or its VC too, with this EV7 the origin and the suspect (Table 21-3). -/
def State.abortAll (s : State) (cause detail : Nat) : State :=
  ((List.range 64).filter fun g => !(s.stepsOf g).isEmpty).foldl (fun s g => s.abortGroup g cause (s.myRank g) (s.myRank g) detail) s

/-- Steps of every group that a node is a member of aborted, with that node the suspect; on its behalf where it is the origin (R375). -/
def State.abortFor (s : State) (node cause detail : Nat) (onBehalf : Bool) : State :=
  s.activeGroups.foldl (fun s g => match (s.groups.find? g).bind fun gr => gr.rankOf node with
    | some r => s.abortGroup g cause (if onBehalf then r else s.myRank g) r detail
    | none => s) s

/-- Steps that sent a request which failed abort with UNREACHABLE, the member it was sent to being the suspect (R342, Tables 13-6 and 13-7). -/
def State.reapSteps (s : State) : State :=
  (s.cols.filter fun e => match s.items.find? e.1 with
    | some it => it.status == Code.REMOTE_UNREACHABLE
    | none => false).foldl (fun s e => match s.items.find? e.1 with
      | some it =>
        let r := s.myRank (cGroup it.desc)
        let lost := (e.2.failed.bind fun n => (s.groups.find? (cGroup it.desc)).bind (·.rankOf n)).getD r
        s.abortStep e.1 9 r lost Code.REMOTE_UNREACHABLE true []
      | none => s) s

/-- A 4-byte shared-cache counter raised by one; lost where its line is out of reach, left poisoned where it is (R275, R381). -/
def State.bumpCounter (s : State) (a : Nat) : State :=
  let shut := match s.spot (a / 64 * 64) with
    | some sp => s.spotShut sp
    | none => false
  if shut then s else
    let (v, p) := s.peekNat a 4
    s.storePart a (toBytes 4 (v + 1)) p 0

/-- A slot goes back: now, or once the items bound to it have ended (R160). -/
def State.releaseSlot (s : State) (g b : Nat) : State :=
  if s.fld R.COL_SLOT_W1_BOUND (slotIx g b) = 0 then s.freeSlot g b
  else { s with slots := s.slots.put (slotKey g b) { s.slot g b with freeing := true } }

/-- A step has done all its work: slot, counters, class word, record (Table 13-9, R380, R381, R390); any OVERFLOW counts in an item without GATE (R240). While writes of its own to other members are not acknowledged it waits for them, and a failure of one is still an abort of the step (R342). -/
def State.stepDone (s : State) (id : Nat) : State :=
  match s.items.find? id, s.cols.find? id with
  | some it, some c =>
    if it.pendingRemote ≠ 0 ∨ it.status = Code.REMOTE_UNREACHABLE then { s with cols := s.cols.put id { c with wait := .writes } } else
    let d := it.desc
    let g := cGroup d
    match s.groups.find? g with
    | none => s
    | some gr =>
      let spread := if c.lateTime ≤ c.ready then 0 else min (c.lateTime - c.ready) 0xFFFFFFFF
      let s := s.modItem id fun it => { it with
        classWord := c.lateRank + b2n c.graced * 2 ^ 12 + min c.dropped 0x7FFF * 2 ^ 17
        flags := c.flags, flush := c.flush, overflow := it.overflow || (it.gate.isNone && hasFlag c.flags fOverflow) }
      let s := s.setFld R.COL_SLOW_W0_LAST_RANK c.lateRank [g]
      let s := s.setFld R.COL_SLOW_W0_LAST_SPREAD spread [g]
      let s := if gr.slowEn ∧ it.status = 0 then s.bumpCounter (gr.slowcnt + 4 * c.lateRank) else s
      let s := if s.holdsBucket g (cBucket d) (cGen d) then
          if cLbDst d ∧ it.status = 0 then s.setFld R.COL_SLOT_W0_STATE 2 (slotIx g (cBucket d)) else (s.setFld R.COL_SLOT_W0_STATE 2 (slotIx g (cBucket d))).releaseSlot g (cBucket d)
        else s
      let s := { s with cols := FMap.del id s.cols
                        inStreams := s.inStreams.filter fun i => !(i.hash == gr.hash && i.bucket == cBucket d && i.gen == cGen d && i.accepted) }
      (s.endNow id).releaseVc g
  | _, _ => s

/-- A step that a late check ends with a code: its slot goes back once nothing is bound to it, and stays OPEN until then (R160). -/
def State.stepFails (s : State) (id code : Nat) : State :=
  match s.items.find? id with
  | none => s
  | some it =>
    let d := it.desc
    let s := if (s.cols.find? id).isSome ∧ s.holdsBucket (cGroup d) (cBucket d) (cGen d) then s.releaseSlot (cGroup d) (cBucket d) else s
    (({ s with cols := FMap.del id s.cols }.failItem id code).endNow id).releaseVc (cGroup d)

end Sys2Proof.Machine
end

