-- ==== Sys2Proof/Machine/ColEngine.lean ====
section
/-! DEFINITION. The collective engine: streams out and in, the start of a step, its rounds, feed waits, the passes of the block-scaled format (R359 to R372, R384 to R401). -/

namespace Sys2Proof.Machine
open Sys2Proof

/-- A step in flight, seen whole. -/
structure StepView where
  id : Nat
  it : Item
  gr : Group
  c : Col
  deriving DecidableEq, Repr

/-- The step of an item. -/
def State.stepView (s : State) (id : Nat) : Option StepView :=
  match s.items.find? id, s.cols.find? id with
  | some it, some c => (s.groups.find? (cGroup it.desc)).map fun gr => ⟨id, it, gr, c⟩
  | _, _ => none

/-- A step's record changed. -/
def State.modCol (s : State) (id : Nat) (f : Col → Col) : State :=
  match s.cols.find? id with
  | some c => { s with cols := s.cols.put id (f c) }
  | none => s

/-- Resolved WIRE of a step (R355). -/
def stepWire (it : Item) : Nat := cWireWith (cfgFld it R.COL_CFG_WIRE) it.desc

/-- WIRE that the streams of a step carry now: native in a re-run (R400). -/
def StepView.wire (v : StepView) : Nat := if v.c.pass = 4 then 0 else stepWire v.it

/-- Rounds before the present pass. -/
def StepView.base (v : StepView) : Nat := roundBase (cOp v.it.desc) v.gr.n v.c.pass

/-- Rounds of the present pass; the root of a broadcast has none. -/
def StepView.rounds (v : StepView) : Nat :=
  if cOp v.it.desc = 4 ∧ cRoot v.it.desc = v.gr.rank then 0 else passRounds (cOp v.it.desc) v.gr.n v.c.pass

/-- The round of the pass whose input is awaited. -/
def StepView.k (v : StepView) : Nat := v.c.round - v.base

/-- First element and length of a chunk of the present pass. -/
def StepView.range (v : StepView) (ch : Nat) : Nat × Nat :=
  let n := passCount v.it.desc v.c.pass
  (chunkLo n v.gr.n ch, chunkLen n v.gr.n ch)

/-- The 32-byte stream descriptor (Table 13-3). -/
def streamDesc (hash b gen params chunk lateRank round lateTime : Nat) : List Byte :=
  toBytes 4 hash ++ toBytes 2 b ++ toBytes 2 gen ++ toBytes 8 params ++ toBytes 4 chunk ++ toBytes 2 lateRank ++ toBytes 2 round ++ toBytes 8 lateTime

/-- A stream open sent under a TAG: it waits for its accept; one that finds no route ends its step (R341, Table 13-6). -/
def State.sendOpen (s : State) (f : Flit) (req : Req) (o : OutStream) (tag : Nat) : State :=
  let (s, dropped) := (s.takeTag tag).sendRaw { f with age := req.age }
  if dropped then
    match s.stepView o.item with
    | some v => (s.log Code.ROUTE_DROP linkUnit).abortStep o.item 9 v.gr.rank ((v.gr.rankOf o.dst).getD v.gr.rank) Code.REMOTE_UNREACHABLE true []
    | none => s.log Code.ROUTE_DROP linkUnit
  else { s with reqs := s.reqs.put tag req, outStreams := s.outStreams.put tag o }

/-- A stream opened toward a rank (R327, R356, R380). An empty one is not sent. -/
def State.openStream (s : State) (id rank chunk round : Nat) (data : Chunk) : State :=
  match s.stepView id with
  | none => s
  | some v =>
    if data.bytes.isEmpty then s else
      let d := v.it.desc
      let dst := v.gr.nodeAt rank
      let sd := streamDesc v.gr.hash (cBucket d) (cGen d) (colParams d v.wire) chunk v.c.lateRank round v.c.lateTime
      let f := fun tag =>
        { Flit.mk' 7 3 dst (txnPayload 0 tag s.node 7 0 0 0 ((data.bytes.length + 239) / 240 - 1) sd) with ttl := s.fld R.NLK_NODE_TTL_INIT, src := 6, step := some id }
      let req : Req := { waiter := .none, dst := dst, vc := 3, op := 7, addr := 0, len := 0, age := s.ageStamp, narrow := none }
      let o : OutStream := { item := id, dst := dst, vc := v.gr.vc, bytes := data.bytes, poison := data.poison }
      match s.freeTag with
      | some tag => s.sendOpen (f tag) req o tag
      | none => { s with tagWait := s.tagWait ++ [{ flit := f 0, req := req, stream := some o }] }

/-- A stream to the ring successor. -/
def State.sendNext (s : State) (id chunk round : Nat) (data : Chunk) : State :=
  match s.stepView id with
  | some v => s.openStream id (v.gr.rank + 1) chunk round data
  | none => s

/-- The value a feed counter must reach before chunk c is read (R384, R385); none where no wait applies: a chunk without elements is not read. -/
def feedTarget (d : Desc) (n c : Nat) : Option (Nat × Nat) :=
  match cFeed d with
  | 1 => if chunkLen (cCount d) n c = 0 then none else some (cFeedEvc d + c, cFeedValue d)
  | 2 =>
    if chunkLen (cCount d) n c = 0 then none
    else
      let e := chunkLo (cCount d) n (c + 1) - 1
      some (cFeedEvc d, cFeedValue d + (e / cFeedCols d / 32 + 1) * ((cFeedCols d + 31) / 32))
  | _ => none

/-- A chunk's feed counter has been reached, now or before. -/
def State.fedNow (s : State) (v : StepView) (c : Nat) : Bool :=
  v.c.fed.contains c || match feedTarget v.it.desc v.gr.n c with
    | some (k, x) => s.evcReached (k % 65536) x
    | none => true

/-- The first of some chunks whose counter has not been reached. -/
def State.unfed (s : State) (v : StepView) (cs : List Nat) : Option Nat := cs.find? fun c => !s.fedNow v c

/-- A feed wait begins (R387). -/
def State.waitFeed (s : State) (id c : Nat) : State :=
  (s.modCol id fun col => { col with feedWait := some c }).bumpSat R.COL_EXCH_COUNTS_FEED_WAITS

/-- Flags and flush count of a step grow. -/
def State.colSum (s : State) (id : Nat) (x : Sum) : State :=
  s.modCol id fun c => { c with flags := c.flags ||| x.flags, flush := c.flush + x.flush }

/-- The marks of a final conversion: its OVERFLOW is one of output conversion (R239, R361). -/
def State.colFinal (s : State) (id : Nat) (x : Sum) : State :=
  (s.colSum id x).modItem id fun it => { it with overflow := it.overflow || hasFlag x.flags fOverflow }

/-- Where a non-reducing result lands: the landing buffer or DST (R392). -/
def StepView.dest (v : StepView) : Nat :=
  if cLbDst v.it.desc then v.gr.lbBase + cBucket v.it.desc % 32 * lbBytes v.gr else cDst v.it.desc

/-- Bytes of `n` elements moved unchanged from `a`, cut into lines with their poison. -/
def State.moveLines (s : State) (a n : Nat) : Chunk :=
  let parts := (List.range ((n + 63) / 64)).map fun j => s.peek (a + 64 * j) (min 64 (n - 64 * j))
  { bytes := padTo (lineUp n) (parts.flatMap (·.1))
    poison := (List.range parts.length).foldl (fun m j => m + b2n ((parts.map (·.2)).getD j false) * 2 ^ j) 0 }

/-- The landed bit of a chunk is set (R394). -/
def State.landChunk (s : State) (v : StepView) (ch : Nat) : State :=
  if cLbDst v.it.desc then
    let g := cGroup v.it.desc
    let b := cBucket v.it.desc
    let sl := s.slot g b
    let l := sl.landed.put ch ()
    { s with slots := s.slots.put (slotKey g b) { sl with landed := l } }.setFld R.COL_SLOT_W0_LANDED l.length (slotIx g b)
  else s

/-- A final chunk of an all-gather or broadcast written where it lands; its landed bit is set when all of it has been written (R362, R394). -/
def State.keepChunk (s : State) (v : StepView) (ch : Nat) (data : Chunk) : State :=
  let (lo, n) := (chunkLo (cCount v.it.desc) v.gr.n ch, chunkLen (cCount v.it.desc) v.gr.n ch)
  let nb := elemBytes (cFmt v.it.desc) n
  let s := s.asItem v.id fun s => s.storeLines v.id (v.dest + elemBytes (cFmt v.it.desc) lo) { data with bytes := data.bytes.take nb }
  if (s.items.find? v.id).all (·.status == 0) then s.landChunk v ch else s

/-- A final chunk of a native reduction written at DST in FMT (R361). -/
def State.writeFinal (s : State) (v : StepView) (ch : Nat) (data : Chunk) : State :=
  let (lo, n) := (chunkLo (cCount v.it.desc) v.gr.n ch, chunkLen (cCount v.it.desc) v.gr.n ch)
  let r := finalNative v.it lo n data
  let at' := if cOp v.it.desc = 1 then 0 else elemBytes (cFmt v.it.desc) lo
  (s.asItem v.id fun s => s.storeLines v.id (cDst v.it.desc + at') r.chunk).colFinal v.id r

/-- A final chunk of a block-scaled reduction written at DST in FMT (R400). -/
def State.writeScaled (s : State) (v : StepView) (ch : Nat) (data : Chunk) : State :=
  let (lo, n) := (chunkLo (cCount v.it.desc) v.gr.n ch, chunkLen (cCount v.it.desc) v.gr.n ch)
  let r := finalWire v.it v.c.agreed lo n data
  let at' := if cOp v.it.desc = 1 then 0 else elemBytes (cFmt v.it.desc) lo
  (s.asItem v.id fun s => s.storeLines v.id (cDst v.it.desc + at') r.chunk).colFinal v.id r

/-- The bytes a member's own elements of a pass's chunk are read from. -/
def StepView.ownBytes (v : StepView) (ch : Nat) : Nat × Nat :=
  let d := v.it.desc
  let (lo, n) := v.range ch
  let (lo, n) := if v.c.pass = 1 then (256 * lo, min (256 * n) (cCount d - 256 * lo)) else (lo, n)
  (cSrc d + elemBytes (cFmt d) lo, elemBytes (cFmt d) n)

/-- This member's contribution to a chunk of the present pass joined with an incoming partial (R360, R396, R398); flags are kept. -/
def State.joinOwn (s : State) (v : StepView) (ch : Nat) (part : Option Chunk) : Chunk × State :=
  let d := v.it.desc
  let (lo, n) := v.range ch
  let (a, nb) := v.ownBytes ch
  let s := s.asItem v.id fun s => s.touchLines a nb 0
  let far := { s with mem := { s.mem with remote := v.it.remote } }
  match v.c.pass with
  | 1 =>
    let own := (List.range n).map fun i => BitVec.ofNat 8 (far.agreeByte d (lo + i))
    let mx := match part with
      | some p => List.zipWith (fun (x y : Byte) => if x.toNat < y.toNat then y else x) (p.bytes.take n) own
      | none => own
    ({ bytes := padTo (lineUp n) mx, poison := 0 }, s)
  | 2 =>
    let (w, flags, flush) := far.addWire d v.c.agreed lo n (part.map (Wire.of n))
    (w.chunk, s.modCol v.id fun c => { c with flags := c.flags ||| flags, flush := c.flush + flush })
  | _ =>
    let own := far.ownNative d lo n
    match part with
    | some p =>
      let r := addChunks (cFmt d) n p own
      (r.chunk, s.colSum v.id r)
    | none => (own.chunk, s.colSum v.id own)

/-- Broken flags of a final block-scaled chunk noted (R399). -/
def State.noteBroken (s : State) (v : StepView) (ch : Nat) (flags : List Bool) : State :=
  let lo := chunkLo (cCount v.it.desc) v.gr.n ch / 256
  s.modCol v.id fun c => { c with broken := (List.range flags.length).foldl (fun m i => if flags.getD i false then m.put (lo + i) () else m) c.broken }

/-- A final chunk of the present pass taken in: written, or held until the pass decides. -/
def State.takeFinal (s : State) (v : StepView) (ch : Nat) (data : Chunk) : State :=
  let (lo, n) := v.range ch
  match v.c.pass with
  | 1 => s.modCol v.id fun c => { c with agreed := (List.range n).foldl (fun m i => m.put (lo + i) (data.bytes.getD i 0).toNat) c.agreed }
  | 2 => (s.modCol v.id fun c => { c with held := c.held.put ch data }).noteBroken v ch (Wire.of n data).broken
  | 3 => s.noteBroken v ch ((List.range (wireBlocks n)).map fun i => bit (ofBytes data.bytes) i)
  | _ => s.writeFinal v ch data

/-- The flag map of a chunk as a stream of pass 3. -/
def flagChunk (n : Nat) (data : Chunk) : Chunk :=
  let w := Wire.of n data
  let len := (wireBlocks n + 7) / 8
  { bytes := padTo (lineUp len) (toBytes len (w.broken.foldr (fun b acc => b2n b + 2 * acc) 0)), poison := 0 }

/-- The elements of an all-to-all block as bytes from their own first bit, with the poison of the lines they fill (R82, R366). -/
def State.a2aBody (s : State) (d : Desc) (r : Nat) : Chunk :=
  let (o, n, _) := s.sendEntry d r
  let (a, nb) := s.a2aBlock d r
  let w := fmtBits (cFmt d)
  let sh := o * w % 8
  let len := (min n (cCap d) * w + 7) / 8
  let v := ofBytes (s.peek a nb).1 / 2 ^ sh % 2 ^ (min n (cCap d) * w)
  { bytes := toBytes len v
    poison := (List.range ((len + 63) / 64)).foldl (fun m j => m + b2n (s.peek (a + 64 * j) (min (64 + b2n (sh != 0)) (nb - 64 * j))).2 * 2 ^ j) 0 }

/-- One block of an all-to-all as a stream: CAP elements, then a line with the delivered and the dropped count (R366, R367). -/
def State.a2aChunk (s : State) (d : Desc) (r : Nat) : Chunk :=
  let (_, n, p) := s.sendEntry d r
  let body := s.a2aBody d r
  let len := elemBytes (cFmt d) (cCap d)
  { bytes := padTo len body.bytes ++ padTo 64 (toBytes 4 (min n (cCap d)) ++ toBytes 4 (n - min n (cCap d)))
    poison := if p then 2 ^ (len / 64 + 1) - 1 else body.poison }

/-- A block received by an all-to-all written at DST, where COUNT is not 0; its counts are kept (R363, R367). -/
def State.takeBlock (s : State) (v : StepView) (src : Nat) (data : Chunk) : State :=
  let d := v.it.desc
  let len := elemBytes (cFmt d) (cCap d)
  let s := if cCount d = 0 then s else s.asItem v.id fun s => s.storeLines v.id (cDst d + src * len) { data with bytes := data.bytes.take len }
  s.modCol v.id fun c => { c with got := c.got.put src (fieldAt data.bytes len 4, fieldAt data.bytes (len + 4) 4) }

/-- RECV_STAT and MASK of an all-to-all, where COUNT is not 0 (R363, R367). -/
def State.writeStats (s : State) (v : StepView) : State :=
  let d := v.it.desc
  if cCount d = 0 ∨ (s.items.find? v.id).any (fun it => it.status != 0) then s else
  let cap := cCap d
  let stat := (List.range v.gr.n).flatMap fun r => let e := v.c.got.getD r (0, 0); toBytes 4 e.1 ++ toBytes 4 e.2
  let mask := (List.range v.gr.n).foldl (fun m r => m + (2 ^ (min cap (v.c.got.getD r (0, 0)).1) - 1) * 2 ^ (r * cap)) 0
  s.asItem v.id fun s => (s.storeLines v.id (cRecvStat d) { bytes := stat, poison := 0 }).storeLines v.id (cMask d) { bytes := toBytes ((v.gr.n * cap + 7) / 8) mask, poison := 0 }

/-- The detail of SCALE_RERUN (Table 14-4). -/
def rerunDetail (d : Desc) (agreed first broken : Nat) : Nat :=
  ofBytes (toBytes 1 (cGroup d) ++ toBytes 1 (cHeadroom d) ++ toBytes 2 (cBucket d) ++ toBytes 2 (cGen d) ++ toBytes 1 agreed ++ toBytes 1 0
    ++ toBytes 4 first ++ toBytes 4 broken ++ toBytes 4 (hStep d) ++ toBytes 4 (hTensor d))

/-- A pass begins: its first round is awaited. -/
def State.beginPass (s : State) (v : StepView) (pass : Nat) : State :=
  s.modCol v.id fun c => { c with pass := pass, round := roundBase (cOp v.it.desc) v.gr.n pass + 1, held := if pass = 4 then [] else c.held }

/-- The result of the broken blocks of a bucket: a native re-run, which starts the numeric flags and flush count again (R400, R401; log 43). -/
def State.rerun (s : State) (v : StepView) : State :=
  let d := v.it.desc
  let first := (v.c.broken.head?.map (·.1)).getD 0
  let s := s.logAt Code.SCALE_RERUN 0x2100 v.it.epoch 0 (rerunDetail d (v.c.agreed.getD first 0) first v.c.broken.length)
  let s := s.bumpSat R.COL_EXCH_COUNTS_RERUNS
  let s := s.modCol v.id fun c => { c with flags := 0, flush := 0 }
  (s.setFlag R.COL_SLOT_W0_RERUN true (slotIx (cGroup d) (cBucket d))).beginPass v 4

/-- The chunk a reducing pass starts with at this rank (R360). -/
def StepView.firstChunk (v : StepView) : Nat := (v.gr.rank + v.gr.n - 1) % v.gr.n

/-- Far lines of a fed chunk asked for, once its counter has been reached (R384, R511); the chunk is waited for until they are here. -/
def State.fetchFed (s : State) (v : StepView) (c : Nat) (l : List Nat) : State :=
  let s := s.modCol v.id fun x => { x with feedWait := some c }
  if v.it.pendingRemote = 0 then s.asItem v.id fun s => s.askLines (.item v.id) l else s

/-- `go` once the counters of chunks `cs` have been reached and the bytes `r` that are read are here (R384, R385). -/
def State.onceFed (s : State) (v : StepView) (cs : List Nat) (r : Nat × Nat) (go : State → State) : State :=
  match s.unfed v cs with
  | some c => s.waitFeed v.id c
  | none => match s.missingLines v.it.remote [r] with
    | [] => go (s.modCol v.id fun c => { c with feedWait := none, fed := (c.fed ++ cs).eraseDups })
    | l => s.fetchFed v (cs.headD 0) l

/-- The first sends of a pass, once the elements they read have been fed (R359, R384, R385). Barrier: rank 0 starts the first lap. -/
def State.sendFirst (s : State) (id : Nat) : State :=
  match s.stepView id with
  | none => s
  | some v =>
    let d := v.it.desc
    let n := v.gr.n
    let r := v.gr.rank
    let round := v.base + 1
    if v.c.pass = 3 then s.sendNext id r round (flagChunk (chunkLen (cCount d) n r) ((v.c.held.getD r { bytes := [], poison := 0 })))
    else match cOp d with
      | 2 =>
        let nb := elemBytes (cFmt d) (chunkLen (cCount d) n r)
        let a := cSrc d
        s.onceFed v [r] (a, nb) fun s =>
          let lo := chunkLo (cCount d) n r
          let s := s.asItem id fun s => s.touchLines a nb 0
          let data := { s with mem := { s.mem with remote := v.it.remote } }.moveLines a nb
          let s := if v.dest + elemBytes (cFmt d) lo = a then s.landChunk v r else s.keepChunk v r data
          if n = 1 then s else s.sendNext id r round data
      | 3 =>
        let here := { s with mem := { s.mem with remote := v.it.remote } }
        let s := (List.range n).foldl (fun s t =>
          let b := here.a2aBlock d t
          s.asItem id fun s => s.touchLines b.1 b.2 0) s
        let s := s.takeBlock v r (here.a2aChunk d r)
        let drops := ((List.range n).map fun t => let e := here.sendEntry d t; e.2.1 - min e.2.1 (cCap d)).sum
        let s := s.modCol id fun c => { c with dropped := drops }
        ((List.range n).filter (· != r)).foldl (fun s t => s.openStream id t (cCap d) round (here.a2aChunk d t)) s
      | 4 =>
        if cRoot d ≠ r then s
        else
          let part := fun (c : Nat) => (cSrc d + elemBytes (cFmt d) (chunkLo (cCount d) n c), elemBytes (cFmt d) (chunkLen (cCount d) n c))
          let missing := fun (c : Nat) => s.missingLines v.it.remote [part c]
          let q := (List.range n).filter fun c => !v.c.fed.contains c
          let ready := q.takeWhile fun c => s.fedNow v c && (missing c).isEmpty
          let s := ready.foldl (fun s c =>
            let lo := chunkLo (cCount d) n c
            let (a, nb) := part c
            let s := s.asItem id fun s => s.touchLines a nb 0
            let data := { s with mem := { s.mem with remote := v.it.remote } }.moveLines a nb
            let s := if v.dest + elemBytes (cFmt d) lo = a then s.landChunk v c else s.keepChunk v c data
            if n = 1 then s else s.sendNext id c round data) (s.modCol id fun c => { c with feedWait := none, fed := c.fed ++ ready })
          match q.drop ready.length with
          | c :: _ => if s.fedNow v c then s.fetchFed v c (missing c) else s.waitFeed id c
          | [] => s
      | 5 => if r = 0 ∧ n ≠ 1 then s.sendNext id 0 round { bytes := zeros 64, poison := 0 } else s
      | _ =>
        let ch := if n = 1 then 0 else v.firstChunk
        s.onceFed v (ownChunks d n v.c.pass ch) (v.ownBytes ch) fun s =>
          let (data, s) := s.joinOwn v ch none
          if n = 1 then s.writeFinal v 0 data else s.sendNext id ch round data

/-- A partial that has arrived in round k, with this member's own elements added, goes on; the owner's sum is final (R360, R361, R398). -/
def State.addPartial (s : State) (id : Nat) : State :=
  match s.stepView id with
  | none => s
  | some v =>
    let n := v.gr.n
    let k := v.k - 1
    let ch := roundChunk (cOp v.it.desc) n v.c.pass v.gr.rank k
    let need := ownChunks v.it.desc n v.c.pass ch
    s.onceFed v need (v.ownBytes ch) fun s =>
      let part := v.c.held.getD ch { bytes := [], poison := 0 }
      let s := s.modCol id fun c => { c with held := FMap.del ch c.held }
      let (data, s) := s.joinOwn v ch (some part)
      if k = n - 1 then
        let s := s.takeFinal v ch data
        if v.rounds = k then s else s.sendNext id ch (v.base + k + 1) data
      else s.sendNext id ch (v.base + k + 1) data

/-- The end of a pass: the step is done, or its next pass begins (R396, R399, R400). -/
def State.endPass (s : State) (id : Nat) : State :=
  match s.stepView id with
  | none => s
  | some v =>
    let d := v.it.desc
    if v.c.feedWait.isSome ∨ v.rounds ≥ v.k ∨ v.c.wait ≠ .run then s
    else
      let decide' := fun (s : State) =>
        if v.c.broken.isEmpty then
          let s := v.c.held.foldl (fun s e => s.writeScaled v e.1 e.2) s
          s.stepDone id
        else (s.rerun v).sendFirst id
      match v.c.pass with
      | 1 => (s.beginPass v 2).sendFirst id
      | 2 => if cOp d = 1 then (s.beginPass v 3).sendFirst id else decide' s
      | 3 => decide' s
      | _ =>
        let s := if cOp d = 3 then s.writeStats v else s
        s.stepDone id

/-- A feed wait is over: the chunk's elements are read, and the step goes on. -/
def State.feedGoes (s : State) (v : StepView) (c : Nat) : State :=
  let s := s.modCol v.id fun x => { x with feedWait := none, fed := if cOp v.it.desc = 4 then x.fed else (x.fed ++ [c]).eraseDups }
  (if v.k ≤ 1 then s.sendFirst v.id else s.addPartial v.id).endPass v.id

/-- The streams of a bucket. -/
def State.bucketStreams (s : State) (v : StepView) : List InStream :=
  s.inStreams.filter fun i => i.hash == v.gr.hash && i.bucket == cBucket v.it.desc && i.gen == cGen v.it.desc

/-- The complete streams of the awaited round, when its whole input has landed (R359). -/
def State.roundInput (s : State) (v : StepView) : Option (List InStream) :=
  let d := v.it.desc
  let n := v.gr.n
  let ins := (s.bucketStreams v).filter fun i => i.accepted && i.done && i.round == v.c.round && decide (i.params = colParams d v.wire)
  let want := fun (src chunk : Nat) => ins.find? fun i => i.src == v.gr.nodeAt src && i.chunk == chunk
  let prev := v.gr.rank + n - 1
  let need : List (Nat × Nat) := match cOp d, v.c.pass with
    | 3, _ => ((List.range n).filter (· != v.gr.rank)).map fun r => (r, cCap d)
    | 4, _ => ((List.range n).filter fun c => chunkLen (cCount d) n c != 0).map fun c => (prev, c)
    | 5, _ => [(prev, 0)]
    | op, p =>
      let ch := roundChunk op n p v.gr.rank v.k
      if streamLen d n p ch = 0 then [] else [(prev, ch)]
  let got := need.map fun e => want e.1 e.2
  if got.all Option.isSome then some (got.filterMap id) else none

/-- The data of a received stream. -/
def InStream.chunkData (i : InStream) : Chunk := { bytes := i.bytes, poison := i.poison }

/-- A round whose input has landed: it is added or kept, and goes on (Table 13-4). -/
def State.roundDone (s : State) (id : Nat) (ins : List InStream) : State :=
  match s.stepView id with
  | none => s
  | some v =>
    let d := v.it.desc
    let n := v.gr.n
    let r := v.gr.rank
    let k := v.k
    let ch := roundChunk (cOp d) n v.c.pass r k
    let data := (ins.head?.map (·.chunkData)).getD { bytes := [], poison := 0 }
    let s := { s with inStreams := s.inStreams.filter fun i => !ins.contains i }
    let next := fun (s : State) => s.modCol id fun c => { c with round := c.round + 1, t0 := s.elapsedNs, graced := c.graced }
    match cOp d, v.c.pass with
    | 3, _ => next s
    | 4, _ =>
      let s := next s
      if (r + 1) % n = cRoot d then s else ins.foldl (fun s i => s.sendNext id i.chunk 1 i.chunkData) s
    | 5, _ =>
      let s := next s
      let token : Chunk := { bytes := zeros 64, poison := 0 }
      if r = 0 then (if k = 1 then s.sendNext id 0 2 token else s)
      else s.sendNext id 0 k token
    | op, p =>
      if p = 3 ∨ op = 2 then
        let s := if p = 3 then s.takeFinal v ch data else s
        let s := next s
        if k < n - 1 then s.sendNext id ch (v.base + k + 1) data else s
      else if k ≤ n - 1 then (next (s.modCol id fun c => { c with held := c.held.put ch data })).addPartial id
      else
        let s := next (s.takeFinal v ch data)
        if ch = (r + 1) % n then s else s.sendNext id ch (v.base + k + 1) data

/-- Bytes of the landing buffer that accepted streams of a slot hold (R391). -/
def State.lbUsed (s : State) (gr : Group) (b gen : Nat) : Nat :=
  ((s.inStreams.filter fun i => i.hash == gr.hash && i.bucket == b && i.gen == gen && i.accepted && decide (bits i.params 0 4 ≤ 1)).map (·.lines)).sum * 64

/-- A response to a stream open (R327, R393): the number, or the mark of a refusal. -/
def State.answerOpen (s : State) (i : InStream) (arg : Nat) : State :=
  s.sendFlit { Flit.mk' 7 3 i.src (txnPayload 0 i.tag s.node 8 0 0 0 arg (streamDesc i.hash i.bucket i.gen i.params i.chunk i.lateRank i.round i.lateTime))
    with ttl := s.fld R.NLK_NODE_TTL_INIT }

/-- A waiting stream open is forgotten. -/
def State.dropOpen (s : State) (i : InStream) : State :=
  { s with inStreams := s.inStreams.filter fun (x : InStream) => x.tag != i.tag || x.src != i.src || x.accepted }

/-- A waiting stream open is refused. -/
def State.refuseOpen (s : State) (i : InStream) : State := (s.dropOpen i).answerOpen i (2 ^ 17)

/-- The step of a bucket in flight here. -/
def State.stepOf (s : State) (g b gen : Nat) : Option Nat :=
  (List.find? (fun e => match s.items.find? e.1 with
    | some it => cGroup it.desc == g && cBucket it.desc == b && cGen it.desc == gen && e.2.wait != .fw6 && e.2.wait != .vc
    | none => false) s.cols).map (·.1)

/-- Bytes a stream will hold, from its descriptor. -/
def openLen (n : Nat) (i : InStream) : Nat :=
  let op := bits i.params 0 4
  let fmt := bits i.params 4 4
  let d : Desc := BitVec.ofNat 1024 ((op * 2 ^ 6 + fmt * 2 ^ 10) * 2 ^ (8 * 0x30) + bits i.params 22 40 * 2 ^ (8 * 0x48) + (if op = 3 then i.chunk % 2 ^ 24 else 0) * 2 ^ (8 * 0x50))
  streamLen d n (passOfRound op n (bits i.params 8 2) i.round) i.chunk

/-- What becomes of a stream open now. -/
inductive OpenFate where
  | waits
  | refused
  | stale
  | accepted
  | mismatch
  deriving DecidableEq, Repr

/-- Table 14-3 and R356, R391, R393, R400 for a stream open of group g; `claims`: the slot may be claimed now. -/
def State.openFate (s : State) (g : Nat) (gr : Group) (i : InStream) (claims : Bool) : OpenFate :=
  match s.claim g i.bucket i.gen with
  | .aborted => .refused
  | .stale => .stale
  | .waits => .waits
  | cl =>
    if cl = .reuse ∧ !claims then .waits
    else
      let op := bits i.params 0 4
      let room := decide (1 < op) || decide (s.lbUsed gr i.bucket i.gen + openLen gr.n i ≤ lbBytes gr)
      match (s.stepOf g i.bucket i.gen).bind s.stepView with
      | some v =>
        if v.c.wait ≠ .run then .waits
        else if i.params ≠ colParams v.it.desc v.wire then
          (if stepWire v.it = 1 ∧ v.c.pass ≠ 4 ∧ i.params = colParams v.it.desc 0 ∧ roundBase op gr.n 4 < i.round then .waits else .mismatch)
        else if room then .accepted else .waits
      | none => if decide (op ≤ 1) && room then .accepted else .waits

/-- A stream open looked at (R390 to R393): accepted with a number, refused, or left to wait; a mismatch aborts the step (R356). -/
def State.tryOpen (s : State) (i : InStream) (claims : Bool) : State :=
  match s.groupByHash i.hash with
  | none => s
  | some g => match s.groups.find? g with
    | none => s
    | some gr =>
      match s.openFate g gr i claims with
      | .waits =>
        let cl := s.claim g i.bucket i.gen
        if cl = .free ∨ (cl = .reuse ∧ claims) then s.takeSlot g i.bucket i.gen i.params else s
      | .refused => s.refuseOpen i
      | .stale => (s.dropOpen i).answerOpen i (2 ^ 16)
      | .mismatch => match s.stepOf g i.bucket i.gen with
        | some id => (s.refuseOpen i).abortStep id 7 gr.rank ((gr.rankOf i.src).getD gr.rank) 0 true []
        | none => s
      | .accepted =>
        let s := s.takeSlot g i.bucket i.gen i.params
        let no := s.nextStream
        let s := { s with nextStream := (no + 1) % 65536
                          inStreams := s.inStreams.map fun (x : InStream) => if x.tag == i.tag && x.src == i.src && !x.accepted then
                            { x with accepted := true, number := no, lines := (openLen gr.n i + 63) / 64 } else x }
        let s := match s.stepOf g i.bucket i.gen with
          | some id => s.modCol id fun c =>
              if c.lateTime < i.lateTime ∨ (c.lateTime = i.lateTime ∧ i.lateRank < c.lateRank) then { c with lateTime := i.lateTime, lateRank := i.lateRank } else c
          | none => s
        s.answerOpen i no

/-- Waiting stream opens that join an OPEN slot looked at again. -/
def State.retryJoins (s : State) : State :=
  (s.inStreams.filter fun i => !i.accepted).foldl (fun s i => s.tryOpen i false) s

/-- What a step reads at its start; the operand of a fed one is read chunk by chunk (R384). -/
def State.stepRanges (s : State) (d : Desc) (gr : Group) : List (Nat × Nat) :=
  if cOp d = 3 then (cSendlist d, 8 * gr.n) :: (List.range gr.n).map (s.a2aBlock d)
  else if cFeed d = 0 then [(colRanges d gr.n gr.rank).1] else []

/-- A step whose lines are here begins (R356, R359, R366). -/
def State.beginStep (s : State) (id : Nat) : State :=
  match s.stepView id with
  | none => s
  | some v =>
    let far := { s with mem := { s.mem with remote := v.it.remote } }
    match s.missingLines v.it.remote (far.stepRanges v.it.desc v.gr) with
    | [] =>
      if far.colGroupBad v.it.desc v.gr then s.stepFails id Code.COL_FIELD
      else
        let s := s.modCol id fun c => { c with wait := .run }
        (((s.sendFirst id).endPass id).retryJoins)
    | l => (s.modCol id fun c => { c with wait := .lines }).asItem id fun s => s.askLines (.item id) l

/-- A step's record at its dispatch. -/
def State.newCol (s : State) (w : ColWait) (age : Nat) : Col :=
  { wait := w, pass := 0, round := 0, t0 := s.elapsedNs, graced := false, sawSlow := false, slowFrom := [], age := age, failed := none, ready := s.nowNs, lateTime := s.nowNs, lateRank := 0,
    fed := [], feedWait := none, held := [], agreed := [], broken := [], got := [], flags := 0, flush := 0, dropped := 0 }

/-- A step of a defined group takes its slot and its VC and begins, its ready time that of its dispatch (R353, R356, R369, R370, R380, R390). -/
def State.runStep (s : State) (id : Nat) (it : Item) (gr : Group) : State :=
  let d := it.desc
  let g := cGroup d
  let b := cBucket d
  let s := s.takeSlot g b (cGen d) (colParams d (stepWire it))
  let s := s.setFlag R.COL_SLOT_W0_LOCAL true (slotIx g b)
  let s := s.setFlag R.COL_SLOT_W0_LB_DST (cLbDst d) (slotIx g b)
  let s := { s with slots := s.slots.put (slotKey g b) { s.slot g b with op := cOp d, fmt := cFmt d, wire := stepWire it, countE := cCount d }
                    vcHeld := s.vcHeld.put gr.vc g }
  let c0 := (s.cols.find? id).getD (s.newCol .run (s.fld R.WQS_W5_HEAD_AGE [it.queue]))
  let seen := s.inStreams.filter fun i => i.hash == gr.hash && i.bucket == b && i.gen == cGen d && i.accepted
  let late := seen.foldl (fun (acc : Nat × Nat) i => if acc.1 < i.lateTime ∨ (acc.1 = i.lateTime ∧ i.lateRank < acc.2) then (i.lateTime, i.lateRank) else acc)
    (c0.ready, gr.rank)
  let flagsUp := s.flag R.NRG_THR_THROTTLE || s.slowStands
  let pass := if stepWire it = 1 ∧ gr.n ≠ 1 then 1 else 0
  let c := { c0 with wait := .run, t0 := s.elapsedNs, pass := pass, round := 1, sawSlow := c0.sawSlow || flagsUp || c0.slowFrom.any gr.members.contains, lateTime := late.1, lateRank := late.2 }
  let s := { s with cols := s.cols.put id c }
  let s := s.modItem id fun it => { it with phase := .running }
  let s := if flagsUp then (s.peers g).foldl State.sendStatus s else s
  let other := s.inStreams.filter fun i => i.bucket == b && i.gen == cGen d && gr.members.contains i.src
  match other.find? fun i => i.hash != gr.hash && (s.groupByHash i.hash).isNone with
  | some i => (s.refuseOpen i).abortStep id 6 gr.rank ((gr.rankOf i.src).getD gr.rank) 0 true []
  | none =>
    match other.find? fun i => i.hash == gr.hash && i.params != colParams d (stepWire it) with
    | some i => s.abortStep id 7 gr.rank ((gr.rankOf i.src).getD gr.rank) 0 true []
    | none => s.beginStep id

/-- A step starts; without its group it waits for FW6 (R379). -/
def State.startStep (s : State) (id : Nat) : State :=
  match s.items.find? id with
  | none => s
  | some it => match s.groups.find? (cGroup it.desc) with
    | some gr => s.runStep id it gr
    | none => { s with cols := s.cols.put id (s.newCol .fw6 (s.fld R.WQS_W5_HEAD_AGE [it.queue])) }

/-- A step that waited for its group looks again (R379): it runs, fails the checks that need the group, or waits for its VC or slot; while its group is not defined it goes on waiting, whether FW6 runs again or not. -/
def State.retryFw6 (s : State) (id : Nat) : State :=
  match s.items.find? id, s.cols.find? id with
  | some it, some c => match s.groups.find? (cGroup it.desc) with
    | some gr =>
      if (c.wait ≠ .fw6 ∧ c.wait ≠ .vc) ∨ s.job.running then s
      else
        let d := it.desc
        let v := s.groupVerdict d
        if v = Verdict.run then
          if !s.vcReady (cGroup d) c.age gr.vc || s.claim (cGroup d) (cBucket d) (cGen d) == .waits then s.modCol id fun c => { c with wait := .vc }
          else s.runStep id it gr
        else
          let s := { s with cols := FMap.del id s.cols }
          (s.modItem id fun it => { it with status := v.status, exc := v.exc }).endNow id
    | none => s
  | _, _ => s

/-- Every step that waits for its group, or has waited for it and now for its VC, looks again. -/
def State.retryAllFw6 (s : State) : State := (s.cols.filter fun e => e.2.wait == .fw6 || e.2.wait == .vc).foldl (fun s e => s.retryFw6 e.1) s

end Sys2Proof.Machine
end

