-- ==== Sys2Proof/Machine/Asks.lean ====
section
/-! DEFINITION. Requests that have waited for a TAG (R342). -/

namespace Sys2Proof.Machine
open Sys2Proof

/-- The oldest waiting request is sent under a TAG. -/
def State.sendAsk (s : State) (a : Ask) (tag : Nat) : State :=
  let f := { a.flit with payload := splice a.flit.payload 6 (toBytes 2 tag) }
  match a.stream with
  | none => s.sendReq f a.req tag
  | some o => s.sendOpen f a.req o tag

/-- Waiting requests are sent, oldest first, while a TAG may be taken; at most `fuel` of them. -/
def State.releaseAsks : Nat → State → State
  | 0, s => s
  | fuel + 1, s =>
    match s.tagWait, s.scanTags 65536 s.nextTag with
    | a :: rest, some tag => State.releaseAsks fuel ({ s with tagWait := rest }.sendAsk a tag)
    | _, _ => s

end Sys2Proof.Machine
end

