-- ==== Sys2Proof/Machine/Post.lean ====
section
/-! DEFINITION. The mailboxes (R434 to R442): slots, messages, posting, and what waits for a free OUT slot. -/

namespace Sys2Proof.Machine
open Sys2Proof

/-- Unit ID of the management block. -/
abbrev mgtUnit : Nat := 0x2400

/-- A processor's record. -/
def State.fwp (s : State) (p : Nat) : FwProc :=
  s.fw.getD p { crashes := [], heldReply := none, events := [], seq := 0, cause := 0, kicked := 0 }

/-- A processor's record changed. -/
def State.modFw (s : State) (p : Nat) (f : FwProc → FwProc) : State := { s with fw := s.fw.put p (f (s.fwp p)) }

/-- Register-space offset of a mailbox slot: processor, direction (0 IN, 1 OUT), slot (R434). -/
def mbxSlot (p d slot : Nat) : Nat := 0x05000000 + ((2 * p + d) * 256 + slot % 256) * 4096

/-- The first `n` bytes of a slot. -/
def State.slotBytes (s : State) (p d slot n : Nat) : List Byte :=
  ((List.range ((n + 7) / 8)).flatMap fun i => toBytes 8 (s.regs.getD (mbxSlot p d slot + 8 * i) 0).toNat).take n

/-- A message put in a slot, padded with zeros to whole words (R434). -/
def State.fillSlot (s : State) (p d slot : Nat) (m : List Byte) : State :=
  (List.range ((m.length + 7) / 8)).foldl (fun s i =>
    { s with regs := s.regs.setD (mbxSlot p d slot + 8 * i) 0 (BitVec.ofNat 64 (fieldAt m (8 * i) 8)) }.markReg (mbxSlot p d slot + 8 * i) false) s

/-- A message (Table 15-6) with its check (R436). -/
def messageBytes (major minor type flags seq status time epoch : Nat) (body : List Byte) : List Byte :=
  let h := toBytes 2 0x474D ++ toBytes 1 major ++ toBytes 1 minor ++ toBytes 2 type ++ toBytes 2 flags ++ toBytes 4 seq
    ++ toBytes 2 body.length ++ toBytes 2 status ++ toBytes 8 time ++ toBytes 4 epoch
  h ++ toBytes 4 (crc32c (h ++ body)) ++ body

/-- The version a processor's messages carry: the negotiated one, 3.1 before HELLO (R437). -/
def State.mbxVersion (s : State) (p : Nat) : Nat × Nat :=
  let m := s.fld R.QMC_MBX_W2_MAJOR [p]
  if m = 0 then (3, 1) else (m, s.fld R.QMC_MBX_W2_MINOR [p])

/-- A message of processor p, made now. -/
def State.message (s : State) (p type flags seq status : Nat) (body : List Byte) : List Byte :=
  let v := s.mbxVersion p
  messageBytes v.1 v.2 type flags seq status s.nowNs (s.fld R.QMC_MBX_W2_FW_EPOCH [p]) body

/-- The OUT mailbox has a free slot (R435). -/
def State.outRoom (s : State) (p : Nat) : Bool :=
  decide ((s.fld R.QMC_MBX_W1_OUT_PI [p] + 2 ^ 32 - s.fld R.QMC_MBX_W1_OUT_CI [p]) % 2 ^ 32 < 256)

/-- The six octets of a station address, first on the wire its bits [47:40]. -/
def macBytes (m : Nat) : List Byte := (toBytes 6 m).reverse

/-- A management frame of the port: addresses, EtherType 0x88B5, and the 8-byte header of R515 before its data. -/
def mgtFrame (dst src kind proc : Nat) (data : List Byte) : List Byte :=
  macBytes dst ++ macBytes src ++ [0x88, 0xB5] ++ toBytes 1 kind ++ toBytes 1 proc ++ zeros 6 ++ data

/-- A word among the first `n` bytes of a slot is poisoned (R285). -/
def State.slotPoison (s : State) (p d slot n : Nat) : Bool :=
  (List.range ((n + 7) / 8)).any fun i => s.regPoison (mbxSlot p d slot + 8 * i)

/-- The oldest OUT message of a relayed mailbox returned as KIND 1 to the source of the last request; OUT_CI advances (R515). A message with a poisoned word is dropped at the exit, site 0x0A (R299). -/
def State.relayOut (s : State) (p : Nat) : State :=
  let ci := s.fld R.QMC_MBX_W1_OUT_CI [p]
  if s.flag R.MGT_CTL_ENABLE && bit (s.fld R.MGT_CTL_MBX_EN) p && s.fld R.QMC_MBX_W1_OUT_PI [p] != ci then
    match s.mgt.from? with
    | none => s
    | some dst =>
      let h := s.slotBytes p 1 ci 32
      let m := s.slotBytes p 1 ci (32 + fieldAt h 0x0C 2)
      let s := if s.slotPoison p 1 ci m.length then s.logPoison 0x0A mgtUnit 0 (0x0F000000000 + mbxSlot p 1 ci) 0
        else s.emit (.frame (mgtFrame dst (s.fld R.MGT_MAC_MAC) 1 p m))
      let s := s.bump R.QMC_MBX_W1_OUT_CI [p]
      if fieldAt h 0x06 2 % 2 = 1 then
        { s with mgt := { s.mgt with relayed := s.mgt.relayed.setD p 0 (s.mgt.relayed.getD p 0 - 1) } }
      else s
  else s

/-- Every OUT message of a relayed mailbox returned (R515). -/
def State.relayAll (s : State) (p : Nat) : State :=
  let n := (s.fld R.QMC_MBX_W1_OUT_PI [p] + 2 ^ 32 - s.fld R.QMC_MBX_W1_OUT_CI [p]) % 2 ^ 32
  (List.range (min n 256)).foldl (fun s _ => s.relayOut p) s

/-- A message placed in the next OUT slot (R435); the interrupt where it is enabled. -/
def State.postNow (s : State) (p : Nat) (m : List Byte) : State :=
  let pi := s.fld R.QMC_MBX_W1_OUT_PI [p]
  let s := (s.fillSlot p 1 pi m).bump R.QMC_MBX_W1_OUT_PI [p]
  let s := s.emit (.mailbox p (pi % 256))
  (if s.flag R.QMC_MBX_W3_OUT_IRQ_EN [p] then s.interrupt 9 (s.fld R.QMC_MBX_W3_VECTOR [p]) else s).relayAll p

/-- OUT_PENDING shows whether anything waits (R442). -/
def State.showPending (s : State) (p : Nat) : State :=
  s.setFlag R.QMC_MBX_W2_OUT_PENDING ((s.fwp p).heldReply.isSome || !(s.fwp p).events.isEmpty) [p]

/-- An unsolicited event made and posted, with the firmware's own count. -/
def State.eventNow (s : State) (p type : Nat) (body : List Byte) : State :=
  let n := (s.fwp p).seq
  (s.postNow p (s.message p type 2 n 0 body)).modFw p fun f => { f with seq := (n + 1) % 2 ^ 32 }

/-- TYPE of RESTARTED. -/
abbrev restartedType : Nat := 0x0003

/-- The oldest duty of a processor with a free OUT slot: RESTARTED, then the held reply (with which IN CI advances), then events by type (R442). -/
def State.postWaiting (s : State) (p : Nat) : State :=
  let f := s.fwp p
  if !s.outRoom p || !s.fwRuns p then s
  else match f.events.find? restartedType with
    | some b => (s.eventNow p restartedType b).modFw p fun f => { f with events := FMap.del restartedType f.events }
    | none => match f.heldReply with
      | some m => ((s.postNow p m).bump R.QMC_MBX_W0_IN_CI [p]).modFw p fun f => { f with heldReply := none }
      | none => match f.events with
        | [] => s
        | (t, b) :: _ => (s.eventNow p t b).modFw p fun f => { f with events := FMap.del t f.events }

/-- Everything that waits is posted while slots are free. -/
def State.drainOut (s : State) (p : Nat) : State :=
  ((List.range 16).foldl (fun s _ => s.postWaiting p) s).showPending p

/-- Every mailbox the port relays returns what stands in it, and so makes room (R442, R515). -/
def State.relayEvery (s : State) : State := (List.range 8).foldl (fun s p => (s.relayAll p).drainOut p) s

/-- An event of a processor: posted, or kept as the one waiting of its type (R442). -/
def State.postEvent (s : State) (p type : Nat) (body : List Byte) : State :=
  (s.modFw p fun f => { f with events := f.events.put type body }).drainOut p

/-- A reply to the request in hand: posted together with IN CI, or held (R435, R442). -/
def State.postReply (s : State) (p : Nat) (m : List Byte) : State :=
  (s.modFw p fun f => { f with heldReply := some m }).drainOut p

end Sys2Proof.Machine
end

