-- ==== Sys2Proof/Machine/Update.lean ====
section
/-! DEFINITION. The boot manifest (R489), the firmware slots, and the state of an update (R450 to R457). -/

namespace Sys2Proof.Machine
open Sys2Proof

/-- An image as its bytes give it (R450, R487). -/
def FwImage.parse (b : List Byte) : FwImage :=
  { version := Config.fwVersion b % 2 ^ 64, svn := Config.fwSvn b % 2 ^ 32, hash := shakeNat b, rootKey := Config.fwRootKey b,
    sigOk := Config.falconOk (Config.fwRootKey b) (shakeNat (Config.fwSigned b)) (Config.fwSignature b), fits := Config.fwFits b,
    loader := Config.fwLoader b, compat := Config.fwMajors b }

/-- A signed vendor object is accepted: the SHAKE256-256 hash of its root key is the root hash of the mask ROM, and its signature verifies (R487). -/
def FwImage.vendorOk (i : FwImage) (romRoot : Nat) : Bool := shakeNat i.rootKey == romRoot && i.sigOk

/-- The ROM accepts an image: R487, and an SVN no lower than the firmware counter (R488). -/
def Flash.accepts (f : Flash) (i : Option FwImage) : Option FwImage := i.filter fun i => i.vendorOk f.romRoot && decide (f.ctrFw ≤ i.svn)

/-- The copies whose MAC verifies at one sequence number (R489). -/
def Flash.copyAt (f : Flash) (seq : Nat) : Option Bool :=
  if f.man0.macOk f.secret && f.man0.seq == seq then some false
  else if f.man1.macOk f.secret && f.man1.seq == seq then some true
  else none

/-- The manifest copy start-up uses (R489): SEQ = C + 1 first, whose write is then completed, else SEQ = C; none is MANIFEST_BAD. -/
def Flash.choose (f : Flash) : Option Flash :=
  match f.copyAt (f.ctrManifest + 1) with
  | some c => some { f with copy1 := c, ctrManifest := f.ctrManifest + 1 }
  | none => (f.copyAt f.ctrManifest).map fun c => { f with copy1 := c }

/-- The manifest in force. -/
def Flash.manifest (f : Flash) : Manifest := if f.copy1 then f.man1 else f.man0

/-- A new manifest: the older copy is written with SEQ C + 1, then C is raised (R489). -/
def Flash.writeManifest (f : Flash) (g : Manifest → Manifest) : Flash :=
  let m := Manifest.seal { g f.manifest with seq := f.ctrManifest + 1 } f.secret
  let f := if f.copy1 then f.write .manifest0 fun f => { f with man0 := m } else f.write .manifest1 fun f => { f with man1 := m }
  { f with copy1 := !f.copy1, ctrManifest := f.ctrManifest + 1 }

/-- A firmware slot. -/
def Flash.fwSlot (f : Flash) (k : Nat) : Option FwImage := if k = 0 then f.fw0 else f.fw1

/-- A firmware slot written or emptied. -/
def Flash.setFw (f : Flash) (k : Nat) (i : Option FwImage) : Flash :=
  if k = 0 then f.write .firmware0 fun f => { f with fw0 := i } else f.write .firmware1 fun f => { f with fw1 := i }

/-- A weave slot. -/
def Flash.weaveSlot (f : Flash) (k : Nat) : Option Weave := if k = 0 then f.weave0 else f.weave1

/-- A weave slot written. -/
def Flash.setWeave (f : Flash) (k : Nat) (i : Option Weave) : Flash :=
  if k = 0 then f.write .weave0 fun f => { f with weave0 := i } else f.write .weave1 fun f => { f with weave1 := i }

/-- The staging slot: the firmware slot that is not active. -/
def Flash.stagingSlot (f : Flash) : Nat := 1 - f.manifest.fwActive % 2

/-- The staged image. -/
def Flash.staged (f : Flash) : Option FwImage := if f.manifest.stagedHash = 0 then none else f.fwSlot f.stagingSlot

/-- FWP_STAGED_VER and FWP_SVN show the staging slot and the firmware counter (Table 16-12). -/
def State.showStaged (s : State) : State :=
  let s := s.setFld R.FWP_STAGED_VER_VERSION ((s.flash.staged.map (·.version)).getD 0)
  (s.setFld R.FWP_SVN_STAGED ((s.flash.staged.map (·.svn)).getD 0)).setFld R.FWP_SVN_COUNTER s.flash.ctrFw

/-- FWP_UPDATE.STATE and AOB, with the manifest's copy: STAGED or PENDING, else NONE (Table 18-3). -/
def State.setUpdate (s : State) (st : Nat) (aob : Bool) : State :=
  let keep := st == 2 || st == 3
  let s := (s.setFld R.FWP_UPDATE_STATE st).setFlag R.FWP_UPDATE_AOB aob
  { s with flash := s.flash.writeManifest fun m => { m with update := if keep then st else 0, aob := keep && aob } }

/-- The staging slot is emptied and the update is NONE. -/
def State.dropStaged (s : State) : State :=
  let f := s.flash.setFw s.flash.stagingSlot none
  ({ s with flash := f.writeManifest fun m => { m with stagedHash := 0 }, update := { s.update with staging := none } }.setUpdate 0 false).showStaged

/-- The last code of the update registers. -/
def State.updStatus (s : State) (code : Nat) : State := s.setFld R.FWP_UPDATE_LAST_STATUS code

/-- A trip while an activation is PENDING without ACTIVATE_ON_BOOT returns it to STAGED (R455). -/
def State.tripUpdate (s : State) : State :=
  let s := { s with update := { s.update with tripped := true } }
  if s.fld R.FWP_UPDATE_STATE = 3 && !s.flag R.FWP_UPDATE_AOB then s.setUpdate 2 false else s

end Sys2Proof.Machine
end

