-- ==== Sys2Proof/Machine/JobFatal.lean ====
section
/-! DEFINITION. The job-fatal sequence (Table 21-3, R347, R536 to R540). -/

namespace Sys2Proof.Machine
open Sys2Proof

/-- A flit for the peer put on one port, with its first TTL and its age stamp (R57, R340). -/
def State.sendPort (s : State) (k : Nat) (f : Flit) : State :=
  s.modPort k fun p => { p with txq := p.txq ++ [{ f with ttl := s.fld R.NLK_NODE_TTL_INIT, age := s.ageStamp }] }

/-- A NOTICE with its cause on every UP port, each of which then is FENCED (R347). -/
def State.noticeAll (s : State) (cause : Nat) : State :=
  (List.range 12).foldl (fun s k =>
    if s.hasPort k && s.fld R.NLK_STATUS_STATE [k] == 2 then
      (s.sendPort k (Flit.mk' 3 0 (s.fld R.NLK_STATUS_PEER_NODE [k]) (toBytes 2 cause))).setFld R.NLK_STATUS_STATE 5 [k]
    else s) s

/-- MOD_READY and its register copies go low. -/
def State.readyLow (s : State) : State :=
  { s with pins := { s.pins with modReady := false } }.setFlag R.BSU_STATUS_READY false

/-- A fault of severity 3 or 4: logged, and the sequence run once; a later one only ends the export or forbids the re-weave (R536, R539, R540). -/
def State.jobFatal (s : State) (code unit addr detail : Nat) : State :=
  let sev4 := decide (severityOf code = 4)
  if s.job.running then
    let s := s.log code unit addr detail
    { s with job := { s.job with sev4 := s.job.sev4 || sev4, noExport := s.job.noExport || code == Code.MEM_THERMAL_TRIP } }
  else
    let s := { s with job := { s.job with running := true, code := code, sev4 := s.job.sev4 || sev4, noExport := code == Code.MEM_THERMAL_TRIP } }
    let s := s.readyLow.log code unit addr detail
    let s := s.noticeAll code
    s.abortAll (if code = Code.MEM_THERMAL_TRIP then 3 else 4) code

/-- A fault word of ledger state raises LEDGER_FAULT (R286). -/
def State.ledgerFault (s : State) (unit addr : Nat) : State := s.jobFatal Code.LEDGER_FAULT unit addr 0

end Sys2Proof.Machine
end

