-- ==== Sys2Proof/Machine/Rx.lean ====
section
/-! DEFINITION. Received flits: pools, their buffers and credits (R338), and the fields of a TXN payload (Table 12-4). -/

namespace Sys2Proof.Machine
open Sys2Proof

/-- The pool a flit's buffer belongs to: its VC, or 16, the shared pool. -/
def Flit.pool (f : Flit) : Nat := if f.sh then 16 else f.vc

/-- The first flit of a list that satisfies `p`, with the rest. -/
def pickFlit (p : Flit → Bool) : List Flit → Option (Flit × List Flit)
  | [] => none
  | f :: t => if p f then some (f, t) else (pickFlit p t).map fun r => (r.1, f :: r.2)

/-- A received flit taken from its buffer, whose credit is then owed to the peer. -/
def State.popRx (s : State) (k : Nat) (p : Flit → Bool) : Option (Flit × State) :=
  match pickFlit p (s.port k).rxq with
  | none => none
  | some (f, rest) => some (f, s.modPort k fun q =>
      { q with rxq := rest, used := q.used.setD f.pool 0 (q.used.getD f.pool 0 - 1), owed := q.owed.setD f.pool 0 (q.owed.getD f.pool 0 + 1) })

/-- Offset of a TXN flit. -/
def txOff (f : Flit) : Nat := fieldAt f.payload 0 8 % 2 ^ 41
/-- TAG. -/
def txTag (f : Flit) : Nat := fieldAt f.payload 6 2
/-- Source node. -/
def txSrc (f : Flit) : Nat := fieldAt f.payload 8 2 % 4096
/-- OP. -/
def txOp (f : Flit) : Nat := fieldAt f.payload 8 2 / 4096
/-- LINES. -/
def txLines (f : Flit) : Nat := fieldAt f.payload 10 1 % 4
/-- PMARK. -/
def txPmark (f : Flit) : Nat := fieldAt f.payload 10 1 / 4 % 8
/-- STATUS. -/
def txStatus (f : Flit) : Nat := fieldAt f.payload 11 1
/-- ARG. -/
def txArg (f : Flit) : Nat := fieldAt f.payload 12 4
/-- DATA. -/
def txData (f : Flit) : List Byte := (f.payload.drop 16).take 192

/-- A TXN flit of an operation. -/
def isTxn (op : Nat) (f : Flit) : Bool := f.ftype == 7 && txOp f == op

end Sys2Proof.Machine
end

