-- ==== Sys2Proof/Machine/Collectives.lean ====
section
/-! DEFINITION. Collective events (13, 14) and the stream flits of the links (R327, R328, R369). -/

namespace Sys2Proof.Machine
open Sys2Proof

/-- COLL_VC_FREED: a VC that no active group holds goes to the waiting group whose oldest waiting step is oldest (R353). -/
def execCollVcFreed (vc : Nat) (s : State) : Host.Outcome State Fault Refusal :=
  let busy := match s.vcHeld.find? vc with
    | some g => s.groupActive g
    | none => false
  if !s.up || busy then .next s
  else
    let ws := s.vcWaiters vc
    match ws.find? fun w => ws.all fun x => !olderStamp x.1 w.1 with
    | some w => .next ({ s with vcHeld := s.vcHeld.put vc w.2 }.retryAllFw6)
    | none => .next ({ s with vcHeld := FMap.del vc s.vcHeld }.retryAllFw6)

/-- FEED_WAIT_END: the feed counter has reached its value, and the member reads its elements of the chunk (R384, R385). -/
def execFeedWaitEnd (step : Nat) (s : State) : Host.Outcome State Fault Refusal :=
  match s.stepView step with
  | none => .next s
  | some v => match v.c.feedWait with
    | none => .next s
    | some c =>
      if s.up && s.fedNow v c then .next (s.feedGoes v c).retryJoins else .next s

/-- The waiting heads whose bucket lies in a slot, and that may claim it now. -/
def State.slotHeads (s : State) (g sl : Nat) : List Nat :=
  s.enabledQueues.filter fun q =>
    let d := s.headDesc q
    s.served q && isStep d && s.headPoison q == 0 && s.waitsMet d && !s.flag R.QMC_CTX_W0_HOLD [hContext d] && !s.gateWaits d && cGroup d == g && cBucket d % 32 == sl

/-- SLOT_CLAIM_RETRY: a slot that is not OPEN is claimed by a waiting stream open, or by the first waiting step (Table 14-3). -/
def execSlotClaimRetry (group slot : Nat) (s : State) : Host.Outcome State Fault Refusal :=
  match s.groups.find? group with
  | none => .next s
  | some gr =>
    if !s.up || s.fld R.COL_SLOT_W0_STATE [group, slot % 32] == 1 then .next s
    else
      let opens := s.inStreams.filter fun i => !i.accepted && i.hash == gr.hash && i.bucket % 32 == slot % 32
      let s := opens.foldl (fun s i => s.tryOpen i true) s
      let hs := s.slotHeads group (slot % 32)
      let s := match hs.find? fun q => hs.all fun r => r == q || !s.precedes r q with
        | some q =>
          let d := s.headDesc q
          if s.colVerdict d (s.fld R.COL_CFG_WIRE) = Verdict.run then
            s.takeSlot group (cBucket d) (cGen d) (colParams d (cWireWith (s.fld R.COL_CFG_WIRE) d)) else s
        | none => s
      .next s.retryAllFw6

/-- COLL_ROUND_COMPLETE: the awaited round's input has landed (R359 to R361, R396 to R400). -/
def execCollRoundComplete (step : Nat) (s : State) : Host.Outcome State Fault Refusal :=
  match s.stepView step with
  | none => .next s
  | some v =>
    if s.up && v.c.wait == .run && v.c.feedWait.isNone && decide (v.k ≤ v.rounds) then
      match s.roundInput v with
      | some ins => .next (((s.roundDone step ins).endPass step).retryJoins)
      | none => .next s
    else .next s

/-- The rank whose input a round awaits. -/
def State.awaitedRank (s : State) (v : StepView) : Nat :=
  if cOp v.it.desc = 3 then
    ((List.range v.gr.n).find? fun r => r != v.gr.rank && !((s.bucketStreams v).any fun i => i.accepted && i.done && i.src == v.gr.nodeAt r)).getD v.gr.rank
  else (v.gr.rank + v.gr.n - 1) % v.gr.n

/-- COLL_ROUND_TIMEOUT: the round's timer expires; it is extended once under grace, or the step aborts (R368, R370). -/
def execCollRoundTimeout (step : Nat) (s : State) : Host.Outcome State Fault Refusal :=
  match s.stepView step with
  | none => .next s
  | some v =>
    let g := cGroup v.it.desc
    if !s.up || v.c.wait == .fw6 || v.c.wait == .vc || decide (v.rounds < v.k) || (v.c.wait == .run && (s.roundInput v).isSome) then .next s
    else if v.gr.grace && !v.c.graced && v.c.sawSlow then
      .next ((s.modCol step fun c => { c with graced := true, t0 := s.elapsedNs }).bumpSat R.COL_SLOW_W1_GRACES [g])
    else .next ((s.bumpSat R.COL_SLOW_W1_TIMEOUTS [g]).abortStep step 1 v.gr.rank (s.awaitedRank v) 0 true [])

/-- An abort for a bucket without a step in flight comes too late: its step has ended here, or its slot holds it ended or newer (R377). -/
def State.abortLate (s : State) (g b gen : Nat) : Bool :=
  let ix := slotIx g b
  (s.keptAbort g b gen).isSome || (s.holdsBucket g b gen && s.fld R.COL_SLOT_W0_STATE ix != 1)
    || (s.fld R.COL_SLOT_W0_STATE ix != 0 && s.fld R.COL_SLOT_W0_BUCKET ix == b && olderGen gen (s.fld R.COL_SLOT_W0_GEN ix))
    || match s.ended.find? (bucketKey g b) with
      | some e => e == gen || olderGen gen e
      | none => false

/-- A member without the step takes an abort: the record is kept, in the bucket's slot where that is OPEN, whose buffer is then undefined, and the message goes on (R375, R376, R395). -/
def State.keepAbort (s : State) (g : Nat) (gr : Group) (b gen exc : Nat) (m : List Byte) : State :=
  let s := s.tookAbort g b gen exc
  let s :=
    if s.holdsBucket g b gen then
      let s := s.setFld R.COL_SLOT_W0_STATE 3 (slotIx g b)
      ({ s with slots := s.slots.put (slotKey g b) { s.slot g b with abort := exc }
                inStreams := s.inStreams.filter fun i => !(i.hash == gr.hash && i.bucket == b && i.gen == gen && i.accepted) }.failBound g b gen exc).undefine (slotBuffer gr b)
    else { s with keptAborts := s.keptAborts.put (bucketKey g b) (gen, exc) }.failBound g b gen exc
  s.forwardAbort gr b gen m

/-- COLL_ABORT_RECEIVE: the oldest message of COL_ABORT_RX (R374 to R377). -/
def execCollAbortReceive (s : State) : Host.Outcome State Fault Refusal :=
  match s.abortRx with
  | [] => .next s
  | m :: rest =>
    let s := { s with abortRx := rest }
    let b := fieldAt m 6 2
    let gen := fieldAt m 8 2
    let cause := fieldAt m 3 1
    let origin := fieldAt m 10 2 % 4096
    let detail := fieldAt m 14 2
    let suspect := fieldAt m 24 2 % 4096
    if !s.up || fieldAt m 0 2 != 0x4341 || fieldAt m 2 1 != 1 then .next s
    else match s.groupByHash (fieldAt m 28 4) with
      | none => .next s
      | some g => match s.stepOf g b gen, s.groups.find? g with
        | some id, _ => .next (s.abortStep id cause origin suspect detail false m)
        | none, some gr =>
          if s.abortLate g b gen then .next ((s.log Code.COLL_ABORT_LATE 0x2100).bumpSat R.COL_COUNTS_LATE)
          else .next (s.keepAbort g gr b gen (abortRecord cause origin suspect detail) m)
        | none, none => .next s

/-- Every step of a group in flight is cancelled (R374, Table 13-6). -/
def State.cancelGroup (s : State) (group : Nat) : State :=
  if s.up then (s.setFld R.COL_CTL_CANCEL_GROUP 0).abortGroup group 8 (s.myRank group) (s.myRank group) 0 else s

/-- COLL_CANCEL: COL_CTL.CANCEL written with a group (Table 13-6). -/
def execCollCancel (group : Nat) (s : State) : Host.Outcome State Fault Refusal := .next (s.cancelGroup group)

/-- COLL_FW6_WAIT_TIMEOUT: a step that has waited T for its group aborts here alone (R379). -/
def execCollFw6WaitTimeout (step : Nat) (s : State) : Host.Outcome State Fault Refusal :=
  match s.items.find? step, s.cols.find? step with
  | some it, some c =>
    if s.up && c.wait == .fw6 && (s.groups.find? (cGroup it.desc)).isNone then .next (s.abortStep step 5 0 0 0x0710 false []) else .next s
  | _, _ => .next s

/-- A DONE or ABORTED slot is freed, now or once its bound items have ended (R160, R390). -/
def State.slotFree (s : State) (group slot : Nat) : State :=
  let ix := [group, slot % 32]
  if !s.up || s.fld R.COL_SLOT_W0_STATE ix < 2 then s
  else s.releaseSlot group slot

/-- COL_SLOT_FREE (R160, R390). -/
def execColSlotFree (group slot : Nat) (s : State) : Host.Outcome State Fault Refusal := .next (s.slotFree group slot)

/-- SLOT_FREE_DEFERRED: the last bound item has ended, and the pending free takes effect (R160). -/
def execSlotFreeDeferred (group slot : Nat) (s : State) : Host.Outcome State Fault Refusal :=
  if s.up && (s.slot group slot).freeing && s.fld R.COL_SLOT_W1_BOUND [group, slot % 32] == 0 then .next (s.freeSlot group slot) else .next s

/-- STREAM_OPEN_RECEIVE: the oldest stream open of a port is checked, claims its slot, and is accepted, refused or left to wait (R356, R390 to R393). -/
def execStreamOpenReceive (port : Nat) (s : State) : Host.Outcome State Fault Refusal :=
  match s.popRx port (isTxn 7) with
  | none => .next s
  | some (f, t) =>
    if !s.up then .next s else
      let sd := txData f
      let i : InStream :=
        { src := txSrc f, tag := txTag f, accepted := false, number := 0, lines := 0, hash := fieldAt sd 0 4, bucket := fieldAt sd 4 2,
          gen := fieldAt sd 6 2, params := fieldAt sd 8 8, chunk := fieldAt sd 16 4, lateRank := fieldAt sd 20 2 % 4096, round := fieldAt sd 22 2,
          lateTime := fieldAt sd 24 8, bytes := [], poison := 0, done := false }
      let t := { t with inStreams := t.inStreams ++ [i] }
      match t.groupByHash i.hash with
      | some _ => .next (t.tryOpen i true)
      | none =>
        match List.find? (fun e => match t.stepView e.1 with
          | some v => cBucket v.it.desc == i.bucket && cGen v.it.desc == i.gen && v.gr.members.contains i.src && v.c.wait != .fw6 && v.c.wait != .vc
          | none => false) t.cols with
        | some e => .next ((t.refuseOpen i).abortStep e.1 6 (t.myRank (((t.items.find? e.1).map fun it => cGroup it.desc).getD 0))
            (((t.stepView e.1).bind fun v => v.gr.rankOf i.src).getD 0) 0 true [])
        | none => .next t

/-- The flits of a stream that has been accepted (R327 to R329). -/
def streamFlits (o : OutStream) (number ttl : Nat) : List Flit :=
  let n := (o.bytes.length + 239) / 240
  (List.range n).map fun k =>
    { Flit.mk' 8 o.vc o.dst ((o.bytes.drop (240 * k)).take 240) with
      stream := number, offset := k, last := k + 1 == n, ttl := ttl, src := 6, step := some o.item
      pmask := (List.range ((240 * k + 239) / 64 + 1 - 240 * k / 64)).foldl (fun m i => m + b2n (bit o.poison (240 * k / 64 + i)) * 2 ^ i) 0 }

/-- STREAM_ACCEPT_RECEIVE: the stream starts under the number given, or its step aborts as stale (R327, R393). -/
def execStreamAcceptReceive (port : Nat) (s : State) : Host.Outcome State Fault Refusal :=
  match s.popRx port (isTxn 8) with
  | none => .next s
  | some (f, t) =>
    if !s.up then .next s else
      let tag := txTag f
      match t.outStreams.find? tag with
      | none => .next { t with reqs := FMap.del tag t.reqs }
      | some o =>
        let t := { t with reqs := FMap.del tag t.reqs, outStreams := FMap.del tag t.outStreams }
        if bit (txArg f) 16 then
          match t.stepView o.item with
          | some v => .next (t.abortStep o.item 0x10 v.gr.rank ((v.gr.rankOf o.dst).getD v.gr.rank) 0 true [])
          | none => .next t
        else if bit (txArg f) 17 then .next t
        else .next ((streamFlits o (txArg f % 65536) (t.fld R.NLK_NODE_TTL_INIT)).foldl State.sendFlit t)

/-- What a stream that is complete leaves where it lands (R362, R394). -/
def State.landStream (s : State) (i : InStream) : State :=
  match (s.groupByHash i.hash).bind fun g => (s.stepOf g i.bucket i.gen).bind s.stepView with
  | none => s
  | some v => match cOp v.it.desc with
    | 2 => s.keepChunk v i.chunk i.chunkData
    | 4 => s.keepChunk v i.chunk i.chunkData
    | 3 => s.takeBlock v ((v.gr.rankOf i.src).getD 0) i.chunkData
    | _ => s

/-- STREAM_FLIT_RECEIVE: the oldest STREAM flit of a port lands; the last one completes its stream (R328, R329). -/
def execStreamFlitReceive (port : Nat) (s : State) : Host.Outcome State Fault Refusal :=
  match s.popRx port (fun f => f.ftype == 8) with
  | none => .next s
  | some (f, t) =>
    if !s.up then .next s else
      match t.inStreams.find? fun i => i.accepted && !i.done && i.number == f.stream with
      | none => .next t
      | some i =>
        let marks := (List.range 5).foldl (fun m k => if bit f.pmask k then m ||| 2 ^ (i.bytes.length / 64 + k) else m) i.poison
        let i' := { i with bytes := (i.bytes ++ f.payload).take (64 * i.lines), poison := marks % 2 ^ i.lines, done := f.last }
        let t := { t with inStreams := t.inStreams.map fun (x : InStream) => if x == i then i' else x }
        .next (if f.last then t.landStream i' else t)

/-- THROTTLE or SLOW of a node is noted for the steps of its groups; a step whose group is not defined yet keeps the node (R370, R379). -/
def State.noteSlow (s : State) (node : Nat) : State :=
  { s with cols := s.cols.mapVals fun id c => match s.items.find? id with
      | none => c
      | some it => match s.groups.find? (cGroup it.desc) with
        | some gr => if gr.members.contains node && node != s.node then { c with sawSlow := true } else c
        | none => { c with slowFrom := (node :: c.slowFrom).eraseDups } }

/-- STATUS_FLIT_RECEIVE: THROTTLE or SLOW of a member is noted for the steps of its groups (R369, R370). -/
def execStatusFlitReceive (port : Nat) (s : State) : Host.Outcome State Fault Refusal :=
  match s.popRx port (fun f => f.ftype == 6) with
  | none => .next s
  | some (f, t) =>
    if !s.up then .next s else
      let node := fieldAt f.payload 8 2 % 4096
      if fieldAt f.payload 11 1 % 4 = 0 then .next t
      else .next (t.noteSlow node)

end Sys2Proof.Machine
end

