-- ==== Sys2Proof/Machine/Dma.lean ====
section
/-! DEFINITION. The tile DMA classes: COPY (R425), GATHER and SCATTER (R426, R427), FILL (R305, R306). -/

namespace Sys2Proof.Machine
open Sys2Proof

/-- The lines that some bytes lie in. -/
def linesOf (a n : Nat) : List Nat := if n = 0 then [] else (List.range ((a + n - 1) / 64 + 1 - a / 64)).map fun i => (a / 64 + i) * 64

/-- Neighbouring writes joined. -/
def joinWrites : List (Nat × List Byte) → List (Nat × List Byte)
  | [] => []
  | (a, b) :: t => match joinWrites t with
    | (a', b') :: r => if a + b.length = a' then (a, b ++ b') :: r else (a, b) :: (a', b') :: r
    | [] => [(a, b)]

/-- The parts of a write within each line. -/
def lineParts (a : Nat) (b : List Byte) : List (Nat × List Byte) :=
  (linesOf a b.length).map fun l => let lo := max a l; (lo, (b.drop (lo - a)).take (l + 64 - lo))

/-- What a DMA engine writes, line by line, narrow requests one by one (R266, R269): a line that a poisoned element goes into is written poisoned (Table 11-5); an OPTSTEP item stops after the first such line (R302). -/
def State.dmaWrite (s : State) (id : Nat) (ws : List (Nat × List Byte × Bool)) (src : Nat) : State :=
  let bad := ((ws.filter (·.2.2)).flatMap fun w => linesOf w.1 w.2.1.length).eraseDups
  let parts := ws.map fun w => (w.1, w.2.1)
  ((if src = 2 then parts else joinWrites parts).flatMap fun w => lineParts w.1 w.2).foldl (fun s w =>
    match s.items.find? id with
    | none => s
    | some it =>
      if it.status ≠ 0 then s else
        let p := bad.contains (w.1 / 64 * 64)
        let s := s.storePart w.1 w.2 p src
        if p then s.optPoison id w.1 else s) s

/-- Source or destination word of a COPY (Table 15-4). -/
structure CSide where
  addr : Nat
  fmt : Nat
  scaled : Bool
  ld : Nat
  scales : Nat
  deriving DecidableEq, Repr

/-- The source of a COPY, taken `r` rungs up the ladder (R243). -/
def copySrc (d : Desc) (r : Nat) : CSide :=
  let f0 := dsc d 0x30 48 4
  let ld := dsc d 0x48 0 32
  let f := ladderTo r f0 (dsc d 0x30 52 1 == 1)
  { addr := dsc d 0x30 0 48, fmt := f.1, scaled := f.2, ld := if f.1 = f0 then ld else ladderStride ld f0 f.1, scales := dsc d 0x58 0 48 }

/-- The destination of a COPY. -/
def copyDst (d : Desc) : CSide :=
  { addr := dsc d 0x38 0 48, fmt := dsc d 0x38 48 4, scaled := dsc d 0x38 52 1 == 1, ld := dsc d 0x48 32 32, scales := dsc d 0x60 0 48 }

/-- ROWS. -/
def cpRows (d : Desc) : Nat := dsc d 0x40 0 24
/-- COLS. -/
def cpCols (d : Desc) : Nat := dsc d 0x40 24 24
/-- CONV.RND. -/
def cpRnd (d : Desc) : Nat := dsc d 0x50 0 3
/-- CONV.OVF. -/
def cpOvf (d : Desc) : Nat := dsc d 0x50 3 2
/-- CONV.TSCALE_EN. -/
def cpTscale (d : Desc) : Bool := dsc d 0x50 5 1 == 1
/-- TSCALE. -/
def cpTaddr (d : Desc) : Nat := dsc d 0x68 0 48
/-- Scale bytes of a row. -/
def cpBlocks (d : Desc) : Nat := (cpCols d + 31) / 32

/-- The bounds of a side's rows. -/
def CSide.range (c : CSide) (d : Desc) : Nat × Nat := boundRange c.addr c.ld (fmtBits c.fmt) (cpRows d, cpCols d)

/-- The bytes of row r of a side. -/
def CSide.row (c : CSide) (d : Desc) (r : Nat) : Nat × Nat := (c.addr + r * c.ld, rowBytes (fmtBits c.fmt) (cpCols d))

/-- The range of a side's scale bytes. -/
def CSide.scaleRange (c : CSide) (d : Desc) : List (Nat × Nat) := if c.scaled then [(c.scales, cpRows d * cpBlocks d)] else []

/-- A format a COPY may name (Table 4-1). -/
def dmaFmtOk (fmt : Nat) : Bool := decide (fmt ≤ 0xB)

/-- An address not aligned to its element. -/
def elemMisaligned (a fmt : Nat) : Bool := decide (a % max 1 (fmtBits fmt / 8) ≠ 0)

/-- A side's bytes as ranges: its rows, and its scale bytes where it is block-scaled. -/
def CSide.ranges (c : CSide) (d : Desc) : List (Nat × Nat) := c.range d :: c.scaleRange d

/-- A COPY class area is invalid (R427); a block-scaled side's range takes in its scale bytes. -/
def copyBad (d : Desc) (r : Nat) : Bool :=
  let a := copySrc d r
  let b := copyDst d
  dsc d 0x30 53 11 != 0 || dsc d 0x38 53 11 != 0 || dsc d 0x40 48 16 != 0 || dsc d 0x50 6 58 != 0 || dsc d 0x58 48 16 != 0 ||
    dsc d 0x60 48 16 != 0 || dsc d 0x68 48 16 != 0 || dsc d 0x70 0 128 != 0 || cpOvf d == 3 ||
    elemMisaligned a.addr a.fmt || elemMisaligned b.addr b.fmt || (cpTscale d && decide (cpTaddr d % 8 ≠ 0)) ||
    decide (a.ld < rowBytes (fmtBits a.fmt) (cpCols d)) || decide (b.ld < rowBytes (fmtBits b.fmt) (cpCols d)) ||
    (a.ranges d).any fun ra => (b.ranges d).any fun rb => overlaps ra.1 ra.2 rb.1 rb.2

/-- What a COPY reads: rows, scale bytes, max-abs word. -/
def copyReads (d : Desc) (r : Nat) : List (Nat × Nat) :=
  let a := copySrc d r
  (List.range (cpRows d)).map (a.row d) ++ a.scaleRange d ++ if cpTscale d then [(cpTaddr d, 4)] else []

/-- What a COPY writes. -/
def copyWrites (d : Desc) : List (Nat × Nat) :=
  let b := copyDst d
  (List.range (cpRows d)).map (b.row d) ++ b.scaleRange d ++ if cpTscale d then [(cpTaddr d + 4, 1)] else []

/-- The dispatch checks of a COPY item: formats before the class area, whose ranges they set (R81, R427). -/
def State.copyVerdict (s : State) (d : Desc) (srcRung : Nat) : Verdict :=
  let a := copySrc d srcRung
  let b := copyDst d
  let raw := copySrc d 0
  let code := firstCode [
    (s.namesAbsent a.addr || s.namesAbsent b.addr || (a.scaled && s.namesAbsent a.scales) || (b.scaled && s.namesAbsent b.scales) ||
      (cpTscale d && s.namesAbsent (cpTaddr d)), Code.UNIT_ABSENT),
    (!dmaFmtOk raw.fmt || !dmaFmtOk b.fmt || !scaleOk raw.fmt raw.scaled || !scaleOk b.fmt b.scaled, Code.FORMAT_INVALID),
    (copyBad d srcRung, Code.DMA_FIELD),
    (!rndOk (cpRnd d) || !srBitsOk (hSrBits d), Code.ROUND_INVALID),
    (decide (hLadderSrc d < 4096) && !ladderStridesOk raw.ld raw.fmt (s.fld R.TRN_LAYER_LADDER_MAX [hLadderSrc d]) raw.scaled, Code.MAT_ALIGN),
    (!((copyReads d srcRung ++ copyWrites d).all fun r => s.mappedRange r.1 r.2), Code.ADDR_UNMAPPED),
    ((copyWrites d).any fun r => s.hitsRegion r.1 r.2, Code.REGION_UNDECLARED)]
  if code = 0 then .run else .fail code

/-- The greatest magnitude of a target format (Table 4-2; the greatest value of an integer format, Table 4-3). -/
def tscaleTop (fmt : Nat) : Nat × Int :=
  match fpOf fmt with
  | some f => maxFinite f
  | none => (2 ^ (fmtBits fmt - 1) - 1, 0)

/-- The tensor scale TSCALE_EN chooses from the word m: byte, exponent, flags; none: every element has bits 0 (R425, R88, R89). -/
def tensorScale (fmt m : Nat) : Nat × Option Int × Nat × Nat :=
  let (v, fl, n) := readElem 1 m
  match v with
  | .nan _ => (0xFF, none, fl ||| fInvalid, n)
  | .inf _ => if fmt = 5 then (0xFE, some 127, fl ||| fOverflow, n) else (0xFF, none, fl ||| fInvalid, n)
  | .fin _ mm e =>
    if mm = 0 then (0, some (-127), fl, n)
    else
      let (tm, te) := tscaleTop fmt
      let s0 := (Nat.log2 mm : Int) + e - ((Nat.log2 tm : Int) + te)
      let k := if cmpMag mm e tm (te + s0) == .gt then s0 + 1 else s0
      if k < -127 then (0, some (-127), fl, n) else if 127 < k then (0xFE, some 127, fl ||| fOverflow, n) else ((k + 127).toNat, some k, fl, n)

/-- A converted run of elements that share a block: bits, scale byte, flags, flush count. -/
structure Cells where
  bits : List Nat
  scale : Nat
  marks : Marks
  deriving DecidableEq, Repr

/-- One block of a row converted: source bits with their scale byte, tensor scale, rounding control by column (R108, R425).
DESIGN CHOICE (log 123): a signalling NaN under a block scale of 0xFF is read as a signalling NaN and raises INVALID. -/
def convertCells (a b : CSide) (ctl : Nat → Rnd) (scale : Nat) (k : Option Int) (es : List Nat) : Cells :=
  let reads := es.map (readElem a.fmt)
  let fl := orFlags (reads.map (·.2.1))
  let n := (reads.map (·.2.2)).sum
  match k with
  | none => ⟨es.map fun _ => 0, if b.scaled then 0xFF else 0, ⟨fl, n⟩⟩
  | some k =>
    let vs := reads.map fun r => (if a.scaled then scaled scale r.1 else r.1).scale (-k)
    if b.scaled then
      let (sc, rs, fb) := encodeBlock b.fmt ctl vs
      ⟨rs.map (·.bits), sc, ⟨fl ||| fb ||| orFlags (rs.map (·.flags)), n + (rs.map (·.flush)).sum⟩⟩
    else
      let rs := vs.mapIdx fun i v => encodeVal b.fmt (ctl i) (fpOf a.fmt).isSome v
      ⟨rs.map (·.bits), 0, ⟨fl ||| orFlags (rs.map (·.flags)), n + (rs.map (·.flush)).sum⟩⟩

/-- Elements as bytes, with whether an element of each byte is poisoned: runs of equal poison. -/
def poisonRuns (addr w : Nat) (bs : List Nat) (ps : List Bool) : List (Nat × List Byte × Bool) :=
  let bytes := packElems w bs
  bytes.mapIdx fun i x => (addr + i, [x], (List.range 9).any fun j => let e := 8 * i / w + j; decide (w * e < 8 * i + 8) && ps.getD e false)

/-- A row of a COPY: the writes of its elements and scale bytes, and its marks. -/
def copyRow (it : Item) (p : Nat) (a b : CSide) (c : FMap LineView) (k : Option Int) (pz : Bool) (r : Nat) : List (Nat × List Byte × Bool) × Marks :=
  let d := it.desc
  let n := cpCols d
  let w := fmtBits a.fmt
  let es : List (Nat × Bool) := (List.range n).map fun j =>
    let (x, q) := fromLines c (a.addr + r * a.ld + w * j / 8) ((w * j % 8 + w + 7) / 8)
    (bits (ofBytes x) (w * j % 8) w, q)
  let plain := a.fmt == b.fmt && !a.scaled && !b.scaled && !cpTscale d
  if plain then (poisonRuns (b.row d r).1 w (es.map (·.1)) (es.map (·.2)), ⟨0, 0⟩)
  else
    let blocks : List (Cells × List Bool × Bool × Nat) := (chunksOf 32 (n + 1) es).mapIdx fun bi l =>
      let (x, q) := if a.scaled then fromLines c (a.scales + r * cpBlocks d + bi) 1 else ([], false)
      let o := convertCells a b (fun j => rndCtl it p (cpRnd d) (cpOvf d) (r * n + 32 * bi + j)) (ofBytes x) k (l.map (·.1))
      let all := pz || q || (b.scaled && l.any (·.2))
      (o, l.map fun e => all || e.2, pz || q || l.any (·.2), bi)
    let ws := poisonRuns (b.row d r).1 (fmtBits b.fmt) (blocks.flatMap (·.1.bits)) (blocks.flatMap (·.2.1))
    let ss := if b.scaled then blocks.map fun x => (b.scales + r * cpBlocks d + x.2.2.2, toBytes 1 x.1.scale, x.2.2.1) else []
    (ws ++ ss, ⟨orFlags (blocks.map (·.1.marks.flags)), (blocks.map (·.1.marks.flush)).sum⟩)

/-- The work of a COPY item (R425). -/
def State.copyWork (s : State) (id : Nat) : State :=
  match s.items.find? id with
  | none => s
  | some it =>
    let d := it.desc
    let a := copySrc d it.srcRung
    let b := copyDst d
    let p := (s.groupTiles (hTgroup d)).head?.getD 0
    let (c, s) := s.fetchLines (copyReads d it.srcRung) 0
    let (m, pz) := if cpTscale d then fromLines c (cpTaddr d) 4 else ([], false)
    let (byte, k, fl, n) := if cpTscale d then tensorScale b.fmt (ofBytes m) else (0, some 0, 0, 0)
    let rows := (List.range (cpRows d)).map fun r => copyRow it p a b c k pz r
    let s := s.dmaWrite id (rows.flatMap (·.1) ++ if cpTscale d then [(cpTaddr d + 4, toBytes 1 byte, pz)] else []) 0
    s.addMarks id ⟨fl ||| orFlags (rows.map (·.2.flags)), n + (rows.map (·.2.flush)).sum⟩

/-- TABLE. -/
def gsTable (d : Desc) : Nat := dsc d 0x30 0 48
/-- IDX64 as bytes of an index. -/
def gsIdxBytes (d : Desc) : Nat := if dsc d 0x38 48 1 = 1 then 8 else 4
/-- INDEX. -/
def gsIndex (d : Desc) : Nat := dsc d 0x38 0 48
/-- DENSE. -/
def gsDense (d : Desc) : Nat := dsc d 0x40 0 48
/-- COUNT of indices. -/
def gsCount (d : Desc) : Nat := dsc d 0x48 0 32
/-- ROW_BYTES. -/
def gsRow (d : Desc) : Nat := dsc d 0x48 32 16
/-- LIMIT. -/
def gsLimit (d : Desc) : Nat := dsc d 0x50 0 40
/-- REGION. -/
def gsRegion (d : Desc) : Bool := dsc d 0x58 0 1 == 1
/-- FMT of a SCATTER into a region. -/
def gsFmt (d : Desc) : Nat := dsc d 0x58 1 4
/-- SCATTER, not GATHER. -/
def gsScatter (d : Desc) : Bool := hClass d == 7

/-- Address of row i of the dense side. -/
def gsDenseRow (d : Desc) (i : Nat) : Nat := gsDense d + i * gsRow d
/-- Address of row r of the table. -/
def gsTableRow (d : Desc) (r : Nat) : Nat := (if gsRegion d then windowBase else 0) + gsTable d + r * gsRow d

/-- Elements of a row of a region SCATTER. -/
def gsE (d : Desc) : Nat := gsRow d / (fmtBits (gsFmt d) / 8)

/-- A GATHER or SCATTER class area is invalid (R427). -/
def gsBad (d : Desc) : Bool :=
  dsc d 0x30 48 16 != 0 || (gsRegion d && dsc d 0x30 28 20 != 0) || dsc d 0x38 49 15 != 0 || dsc d 0x40 48 16 != 0 || dsc d 0x48 48 16 != 0 ||
    dsc d 0x50 40 24 != 0 || dsc d 0x58 5 59 != 0 || dsc d 0x60 0 256 != 0 || (gsRegion d && !gsScatter d) || (!gsRegion d && gsFmt d != 0) || (gsRegion d && decide (1 < gsFmt d ∧ gsFmt d ≤ 0xB)) ||
    gsRow d == 0 || decide (gsRow d % 8 ≠ 0) || decide (gsIndex d % gsIdxBytes d ≠ 0) ||
    (if gsRegion d then elemMisaligned (gsDense d) (gsFmt d) || decide (gsTable d % 16 ≠ 0) ||
      overlaps (windowBase + gsTable d) (gsLimit d * gsE d * 16) (gsDense d) (gsCount d * gsRow d)
     else decide (gsDense d % 8 ≠ 0) || decide (gsTable d % 8 ≠ 0) ||
      overlaps (gsTable d) (gsLimit d * gsRow d) (gsDense d) (gsCount d * gsRow d))

/-- The region a SCATTER adds into. -/
def State.gsRgn (s : State) (d : Desc) : Option Rgn :=
  let (die, l) := sliceOfOff (gsTable d)
  (s.regionsOf die l).find? fun r => r.off == gsTable d

/-- The dispatch checks of a GATHER or SCATTER item. -/
def State.gsVerdict (s : State) (d : Desc) : Verdict :=
  let code := firstCode [
    ((!gsRegion d && s.namesAbsent (gsTable d)) || s.namesAbsent (gsIndex d) || s.namesAbsent (gsDense d), Code.UNIT_ABSENT),
    (gsBad d, Code.DMA_FIELD),
    (gsRegion d && decide (1 < gsFmt d), Code.FORMAT_INVALID),
    (gsRegion d && (s.gsRgn d).isNone, Code.REGION_UNDECLARED)]
  if code = 0 then .run else .fail code

/-- The index array's range. -/
def gsIdxRange (d : Desc) : Nat × Nat := (gsIndex d, gsCount d * gsIdxBytes d)

/-- Index i as memory now gives it, with its poison. -/
def State.gsIdx (s : State) (d : Desc) (i : Nat) : Nat × Bool := s.peekNat (gsIndex d + i * gsIdxBytes d) (gsIdxBytes d)

/-- Why row i ends the item: its code, and none where it moves. -/
def State.gsRowCode (s : State) (d : Desc) (i : Nat) : Nat :=
  let a := gsIndex d + i * gsIdxBytes d
  if !s.mappedRange a (gsIdxBytes d) then Code.ADDR_UNMAPPED
  else
    let (x, p) := s.gsIdx d i
    let t := gsTableRow d x
    let dst := if gsScatter d then t else gsDenseRow d i
    if p then Code.POISON_CONSUMED
    else if gsLimit d ≤ x then Code.GATHER_INDEX
    else if !s.mappedRange (gsDenseRow d i) (gsRow d) then Code.ADDR_UNMAPPED
    else if gsRegion d then (match s.gsRgn d with
      | some r => if r.elements < (x + 1) * gsE d then Code.REGION_UNDECLARED else 0
      | none => Code.REGION_UNDECLARED)
    else if !s.mappedRange t (gsRow d) then Code.ADDR_UNMAPPED
    else if s.hitsRegion dst (gsRow d) then Code.REGION_UNDECLARED
    else 0

/-- How many rows move before the first one that ends the item, and its code. -/
def State.gsRows (s : State) (d : Desc) : Nat × Nat :=
  match (List.range (gsCount d)).find? fun i => s.gsRowCode d i != 0 with
  | some i => (i, s.gsRowCode d i)
  | none => (gsCount d, 0)

/-- Where row i comes from. -/
def State.gsFrom (s : State) (d : Desc) (i : Nat) : Nat := if gsScatter d then gsDenseRow d i else gsTableRow d (s.gsIdx d i).1

/-- The die whose narrow requests the rows of a GATHER or SCATTER are: rows of 8 bytes, issued by the DMA of the group's first tile (R266). -/
def State.gsDie (s : State) (d : Desc) : Option Nat :=
  if gsRow d = 8 then ((s.groupTiles (hTgroup d)).head?).map (· / 144) else none

/-- A row moved from one address to another, word by word, each with its poison (Table 11-5). -/
def rowWords (c : FMap LineView) (src dst n : Nat) : List (Nat × List Byte × Bool) :=
  (List.range (n / 8)).map fun k => (dst + 8 * k, fromLines c (src + 8 * k) 8)

/-- The work of a GATHER or SCATTER item (R426, R427). -/
def State.gsWork (s : State) (id : Nat) : State :=
  match s.items.find? id with
  | none => s
  | some it =>
    let d := it.desc
    let (n, code) := s.gsRows d
    let src := if gsRow d = 8 then 2 else 0
    let s := s.touchLines (gsIndex d) (min (n + 1) (gsCount d) * gsIdxBytes d) 0
    let idx := (List.range n).map fun i => (i, (s.gsIdx d i).1)
    let from' := (List.range n).map fun i => (s.gsFrom d i, gsRow d)
    let (c, s) := s.fetchLines from' src
    let s := if gsRegion d then
        match s.gsRgn d with
        | none => s
        | some r =>
          let w := fmtBits (gsFmt d) / 8
          idx.foldl (fun s x => (List.range (gsE d)).foldl (fun s j =>
            let (b, p) := fromLines c (gsDenseRow d x.1 + w * j) w
            let (s, m) := s.rgnAdd it.cfg r (x.2 * gsE d + j) (gsFmt d) (ofBytes b) p
            s.addMarks id m) s) s
      else if gsScatter d then
        let last : FMap Nat := idx.foldl (fun m x => m.put x.2 x.1) []
        s.asNarrow (s.gsDie d) fun s => s.dmaWrite id (last.flatMap fun e => rowWords c (gsDenseRow d e.2) (gsTableRow d e.1) (gsRow d)) src
      else s.asNarrow (s.gsDie d) fun s => s.dmaWrite id (idx.flatMap fun x => rowWords c (gsTableRow d x.2) (gsDenseRow d x.1) (gsRow d)) src
    if code = 0 then s
    else
      let s := if code = Code.POISON_CONSUMED then s.logPoison 0x0C (s.itemUnit d) it.queue (gsIndex d + n * gsIdxBytes d) 0 else s
      s.failItem id code

/-- FILL: ADDR. -/
def fAddr (d : Desc) : Nat := dsc d 0x30 0 48
/-- FILL: LENGTH. -/
def fLen (d : Desc) : Nat := dsc d 0x38 0 41
/-- FILL: POISON. -/
def fPoison (d : Desc) : Bool := dsc d 0x48 0 1 == 1

/-- A FILL class area is invalid (R306). -/
def fillBad (d : Desc) : Bool :=
  dsc d 0x30 48 16 != 0 || dsc d 0x38 41 23 != 0 || dsc d 0x48 1 63 != 0 || dsc d 0x50 0 384 != 0 ||
    decide (fAddr d % 64 ≠ 0) || fLen d == 0 || decide (fLen d % 64 ≠ 0)

/-- The dispatch checks of a FILL item. -/
def State.fillVerdict (s : State) (d : Desc) : Verdict :=
  let code := firstCode [(s.namesAbsent (fAddr d), Code.UNIT_ABSENT), (fillBad d, Code.FILL_FIELD)]
  if code = 0 then .run else .fail code

/-- The work of a FILL item: whole lines in turn up to the first that cannot be written (R305, R306). -/
def State.fillWork (s : State) (id : Nat) : State :=
  match s.items.find? id with
  | none => s
  | some it =>
    let d := it.desc
    let line := (List.replicate 8 (toBytes 8 (dsc d 0x40 0 64))).flatten
    (List.range (fLen d / 64)).foldl (fun s i =>
      match s.items.find? id with
      | none => s
      | some it =>
        let a := fAddr d + 64 * i
        if it.status ≠ 0 then s
        else if !s.mapped a then s.failItem id Code.ADDR_UNMAPPED
        else if s.hitsRegion a 64 then s.failItem id Code.REGION_UNDECLARED
        else
          let s := s.storePart a line (fPoison d) 0
          if fPoison d then s.optPoison id a else s) s

/-- A DMA item starts, or goes on once its far lines have arrived. -/
def State.dmaStart (s : State) (id : Nat) : State :=
  match s.items.find? id with
  | none => s
  | some it =>
    let d := it.desc
    match hClass d with
    | 4 => s.workWith id (copyReads d it.srcRung) fun s => s.copyWork id
    | 5 => s.workWith id [] fun s => s.fillWork id
    | _ =>
      let idx := gsIdxRange d
      let seen : State := { s with mem := { s.mem with remote := it.remote } }
      let known := (s.missingLines it.remote [idx]).isEmpty
      let rows := if known then (List.range (seen.gsRows d).1).map fun i => (seen.gsFrom d i, gsRow d) else []
      s.workWith id (idx :: rows) (fun s => s.gsWork id) (if known then s.gsDie d else none)

end Sys2Proof.Machine
end

