-- ==== Sys2Proof/Machine/MatArith.lean ====
section
/-! DEFINITION. Sliced multiplication, exact block accumulation and the canonical order (05): slices (R111 to R114), block windows (R116, R117), the wide format W (R120, R121), the carry stack (R123), special terms and the invalid record (R134, R135), W partials (R128, R129, R547). -/

namespace Sys2Proof.Machine
open Sys2Proof

/-- Significand width, slice width and slice count of a matrix input (Table 5-1). -/
def sliceParams (fmt : Nat) : Nat × Nat × Nat :=
  match fmt with
  | 0 => (53, 8, 7)
  | 1 => (24, 8, 3)
  | 2 => (8, 8, 1)
  | 3 => (11, 8, 2)
  | 4 => (4, 8, 1)
  | 5 => (3, 8, 1)
  | 6 => (4, 4, 1)
  | 7 => (3, 4, 1)
  | 8 => (2, 4, 1)
  | 10 => (4, 4, 1)
  | _ => (8, 8, 1)

/-- An operand element as the slicer passes it on: kind (Table 5-6), sign, S and E_x (R111). -/
structure MElem where
  kind : Nat
  neg : Bool
  sig : Nat
  exp : Int
  deriving DecidableEq, Repr

/-- Whether an FP32 or FP64 element is read as zero (R90). -/
def readsAsZero (fmt b : Nat) : Bool :=
  match fpOf fmt with
  | some f => flushes fmt && isSubnormal f b
  | none => false

/-- S and E_x of a magnitude m · 2^e whose significand has its unit at 2^e: s = m, exponent e + p − 1 (R111). -/
def sliced (fmt : Nat) (neg : Bool) (m : Nat) (e t : Int) : MElem :=
  let (p, w, n) := sliceParams fmt
  { kind := if m = 0 then 1 else 0, neg := neg, sig := m * 2 ^ (n * w - p), exp := e + (p : Int) - 1 - ((n * w : Nat) - 1) + t }

/-- An element read by the engine, under its block's scale byte where it has one. -/
def readMat (fmt b : Nat) (scale : Option Nat) : MElem :=
  if scale = some 0xFF then { kind := 5, neg := false, sig := 0, exp := 0 }
  else
    let t : Int := match scale with
      | some e => (e : Int) - 127
      | none => 0
    match (readElem fmt b).1 with
    | .nan _ => { kind := if (decodeFmt fmt b).isSnan then 4 else 3, neg := false, sig := 0, exp := 0 }
    | .inf n => { kind := 2, neg := n, sig := 0, exp := 0 }
    | .fin n m e => sliced fmt n m e t

/-- slice_i of R112. -/
def sliceOf (w n sig i : Nat) : Nat := sig / 2 ^ (w * (n - 1 - i)) % 2 ^ w

/-- A slice product: sign, magnitude, q (R113). -/
structure SProd where
  neg : Bool
  mag : Nat
  q : Int
  deriving DecidableEq, Repr

/-- The non-zero slice products of a term, and whether standard mode omits one (R113, R114, R130). -/
def sliceProducts (fa fb : Nat) (exact : Bool) (a b : MElem) : List SProd × Bool :=
  if a.kind ≠ 0 ∨ b.kind ≠ 0 then ([], false) else
    let (_, wa, na) := sliceParams fa
    let (_, wb, nb) := sliceParams fb
    let all := (List.range na).flatMap fun i => (List.range nb).filterMap fun j =>
      let m := sliceOf wa na a.sig i * sliceOf wb nb b.sig j
      if m = 0 then none
      else some (i + j, (⟨a.neg != b.neg, m, a.exp + b.exp + ((wa * (na - 1 - i) + wb * (nb - 1 - j) : Nat) : Int)⟩ : SProd))
    let std := (fa == 0 || fb == 0) && !exact
    let kept := all.filter fun e => !(std && decide (6 < e.1))
    (kept.map (·.2), decide (kept.length < all.length))

/-- A value of W: m · 2^e with m signed, zero as (0, 0). -/
structure WVal where
  m : Int
  e : Int
  deriving DecidableEq, Repr

/-- Zero in W. -/
def WVal.zero : WVal := ⟨0, 0⟩

/-- m · 2^e rounded to nearest even to p bits, a carry out of the significand renormalised; whether it rounded (R120, R121). -/
def toW (p : Nat) (m e : Int) : WVal × Bool :=
  if m = 0 then (WVal.zero, false) else
    let k := Nat.log2 m.natAbs + 1 - p
    if k = 0 then (⟨m, e⟩, false)
    else
      let (q, inex) := roundGrid ⟨0, false, 0, 0⟩ (decide (m < 0)) m.natAbs 0 k
      let (q, k) := if q = 2 ^ p then (2 ^ (p - 1), k + 1) else (q, k)
      (⟨if m < 0 then -(q : Int) else q, e + k⟩, inex)

/-- The W sum of two values, and whether it rounded (R121). -/
def addW (p : Nat) (x y : WVal) : WVal × Bool :=
  let e := min x.e y.e
  toW p (x.m * 2 ^ (x.e - e).toNat + y.m * 2 ^ (y.e - e).toNat) e

/-- The contribution of a slice product to a window with least weight 2^L, rounded to odd (R117). -/
def windowTerm (l : Int) (x : SProd) : Int × Bool :=
  let (m, odd) := if l ≤ x.q then (x.mag * 2 ^ (x.q - l).toNat, false)
    else
      let k := (l - x.q).toNat
      let t := x.mag / 2 ^ k
      if x.mag % 2 ^ k = 0 then (t, false) else (if t % 2 = 0 then t + 1 else t, true)
  (if x.neg then -(m : Int) else m, odd)

/-- The partial of one block in W: window, sum, conversion (R116, R117, R121). `top` is w_a + w_b − 1, `wd` the window's bits. -/
def blockPartial (p wd top : Nat) (ps : List SProd) : WVal × Bool :=
  match ps with
  | [] => (WVal.zero, false)
  | x :: t =>
    let tq := t.foldl (fun acc y => max acc y.q) x.q
    let l := tq + (top : Int) + 7 - wd
    let parts := ps.map (windowTerm l)
    let (v, r) := toW p (parts.map (·.1)).sum l
    (v, r || parts.any (·.2))

/-- A fact about a special term: its k, and the kinds of its operands, A in the low 3 bits. -/
structure Fact where
  k : Nat
  kinds : Nat
  deriving DecidableEq, Repr

/-- An element of a span: its finite sum and the facts about its special terms (Table 5-3). -/
structure WElem where
  val : WVal
  nan : Bool
  zsign : Nat
  inexact : Bool
  pos : Option Fact
  neg : Option Fact
  inv : Option Fact
  deriving DecidableEq, Repr

/-- No terms (R138). -/
def WElem.empty : WElem := { val := WVal.zero, nan := false, zsign := 0, inexact := false, pos := none, neg := none, inv := none }

/-- The mix of two sets of terms' zero signs (R137). -/
def zmix (a b : Nat) : Nat := if a = 0 then b else if b = 0 then a else if a = b then a else 3

/-- The fact with the smaller k. -/
def firstFact (a b : Option Fact) : Option Fact :=
  match a, b with
  | some x, some y => if y.k < x.k then some y else some x
  | some x, none => some x
  | none, y => y

/-- Facts and finite sums of two spans, the lower one first (R129). -/
def WElem.join (p : Nat) (x y : WElem) : WElem :=
  let (v, r) := addW p x.val y.val
  { val := v, nan := x.nan || y.nan, zsign := zmix x.zsign y.zsign, inexact := x.inexact || y.inexact || r,
    pos := firstFact x.pos y.pos, neg := firstFact x.neg y.neg, inv := firstFact x.inv y.inv }

/-- The facts of one term (R134, R135, R137). -/
def termFacts (k : Nat) (a b : MElem) : WElem :=
  let f : Fact := ⟨k, a.kind + 8 * b.kind⟩
  let isNan := decide (3 ≤ a.kind) || decide (3 ≤ b.kind)
  let zeroInf := (a.kind == 1 && b.kind == 2) || (a.kind == 2 && b.kind == 1)
  let infTerm := !isNan && !zeroInf && (a.kind == 2 || b.kind == 2)
  let sgn := a.neg != b.neg
  let zero := !isNan && !zeroInf && !infTerm && (a.kind == 1 || b.kind == 1)
  { WElem.empty with
    nan := isNan || zeroInf
    zsign := if zero then (if sgn then 2 else 1) else 3
    pos := if infTerm && !sgn then some f else none
    neg := if infTerm && sgn then some f else none
    inv := if a.kind == 4 || b.kind == 4 || zeroInf then some f else none }

/-- One k-block of an output element: terms from k0 on. -/
def blockElem (p wd fa fb : Nat) (exact : Bool) (k0 : Nat) (as bs : List MElem) : WElem :=
  let (_, wa, _) := sliceParams fa
  let (_, wb, _) := sliceParams fb
  let ps := List.zipWith (sliceProducts fa fb exact) as bs
  let (v, r) := blockPartial p wd (wa + wb - 1) (ps.flatMap (·.1))
  let facts := (List.zipWith (fun (x : MElem × Nat) y => termFacts x.2 x.1 y) (as.mapIdx fun i x => (x, k0 + i)) bs).foldl (WElem.join p) WElem.empty
  { facts with val := v, inexact := r || ps.any (·.2) }

/-- A subtree put on the carry stack, after the completed subtrees of its level (R123). Newest first. -/
def pushTree (p : Nat) : List (Nat × WElem) → Nat → WElem → List (Nat × WElem)
  | [], lvl, v => [(lvl, v)]
  | (l, x) :: t, lvl, v => if l = lvl then pushTree p t (lvl + 1) (x.join p v) else (lvl, v) :: (l, x) :: t

/-- The stack folded from the top (R123). -/
def foldTree (p : Nat) : List (Nat × WElem) → WElem
  | [] => WElem.empty
  | (_, v) :: t => t.foldl (fun acc e => e.2.join p acc) v

/-- The node over ascending blocks (R122, R123). -/
def treeOf (p : Nat) (blocks : List WElem) : WElem := foldTree p (blocks.foldl (fun st v => pushTree p st 0 v) [])

/-- SPECIAL of Table 5-3. -/
def WElem.special (x : WElem) : Nat :=
  let both := x.pos.isSome && x.neg.isSome
  if x.inv.isSome || both then 3 else if x.nan then 2 else if x.pos.isSome || x.neg.isSome then 1 else 0

/-- The element's candidate for the invalid record (R129, R135). -/
def WElem.candidate (x : WElem) : Option Fact :=
  match x.pos, x.neg with
  | some a, some b => firstFact (some (if a.k < b.k then b else a)) x.inv
  | _, _ => x.inv

/-- Table 5-5: the value the output conversion takes; the sign of an exact zero by R137. -/
def WElem.resolve (x : WElem) (rdn : Bool) : Val :=
  match x.special with
  | 0 => if x.val.m = 0 then .fin (if x.zsign = 2 then true else if x.zsign = 3 then rdn else false) 0 0
         else .fin (decide (x.val.m < 0)) x.val.m.natAbs x.val.e
  | 1 => .inf x.neg.isSome
  | _ => .nan false

/-- A value rounded to W (stages 1 and 2 of Table 6-10); whether it rounded. -/
def roundW (p : Nat) (v : Val) : Val × Bool :=
  match v with
  | .fin n m e =>
    if m = 0 then (v, false) else
      let (w, r) := toW p m e
      (.fin n w.m.natAbs w.e, r)
  | x => (x, false)

/-- A fact's fields: presence, k and kinds. -/
def factBits (f : Option Fact) : Nat × Nat × Nat :=
  match f with
  | some x => (1, x.k, x.kinds)
  | none => (0, 0, 0)

/-- The stored bits of an element (Table 5-3). DESIGN CHOICE (log 31): a special element stores SIG, EXP and INEXACT 0, and SIGN only with SPECIAL 1, so that its bits do not depend on the split (R139). -/
def WElem.pack (p : Nat) (x : WElem) : Nat :=
  let m := if x.special = 0 then x.val.m.natAbs else 0
  let sig := if m = 0 then 0 else m * 2 ^ (p - 1 - Nat.log2 m)
  let ex := if m = 0 then 0 else (x.val.e + Nat.log2 m + 32767).toNat % 65536
  let sign := if x.special = 0 then decide (x.val.m < 0) else x.special == 1 && x.neg.isSome
  let (pp, kp, dp) := factBits x.pos
  let (pn, kn, dn) := factBits x.neg
  let (pi, ki, di) := factBits x.inv
  let hi := b2n sign + 2 * x.special + 8 * x.zsign + 32 * b2n (x.special == 0 && x.inexact) + 64 * pp + 128 * pn + 256 * pi + 2 ^ 9 * (kp % 2 ^ 25)
    + 2 ^ 34 * (kn % 2 ^ 25) + 2 ^ 59 * (ki % 2 ^ 25) + 2 ^ 84 * dp + 2 ^ 90 * dn + 2 ^ 96 * di
  sig + 2 ^ p * ex + 2 ^ (p + 16) * hi

/-- An element read by a merge; none when it is not well formed (R547). -/
def unpackW (p n : Nat) : Option WElem :=
  let hi := n / 2 ^ (p + 16)
  let width := if p = 112 then 128 else 112
  let sig := bits n 0 p
  let ex := bits n p 16
  let sign := bit hi 0
  let sp := bits hi 1 2
  let (pp, pn, pi) := (bit hi 6, bit hi 7, bit hi 8)
  let fact := fun (b : Bool) klo dlo => if b then some (⟨bits hi klo 25, bits hi dlo 6⟩ : Fact) else none
  let clean := fun (b : Bool) klo dlo => b || (bits hi klo 25 == 0 && bits hi dlo 6 == 0)
  let ok := bits hi 102 (width - 102) == 0 &&
    (match sp with
     | 0 => !pp && !pn && !pi
     | 1 => !pi && (pp != pn) && (sign == pn)
     | 2 => !pi && !(pp && pn)
     | _ => pi || (pp && pn)) &&
    clean pp 9 84 && clean pn 34 90 && clean pi 59 96
  if ok then
    some { val := if ex = 0 then WVal.zero else ⟨if sign then -(sig : Int) else sig, (ex : Int) - 32767 - (p - 1 : Nat)⟩
           nan := decide (2 ≤ sp), zsign := bits hi 3 2, inexact := bit hi 5
           pos := fact pp 9 84, neg := fact pn 34 90, inv := fact pi 59 96 }
  else none

/-- |v| as the max-abs gather writes it (R155). -/
def maxAbsBits (v : Val) : Nat :=
  match v with
  | .nan _ => 0x7FC00000
  | .inf _ => 0x7F800000
  | .fin _ m e =>
    if m = 0 then 0
    else if cmpMag m e 1 (-126) == .lt then 0x00800000
    else (roundFp 1 ⟨8, 23, 127, true, true⟩ ⟨3, false, 0, 0⟩ false false m e).bits

/-- A shared record of Table 5-7. -/
def invalidRecord (row col : Nat) (f : Fact) : Nat := row % 65536 + col % 65536 * 2 ^ 16 + f.k % 2 ^ 25 * 2 ^ 32 + f.kinds % 64 * 2 ^ 57 + 2 ^ 63

/-- The record with the smaller row, then column, then k; 0 stands for none (R135). -/
def firstRecord (a b : Nat) : Nat :=
  if a = 0 then b else if b = 0 then a else
    let key := fun r => (bits r 0 16 * 2 ^ 16 + bits r 16 16) * 2 ^ 25 + bits r 32 25
    if key b < key a then b else a

/-- Matrix-engine steps of one k-block of an output block (Table 5-2, R165). -/
def blockSteps (fa fb : Nat) (exact : Bool) : Nat :=
  let (_, wa, na) := sliceParams fa
  let (_, wb, nb) := sliceParams fb
  if wa = 4 ∧ wb = 4 then 4
  else
    let pairs := (List.range na).flatMap fun i => (List.range nb).filter fun j => !((fa == 0 || fb == 0) && !exact && decide (6 < i + j))
    8 * pairs.length

end Sys2Proof.Machine
end

