-- ==== Sys2Proof/Machine/Matrix.lean ====
section
/-! DEFINITION. The matrix engine (06): the start of an item and its landing-buffer bindings (R157 to R160), one output block (R140, R153 to R156, R161, R162), what a finished block leaves (R164, R386). -/

namespace Sys2Proof.Machine
open Sys2Proof

/-- The tile that computes an output block (R140, R148). -/
def State.blockTile (s : State) (d : Desc) (n : Nat) : Nat :=
  let ts := s.groupTiles (hTgroup d)
  if mTreg d then ts.head?.getD 0 else ts.getD (n % max 1 ts.length) 0

/-- The elements of a window, row by row, and whether a word of it is poisoned. -/
def windowElems (c : FMap LineView) (base ld w : Nat) (win : Nat × Nat × Nat × Nat) : List (List Nat) × Bool :=
  let rows := (windowRanges base ld w win).map fun r => fromLines c r.1 r.2
  (rows.map fun r => (List.range win.2.2.2).map (packedAt r.1 w), rows.any (·.2))

/-- Rows turned into columns. -/
def turned (n : Nat) (rows : List (List Nat)) : List (List Nat) := (List.range n).map fun j => rows.map fun r => r.getD j 0

/-- Where a block's bias, channel-scale and scale bytes lie. -/
structure BlockPlan where
  m : MDesc
  d : Desc
  i0 : Nat
  iN : Nat
  j0 : Nat
  jN : Nat
  k0 : Nat
  k1 : Nat
  baseA : Nat
  baseB : Nat
  deriving DecidableEq, Repr

/-- The plan of output block `n`. -/
def State.blockPlan (s : State) (it : Item) (n : Nat) : BlockPlan :=
  let m := it.mat
  let d := it.desc
  let (bi, bj) := blockAt d n
  let (i0, iN) := part32 (mM d) bi
  let (j0, jN) := part32 (mN d) bj
  let (k0, k1) := kSpan d
  { m := m, d := d, i0 := i0, iN := iN, j0 := j0, jN := jN, k0 := k0, k1 := k1, baseA := s.opdBase d m.a false, baseB := s.opdBase d m.b true }

/-- The window of A, of B, or of a partial, that a block reads. -/
def BlockPlan.winA (b : BlockPlan) : Nat × Nat × Nat × Nat :=
  if mMerge b.d then (b.i0, b.iN, b.j0, b.jN) else opdWindow b.m.a.trans b.i0 b.iN b.k0 b.k1
/-- The window of B, or of the right partial. -/
def BlockPlan.winB (b : BlockPlan) : Nat × Nat × Nat × Nat :=
  if mMerge b.d then (b.i0, if mRightAbsent b.d then 0 else b.iN, b.j0, b.jN) else opdWindow (!b.m.b.trans) b.j0 b.jN b.k0 b.k1

/-- Scale bytes of rows or columns [x0, x0 + xn) over the span's blocks. -/
def scaleRanges (base nb x0 xn k0 k1 : Nat) : List (Nat × Nat) :=
  (List.range xn).map fun i => (base + (x0 + i) * nb + k0 / 32, (k1 + 31) / 32 - k0 / 32)

/-- Scale ranges of A and of B; empty where the operand has none. -/
def BlockPlan.scaleA (b : BlockPlan) : List (Nat × Nat) :=
  if b.m.a.scaled && !mMerge b.d then scaleRanges (b.m.auxAddr 0x00) (mB b.d) b.i0 b.iN b.k0 b.k1 else []
/-- Scale ranges of B. -/
def BlockPlan.scaleB (b : BlockPlan) : List (Nat × Nat) :=
  if b.m.b.scaled && !mMerge b.d then scaleRanges (b.m.auxAddr 0x08) (mB b.d) b.j0 b.jN b.k0 b.k1 else []

/-- The range of a block's bias or channel-scale elements. -/
def BlockPlan.perColumn (b : BlockPlan) (on : Bool) (off : Nat) : List (Nat × Nat) :=
  let eb := fmtBits b.m.cFmt / 8
  if on then [(b.m.auxAddr off + b.j0 * eb, b.jN * eb)] else []

/-- Every byte range a block reads (R161). -/
def BlockPlan.reads (b : BlockPlan) : List (Nat × Nat) :=
  windowRanges b.baseA b.m.a.ld (b.m.bitsOf b.m.a) b.winA ++ windowRanges b.baseB b.m.b.ld (b.m.bitsOf b.m.b) b.winB ++
    b.scaleA ++ b.scaleB ++ b.perColumn (mBias b.d) 0x18 ++ b.perColumn (mChscale b.d) 0x20

/-- The byte ranges of a block's output rows. -/
def BlockPlan.writes (b : BlockPlan) : List (Nat × Nat) :=
  if mTreg b.d then [] else windowRanges b.m.o.addr b.m.o.ld b.m.bitsD (b.i0, b.iN, b.j0, b.jN)

/-- A block's elements, with the flags and flush count of what was read, poison, and whether a partial was malformed. -/
structure BlockSum where
  rows : List (List WElem)
  flags : Nat
  flush : Nat
  poison : Bool
  malformed : Bool
  deriving DecidableEq, Repr

/-- The k-blocks of one row or column of an operand, with the scale byte of each. -/
def kBlocks (fmt : Nat) (es : List Nat) (scales : Option (List Nat)) : List (List MElem) :=
  (chunksOf 32 es.length es).mapIdx fun b l => l.map fun x => readMat fmt x (scales.map fun sc => sc.getD b 0)

/-- The product of a block (R115 to R123). -/
def blockProduct (b : BlockPlan) (c : FMap LineView) (countA countB : Bool) : BlockSum :=
  let m := b.m
  let (ra, pa) := windowElems c b.baseA m.a.ld (fmtBits m.a.fmt) b.winA
  let (rb, pb) := windowElems c b.baseB m.b.ld (fmtBits m.b.fmt) b.winB
  let rowsA := if m.a.trans then turned b.iN ra else ra
  let colsB := if m.b.trans then rb else turned b.jN rb
  let sa := b.scaleA.map fun r => fromLines c r.1 r.2
  let sb := b.scaleB.map fun r => fromLines c r.1 r.2
  let scalesOf := fun (l : List (List Byte × Bool)) i => if l.isEmpty then none else some ((l.getD i ([], false)).1.map (·.toNat))
  let as := rowsA.mapIdx fun i es => kBlocks m.a.fmt es (scalesOf sa i)
  let bs := colsB.mapIdx fun j es => kBlocks m.b.fmt es (scalesOf sb j)
  let wd := if m.a.fmt = 0 ∨ m.b.fmt = 0 then 192 else 96
  let rows := as.map fun x => bs.map fun y =>
    treeOf m.wp ((List.zipWith Prod.mk x y).mapIdx fun n e => blockElem m.wp wd m.a.fmt m.b.fmt (mExact b.d) (b.k0 + 32 * n) e.1 e.2)
  let na := if countA then (rowsA.map fun r => (r.filter (readsAsZero m.a.fmt)).length).sum else 0
  let nb := if countB then (colsB.map fun r => (r.filter (readsAsZero m.b.fmt)).length).sum else 0
  let any := rowsA.any (fun r => r.any (readsAsZero m.a.fmt)) || colsB.any fun r => r.any (readsAsZero m.b.fmt)
  { rows := rows, flags := if any then fFlush else 0, flush := na + nb, poison := pa || pb || sa.any (·.2) || sb.any (·.2), malformed := false }

/-- The elements of a window of partials, each with whether a word of it is poisoned. -/
def windowPartials (c : FMap LineView) (base ld n : Nat) (win : Nat × Nat × Nat × Nat) : List (List (Nat × Bool)) :=
  let (r0, rn, c0, cn) := win
  (List.range rn).map fun r => (List.range cn).map fun j => let x := fromLines c (base + (r0 + r) * ld + (c0 + j) * n) n; (ofBytes x.1, x.2)

/-- The elements of a merged block; an element read whole that is not well formed ends the item, whatever else reads poisoned (R126, R129, R547).
DESIGN CHOICE (log 123): a merge counts no FLUSH for the products' operands, of which a partial carries no fact. -/
def blockMerge (b : BlockPlan) (c : FMap LineView) : BlockSum :=
  let m := b.m
  let p := m.wp
  let l := windowPartials c b.baseA m.a.ld m.wBytes b.winA
  let r := windowPartials c b.baseB m.b.ld m.wBytes b.winB
  let any := fun (f : Nat × Bool → Bool) => l.any (·.any f) || r.any (·.any f)
  let get := fun (x : Nat × Bool) => (unpackW p x.1).getD WElem.empty
  let rows := if mRightAbsent b.d then l.map fun row => row.map get
    else List.zipWith (fun x y => List.zipWith (fun u v => (get u).join p (get v)) x y) l r
  { rows := rows, flags := 0, flush := 0, poison := any (·.2), malformed := any fun x => !x.2 && (unpackW p x.1).isNone }

/-- What the output conversion makes of one element before stage 5: value and flags (stages 1 to 3 of Table 6-10).
DESIGN CHOICE (log 123): of an element that lines 1 to 4 of Table 5-5 resolve, finite terms ignored, the roundings of its finite terms raise no INEXACT. -/
def stages (b : BlockPlan) (rdn : Bool) (bias chs : List Nat) (j : Nat) (x : WElem) : Val × Nat :=
  let d := b.d
  let p := b.m.wp
  let v := x.resolve rdn
  let fl := (if x.special = 0 ∧ x.inexact then fInexact else 0) ||| (if x.special = 3 then fInvalid else 0) ||| (if x.zsign = 0 ∧ x.special = 0 then fEmpty else 0)
  let (v, fl) := if mChscale d then
      let (c, fc, _) := readElem b.m.cFmt (chs.getD j 0)
      let (w, fw) := mulVal v c
      let (w, r) := roundW p w
      (w, fl ||| fc ||| fw ||| (if r then fInexact else 0))
    else (v, fl)
  let (v, fl) := if mBias d then
      let (c, fc, _) := readElem b.m.cFmt (bias.getD j 0)
      let (w, fw) := addVal v c rdn
      let (w, r) := roundW p w
      (w, fl ||| fc ||| fw ||| (if r then fInexact else 0))
    else (v, fl)
  let v := if mClip d && !v.isNan then
      let lo := b.m.clipLo
      let hi := b.m.clipHi
      let u := if ordVal true v lo == .lt then lo else v
      if ordVal true hi u == .lt then hi else u
    else v
  (v, fl)

/-- A converted row of a block: element bits, scale byte, flags, flush count, max-abs value. -/
structure RowOut where
  bits : List Nat
  scale : Nat
  flags : Nat
  flush : Nat
  maxabs : Nat
  deriving DecidableEq, Repr

/-- Row i of a block converted (R153, R155, R156, R88). -/
def convertRow (it : Item) (p : Nat) (b : BlockPlan) (bias chs : List Nat) (i : Nat) (row : List WElem) : RowOut :=
  let d := b.d
  let (r0, c0, nt) := b.m.mOrigin
  let ctl := fun j => rndCtl it p (mRnd d) (mOvf d) ((r0 + b.i0 + i) * nt + c0 + b.j0 + j)
  let rdn := rndMode it p (mRnd d) == 2
  let vs := row.mapIdx fun j x => stages b rdn bias chs j x
  let mx := vs.foldl (fun a v => max a (maxAbsBits v.1)) 0
  let fl := orFlags (vs.map (·.2))
  let notInt := (intBits b.m.a.fmt).isNone || (intBits b.m.b.fmt).isNone
  if b.m.o.scaled then
    let (sc, rs, fb) := encodeBlock b.m.o.fmt ctl (vs.map (·.1))
    ⟨rs.map (·.bits), sc, fl ||| fb ||| orFlags (rs.map (·.flags)), (rs.map (·.flush)).sum, mx⟩
  else
    let rs := vs.mapIdx fun j v => encodeVal b.m.o.fmt (ctl j) notInt v.1
    ⟨rs.map (·.bits), 0, fl ||| orFlags (rs.map (·.flags)), (rs.map (·.flush)).sum, mx⟩

/-- A row stored as partials (R128, R548). -/
def partialRow (p : Nat) (row : List WElem) : RowOut :=
  { bits := row.map (WElem.pack p), scale := 0, flags := orFlags (row.map fun x => (if x.special = 0 ∧ x.inexact then fInexact else 0) ||| (if x.special = 3 then fInvalid else 0)),
    flush := 0, maxabs := 0 }

/-- The tile register elements of a row (R148). -/
def State.putTreg (s : State) (p i : Nat) (es : List Nat) (poison : Bool) : State :=
  (es.mapIdx fun j e => (1024 * p + 32 * i + j, e)).foldl (fun s e =>
    { s with treg := FMap.setD s.treg e.1 0 e.2, tregC := if poison then FMap.del e.1 s.tregC else FMap.put e.1 () s.tregC }) s

/-- A row written: elements, scale byte, and its max-abs value in mode 0b10 (R155, R161, R162). -/
def State.writeRow (s : State) (p : Nat) (b : BlockPlan) (bj i : Nat) (r : RowOut) (poison : Bool) : State :=
  let d := b.d
  let row := b.i0 + i
  let s := if mTreg d then s.putTreg p row r.bits poison
    else s.storeBytes (b.m.o.addr + row * b.m.o.ld + b.j0 * b.m.bitsD / 8) (packElems b.m.bitsD r.bits) poison 0
  let s := if b.m.o.scaled then s.storePart (b.m.auxAddr 0x10 + row * mCols d + bj) (toBytes 1 r.scale) poison 0 else s
  if mMaxabs d = 2 then s.storePart (b.m.auxAddr 0x38 + 4 * (row * mCols d + bj)) (toBytes 4 r.maxabs) poison 0 else s

/-- The element bits of a row whose values are undefined. -/
def State.freeRow (s : State) (b : BlockPlan) : RowOut × State :=
  let (bs, s) := s.freeBytes (b.jN * 32 + 8)
  ({ bits := (List.range b.jN).map fun j => fieldAt bs (32 * j) 32 % 2 ^ b.m.bitsD, scale := fieldAt bs (b.jN * 32) 1, flags := 0, flush := 0
     maxabs := fieldAt bs (b.jN * 32 + 1) 4 }, s)

/-- The maximum folded into a word by the shared cache (R155, mode 0b11); a place without atomics ends the item (R275). -/
def State.atomicMax (s : State) (id a v : Nat) (poison : Bool) : State :=
  let ok := s.mapped a && !s.hitsRegion a 4 && (match s.regionOf a with
    | .stack _ => true
    | .rim _ => true
    | .window _ => true
    | _ => false)
  if !ok then s.failItem id Code.ADDR_UNMAPPED
  else
    let (_, s) := s.readLine (a / 64 * 64) 0
    let (old, p) := s.peekNat a 4
    s.storePart a (toBytes 4 (max old v)) (p || poison) 0

/-- The class word of a MATRIX item as its blocks and waits stand (Table 6-12). -/
def matWord (it : Item) : Nat := min (it.blocks.filter fun e => bit e.2 32).length 0xFFFF + 2 ^ 17 * b2n it.lbWaited

/-- The log entry of a MATRIX item's record of an invalid operation (R136). -/
def State.logInvalid (s : State) (id : Nat) : State :=
  match s.items.find? id with
  | some it =>
    if it.exc ≠ 0 ∧ s.flag R.ERL_CTL_INVALID_LOG then s.logAt Code.INVALID_OP (s.itemUnit it.desc) it.epoch 0 (it.exc + it.queue * 2 ^ 64) else s
  | none => s

/-- A MATRIX item that stops while it runs completes with its code; the record of the blocks computed so far stays (R135, R164). -/
def State.matFail (s : State) (id code p : Nat) : State :=
  (((s.logInvalid id).failItem id code).setFld R.TIL_MAT_STATUS_LAST_STATUS code (tix p)).endNow id

/-- BLOCK_EVC after a block: increments released in ascending block index (R386), once no write to another member is unacknowledged (R510), withheld by a gate (R238). -/
def State.blockEvc (s : State) (id : Nat) : State :=
  match s.items.find? id with
  | none => s
  | some it =>
    let n := ((List.range (mBlocks it.desc)).takeWhile fun n => (it.blocks.find? n).isSome).length - it.evcOut
    if !mBlockEvcEn it.desc || n = 0 || it.pendingRemote ≠ 0 || it.status ≠ 0 then s
    else
      let s := s.modItem id fun it => { it with evcOut := it.evcOut + n }
      if it.gate.isSome then s.modItem id fun it => { it with evc := it.evc ++ List.replicate n (mBlockEvc it.desc) }
      else s.evcAdd (mBlockEvc it.desc) n

/-- The record of a block's elements (R135, R136). -/
def blockRecord (b : BlockPlan) (rows : List (List WElem)) : Nat :=
  ((rows.mapIdx fun i row => (row.mapIdx fun j x => match x.candidate with
    | some f => invalidRecord (b.i0 + i) (b.j0 + j) f
    | none => 0).foldl firstRecord 0)).foldl firstRecord 0

/-- What the last block leaves: the max-abs value of the item and the log entry of its record (R136). -/
def State.matTail (s : State) (id : Nat) : State :=
  match s.items.find? id with
  | none => s
  | some it =>
    let d := it.desc
    if it.blocks.length < mBlocks d then s else
      let vals := it.blocks.map (·.2)
      let mx := vals.foldl (fun a v => max a (bits v 0 32)) 0
      let pz := vals.any fun v => bit v 32
      let s : State := match mMaxabs d with
        | 1 => (s.storePart (it.mat.auxAddr 0x38) (toBytes 4 mx) pz 0)
        | 3 => s.atomicMax id (it.mat.auxAddr 0x38) mx pz
        | _ => s
      s.logInvalid id

/-- One output block computed and written (R140 to R164); how often its next operands were not staged is a free value (R40). -/
def State.runBlock (s : State) (id n : Nat) : State :=
  match s.items.find? id with
  | none => s
  | some it =>
    let d := it.desc
    let b := s.blockPlan it n
    let p := s.blockTile d n
    let (bi, bj) := blockAt d n
    let reads := b.reads
    let writes := b.writes
    let side := (if b.m.o.scaled then [(b.m.auxAddr 0x10 + b.i0 * mCols d, (b.iN - 1) * mCols d + bj + 1)] else []) ++
      (if mMaxabs d = 0 then [] else [(b.m.auxAddr 0x38, mMaxBytes d)])
    if !(reads.all fun r => s.mappedRange r.1 r.2) || !((writes ++ side).all fun r => s.mappedRange r.1 r.2) then s.matFail id Code.ADDR_UNMAPPED p
    else if (writes ++ side).any fun r => s.hitsRegion r.1 r.2 then s.matFail id (if mMaxabs d = 3 && s.hitsRegion (b.m.auxAddr 0x38) 4 then Code.ADDR_UNMAPPED else Code.REGION_UNDECLARED) p
    else
      let (c, s) := s.fetchLines reads 0
      let sum := if mMerge d then blockMerge b c else blockProduct b c (bj == 0) (bi == 0)
      let col := fun (on : Bool) off => (b.perColumn on off).map fun r => fromLines c r.1 r.2
      let bias := col (mBias d) 0x18
      let chs := col (mChscale d) 0x20
      let poison := sum.poison || bias.any (·.2) || chs.any (·.2)
      if sum.malformed then (it.writtenRows.foldl State.undefine s).matFail id Code.MAT_FIELD p
      else
        let eb := fmtBits b.m.cFmt / 8
        let elemsOf := fun (l : List (List Byte × Bool)) => (l.flatMap (·.1)) |> wordsOf eb
        let cflush := if bi = 0 then ((elemsOf bias ++ elemsOf chs).filter (readsAsZero b.m.cFmt)).length else 0
        let rows := if mOutW d then sum.rows.map (partialRow b.m.wp) else sum.rows.mapIdx fun i row => convertRow it p b (elemsOf bias) (elemsOf chs) i row
        let s := if poison then
            let (w, s) := s.free
            let s := (List.range b.iN).foldl (fun s i =>
              let (r, s) := s.freeRow b
              s.writeRow p b bj i r true) s
            (s.modItem id fun it => { it with flags := it.flags ||| bits w.toNat 0 7 }).optPoison id b.m.o.addr
          else
            let s := (rows.mapIdx fun i r => (i, r)).foldl (fun s e => s.writeRow p b bj e.1 e.2 false) s
            s.addMarks id ⟨sum.flags ||| orFlags (rows.map (·.flags)), sum.flush + cflush + (rows.map (·.flush)).sum⟩
        let rec' : Nat := if poison then 0 else blockRecord b sum.rows
        let mx := rows.foldl (fun a r => max a r.maxabs) 0
        let before := it.blocks
        let s := s.modItem id fun it => { it with blocks := it.blocks.put n (mx + b2n poison * 2 ^ 32 + rec' * 2 ^ 33), exc := firstRecord it.exc rec' }
        let s := s.modItem id fun it => { it with classWord := matWord it }
        let s := s.setFld R.TIL_MAT_STATUS_LAST_STATUS 0 (tix p)
        let (w, s) := s.free
        let s := s.bumpSat R.TIL_MAT_STALL_OPERAND_STALLS (tix p) (bits w.toNat 0 16)
        let kb := (b.k1 + 31) / 32 - b.k0 / 32
        let s := if mMerge d then s else s.bump R.TIL_MAT_STEPS_STEPS (tix p) (kb * blockSteps b.m.a.fmt b.m.b.fmt (mExact d))
        let mine := (before.filter fun e => s.blockTile d e.1 == p).foldl (fun a e => firstRecord a (e.2 / 2 ^ 33)) rec'
        let s := if rec' = 0 then s else s.setFld R.TIL_MAT_EXC_RECORD mine (tix p)
        let s := (s.blockEvc id).matTail id
        match s.items.find? id with
        | some it => if it.status ≠ 0 then (s.setFld R.TIL_MAT_STATUS_LAST_STATUS it.status (tix p)).endNow id else s
        | none => s

/-- The byte range of piece `n` of a bound operand, as an offset in the buffer (R158, R394). -/
def pieceRange (m : MDesc) (isB : Bool) (n : Nat) : Nat × Nat :=
  let o := if isB then m.b else m.a
  let d := m.d
  let len := 32 * 2 ^ lbPiece d isB
  let k0 := min (n * len) (mK d)
  let k1 := min (k0 + len) (mK d)
  let w := fmtBits o.fmt
  let xn := if isB then mN d else mM d
  let kRows := if isB then !o.trans else o.trans
  if k1 ≤ k0 then (o.addr, 0)
  else if kRows then (o.addr + k0 * o.ld, (k1 - k0 - 1) * o.ld + rowBytes w xn)
  else (o.addr + k0 * w / 8, (xn - 1) * o.ld + rowBytes w (k1 - k0))

/-- The arrival flag of a piece (R394). -/
def State.pieceHere (s : State) (m : MDesc) (isB : Bool) (n : Nat) : Bool :=
  let g := lbGroup m.d isB
  let sl := s.slot g (lbBucket m.d isB)
  match s.groups.find? g with
  | none => false
  | some gr =>
    let r := pieceRange m isB n
    (List.range gr.n).all fun c =>
      let lo := elemBytes sl.fmt (chunkLo sl.countE gr.n c)
      let len := elemBytes sl.fmt (chunkLen sl.countE gr.n c)
      !overlaps r.1 r.2 lo len || (FMap.find? c sl.landed).isSome

/-- The first piece, in the order blocks are consumed, that an item's span needs and that has not arrived: twice its number, plus 1 for B. -/
def State.missingPiece (s : State) (it : Item) : Option Nat :=
  let m := it.mat
  let (k0, k1) := kSpan it.desc
  ((List.range ((k1 + 31) / 32 - k0 / 32)).flatMap fun i =>
    let b := k0 / 32 + i
    (if m.a.lb then [2 * (b / 2 ^ lbPiece it.desc false)] else []) ++ (if m.b.lb then [2 * (b / 2 ^ lbPiece it.desc true) + 1] else [])).find?
      fun x => !s.pieceHere m (x % 2 == 1) (x / 2)

/-- The engine waits on the next missing piece, or goes on (R158). -/
def State.awaitPiece (s : State) (id : Nat) : State :=
  match s.items.find? id with
  | none => s
  | some it =>
    match s.missingPiece it with
    | none => s.modItem id fun it => { it with waitPiece := none }
    | some x =>
      let p := s.blockTile it.desc it.blocks.length
      ((s.modItem id fun it => { it with waitPiece := some x, lbWaited := true }).modItem id fun it => { it with classWord := matWord it }).bumpSat R.TIL_MAT_STALL_LB_WAITS (tix p)

/-- The slot holds the bucket an operand names, claimed by a step or by a peer's stream (R157). -/
def State.slotHere (s : State) (d : Desc) (isB : Bool) : Bool := s.holdsBucket (lbGroup d isB) (lbBucket d isB) (lbGen d isB)

/-- The abort record of a bucket that an operand names and no slot holds (R376). -/
def State.abortHere (s : State) (d : Desc) (isB : Bool) : Option Nat := s.keptAbort (lbGroup d isB) (lbBucket d isB) (lbGen d isB)

/-- A binding that fails: no group, a reduction, the block-scaled wire, too small a buffer (R157). -/
def State.bindBad (s : State) (m : MDesc) (isB : Bool) : Bool :=
  let d := m.d
  let o := if isB then m.b else m.a
  match s.groups.find? (lbGroup d isB) with
  | none => true
  | some gr =>
    let sl := s.slot (lbGroup d isB) (lbBucket d isB)
    let r := boundRange o.addr o.ld (fmtBits o.fmt) (if isB then m.shapeB else m.shapeA)
    decide (sl.op ≤ 1) || sl.wire == 1 || decide (lbBytes gr < r.1 + r.2)

/-- The slots of a MATRIX item bound when all are there (R157, R159).
DESIGN CHOICE (log 35): with two LB operands both are judged and bound together, once every bucket has its slot. -/
def State.bindSlots (s : State) (id : Nat) : State :=
  match s.items.find? id with
  | none => s
  | some it =>
    let m := it.mat
    let d := it.desc
    let opds := m.lbOpds
    if s.lbGroupless m then (s.failItem id Code.MAT_LB_BIND).endNow id
    else if opds.any fun b => (s.abortHere d b).isSome then
      (s.modItem id fun it => { it with status := Code.COLL_ABORT, exc := (opds.findSome? (s.abortHere d)).getD 0 }).endNow id
    else if opds.any fun b => !s.slotHere d b then s
    else if opds.any (s.bindBad m) then (s.failItem id Code.MAT_LB_BIND).endNow id
    else
      match opds.find? fun b => s.fld R.COL_SLOT_W0_STATE (slotIx (lbGroup d b) (lbBucket d b)) == 3 with
      | some b => (s.modItem id fun it => { it with status := Code.COLL_ABORT, exc := (s.slot (lbGroup d b) (lbBucket d b)).abort }).endNow id
      | none =>
        let keys := opds.map fun b => slotKey (lbGroup d b) (lbBucket d b)
        let s := keys.foldl (fun s k => s.bump R.COL_SLOT_W1_BOUND [k / 32, k % 32]) s
        (s.modItem id fun it => { it with phase := .running, bound := keys }).awaitPiece id

/-- A checked MATRIX item runs once its far operand lines are here and its slots are bound. -/
def State.matGo (s : State) (id : Nat) : State :=
  match s.items.find? id with
  | none => s
  | some it =>
    let miss := s.missingLines it.remote (s.mReads it.mat)
    if it.status ≠ 0 then s.endNow id
    else if !miss.isEmpty then (if it.pendingRemote = 0 then s.askLines (.item id) miss else s)
    else if it.mat.lbOpds.isEmpty then s.modItem id fun it => { it with phase := .running }
    else s.asItem id fun s => s.bindSlots id

/-- A MATRIX item starts, or goes on once its far lines have arrived: a far auxiliary block is read once, with the checks that need it; then operands and bindings (R144, R157). -/
def State.matStart (s : State) (id : Nat) : State :=
  match s.items.find? id with
  | none => s
  | some it =>
    let d := it.desc
    let miss := s.missingLines it.remote (if mAuxValid d then [(mAux d, 128)] else [])
    if it.aux.isSome then s.matGo id
    else if !miss.isEmpty then (if it.pendingRemote = 0 ∧ it.status = 0 then s.askLines (.item id) miss else s)
    else if it.status ≠ 0 then s.endNow id
    else
      let a := ofBytes ({ s with mem := { s.mem with remote := it.remote } }.peek (mAux d) 128).1
      let s := s.modItem id fun it => { it with aux := some a }
      let v := { s with mem := { s.mem with remote := it.remote } }.matVerdict2 { it with aux := some a }.mat
      if v = Verdict.run then s.matGo id
      else
        ((if v.status = Code.POISON_CONSUMED then s.logPoison 0x06 (s.itemUnit d) it.queue (mAux d) it.place else s).modItem id fun it => { it with status := v.status, exc := v.exc, frozenSkip := v.skip, classWord := 2 ^ 16 * b2n v.skip }).endNow id

/-- LB_SLOT_BIND: a waiting item binds to the slot that has come to hold its bucket (R157). -/
def execLbSlotBind (item : Nat) (s : State) : Host.Outcome State Fault Refusal :=
  match s.items.find? item with
  | some it =>
    if s.up && hClass it.desc == 1 && it.phase == .waiting && !it.mat.lbOpds.isEmpty && !s.job.running then .next (s.matStart item) else .next s
  | none => .next s

/-- LB_PIECE_READY: the piece a waiting engine needs has arrived (R158). -/
def execLbPieceReady (item : Nat) (piece : Nat) (s : State) : Host.Outcome State Fault Refusal :=
  match s.items.find? item with
  | some it =>
    match it.waitPiece with
    | some x => if s.up && x / 2 == piece && s.pieceHere it.mat (x % 2 == 1) (x / 2) then .next (s.awaitPiece item) else .next s
    | none => .next s
  | none => .next s

/-- MATRIX_BLOCK_DONE: an output block's root is complete, converted and written (R153, R161, R164). -/
def execMatrixBlockDone (item : Nat) (block : Nat) (s : State) : Host.Outcome State Fault Refusal :=
  match s.items.find? item with
  | some it =>
    if s.up && hClass it.desc == 1 && it.phase == .running && it.status == 0 && it.waitPiece.isNone && decide (block < mBlocks it.desc) &&
        (it.blocks.find? block).isNone && !s.job.tilesOff then
      .next (s.asItem item fun s => s.runBlock item block)
    else .next s
  | none => .next s

end Sys2Proof.Machine
end

