-- ==== Sys2Proof/Machine/Reed.lean ====
section
/-! DEFINITION. A reed core (07): its registers with their poison (R181 to R183), what it may access (R167), how an instruction ends, traps and stops (R178, R179), exits (R177, R180), plait links (R205 to R210). -/

namespace Sys2Proof.Machine
open Sys2Proof

/-- A core's record replaced. -/
def State.setReed (s : State) (c : Nat) (r : Reed) : State := { s with reeds := s.reeds.put c r }

/-- x[n], 64 bits; x0 reads 0. -/
def Reed.gx (r : Reed) (n : Nat) : Nat := if n = 0 then 0 else r.x.getD n 0 % 2 ^ 64
/-- Poison of x[n]. -/
def Reed.gxp (r : Reed) (n : Nat) : Bool := n != 0 && (FMap.find? n r.xp).isSome
/-- x[n] written; a write to x0 is discarded. -/
def Reed.sx (r : Reed) (n v : Nat) (poison : Bool) : Reed :=
  if n = 0 then r else { r with x := FMap.setD r.x n 0 (v % 2 ^ 64), xp := if poison then FMap.put n () r.xp else FMap.del n r.xp }

/-- The 512 bits of v[n]. -/
def Reed.gv (r : Reed) (n : Nat) : Nat := r.v.getD n 0
/-- Poison of the eight granules of v[n]. -/
def Reed.gvp (r : Reed) (n : Nat) : Nat := r.vp.getD n 0
/-- All of v[n] written with its granules' poison. -/
def Reed.sv (r : Reed) (n v vp : Nat) : Reed :=
  { r with v := FMap.setD r.v n 0 (v % 2 ^ 512), vp := FMap.setD r.vp n 0 (vp % 256) }

/-- f[n] and its poison (R181). -/
def Reed.gf (r : Reed) (n : Nat) : Nat := bits (r.gv n) 0 64
/-- Poison of f[n]. -/
def Reed.gfp (r : Reed) (n : Nat) : Bool := bit (r.gvp n) 0
/-- f[n] written: the rest of v[n] is zeroed (R181). -/
def Reed.sf (r : Reed) (n v : Nat) (poison : Bool) : Reed := r.sv n (v % 2 ^ 64) (b2n poison)

/-- p[n]; p0 reads as all ones (R182). -/
def Reed.gp (r : Reed) (n : Nat) : Nat := if n = 0 then 2 ^ 64 - 1 else r.p.getD n 0
/-- Poison of p[n]. -/
def Reed.gpp (r : Reed) (n : Nat) : Bool := n != 0 && (FMap.find? n r.pp).isSome
/-- p[n] written; a write to p0 is discarded. -/
def Reed.sp (r : Reed) (n v : Nat) (poison : Bool) : Reed :=
  if n = 0 then r else { r with p := FMap.setD r.p n 0 (v % 2 ^ 64), pp := if poison then FMap.put n () r.pp else FMap.del n r.pp }

/-- Element i of v[n] at width w. -/
def Reed.el (r : Reed) (n w i : Nat) : Nat := bits (r.gv n) (w * i) w
/-- Poison of element i of v[n] at width w: that of its granule. -/
def Reed.elp (r : Reed) (n w i : Nat) : Bool := bit (r.gvp n) (w * i / 64)

/-- Elements written: index, value, poison. A granule is poisoned when an element in it is; a granule written in part keeps its old poison (R183). -/
def Reed.setEls (r : Reed) (n w : Nat) (es : List (Nat × Nat × Bool)) : Reed :=
  let v := es.foldl (fun v e => putBits v (w * e.1) w e.2.1) (r.gv n)
  let vp := (List.range 8).foldl (fun m g =>
    let mine := es.filter fun e => w * e.1 / 64 == g
    if mine.isEmpty then m
    else putBit m g (mine.any (·.2.2) || (decide (mine.length < 64 / w) && bit m g))) (r.gvp n)
  r.sv n v vp

/-- Predicate bits written: index, value; the register's poison (R183). -/
def Reed.setPreds (r : Reed) (n : Nat) (es : List (Nat × Bool)) (poison : Bool) : Reed :=
  if es.isEmpty then r
  else r.sp n (es.foldl (fun v e => putBit v e.1 e.2) (r.gp n)) (poison || (decide (es.length < 64) && r.gpp n))

/-- Physical tile of a core, and its number in the tile. -/
def coreTile (c : Nat) : Nat := c / 8
/-- Number of a core in its tile. -/
def coreNo (c : Nat) : Nat := c % 8

/-- A window of a launch descriptor (Table 7-3): base, end, rights (R, W, X in bits 0 to 2). -/
def window (d : Desc) (i : Nat) : Nat × Nat × Nat := (dsc d (0x50 + 16 * i) 0 48, dsc d (0x58 + 16 * i) 0 48, dsc d (0x50 + 16 * i) 48 3)

/-- A window grants a right (bit 0 R, 1 W, 2 X) on a byte. -/
def inWindow (d : Desc) (right a : Nat) : Bool :=
  (List.range 3).any fun i => let w := window d i; bit w.2.2 right && decide (w.1 ≤ a ∧ a < w.2.1)

/-- A kernel may access a byte: its own tile's store, or a window with the right, never register space (R167). -/
def State.mayAccess (s : State) (d : Desc) (p right a : Nat) : Bool :=
  match s.regionOf a with
  | .regs _ => false
  | .tile q o => (q == p && decide (o < 2 ^ 21) && right != 2) || inWindow d right a
  | _ => inWindow d right a

/-- A core and the item it runs. -/
structure RC where
  c : Nat
  id : Nat
  it : Item
  r : Reed
  deriving DecidableEq, Repr

/-- The tile of a core. -/
def RC.tile (k : RC) : Nat := coreTile k.c

/-- How an instruction ends. -/
inductive Step' where
  /-- The next instruction follows; the issue steps it took (Table 7-12). -/
  | next (s : State) (r : Reed) (cost : Nat)
  | jump (s : State) (r : Reed) (pc : Nat)
  /-- An exception: cause and TVAL (R178). -/
  | trap (s : State) (cause tval : Nat)
  /-- Poison consumed at a site of Table 11-6 (R183, R302). -/
  | poison (s : State) (site tval : Nat)
  /-- The item is stopped with a status: unmapped memory (R5), a store to a region element (R282), an unreachable member (R342). -/
  | stop (s : State) (code : Nat)
  | exit (s : State) (code : Nat)
  /-- The core blocks (R199, R206). -/
  | block (s : State) (r : Reed) (b : Blocked)
  /-- Lines of other members have been asked for; the instruction has not been performed. -/
  | wait (s : State)

/-- The cores of a tile that run an item. -/
def coresOn (it : Item) (p : Nat) : List Nat := it.live.filter fun c => coreTile c == p

/-- Key of link k of a tile's chain. -/
def fifoKey (p k : Nat) : Nat := 8 * p + k

/-- The entries of a link, oldest first. -/
def State.fifo (s : State) (p k : Nat) : List (Nat × Nat) := s.fifos.getD (fifoKey p k) []

/-- The entries of a link replaced; FILL shows their number (Table 8-5). -/
def State.setFifo (s : State) (p k : Nat) (l : List (Nat × Nat)) : State :=
  let s := { s with fifos := FMap.setD s.fifos (fifoKey p k) [] l }
  s.setFld R.TIL_PLAIT_STATUS_FILL (putBits (s.fld R.TIL_PLAIT_STATUS_FILL (tix p)) (4 * k) 4 l.length) (tix p)

/-- The entries left on a tile's links are discarded and counted (R210). -/
def State.teardown (s : State) (d : Desc) (p : Nat) : Nat × State :=
  let links := List.range (plaitStages d - 1)
  let n := (links.map fun k => (s.fifo p k).length).sum
  let s := links.foldl (fun s k => s.setFifo p k []) s
  (n, (s.setFld R.TIL_PLAIT_STATUS_RESIDUE n (tix p)).setFlag R.TIL_PLAIT_STATUS_ACTIVE false (tix p))

/-- The exits of a launch: FXSAT in bit 0, the exit code that the class word shows above it, then its instance. -/
def exitCode (e : Nat) : Nat := bits e 1 16
/-- The instance of the exit code kept. -/
def exitInst (e : Nat) : Nat := e / 2 ^ 17

/-- What a core's VFLAGS and VFLUSH add to its item (R180). OVERFLOW of any instruction counts in an item without GATE (R240); a gate group looks at output conversions and regions alone (R239, log 123). -/
def Item.withFlags (it : Item) (r : Reed) : Item :=
  { it with overflow := it.overflow || (it.gate.isNone && hasFlag r.vflags fOverflow), flags := it.flags ||| bits r.vflags 0 8, flush := it.flush + r.vflush, exits := it.exits ||| b2n (bit r.vflags 8) }

/-- A core is free again: its instance has ended. -/
def State.freeCore (s : State) (c : Nat) : State :=
  let r := s.reed c
  { s with reeds := s.reeds.put c { Reed.zero with steps := r.steps, mepc := r.mepc, mcause := r.mcause, mtval := r.mtval }
           mem := { s.mem with remote := FMap.keep (fun k _ => !(decide (2 ^ 60 * (c + 1) ≤ k) && decide (k < 2 ^ 60 * (c + 2)))) s.mem.remote } }

/-- The tiles an item's instances run on. -/
def itemTiles (it : Item) : List Nat := (it.live.map coreTile).eraseDups

/-- A launch all of whose instances are gone: status on its tiles, completion once its remote stores are acknowledged (R180). -/
def State.launchOver (s : State) (id : Nat) : State :=
  match s.items.find? id with
  | none => s
  | some it => if it.live.isEmpty ∧ it.pendingRemote = 0 then s.endNow id else s

/-- Instances of the item go on: nothing has stopped it, though a chain of another tile may have left entries behind (R210). -/
def Item.goesOn (it : Item) : Bool := it.status == 0 || it.status == Code.PLAIT_RESIDUE

/-- Every instance of a launch stopped at an instruction boundary; its status is that of R178 or R179 even where a chain has already ended with entries left (R210).
DESIGN CHOICE (log 135): LAST_STATUS changes on the tiles with live cores only. -/
def State.stopLaunch (s : State) (id code classWord : Nat) : State :=
  match s.items.find? id with
  | none => s
  | some it =>
    let tiles := itemTiles it
    let s := it.live.foldl (fun s c => (s.modItem id fun it => it.withFlags (s.reed c)).freeCore c) s
    let s := if hClass it.desc = 3 then tiles.foldl (fun s p => (s.teardown it.desc p).2) s else s
    let s := tiles.foldl (fun s p => s.setFld R.TIL_REED_STATUS_LAST_STATUS code (tix p)) s
    let s := s.modItem id fun it => { it with live := [], phase := .running, status := if it.goesOn then code else it.status
                                              classWord := classWord + 2 ^ 29 * b2n (bit it.exits 0) }
    s.launchOver id

/-- The reed monitor records a trap or a use of poison, and stops the launch (R178, Table 7-16). -/
def State.reedTrap (s : State) (k : RC) (cause tval code : Nat) : State :=
  let p := k.tile
  let ix := tix p
  let s := if s.flag R.TIL_REED_TRAP_VALID ix then s else
    let s := s.setFld R.TIL_REED_TRAP_PC (k.r.pc % 2 ^ 48) ix
    let s := s.setFld R.TIL_REED_TRAP_CAUSE cause ix
    let s := s.setFld R.TIL_REED_TRAP_CORE (coreNo k.c) ix
    let s := s.setFld R.TIL_REED_TRAP_VALID 1 ix
    s.setFld R.TIL_REED_TVAL_TVAL tval ix
  let s := s.setReed k.c { s.reed k.c with mepc := k.r.pc, mcause := cause, mtval := tval }
  s.stopLaunch k.id code (k.r.inst * 2 ^ 16)

/-- Link k of a tile's chain that a core's stage sends on, and receives on. -/
def RC.stage (k : RC) : Nat := coreNo k.c - plaitFirst k.it.desc

/-- A core waits on a link whose other stage has exited: a PLRECV with nothing to receive, a PLSEND with no room (R209). -/
def State.partnerGone (s : State) (id : Nat) (it : Item) (p : Nat) : Option RC :=
  if hClass it.desc ≠ 3 then none
  else ((coresOn it p).map fun c => ({ c := c, id := id, it := it, r := s.reed c } : RC)).find? fun k =>
    match k.r.blocked with
    | .recv _ => (s.fifo p (k.stage - 1)).isEmpty && !it.live.contains (k.c - 1)
    | .send _ _ => decide (8 ≤ (s.fifo p k.stage).length) && !it.live.contains (k.c + 1)
    | _ => false

/-- An instance exits (R177); the last one ends the launch (R180, R210). -/
def State.reedExit (s : State) (k : RC) (code : Nat) : State :=
  let p := k.tile
  let s := s.modItem k.id fun it =>
    let it := it.withFlags k.r
    let old := it.exits
    let better := code % 65536 != 0 && (exitCode old == 0 || decide (k.r.inst < exitInst old))
    { it with live := it.live.filter (· != k.c)
              exits := if better then old % 2 + 2 * (code % 65536) + 2 ^ 17 * k.r.inst else old }
  let s := s.freeCore k.c
  match s.items.find? k.id with
  | none => s
  | some it =>
    let s := if hClass it.desc = 3 ∧ (coresOn it p).isEmpty then
        let (n, s) := s.teardown it.desc p
        if n = 0 then s else s.failItem k.id Code.PLAIT_RESIDUE
      else s
    let s := if (coresOn it p).isEmpty then s.setFld R.TIL_REED_STATUS_LAST_STATUS (((s.items.find? k.id).map (·.status)).getD 0) (tix p) else s
    let s := s.modItem k.id fun it => { it with
      classWord := (if it.status = 0 then exitCode it.exits + 2 ^ 16 * exitInst it.exits else 0) + 2 ^ 29 * b2n (bit it.exits 0) }
    match s.items.find? k.id with
    | none => s
    | some it => match s.partnerGone k.id it p with
      | some j => s.reedTrap j 0x19 0 Code.REED_TRAP
      | none => s.launchOver k.id

/-- The far lines a core has received, by address / 64. -/
def State.coreLines (s : State) (c : Nat) : FMap (List Byte × Nat) :=
  (s.mem.remote.filter fun e => decide (2 ^ 60 * (c + 1) ≤ e.1 ∧ e.1 < 2 ^ 60 * (c + 2))).map fun e => (e.1 - 2 ^ 60 * (c + 1), e.2)

/-- The far lines a core has used are dropped. -/
def State.dropLines (s : State) (k : RC) (s0 : State) : State :=
  let own := s0.coreLines k.c
  if own.isEmpty then s
  else { s with mem := { s.mem with remote := FMap.keep (fun key _ => decide (2 ^ 60 ≤ key) && !(decide (2 ^ 60 * (k.c + 1) ≤ key) && decide (key < 2 ^ 60 * (k.c + 2)))) s.mem.remote } }

/-- What the end of an instruction does to the core (PRESUMED, log 54: TVAL of consumed poison is the instruction word); every instruction issued takes its step, whatever it ends in (R169, R178, R183, R199, R206). -/
def State.finish (s0 : State) (k : RC) (e : Step') : State :=
  let count := fun (s : State) => s.bump R.TIL_REED_STEPS_STEPS (tix k.tile)
  let last := fun (s : State) => (count s).setReed k.c { s.reed k.c with steps := k.r.steps + 1 }
  match e with
  | .next s r cost => ((count s).dropLines k s0).setReed k.c { r with pc := (r.pc + 4) % 2 ^ 64, steps := r.steps + cost, blocked := .no }
  | .jump s r pc => ((count s).dropLines k s0).setReed k.c { r with pc := pc % 2 ^ 64, steps := r.steps + 1, blocked := .no }
  | .trap s cause tval => (last s).reedTrap k cause tval Code.REED_TRAP
  | .poison s site tval =>
    let s := (last s).log Code.POISON_CONSUMED (tileUnit k.tile) 0 (poisonDetail site (coreNo k.c) k.r.inst k.it.queue k.r.pc)
    s.reedTrap k 0x18 tval Code.POISON_CONSUMED
  | .stop s code => (last s).stopLaunch k.id code 0
  | .exit s code => (last s).reedExit k code
  | .block s r b => s.setReed k.c { r with blocked := b }
  | .wait s => s

/-- The core that would issue its next instruction: its instance runs and is not blocked. -/
def State.runningCore (s : State) (c : Nat) : Option RC :=
  let r := s.reed c
  match r.item with
  | none => none
  | some id => match s.items.find? id with
    | some it => if s.up && !s.job.tilesOff && it.phase == .running && it.goesOn && it.live.contains c then some ⟨c, id, it, r⟩ else none
    | none => none

/-- One instruction issued by a core, with its word for TVAL; the fetch needs X, and a place that is there (R5, R167). -/
def State.issue (s : State) (c : Nat) (body : RC → State → Step') : State :=
  match s.runningCore c with
  | none => s
  | some k =>
    if k.r.blocked != .no then s
    else if !s.mayAccess k.it.desc k.tile 2 k.r.pc then s.finish k (.trap s 1 k.r.pc)
    else if !s.mapped k.r.pc then s.finish k (.stop s Code.ADDR_UNMAPPED)
    else s.finish k (body k s)

/-- A core has asked for lines that have not come yet. -/
def State.coreAsking (s : State) (c : Nat) : Bool :=
  s.reqs.any (fun e => e.2.waiter == .core c) || s.pcieReqs.any fun e => e.2.waiter == .core c

/-- What a core reads: `body` sees the far lines it needs; they are asked for first (R511). -/
def State.withLines (s : State) (k : RC) (rs : List (Nat × Nat)) (body : State → Step') (die : Option Nat := none) : Step' :=
  let have' := s.coreLines k.c
  let far := (rangeLines rs).filter s.farLine
  let missing := far.filter fun a => (have'.find? (a / 64)).isNone
  if far.isEmpty then body s
  else if far.any fun a => match have'.find? (a / 64) with
      | some l => l.2 == 256
      | none => false then .stop s Code.REMOTE_UNREACHABLE
  else if far.any fun a => match have'.find? (a / 64) with
      | some l => l.2 == 257
      | none => false then .stop s Code.ADDR_UNMAPPED
  else if !missing.isEmpty then (if s.coreAsking k.c then .wait s else .wait (s.askLines (.core k.c) missing die))
  else
    let rest := FMap.keep (fun key _ => !(decide (2 ^ 60 * (k.c + 1) ≤ key) && decide (key < 2 ^ 60 * (k.c + 2)))) s.mem.remote
    body { s with mem := { s.mem with remote := have' ++ rest } }

/-- A core about to issue `n` narrow requests: at the limit of its die it waits (R266, R267). -/
def State.narrowGate (s : State) (k : RC) (n : Nat) (go : State → Step') : Step' :=
  let die := k.c / 1152
  if (s.waiting.find? k.c).isSome then .wait s
  else if n ≠ 0 ∧ 4096 < s.narrowOut' die + n then
    .wait ({ s with waiting := s.waiting.put k.c { age := s.ageStamp, tile := k.tile, src := coreNo k.c, stale := false } }.bumpSat R.SCA_NARROW_FULL_WAITS [die])
  else go s

/-- What a core reads by the narrow path (R266, R267). -/
def State.withNarrow (s : State) (k : RC) (rs : List (Nat × Nat)) (body : State → Step') : Step' :=
  let new := ((rangeLines rs).filter s.farLine).filter fun a => ((s.coreLines k.c).find? (a / 64)).isNone
  s.narrowGate k (if s.coreAsking k.c then 0 else new.length) fun s => s.withLines k rs body (some (k.c / 1152))

/-- The first access of a list (address, bytes) that faults, as cause and address: alignment first, then rights; `right` 0 load, 1 store. -/
def State.accessFault (s : State) (k : RC) (right : Nat) (align : Bool) (as : List (Nat × Nat)) : Option (Nat × Nat) :=
  as.findSome? fun a =>
    if align && decide (a.1 % a.2 ≠ 0) then some (if right = 0 then 4 else 6, a.1)
    else if !((List.range a.2).all fun i => s.mayAccess k.it.desc k.tile right (a.1 + i)) then some (if right = 0 then 5 else 7, a.1)
    else none

/-- The part of a store that falls in a line of the data cache, written into it: a whole word takes the store's poison, a part of one keeps its own as well (R171, R552). -/
def cachePut (a : Nat) (data : List Byte) (poison : Bool) (e : Nat × List Byte × Nat) : Nat × List Byte × Nat :=
  let lo := max a e.1
  let hi := min (a + data.length) (e.1 + 64)
  if hi ≤ lo then e else
    let words := (List.range 8).filter fun i => decide (lo < e.1 + 8 * i + 8) && decide (e.1 + 8 * i < hi)
    let whole := fun i => decide (lo ≤ e.1 + 8 * i) && decide (e.1 + 8 * i + 8 ≤ hi)
    (e.1, splice e.2.1 (lo - e.1) ((data.drop (lo - a)).take (hi - lo)), words.foldl (fun m i => putBit m i (poison || (!whole i && bit m i))) e.2.2)

/-- What a launch has written, kept while it is in flight (R537). -/
def State.noteWrite (s : State) (id : Nat) (r : Nat × Nat) : State :=
  let w : FMap (List (Nat × Nat)) := s.mem.wrote.filter fun e => (s.items.find? e.1).isSome
  let old := w.getD id []
  { s with mem := { s.mem with wrote := if old.contains r then w else w.put id (r :: old) } }

/-- Data stored by a core: memory, and every matching line of its data cache (R171). -/
def State.coreStore (s : State) (k : RC) (r : Reed) (a : Nat) (data : List Byte) (poison : Bool) (src : Nat) : State × Reed :=
  let s := s.asNarrow (if src = 2 then some (k.c / 1152) else none) fun s => { s with mem := { s.mem with cur := .item k.id } }.storeBytes a data poison src
  let s := { s with mem := { s.mem with cur := .none } }.noteWrite k.id (s.localAddr a, data.length)
  (s, { r with dcache := r.dcache.map (cachePut a data poison) })

end Sys2Proof.Machine
end

