-- ==== Sys2Proof/Machine/VecInt.lean ====
section
/-! DEFINITION. Osier instructions: issue and checks (R185, R186, R197), integer and fixed point (Tables 7-5, 7-6, 7-9), predicates and permutes (Table 7-11), compress and expand (R211 to R213). -/

namespace Sys2Proof.Machine
open Sys2Proof

/-- The word of an Osier instruction (Table 7-7). -/
def vword (f : VFields) (opcode f5 : Nat) : Nat :=
  opcode + f.vd * 2 ^ 7 + f.pg * 2 ^ 12 + f.s1 * 2 ^ 15 + f.s2 * 2 ^ 20 + f.ew * 2 ^ 25 + f5 * 2 ^ 27

/-- The custom opcodes. -/
abbrev custom0 : Nat := 0x0B
abbrev custom1 : Nat := 0x2B
abbrev custom2 : Nat := 0x5B
abbrev custom3 : Nat := 0x7B

/-- Element width of the integer coding. -/
def ewBits (ew : Nat) : Nat := 8 * 2 ^ ew

/-- Element width of the floating-point coding. -/
def fpEwBits (ew : Nat) : Nat := match ew with
  | 0 => 16
  | 1 => 16
  | 2 => 32
  | _ => 64

/-- The format of the floating-point coding: BF16, FP16, FP32, FP64. -/
def fpEwFmt (ew : Nat) : Nat := match ew with
  | 0 => 2
  | 1 => 3
  | 2 => 1
  | _ => 0

/-- One Osier instruction: illegal when `bad` holds of its fields (R197). -/
def State.osier (s : State) (c opcode f5 : Nat) (f : VFields) (bad : RC → Bool) (body : RC → State → Step') : State :=
  s.issue c fun k s => if bad k then .trap s 2 (vword f opcode f5) else body k s

/-- An instruction that acts on elements at an operating width: illegal when vl exceeds VLMAX, nothing when vl is 0 (R185, R186). -/
def State.osierW (s : State) (c opcode f5 w : Nat) (f : VFields) (bad : RC → Bool) (body : RC → State → Step') : State :=
  s.osier c opcode f5 f (fun k => bad k || decide (512 < w * k.r.vl)) fun k s => if k.r.vl = 0 then .next s k.r 1 else body k s

/-- Element e is active (R186). -/
def RC.on (k : RC) (f : VFields) (e : Nat) : Bool := decide (e < k.r.vl) && bit (k.r.gp f.pg) e

/-- The active elements. -/
def RC.actives (k : RC) (f : VFields) : List Nat := (List.range k.r.vl).filter (k.on f)

/-- Sticky flags of an instruction's results (R188, R193). -/
def Reed.addFlags (r : Reed) (flags flush : Nat) (fxsat : Bool) : Reed :=
  { r with vflags := r.vflags ||| flags ||| (if fxsat then 256 else 0), vflush := min (r.vflush + flush) (2 ^ 32 - 1) }

/-- A result per active element from elements of vs1 and vs2: value, and whether it saturated. -/
def RC.intOp (k : RC) (f : VFields) (w : Nat) (op : Nat → Nat → Nat × Bool) (s : State) : Step' :=
  let r := k.r
  let pz := r.gpp f.pg
  let res := (k.actives f).map fun e => (e, op (r.el f.s1 w e) (r.el f.s2 w e), r.elp f.s1 w e || r.elp f.s2 w e || pz)
  .next s ((r.setEls f.vd w (res.map fun x => (x.1, x.2.1.1, x.2.2))).addFlags 0 0 (res.any (·.2.1.2))) 1

/-- An integer instruction of two sources. -/
def State.vInt (s : State) (c f5 : Nat) (f : VFields) (op : Nat → Nat → Nat → Nat) : State :=
  let w := ewBits f.ew
  s.osierW c custom1 f5 w f (fun _ => false) fun k s => k.intOp f w (fun a b => (op w a b, false)) s

/-- Results in a predicate: bits of the active elements, from elements at width w. -/
def RC.cmpOp (k : RC) (f : VFields) (w : Nat) (op : Nat → Nat → Bool) (flags flush : Nat) (s : State) : Step' :=
  let r := k.r
  let act := k.actives f
  let pz := r.gpp f.pg || act.any fun e => r.elp f.s1 w e || r.elp f.s2 w e
  .next s ((r.setPreds (f.vd % 8) (act.map fun e => (e, op (r.el f.s1 w e) (r.el f.s2 w e))) pz).addFlags flags flush false) 1

/-- An integer comparison. -/
def State.vIntCmp (s : State) (c f5 : Nat) (f : VFields) (op : Nat → Nat → Nat → Bool) : State :=
  let w := ewBits f.ew
  s.osierW c custom1 f5 w f (fun _ => decide (8 ≤ f.vd)) fun k s => k.cmpOp f w (op w) 0 0 s

/-- Saturation to the signed range. -/
def satS (w : Nat) (x : Int) : Nat × Bool :=
  if x < -(2 ^ (w - 1) : Nat) then (2 ^ (w - 1), true) else if (2 ^ (w - 1) : Nat) ≤ x then (2 ^ (w - 1) - 1, true) else (wrapInt w x, false)

/-- Saturation to the unsigned range. -/
def satU (w : Nat) (x : Int) : Nat × Bool := if x < 0 then (0, true) else if (2 ^ w : Nat) ≤ x then (2 ^ w - 1, true) else (x.toNat, false)

/-- A rounded right shift (R192). -/
def fxShift (mode : Nat) (v : Int) (d : Nat) : Int :=
  if d = 0 then v else
    let q := v / (2 ^ d : Nat)
    let rem := (v % (2 ^ d : Nat)).toNat
    let half := rem / 2 ^ (d - 1)
    let low := rem % 2 ^ (d - 1)
    let odd := q % 2 != 0
    let r := match mode with
      | 0 => half == 1
      | 1 => half == 1 && (low != 0 || odd)
      | 2 => false
      | _ => !odd && rem != 0
    q + b2n r

/-- A saturating fixed-point instruction (Table 7-5). -/
def State.vSat (s : State) (c f5 : Nat) (f : VFields) (op : Nat → Nat → Nat → Nat × Bool) : State :=
  let w := ewBits f.ew
  s.osierW c custom1 f5 w f (fun _ => false) fun k s => k.intOp f w (op w) s

/-- VAADD and VASUB (R192). DESIGN CHOICE (log 135): a difference rounded up to 2^(EW−1) wraps, and sets no FXSAT (Table 7-5). -/
def State.vAvg (s : State) (c f5 : Nat) (f : VFields) (op : Int → Int → Int) : State :=
  let w := ewBits f.ew
  s.osierW c custom1 f5 w f (fun _ => false) fun k s => k.intOp f w (fun a b => (wrapInt w (fxShift k.r.vfxrm (op (sext w a) (sext w b)) 1), false)) s

/-- VNSRA and VNSRL: the source has width 2·EW, the shift comes from vs2 (R192). -/
def State.vNarrow (s : State) (c f5 : Nat) (f : VFields) (signed : Bool) : State :=
  let w := ewBits f.ew
  s.osierW c custom1 f5 (2 * w) f (fun _ => f.ew == 3) fun k s =>
    let r := k.r
    let pz := r.gpp f.pg
    let res := (k.actives f).map fun e =>
      let a := r.el f.s1 (2 * w) e
      let d := r.el f.s2 w e % (2 * w)
      let v : Int := if signed then sext (2 * w) a else a
      let x := fxShift r.vfxrm v d
      (e, if signed then satS w x else satU w x, r.elp f.s1 (2 * w) e || r.elp f.s2 w e || pz)
    .next s ((r.setEls f.vd w (res.map fun x => (x.1, x.2.1.1, x.2.2))).addFlags 0 0 (res.any (·.2.1.2))) 1

/-- VADD (R185). -/
def execVadd (core : Nat) (f : VFields) (s : State) : Host.Outcome State Fault Refusal := .next (s.vInt core 0x00 f fun w a b => (a + b) % 2 ^ w)
/-- VSUB (R185). -/
def execVsub (core : Nat) (f : VFields) (s : State) : Host.Outcome State Fault Refusal := .next (s.vInt core 0x01 f fun w a b => (a + 2 ^ w - b) % 2 ^ w)
/-- VMUL (R185). -/
def execVmul (core : Nat) (f : VFields) (s : State) : Host.Outcome State Fault Refusal := .next (s.vInt core 0x02 f fun w a b => a * b % 2 ^ w)
/-- VMULH: the high half of the signed product (R185). -/
def execVmulh (core : Nat) (f : VFields) (s : State) : Host.Outcome State Fault Refusal :=
  .next (s.vInt core 0x03 f fun w a b => wrapInt w (sext w a * sext w b / (2 ^ w : Nat)))
/-- VMULHU: the high half of the unsigned product (R185). -/
def execVmulhu (core : Nat) (f : VFields) (s : State) : Host.Outcome State Fault Refusal := .next (s.vInt core 0x04 f fun w a b => a * b / 2 ^ w)
/-- VAND (R185). -/
def execVand (core : Nat) (f : VFields) (s : State) : Host.Outcome State Fault Refusal := .next (s.vInt core 0x05 f fun _ a b => a &&& b)
/-- VOR (R185). -/
def execVor (core : Nat) (f : VFields) (s : State) : Host.Outcome State Fault Refusal := .next (s.vInt core 0x06 f fun _ a b => a ||| b)
/-- VXOR (R185). -/
def execVxor (core : Nat) (f : VFields) (s : State) : Host.Outcome State Fault Refusal := .next (s.vInt core 0x07 f fun _ a b => a ^^^ b)
/-- VSLL (Table 7-9). -/
def execVsll (core : Nat) (f : VFields) (s : State) : Host.Outcome State Fault Refusal := .next (s.vInt core 0x08 f fun w a b => a * 2 ^ (b % w) % 2 ^ w)
/-- VSRL (Table 7-9). -/
def execVsrl (core : Nat) (f : VFields) (s : State) : Host.Outcome State Fault Refusal := .next (s.vInt core 0x09 f fun w a b => a / 2 ^ (b % w))
/-- VSRA (Table 7-9). -/
def execVsra (core : Nat) (f : VFields) (s : State) : Host.Outcome State Fault Refusal :=
  .next (s.vInt core 0x0A f fun w a b => wrapInt w (sext w a / (2 ^ (b % w) : Nat)))
/-- VMIN (R185). -/
def execVmin (core : Nat) (f : VFields) (s : State) : Host.Outcome State Fault Refusal := .next (s.vInt core 0x0B f fun w a b => if sext w a ≤ sext w b then a else b)
/-- VMAX (R185). -/
def execVmax (core : Nat) (f : VFields) (s : State) : Host.Outcome State Fault Refusal := .next (s.vInt core 0x0C f fun w a b => if sext w a ≤ sext w b then b else a)
/-- VMINU (R185). -/
def execVminu (core : Nat) (f : VFields) (s : State) : Host.Outcome State Fault Refusal := .next (s.vInt core 0x0D f fun _ a b => min a b)
/-- VMAXU (R185). -/
def execVmaxu (core : Nat) (f : VFields) (s : State) : Host.Outcome State Fault Refusal := .next (s.vInt core 0x0E f fun _ a b => max a b)
/-- VCMPEQ (Table 7-9). -/
def execVcmpeq (core : Nat) (f : VFields) (s : State) : Host.Outcome State Fault Refusal := .next (s.vIntCmp core 0x0F f fun _ a b => a == b)
/-- VCMPLT (Table 7-9). -/
def execVcmplt (core : Nat) (f : VFields) (s : State) : Host.Outcome State Fault Refusal := .next (s.vIntCmp core 0x10 f fun w a b => decide (sext w a < sext w b))
/-- VCMPLTU (Table 7-9). -/
def execVcmpltu (core : Nat) (f : VFields) (s : State) : Host.Outcome State Fault Refusal := .next (s.vIntCmp core 0x11 f fun _ a b => decide (a < b))
/-- VSADD (R193). -/
def execVsadd (core : Nat) (f : VFields) (s : State) : Host.Outcome State Fault Refusal := .next (s.vSat core 0x12 f fun w a b => satS w (sext w a + sext w b))
/-- VSADDU (R193). -/
def execVsaddu (core : Nat) (f : VFields) (s : State) : Host.Outcome State Fault Refusal := .next (s.vSat core 0x13 f fun w a b => satU w ((a + b : Nat) : Int))
/-- VSSUB (R193). -/
def execVssub (core : Nat) (f : VFields) (s : State) : Host.Outcome State Fault Refusal := .next (s.vSat core 0x14 f fun w a b => satS w (sext w a - sext w b))
/-- VSSUBU (R193). -/
def execVssubu (core : Nat) (f : VFields) (s : State) : Host.Outcome State Fault Refusal := .next (s.vSat core 0x15 f fun w a b => satU w ((a : Int) - b))
/-- VAADD (R192). -/
def execVaadd (core : Nat) (f : VFields) (s : State) : Host.Outcome State Fault Refusal := .next (s.vAvg core 0x16 f fun a b => a + b)
/-- VASUB (R192). -/
def execVasub (core : Nat) (f : VFields) (s : State) : Host.Outcome State Fault Refusal := .next (s.vAvg core 0x17 f fun a b => a - b)
/-- VFMULQ: only for Q15 and Q31 (R192, R193). -/
def execVfmulq (core : Nat) (f : VFields) (s : State) : Host.Outcome State Fault Refusal :=
  let w := ewBits f.ew
  .next (s.osierW core custom1 0x18 w f (fun _ => f.ew == 0 || f.ew == 3) fun k s =>
    k.intOp f w (fun a b => satS w (fxShift k.r.vfxrm (sext w a * sext w b) (w - 1))) s)
/-- VNSRA (R192). -/
def execVnsra (core : Nat) (f : VFields) (s : State) : Host.Outcome State Fault Refusal := .next (s.vNarrow core 0x19 f true)
/-- VNSRL (R192). -/
def execVnsrl (core : Nat) (f : VFields) (s : State) : Host.Outcome State Fault Refusal := .next (s.vNarrow core 0x1A f false)

/-- Elements set from their index; poison of each. -/
def RC.fill (k : RC) (f : VFields) (w : Nat) (val : Nat → Nat) (poison : Nat → Bool) (s : State) : Step' :=
  let pz := k.r.gpp f.pg
  .next s (k.r.setEls f.vd w ((k.actives f).map fun e => (e, val e, poison e || pz))) 1

/-- VSPLATX (Table 7-9). -/
def execVsplatx (core : Nat) (f : VFields) (s : State) : Host.Outcome State Fault Refusal :=
  let w := ewBits f.ew
  .next (s.osierW core custom1 0x1B w f (fun _ => f.s2 != 0) fun k s => k.fill f w (fun _ => k.r.gx f.s1 % 2 ^ w) (fun _ => k.r.gxp f.s1) s)
/-- VINDEX (Table 7-9). -/
def execVindex (core : Nat) (f : VFields) (s : State) : Host.Outcome State Fault Refusal :=
  let w := ewBits f.ew
  .next (s.osierW core custom1 0x1C w f (fun _ => f.s1 != 0 || f.s2 != 0) fun k s => k.fill f w id (fun _ => false) s)
/-- VMV (Table 7-9). -/
def execVmv (core : Nat) (f : VFields) (s : State) : Host.Outcome State Fault Refusal :=
  let w := ewBits f.ew
  .next (s.osierW core custom1 0x1D w f (fun _ => f.s2 != 0) fun k s => k.fill f w (k.r.el f.s1 w) (k.r.elp f.s1 w) s)
/-- VMVX: element 0, sign-extended, into rd; not governed by a predicate (Table 7-9, R197). -/
def execVmvx (core : Nat) (f : VFields) (s : State) : Host.Outcome State Fault Refusal :=
  let w := ewBits f.ew
  .next (s.osierW core custom1 0x1E w f (fun _ => f.s2 != 0 || f.pg != 0) fun k s =>
    .next s (k.r.sx f.vd (wrapInt 64 (sext w (k.r.el f.s1 w 0))) (k.r.elp f.s1 w 0)) 1)

/-- A predicate logic instruction: bits of the active elements among 0 to vl − 1; EW sets the bound on vl (R185). -/
def State.predOp (s : State) (c f5 : Nat) (f : VFields) (op : Bool → Bool → Bool) : State :=
  s.osierW c custom3 f5 (ewBits f.ew) f (fun _ => decide (8 ≤ f.vd) || decide (8 ≤ f.s1) || decide (8 ≤ f.s2)) fun k s =>
    let r := k.r
    .next s (r.setPreds f.vd ((k.actives f).map fun e => (e, op (bit (r.gp f.s1) e) (bit (r.gp f.s2) e))) (r.gpp f.s1 || r.gpp f.s2 || r.gpp f.pg)) 1

/-- PAND (R182). -/
def execPand (core : Nat) (f : VFields) (s : State) : Host.Outcome State Fault Refusal := .next (s.predOp core 0x00 f fun a b => a && b)
/-- POR (R182). -/
def execPor (core : Nat) (f : VFields) (s : State) : Host.Outcome State Fault Refusal := .next (s.predOp core 0x01 f fun a b => a || b)
/-- PXOR (R182). -/
def execPxor (core : Nat) (f : VFields) (s : State) : Host.Outcome State Fault Refusal := .next (s.predOp core 0x02 f fun a b => a != b)
/-- PANDN: ps1 and not ps2 (R182). -/
def execPandn (core : Nat) (f : VFields) (s : State) : Host.Outcome State Fault Refusal := .next (s.predOp core 0x03 f fun a b => a && !b)

/-- The active elements whose bit of ps1 is set. -/
def RC.setBits (k : RC) (f : VFields) : List Nat := (k.actives f).filter fun e => bit (k.r.gp f.s1) e

/-- PCOUNT (Table 7-11). DESIGN CHOICE (log 135): S2, of which the row says nothing, must be 0; so in the other rows that list no S2. -/
def execPcount (core : Nat) (f : VFields) (s : State) : Host.Outcome State Fault Refusal :=
  .next (s.osierW core custom3 0x04 (ewBits f.ew) f (fun _ => decide (8 ≤ f.s1) || f.s2 != 0) fun k s =>
    .next s (k.r.sx f.vd (k.setBits f).length (k.r.gpp f.s1 || k.r.gpp f.pg)) 1)
/-- PFIRST (Table 7-11). -/
def execPfirst (core : Nat) (f : VFields) (s : State) : Host.Outcome State Fault Refusal :=
  .next (s.osierW core custom3 0x05 (ewBits f.ew) f (fun _ => decide (8 ≤ f.s1) || f.s2 != 0) fun k s =>
    .next s (k.r.sx f.vd ((k.setBits f).head?.getD (2 ^ 64 - 1)) (k.r.gpp f.s1 || k.r.gpp f.pg)) 1)
/-- PMVX: all 64 bits of ps1 (Table 7-11). DESIGN CHOICE (log 57): it acts at vl = 0 too, though R186 lets a vector instruction change nothing then. -/
def execPmvx (core : Nat) (f : VFields) (s : State) : Host.Outcome State Fault Refusal :=
  .next (s.osier core custom3 0x06 f (fun _ => decide (8 ≤ f.s1) || f.s2 != 0 || f.pg != 0) fun k s =>
    .next s (k.r.sx f.vd (k.r.gp f.s1) (k.r.gpp f.s1)) 1)
/-- PMXV: pd from x[rs1] (Table 7-11). DESIGN CHOICE (log 57): it acts at vl = 0 too. -/
def execPmxv (core : Nat) (f : VFields) (s : State) : Host.Outcome State Fault Refusal :=
  .next (s.osier core custom3 0x07 f (fun _ => decide (8 ≤ f.vd) || f.s2 != 0 || f.pg != 0) fun k s =>
    .next s (k.r.sp f.vd (k.r.gx f.s1) (k.r.gxp f.s1)) 1)

/-- VCOMPRESS (R211, R213). -/
def execVcompress (core : Nat) (f : VFields) (s : State) : Host.Outcome State Fault Refusal :=
  let w := ewBits f.ew
  .next (s.osierW core custom3 0x08 w f (fun _ => f.s2 != 0) fun k s =>
    let pz := k.r.gpp f.pg
    .next s (k.r.setEls f.vd w ((k.actives f).mapIdx fun i e => (i, k.r.el f.s1 w e, k.r.elp f.s1 w e || pz))) 1)
/-- VEXPAND (R212, R213). -/
def execVexpand (core : Nat) (f : VFields) (s : State) : Host.Outcome State Fault Refusal :=
  let w := ewBits f.ew
  .next (s.osierW core custom3 0x09 w f (fun _ => f.s2 != 0) fun k s =>
    let pz := k.r.gpp f.pg
    .next s (k.r.setEls f.vd w ((k.actives f).mapIdx fun i e => (e, k.r.el f.s1 w i, k.r.elp f.s1 w i || pz))) 1)

/-- A slide: the source position of element e, none outside the register (Table 7-11). -/
def State.slide (s : State) (c f5 : Nat) (f : VFields) (src : Nat → Nat → Option Nat) : State :=
  let w := ewBits f.ew
  s.osierW c custom3 f5 w f (fun _ => false) fun k s =>
    let n := k.r.gx f.s2
    let pick := fun e => (src e n).filter fun i => decide (i < 512 / w)
    k.fill f w (fun e => match pick e with | some i => k.r.el f.s1 w i | none => 0)
      (fun e => (match pick e with | some i => k.r.elp f.s1 w i | none => false) || k.r.gxp f.s2) s

/-- VSLIDEDN (Table 7-11). -/
def execVslidedn (core : Nat) (f : VFields) (s : State) : Host.Outcome State Fault Refusal := .next (s.slide core 0x0A f fun e n => some (e + n))
/-- VSLIDEUP (Table 7-11). -/
def execVslideup (core : Nat) (f : VFields) (s : State) : Host.Outcome State Fault Refusal := .next (s.slide core 0x0B f fun e n => if n ≤ e then some (e - n) else none)
/-- VPERM (Table 7-11). -/
def execVperm (core : Nat) (f : VFields) (s : State) : Host.Outcome State Fault Refusal :=
  let w := ewBits f.ew
  .next (s.osierW core custom3 0x0C w f (fun _ => false) fun k s =>
    let ix := fun e => k.r.el f.s2 w e
    k.fill f w (fun e => if ix e < 512 / w then k.r.el f.s1 w (ix e) else 0)
      (fun e => k.r.elp f.s2 w e || (decide (ix e < 512 / w) && k.r.elp f.s1 w (ix e))) s)

/-- VSETL (R184). -/
def execVsetl (core : Nat) (f : VFields) (s : State) : Host.Outcome State Fault Refusal :=
  .next (s.osier core custom0 0x10 f (fun _ => f.s2 != 0 || f.pg != 0) fun k s =>
    if k.r.gxp f.s1 then .poison s 4 (vword f custom0 0x10)
    else
      let n := min (k.r.gx f.s1) (512 / ewBits f.ew)
      .next s ({ k.r with vl := n }.sx f.vd n false) 1)

end Sys2Proof.Machine
end

