-- ==== Sys2Proof/Machine/Plait.lean ====
section
/-! DEFINITION. Plait links (R205 to R209) and the scalar-summary port (R199, R200). -/

namespace Sys2Proof.Machine
open Sys2Proof

/-- The core runs a stage of a plait. -/
def RC.inPlait (k : RC) : Bool := hClass k.it.desc == 3

/-- The last stage. -/
def RC.lastStage (k : RC) : Bool := k.stage + 1 == plaitStages k.it.desc

/-- An entry appended to the downstream link. -/
def State.push (s : State) (k : RC) (v vp : Nat) : State := s.setFifo k.tile k.stage (s.fifo k.tile k.stage ++ [(v, vp)])

/-- The oldest upstream entry moved to vd (R205); the core's later loads see what the sender stored, so no line of its data cache stays (R208). -/
def State.pull (s : State) (k : RC) (vd : Nat) : Step' :=
  let p := k.tile
  match s.fifo p (k.stage - 1) with
  | [] => .block s k.r (.recv vd)
  | e :: t => .next (s.setFifo p (k.stage - 1) t) { k.r.sv vd e.1 e.2 with dcache := [] } 1

/-- PLSEND: appends vs1, or blocks while eight entries wait (R205 to R207, R209). It waits first until no far store of its item is unanswered, which the stores of its own stage need (R208, log 55). -/
def execPlsend (core : Nat) (f : VFields) (s : State) : Host.Outcome State Fault Refusal :=
  .next (s.osier core custom3 0x1B f (fun k => f.pg != 0 || f.ew != 0 || !k.inPlait || k.lastStage) fun k s =>
    let v := k.r.gv f.s1
    let vp := k.r.gvp f.s1
    if k.it.pendingRemote ≠ 0 then .wait s
    else if (s.fifo k.tile k.stage).length < 8 then .next (s.push k v vp) k.r 1
    else
      let s := s.bumpSat R.TIL_PLAIT_STALL_SEND_STALLS (tix k.tile)
      if k.it.live.contains (core + 1) then .block s k.r (.send v vp) else .trap s 0x19 0)

/-- PLRECV: the oldest entry of the upstream link, or blocks while it is empty (R205 to R207, R209). -/
def execPlrecv (core : Nat) (f : VFields) (s : State) : Host.Outcome State Fault Refusal :=
  .next (s.osier core custom3 0x1C f (fun k => f.pg != 0 || f.ew != 0 || !k.inPlait || k.stage == 0) fun k s =>
    if (s.fifo k.tile (k.stage - 1)).isEmpty then
      let s := s.bumpSat R.TIL_PLAIT_STALL_RECV_STALLS (tix k.tile)
      if k.it.live.contains (core - 1) then .block s k.r (.recv f.vd) else .trap s 0x19 0
    else s.pull k f.vd)

/-- PLAIT_FIFO_ROOM: a blocked PLSEND finds space (R206). -/
def execPlaitFifoRoom (core : Nat) (s : State) : Host.Outcome State Fault Refusal :=
  .next (match s.runningCore core with
    | none => s
    | some k => match k.r.blocked with
      | .send v vp => if (s.fifo k.tile k.stage).length < 8 then s.finish k (.next (s.push k v vp) k.r 1) else s
      | _ => s)

/-- PLAIT_FIFO_DATA: a blocked PLRECV receives an entry (R206). -/
def execPlaitFifoData (core : Nat) (s : State) : Host.Outcome State Fault Refusal :=
  .next (match s.runningCore core with
    | none => s
    | some k => match k.r.blocked with
      | .recv vd => if (s.fifo k.tile (k.stage - 1)).isEmpty then s else s.finish k (s.pull k vd)
      | _ => s)

/-- The launch has a control core on each tile (R199, R204). -/
def RC.port (k : RC) : Bool := hClass k.it.desc == 2 && dsc k.it.desc 0x40 11 1 == 1

/-- The control core of a launch. -/
def RC.control (k : RC) : Bool := k.port && coreNo k.c == dsc k.it.desc 0x40 8 3

/-- The issuing core's slot written, or the core blocks while it is FULL (R199). -/
def State.summarise (s : State) (k : RC) (v : Nat) (p : Bool) : Step' :=
  if (s.summ.find? k.c).isSome then .block s k.r (.summ v p) else .next { s with summ := s.summ.put k.c (v, p) } k.r 1

/-- A VSUMM instruction: the value from the number of active bits and of set bits among them. -/
def State.vsumm (s : State) (core sub : Nat) (f : VFields) (val : Nat → Nat → Nat) : State :=
  s.osierW core custom3 0x1F (ewBits f.ew) f (fun k => f.s2 != sub || decide (8 ≤ f.s1) || !k.port) fun k s =>
    s.summarise k (val (k.actives f).length (k.setBits f).length) (k.r.gpp f.s1 || k.r.gpp f.pg)

/-- VSUMM.ANY (R199). -/
def execVsummAny (core : Nat) (f : VFields) (s : State) : Host.Outcome State Fault Refusal := .next (s.vsumm core 0 f fun _ n => b2n (n != 0))
/-- VSUMM.ALL (R199). -/
def execVsummAll (core : Nat) (f : VFields) (s : State) : Host.Outcome State Fault Refusal := .next (s.vsumm core 1 f fun a n => b2n (a == n))
/-- VSUMM.CNT (R199). -/
def execVsummCnt (core : Nat) (f : VFields) (s : State) : Host.Outcome State Fault Refusal := .next (s.vsumm core 2 f fun _ n => n)

/-- The cores of a tile whose slots a mask selects. -/
def maskCores (p mask : Nat) : List Nat := ((List.range 8).filter (bit mask)).map (8 * p + ·)

/-- The OR of the slots a mask selects into rd, which empties them; the core waits until all are FULL (R199). -/
def State.takeSlots (s : State) (k : RC) (rd mask : Nat) (b : Blocked) (xp : Bool) : Step' :=
  let cs := maskCores k.tile mask
  if cs.all fun c => (s.summ.find? c).isSome then
    let vs := cs.map fun c => s.summ.getD c (0, false)
    let s := { s with summ := cs.foldl (fun m c => FMap.del c m) s.summ }
    .next s (k.r.sx rd (vs.foldl (fun a v => a ||| v.1) 0) (xp || vs.any (·.2))) 1
  else .block s k.r b

/-- SUMMRD (R199, R200). -/
def execSummrd (core : Nat) (f : VFields) (s : State) : Host.Outcome State Fault Refusal :=
  .next (s.osier core custom3 0x1F f (fun k => f.s2 != 3 || f.pg != 0 || !k.control) fun k s =>
    let i := bits (k.r.gx f.s1) 0 3
    s.takeSlots k f.vd (2 ^ i) (.summrd f.vd i (k.r.gxp f.s1)) (k.r.gxp f.s1))

/-- SUMMOR (R199, R200). -/
def execSummor (core : Nat) (f : VFields) (s : State) : Host.Outcome State Fault Refusal :=
  .next (s.osier core custom3 0x1F f (fun k => f.s2 != 4 || f.pg != 0 || !k.control) fun k s =>
    let m := bits (k.r.gx f.s1) 0 8
    s.takeSlots k f.vd m (.summor f.vd m (k.r.gxp f.s1)) (k.r.gxp f.s1))

/-- A blocked instruction tried again: it goes on only when its condition holds. -/
def State.unblock (s : State) (k : RC) (e : Step') : State :=
  match e with
  | .next .. => s.finish k e
  | _ => s

/-- SUMMARY_SLOT_EMPTIED: a blocked VSUMM goes on (R199). -/
def execSummarySlotEmptied (core : Nat) (s : State) : Host.Outcome State Fault Refusal :=
  .next (match s.runningCore core with
    | none => s
    | some k => match k.r.blocked with
      | .summ v p => s.unblock k (s.summarise k v p)
      | _ => s)

/-- SUMMARY_SLOT_FILLED: a waiting SUMMRD or SUMMOR goes on (R199). -/
def execSummarySlotFilled (core : Nat) (s : State) : Host.Outcome State Fault Refusal :=
  .next (match s.runningCore core with
    | none => s
    | some k => match k.r.blocked with
      | .summrd rd i p => s.unblock k (s.takeSlots k rd (2 ^ i) (.summrd rd i p) p)
      | .summor rd m p => s.unblock k (s.takeSlots k rd m (.summor rd m p) p)
      | _ => s)

end Sys2Proof.Machine
end

