-- ==== Sys2Proof/Machine/ReedLaunch.lean ====
section
/-! DEFINITION. Launches and plaits: descriptor checks (R173, R174, R201, R202), starts (R175, R176, R203, R204), exits (R177), the run-time limit (R179), FENCE (R171). -/

namespace Sys2Proof.Machine
open Sys2Proof

/-- A window is used: some right is given. -/
def winUsed (d : Desc) (i : Nat) : Bool := (window d i).2.2 != 0

/-- A window breaks Table 7-3. -/
def winBad (d : Desc) (i : Nat) : Bool :=
  let (b, e, _) := window d i
  dsc d (0x50 + 16 * i) 51 13 != 0 || dsc d (0x58 + 16 * i) 48 16 != 0 ||
    (winUsed d i && (decide (b % 4096 ≠ 0) || decide (e % 4096 ≠ 0) || decide (e ≤ b)))

/-- Memory of an absent unit lies in a used window (R4). -/
def State.winAbsent (s : State) (d : Desc) : Bool :=
  (List.range 3).any fun i => winUsed d i && s.rangeAbsent (window d i).1 ((window d i).2.1 - (window d i).1)

/-- The word at an address lies in an X window. -/
def entryOk (d : Desc) (a : Nat) : Bool := decide (a % 4 = 0) && (List.range 4).all fun i => inWindow d 2 (a + i)

/-- A REED_LAUNCH class area is invalid (R174). -/
def launchBad (d : Desc) : Bool :=
  dsc d 0x30 48 16 != 0 || dsc d 0x40 19 45 != 0 || dsc d 0x48 32 32 != 0 || lMask d == 0 || decide (64 < dsc d 0x40 12 7) ||
    (List.range 3).any (winBad d) || !entryOk d (dsc d 0x30 0 48) || (dsc d 0x40 11 1 == 1 && !bit (lMask d) (dsc d 0x40 8 3))

/-- The dispatch checks of a REED_LAUNCH item. -/
def State.launchVerdict (s : State) (d : Desc) : Verdict :=
  let code := firstCode [(s.winAbsent d, Code.UNIT_ABSENT), (launchBad d, Code.REED_FIELD)]
  if code = 0 then .run else .fail code

/-- Address of the stage-entry table. -/
def pTable (d : Desc) : Nat := dsc d 0x30 0 48

/-- A PLAIT class area is invalid, the table's contents apart (R202). -/
def plaitBad (d : Desc) : Bool :=
  dsc d 0x30 48 16 != 0 || dsc d 0x40 13 3 != 0 || dsc d 0x40 48 16 != 0 || dsc d 0x48 0 64 != 0 ||
    decide (8 < plaitFirst d + plaitStages d) || decide (64 < dsc d 0x40 6 7) || (List.range 3).any (winBad d) ||
    decide (pTable d % 64 ≠ 0) ||
    !((List.range 3).any fun i => let w := window d i; bit w.2.2 0 && decide (w.1 ≤ pTable d ∧ pTable d + 64 ≤ w.2.1))

/-- The words of the stage-entry table in use, with their poison. -/
def State.plaitWords (s : State) (d : Desc) : List (Nat × Bool) := (List.range (plaitStages d)).map fun k => s.peekNat (pTable d + 8 * k) 8

/-- The checks of the table's contents (R202). -/
def State.plaitVerdict2 (s : State) (d : Desc) : Verdict :=
  let ws := s.plaitWords d
  if ws.any (·.2) then .fail Code.POISON_CONSUMED
  else if ws.any fun w => decide (2 ^ 48 ≤ w.1) || !entryOk d w.1 then .fail Code.PLAIT_FIELD
  else .run

/-- The dispatch checks of a PLAIT item; those of a far table wait until it has been read. -/
def State.plaitVerdict (s : State) (d : Desc) : Verdict :=
  let code := firstCode [(s.winAbsent d, Code.UNIT_ABSENT), (plaitBad d, Code.PLAIT_FIELD),
    (!s.mappedRange (pTable d) (8 * plaitStages d), Code.ADDR_UNMAPPED)]
  if code ≠ 0 then .fail code
  else if (rangeLines [(pTable d, 8 * plaitStages d)]).any s.farLine then .run else s.plaitVerdict2 d

/-- A PLAIT item reads its table and keeps the entries; then it waits for its cores. -/
def State.plaitTake (s : State) (id : Nat) : State :=
  match s.items.find? id with
  | none => s
  | some it =>
    let d := it.desc
    let rs := [(pTable d, 8 * plaitStages d)]
    let miss := s.missingLines it.remote rs
    if it.status ≠ 0 then (if it.pendingRemote = 0 then s.endNow id else s)
    else if !miss.isEmpty then (if it.pendingRemote = 0 then s.askLines (.item id) miss else s)
    else s.asItem id fun s =>
      let s := s.touchLines (pTable d) (8 * plaitStages d) 0
      let v := s.plaitVerdict2 d
      if v ≠ Verdict.run then
        ((if v.status = Code.POISON_CONSUMED then s.logPoison 0x06 (s.itemUnit d) it.queue (pTable d) it.place else s).failItem id v.status).endNow id
      else s.modItem id fun it => { it with blocks := (s.plaitWords d).mapIdx fun k w => (k, w.1) }

/-- The top of a core's stack (R176). -/
def stackTopOf (d : Desc) (c : Nat) : Nat :=
  let kib := if hClass d = 3 then dsc d 0x40 6 7 else dsc d 0x40 12 7
  if kib = 0 then 0 else 0x0D000000000 + coreTile c * 0x400000 + 2 ^ 21 - kib * 1024 * coreNo c

/-- The state an instance starts with (R176, R204). -/
def Reed.start (old : Reed) (id : Nat) (d : Desc) (c inst count pc : Nat) : Reed :=
  let r := { Reed.zero with item := some id, inst := inst, count := count, pc := pc, vtid := hTensor d, vstep := hStep d, steps := old.steps
                            mepc := old.mepc, mcause := old.mcause, mtval := old.mtval }
  let r := (r.sx 2 (stackTopOf d c) false).sx 10 (dsc d 0x38 0 64) false
  if hClass d = 3 then (r.sx 11 (coreNo c - plaitFirst d) false).sx 12 (plaitStages d) false else r

/-- The chain's registers and links as it starts (R210, Table 8-5). -/
def State.startChain (s : State) (d : Desc) (p : Nat) : State :=
  let s := (List.range 7).foldl (fun s k => s.setFifo p k []) s
  let s := s.setFld R.TIL_PLAIT_STATUS_FIRST_CORE (plaitFirst d) (tix p)
  (s.setFld R.TIL_PLAIT_STATUS_STAGES_M1 (plaitStages d - 1) (tix p)).setFlag R.TIL_PLAIT_STATUS_ACTIVE true (tix p)

/-- Every instance of a waiting item starts, once its cores are free. -/
def State.startCores (s : State) (cls id : Nat) : State :=
  match s.items.find? id with
  | none => s
  | some it =>
    let d := it.desc
    let cores := s.allCores d
    let ready := cls != 3 || it.blocks.length == plaitStages d
    if s.up && !s.job.running && hClass d == cls && it.phase == .waiting && it.status == 0 && ready && s.coresFree d then
      let s := if cls = 3 then (s.groupTiles (hTgroup d)).foldl (fun s p => s.startChain d p) s else s
      let pcOf := fun c => if cls = 3 then it.blocks.getD (coreNo c - plaitFirst d) 0 else dsc d 0x30 0 48
      let s := (cores.mapIdx fun i c => (i, c)).foldl (fun s x =>
        s.setReed x.2 (Reed.start (s.reed x.2) id d x.2 x.1 cores.length (pcOf x.2))) s
      s.modItem id fun it => { it with phase := .running, live := cores, exits := 0, blocks := [] }
    else s

/-- REED_LAUNCH_START: the cores are free and every instance starts (R175, R176). -/
def execReedLaunchStart (item : Nat) (s : State) : Host.Outcome State Fault Refusal := .next (s.startCores 2 item)

/-- PLAIT_START: each stage starts on its core, links empty (R203, R204). -/
def execPlaitStart (item : Nat) (s : State) : Host.Outcome State Fault Refusal := .next (s.startCores 3 item)

/-- ECALL (R177). -/
def RC.ecall (k : RC) (s : State) : Step' := if k.r.gx 17 = 0 then .exit s (k.r.gx 10 % 65536) else .trap s 8 0

/-- REED_ECALL: exit with a7 = 0, a trap otherwise (R177). -/
def execReedEcall (core : Nat) (s : State) : Host.Outcome State Fault Refusal := .next (s.issue core fun k s => k.ecall s)

/-- REED_EBREAK: a breakpoint trap (R177). PRESUMED (log 54): TVAL is its pc. -/
def execReedEbreak (core : Nat) (s : State) : Host.Outcome State Fault Refusal := .next (s.issue core fun k s => .trap s 3 k.r.pc)

/-- LIMIT_US of a launch or plait. -/
def limitOf (d : Desc) : Nat := if hClass d = 3 then dsc d 0x40 16 32 else dsc d 0x48 0 32

/-- REED_LIMIT: the run-time limit has passed (R179). -/
def execReedLimit (item : Nat) (s : State) : Host.Outcome State Fault Refusal :=
  .next (match s.items.find? item with
    | none => s
    | some it =>
      if s.up && !s.job.running && (hClass it.desc == 2 || hClass it.desc == 3) && (it.phase == .waiting || it.phase == .running) &&
          it.goesOn && limitOf it.desc != 0 then s.stopLaunch item Code.REED_LIMIT 0
      else s)

/-- A FENCE whose successor set includes R drops the core's data cache (R171). -/
def RC.fence (k : RC) (w : Nat) (s : State) : Step' := .next s (if bit w 21 then { k.r with dcache := [] } else k.r) 1

/-- REED_FENCE: a FENCE instruction (R171). -/
def execReedFence (core : Nat) (w : BitVec 32) (s : State) : Host.Outcome State Fault Refusal :=
  if bits w.toNat 0 7 = 0x0F ∧ bits w.toNat 12 3 = 0 then .next (s.issue core fun k s => k.fence w.toNat s) else .next s

end Sys2Proof.Machine
end

