-- ==== Sys2Proof/Machine/Epochs.lean ====
section
/-! DEFINITION. Mode epochs (R70 to R79): staging, commit, drain, barrier, switch and abandonment. -/

namespace Sys2Proof.Machine
open Sys2Proof

/-- The unit ID of the block a register offset belongs to (R72, Table 20-1). -/
def unitOfOff (off : Nat) : Nat :=
  let b := off / 0x1000000
  if b = 0x04 ∨ (0x10 ≤ b ∧ b < 0x20) ∨ b = 0x22 then off / 0x10000
  else if b = 0x20 then off / 0x100000 * 0x10
  else b * 0x100

/-- The units with staged values. -/
def State.participants (s : State) : List Nat := (s.staged.map fun e => unitOfOff e.1).eraseDups

/-- PARTICIPANTS shows the number of units with staged values (Table 3-15). -/
def State.showParticipants (s : State) : State := s.setFld R.EPO_STATUS_PARTICIPANTS s.participants.length

/-- Every RUNG_E set to 0 (CLEAR_EVAL_RUNGS). -/
def State.clearEvalRungs (s : State) : State :=
  (List.range 4096).foldl (fun s l => if s.fld R.TRN_LAYER_RUNG_E [l] = 0 then s else s.setFld R.TRN_LAYER_RUNG_E 0 [l]) s

/-- A staged word goes live; a staged CLEAR_EVAL_RUNGS acts. -/
def State.goLive (s : State) (off : Nat) (mask val : Word) : State :=
  if off = R.TRN_CTL_CLEAR_EVAL_RUNGS.base then
    let m := BitVec.ofNat 64 (putBit mask.toNat 1 false)
    let s := s.mergeReg off m val
    if bit mask.toNat 1 && bit val.toNat 1 then s.clearEvalRungs else s
  else s.mergeReg off mask val

/-- The barrier's duration recorded (Table 3-15). -/
def State.barrierTime (s : State) : State :=
  let t := (s.elapsedNs - s.epo.t0) % 2 ^ 32
  (s.setFld R.EPO_TIMES_LAST_NS t).maxFld R.EPO_TIMES_MAX_NS t

/-- EPOCH items that waited for the outcome complete (R77, R424). -/
def State.endEpochItems (s : State) (code : Nat) : State :=
  let ids := s.epo.items
  ids.foldl (fun s id => (if code = 0 then s else s.failItem id code).endNow id) { s with epo := { s.epo with items := [], acked := [] } }

/-- The switch: EPO_CUR increments, every staged bank goes live, dispatch is released (R76); Work.lean dispatches again the items that waited for it (R241). -/
def State.epochSwitch (s : State) : State :=
  let s := s.bump R.EPO_CUR_EPOCH
  let st := s.staged
  let s := st.foldl (fun s e => s.goLive e.1 e.2.1 e.2.2) { s with staged := [] }
  let s := ((s.barrierTime.showParticipants).setFld R.EPO_STATUS_STATE 0).setFld R.EPO_STATUS_ACK_PENDING 0
  s.endEpochItems 0

/-- The change is abandoned device-wide (R77). -/
def State.epochAbandon (s : State) (unit : Nat) : State :=
  let s := { s with staged := [] }
  let s := s.barrierTime.showParticipants
  let s := ((s.setFld R.EPO_STATUS_STATE 4).setFlag R.EPO_STATUS_ABANDONED true).setFld R.EPO_STATUS_UNIT unit
  (s.log Code.EPOCH_ABANDONED unit).endEpochItems Code.EPOCH_ABANDONED

/-- PREPARE goes to every participant; with none the switch follows at once (R75, R76). -/
def State.epochBarrier (s : State) : State :=
  let n := s.participants.length
  let s := (s.setFld R.EPO_STATUS_STATE 3).setFld R.EPO_STATUS_ACK_PENDING n
  let s := { s with epo := { s.epo with acked := [], t0 := s.elapsedNs } }
  if n = 0 then s.epochSwitch else s

/-- Items of the epoch before the present one still in flight, EPOCH items apart (R74). -/
def State.oldItems (s : State) : Nat :=
  (s.items.filter fun e => e.2.epoch == (s.fld R.EPO_CUR_EPOCH + 2 ^ 32 - 1) % 2 ^ 32 && hClass e.2.desc != 0x0C).length

/-- COMMIT of an open staging: drain, or the barrier at once (R74). DESIGN CHOICE (log 122): with no staging open it has no effect and no status. -/
def State.epochCommit (s : State) : State :=
  if s.fld R.EPO_STATUS_STATE = 1 then
    if s.oldItems = 0 then s.epochBarrier else s.setFld R.EPO_STATUS_STATE 2
  else s

/-- The one staged bank: G writes that still wait for a work-item boundary join the staging that opens (R67, R71, R73). -/
def State.stagePending (s : State) : State :=
  let off := R.TRN_CTL_CLEAR_EVAL_RUNGS.base
  let st := s.atBoundary
  let st := if s.train.clearEval then let e := st.getD off (0, 0); st.put off (e.1 ||| 2, e.2 ||| 2) else st
  { s with staged := st, atBoundary := [], train := { s.train with clearEval := false } }.showParticipants

/-- OPEN (R73). DESIGN CHOICE (log 122): an OPEN while STATE is ABANDONED is accepted, and writes still waiting for a work-item boundary join the staging. -/
def State.epochOpen (s : State) : State :=
  let st := s.fld R.EPO_STATUS_STATE
  if st = 0 ∨ st = 4 then s.stagePending.setFld R.EPO_STATUS_STATE 1 else s.log Code.EPOCH_BUSY 0x0100

/-- CANCEL (R73, Table 3-15). -/
def State.epochCancel (s : State) : State :=
  match s.fld R.EPO_STATUS_STATE with
  | 1 => ({ s with staged := [] }.showParticipants).setFld R.EPO_STATUS_STATE 0
  | 2 => s.log Code.EPOCH_BUSY 0x0100
  | 3 => s.log Code.EPOCH_BUSY 0x0100
  | _ => s

/-- ABANDONED written with 1 (Table 3-15). -/
def State.epochClear (s : State) : State :=
  let s := s.setFlag R.EPO_STATUS_ABANDONED false
  if s.fld R.EPO_STATUS_STATE = 4 then s.setFld R.EPO_STATUS_STATE 0 else s

/-- Runs `f` on a device that is up. -/
def State.whenUp (s : State) (f : State → State) : State := if s.up then f s else s

/-- EPOCH_OPEN (R73). -/
def execEpochOpen (s : State) : Host.Outcome State Fault Refusal := .next (s.whenUp State.epochOpen)
/-- EPOCH_COMMIT (R74). -/
def execEpochCommit (s : State) : Host.Outcome State Fault Refusal := .next (s.whenUp State.epochCommit)
/-- EPOCH_CANCEL (R73). -/
def execEpochCancel (s : State) : Host.Outcome State Fault Refusal := .next (s.whenUp State.epochCancel)
/-- EPOCH_DRAIN_END: the last item of the old epoch has completed (R74, R75). -/
def execEpochDrainEnd (s : State) : Host.Outcome State Fault Refusal :=
  .next (s.whenUp fun s => if s.fld R.EPO_STATUS_STATE = 2 ∧ s.oldItems = 0 then s.epochBarrier else s)
/-- EPOCH_PREPARE_ACK (R75, R76). -/
def execEpochPrepareAck (unit : Nat) (s : State) : Host.Outcome State Fault Refusal :=
  .next (s.whenUp fun s =>
    if s.fld R.EPO_STATUS_STATE = 3 ∧ s.participants.contains unit ∧ !s.epo.acked.contains unit then
      let s := { s with epo := { s.epo with acked := unit :: s.epo.acked } }
      let left := s.participants.length - s.epo.acked.length
      let s := s.setFld R.EPO_STATUS_ACK_PENDING left
      if left = 0 then s.epochSwitch else s
    else s)
/-- EPOCH_PREPARE_REFUSAL (R77). -/
def execEpochPrepareRefusal (unit : Nat) (s : State) : Host.Outcome State Fault Refusal :=
  .next (s.whenUp fun s =>
    if s.fld R.EPO_STATUS_STATE = 3 ∧ s.participants.contains unit ∧ !s.epo.acked.contains unit then s.epochAbandon unit else s)
/-- EPOCH_ACK_TIMEOUT: the lowest unit that has not acknowledged is named (R77). -/
def execEpochAckTimeout (s : State) : Host.Outcome State Fault Refusal :=
  .next (s.whenUp fun s =>
    match (s.participants.filter fun u => !s.epo.acked.contains u).min? with
    | some u => if s.fld R.EPO_STATUS_STATE = 3 then s.epochAbandon u else s
    | none => s)
/-- EPOCH_ABANDON_CLEAR (R77). -/
def execEpochAbandonClear (s : State) : Host.Outcome State Fault Refusal := .next (s.whenUp State.epochClear)

end Sys2Proof.Machine
end

