-- ==== Sys2Proof/Machine/Training.lean ====
section
/-! DEFINITION. The step commit and the layer monitor (R247 to R251). -/

namespace Sys2Proof.Machine
open Sys2Proof

/-- Layers touched in a step, lowest first (R249). -/
def State.touchedIn (s : State) (step : Nat) : List Nat := ((s.train.touched.filter fun e => e.1 / 4096 == step).map (·.1 % 4096))

/-- Rounding to nearest even, no saturation. -/
abbrev rne : Rnd := ⟨0, false, 0, 0⟩

/-- The product of two values rounded to FP64. -/
def mulFp64 (a b : Val) : Val := decodeFmt 0 (encodeVal 0 rne true (mulVal a b).1).bits

/-- A threshold's square times the sum of squared weights (R250). -/
def lmtBound (thr : Nat) (sw : Val) : Val :=
  let t := decodeFmt 1 thr
  mulFp64 (mulFp64 t t) sw

/-- Whether a value is greater than another; never with a NaN. -/
def valGt (a b : Val) : Bool := !a.isNan && !b.isNan && ordVal false a b == .gt

/-- One touched layer: its sums recorded, its elements cleared; whether it alarms (R250). -/
def State.lmtLayer (s : State) (cfg : FMap Word) (l : Nat) : State × Bool :=
  let r := s.lmtRgn
  let vd := (s.rgnOut cfg r (2 * l) 0 rne).bits
  let vw := (s.rgnOut cfg r (2 * l + 1) 0 rne).bits
  let bad := (s.rgnSide r (2 * l)).ovf.isSome || (s.rgnSide r (2 * l + 1)).ovf.isSome || (s.rgnV r (2 * l)).2 || (s.rgnV r (2 * l + 1)).2
  let s := (s.setFld R.TRN_LMT_LAST_D_SUM vd [l]).setFld R.TRN_LMT_LAST_W_SUM vw [l]
  let s := (s.clearElem r (2 * l)).clearElem r (2 * l + 1)
  let d := decodeFmt 0 vd
  let w := decodeFmt 0 vw
  let hi := s.fld R.TRN_LMT_THR_HI [l]
  let lo := s.fld R.TRN_LMT_THR_LO [l]
  (s, bad || (!(decodeFmt 1 hi).isZero && valGt d (lmtBound hi w)) || (!(decodeFmt 1 lo).isZero && valGt (lmtBound lo w) d))

/-- The alarms of a commit: bits, counts, log entry, interrupt and message (R251). -/
def State.lmtAlarm (s : State) (alarmed : List Nat) (step : Nat) : State :=
  let n := alarmed.length
  let first := alarmed.head?.getD 0
  let s := (s.setFld R.TRN_ALARM_COUNT n).setFld R.TRN_ALARM_FIRST first
  if n = 0 then s else
    let s := alarmed.foldl (fun s l => s.setFldBit R.TRN_ALARM_MAP_ALARM (l % 64) true [l / 64]) s
    let s := (s.log Code.LMT_ALARM 0x0700 0 (n + first * 2 ^ 16)).trnLast Code.LMT_ALARM
    if s.flag R.TRN_CTL_ALARM_IRQ then
      (s.interruptRoute 2).postEvent 2 0x0020 (toBytes 2 n ++ toBytes 2 first ++ toBytes 4 step)
    else s

/-- The actions of a step commit (R247); the layer monitor is read where its table lies in the window. -/
def State.commitStep (s : State) (cfg : FMap Word) (step : Nat) : State :=
  let layers := s.touchedIn step
  let (s, alarmed) := if s.lmtOn then layers.foldl (fun (acc : State × List Nat) l =>
      let (s, a) := acc.1.lmtLayer cfg l
      (s, if a then acc.2 ++ [l] else acc.2)) (s, []) else (s, [])
  let s := { s with train := { s.train with touched := s.train.touched.filter (fun e => e.1 / 4096 != step), frozenStep := [] } }
  let s := (List.range 4096).foldl (fun s l =>
    let s := if bits (FMap.getD cfg (R.TRN_LAYER_STICKY.at [l]) R.TRN_LAYER_STICKY.rst).toNat R.TRN_LAYER_STICKY.lo 1 = 1 || s.fld R.TRN_LAYER_RUNG_T [l] == 0 then s else s.setFld R.TRN_LAYER_RUNG_T 0 [l]
    if s.flag R.TRN_LAYER_FROZEN_T [l] then s.setFlag R.TRN_LAYER_FROZEN_T false [l] else s) s
  let s := (s.setFld R.TRN_STEP_COMMITTED step).bump R.TRN_STEP_COMMITS
  let s := s.setFld R.TRN_SNAP_DONE 0
  s.lmtAlarm alarmed step

/-- A write of 1 to CLEAR_EVAL_RUNGS: staged with an open staging, else at the next work-item boundary, at once on an idle block (R67, R73, R78). -/
def State.writeClearEval (s : State) : State :=
  match s.fld R.EPO_STATUS_STATE with
  | 1 =>
    let off := R.TRN_CTL_CLEAR_EVAL_RUNGS.base
    let (m, v) := s.staged.getD off (0, 0)
    { s with staged := s.staged.put off (m ||| 2, v ||| 2) }.showParticipants
  | 2 => (s.log Code.CFG_BUSY 0x0700).trnLast Code.CFG_BUSY
  | 3 => (s.log Code.CFG_BUSY 0x0700).trnLast Code.CFG_BUSY
  | _ => if s.items.isEmpty then s.clearEvalRungs else { s with train := { s.train with clearEval := true } }

/-- CLEAR_EVAL_RUNGS (R67). -/
def execClearEvalRungs (s : State) : Host.Outcome State Fault Refusal := .next (s.whenUp State.writeClearEval)

end Sys2Proof.Machine
end

