-- ==== Sys2Proof/Machine/Work.lean ====
section
/-! DEFINITION. Dispatch of work items (R409 to R417, R470 to R474), the EVENT, BARRIER and EPOCH classes (R422 to R424, R247), re-issue (R241), completion (R412) and the stop of R537. -/

namespace Sys2Proof.Machine
open Sys2Proof

/-- The checks of an item's class. -/
def State.classVerdict (s : State) (it : Item) : Verdict :=
  let d := it.desc
  match hClass d with
  | 1 => s.matVerdict it
  | 2 => s.launchVerdict d
  | 3 => s.plaitVerdict d
  | 4 => s.copyVerdict d it.srcRung
  | 5 => s.fillVerdict d
  | 6 => s.gsVerdict d
  | 7 => s.gsVerdict d
  | 8 => s.regionVerdict d
  | 9 => s.colVerdict d (cfgFld it R.COL_CFG_WIRE)
  | _ => .run

/-- The checks of an item at dispatch: its header, its class, the SR_BITS of any class (R103), and the skip of a frozen layer's OPTSTEP items (R234, R414, R417). -/
def State.verdict (s : State) (q : Nat) (it : Item) : Verdict :=
  let code := s.headerCode q it.desc
  if code ≠ 0 then .fail code
  else
    let v := s.classVerdict it
    let v := if v.status = 0 ∧ !srBitsOk (hSrBits it.desc) then .fail Code.ROUND_INVALID else v
    if v.status = 0 ∧ hOptstep it.desc ∧ s.layerFrozen it.desc then ⟨0, 0, true, true⟩ else v

/-- Enabled operations of an EVENT item, in order (R422). -/
def evOps (d : Desc) : List Nat := (List.range 4).filter fun i => dsc d (0x30 + 16 * i) 16 2 != 0

/-- OP of an operation. -/
def evOp (d : Desc) (i : Nat) : Nat := dsc d (0x30 + 16 * i) 16 2

/-- The next operation of an EVENT item. -/
def Item.nextOp (it : Item) : Option Nat := (evOps it.desc).find? fun i => (it.blocks.find? i).isNone

/-- One operation of an EVENT item takes effect; the last one completes it (R422). -/
def State.eventOp (s : State) (id : Nat) : State :=
  match s.items.find? id with
  | none => s
  | some it => match it.nextOp with
    | none => s.endNow id
    | some i =>
      let d := it.desc
      let k := dsc d (0x30 + 16 * i) 0 16
      let v := dsc d (0x38 + 16 * i) 0 64
      let s := if evOp d i = 1 then s.evcAdd k v else s.setFld R.EVC_VALUE v [k]
      let s := s.modItem id fun it => { it with phase := .running, blocks := it.blocks.put i 0 }
      if i = ((evOps d).getLast?).getD 0 then s.endNow id else s

/-- An EPOCH item acts as COMMIT and waits for the outcome (R424). -/
def State.epochItem (s : State) (id : Nat) : State :=
  let st := s.fld R.EPO_STATUS_STATE
  if st = 0 ∨ st = 4 then s.endNow id
  else { s with epo := { s.epo with items := s.epo.items ++ [id] } }.epochCommit

/-- A run of an item begins. -/
def State.startItem (s : State) (id : Nat) : State :=
  match s.items.find? id with
  | none => s
  | some it =>
    let d := it.desc
    match hClass d with
    | 1 => s.matStart id
    | 2 => s
    | 3 => s.plaitTake id
    | 8 => s.regionStart id
    | 9 => s.startStep id
    | 0x0A => s.eventOp id
    | 0x0B => (if hStepCommit d then s.commitStep it.cfg (hStep d) else s).endNow id
    | 0x0C => s.epochItem id
    | _ => s.dmaStart id

/-- An item that its checks end: its record without a run, or its skip (R151, R234, R467). -/
def State.endChecked (s : State) (id : Nat) (v : Verdict) : State :=
  match s.items.find? id with
  | none => s
  | some it =>
    let d := it.desc
    let a := if hClass d = 3 then (pTable d, 8 * plaitStages d) else (mAux d, 128)
    let s := if v.status = Code.POISON_CONSUMED then (s.touchLines a.1 a.2 0).logPoison 0x06 (s.itemUnit d) it.queue a.1 it.place else s
    let word := if v.skip && (hClass d == 1 || hClass d == 9) then 2 ^ 16 else 0
    (s.modItem id fun it => { it with status := v.status, exc := v.exc, frozenSkip := v.skip, classWord := word }).endNow id

/-- e′ debited for the present run (R469). -/
def State.letIn (s : State) (id : Nat) : State :=
  match s.items.find? id with
  | none => s
  | some it => (s.debit it.desc).modItem id fun it => { it with debited := s.corrected it.desc, admitted := true }

/-- A head held back only for want of a completion entry is counted once (R411). -/
def State.countWait (s : State) (q : Nat) : State :=
  let d := s.headDesc q
  if s.headReady q d && s.slotRoom (s.homeOf q) && !s.cqRoom (s.cqOf q) && (s.cqMarks.find? q).isNone then
    { s with cqMarks := s.cqMarks.put q () }.bumpSat R.QMC_STATUS_CQ_WAITS
  else s

/-- The head of a queue is dispatched when it is the one its die presents and no die presents one before it: it completes by its checks, or is admitted and runs, or is held (R409, R470, R471). -/
def State.dispatch (s : State) (q : Nat) (force : Bool) : State :=
  if !s.served q then s
  else if !s.presentable q then s.countWait q
  else if !s.presented q || (!force && s.outranked q) then s
  else
    let it := s.newItem q (s.headDesc q)
    let v := s.verdict q it
    if v.status = 0 ∧ !s.admits it.desc force then s.hold q
    else
      let s := s.touchLines (s.headAddr q) 128 0
      let (id, s) := (s.unhold q).takeHead q it
      if v.status ≠ 0 then s.endChecked id v
      else
        let s := s.letIn id
        if v.early then s.endChecked id v else s.startItem id

/-- A class code that Table 15-2 lists. -/
def listedClass (d : Desc) : Bool := decide (1 ≤ hClass d ∧ hClass d ≤ 0x0C)

/-- The dispatch command of one kind of item: the head must be of that kind; a head of no listed class is taken by any (R414). -/
def State.dispatchIf (s : State) (q : Nat) (mine : Desc → Bool) : State :=
  let d := s.headDesc q
  if mine d || !listedClass d then s.dispatch q false else s

/-- The state with the configuration of an item's epoch in the G fields that its dispatch checks read (R70). -/
def State.inEpoch (s : State) (it : Item) : State :=
  let d := it.desc
  let s := [hLayer d, hLadderSrc d].foldl (fun s l => s.setFld R.TRN_LAYER_LADDER_MAX (cfgFld it R.TRN_LAYER_LADDER_MAX [l]) [l]) s
  s.setFld R.QMC_CTX_W1_GROUPS (cfgFld it R.QMC_CTX_W1_GROUPS [hContext d]) [hContext d]

/-- The re-issued items of a gate group are dispatched again (R241), with the rungs of this moment (R243): debited without a hold, checked, run; not during an epoch's barrier (R75). -/
def State.reissue (s : State) (id : Nat) : State :=
  match s.items.find? id with
  | none => s
  | some it =>
    if it.phase ≠ .reissued ∨ s.job.running ∨ !s.fwRuns (2 + it.die) ∨ s.fld R.EPO_STATUS_STATE = 3 then s
    else
      let slice := ((it.gate.bind s.gates.find?).map (·.slice)).getD (s.ctxSlice (hContext it.desc))
      let it := s.withRungs slice { it with phase := .waiting, t0 := s.elapsedNs, aux := s.auxNow it.desc }
      let s := s.modItem id fun _ => it
      let v := (s.inEpoch it).verdict it.queue it
      if v.status ≠ 0 then s.endChecked id v
      else
        let s := s.letIn id
        if v.early then s.endChecked id v
        else if hClass it.desc = 0x0A then (evOps it.desc).foldl (fun s _ => s.eventOp id) s
        else s.startItem id

/-- Every item that waits to run again does so. -/
def State.reissueAll (s : State) : State :=
  (s.items.filter fun e => e.2.phase == .reissued).foldl (fun s e => s.reissue e.1) s

/-- A dispatching command, followed by re-issues that have become due. -/
def State.served' (s : State) (q : Nat) (mine : Desc → Bool) : State := (s.dispatchIf q mine).reissueAll

/-- The last answer of a launch: it ends if nothing of it is left; a failure stops the instances that are left, while entries left by one chain stop no other (R178, R210, R342). -/
def State.launchAnswered (s : State) (id : Nat) (it : Item) : State :=
  if it.live.isEmpty then (if it.status ≠ 0 || it.phase == .running then s.launchOver id else s)
  else if it.goesOn then s else s.stopLaunch id it.status 0

/-- An item no longer waits for an answer from outside: it goes on, or ends (R342, R511, R517). -/
def State.answered (s : State) (id : Nat) : State :=
  match s.items.find? id with
  | none => s
  | some it =>
    if it.pendingRemote ≠ 0 ∨ it.phase = .withheld ∨ it.phase = .reissued then s
    else match hClass it.desc with
      | 1 => if it.status ≠ 0 then ((s.logInvalid id).endNow id).reissueAll else if it.phase = .waiting then s.matStart id else s.blockEvc id
      | 2 => (s.launchAnswered id it).reissueAll
      | 3 => if it.phase = .waiting ∧ it.blocks.isEmpty then s.plaitTake id
             else (s.launchAnswered id it).reissueAll
      | 8 => if it.status ≠ 0 then (s.endNow id).reissueAll else if it.phase = .waiting then s.regionStart id else s
      | 9 => match s.cols.find? id with
        | some c =>
          if c.wait = .lines ∧ it.status = 0 then s.beginStep id
          else if c.wait = .run ∧ it.status = 0 then match s.stepView id, c.feedWait with
            | some v, some x => if s.fedNow v x then (s.feedGoes v x).retryJoins else s
            | _, _ => s
          else if c.wait = .writes ∧ it.status ≠ Code.REMOTE_UNREACHABLE then (s.stepDone id).reissueAll else s
        | none => (s.endNow id).reissueAll
      | _ => if it.status ≠ 0 then (s.endNow id).reissueAll else if it.phase = .waiting then s.dmaStart id else s

/-- The head is taken by a command of one class. -/
def classIs (c : Nat) (d : Desc) : Bool := hClass d == c

/-- MATRIX_PRODUCT: a product item is dispatched (R140, R549). -/
def execMatrixProduct (q : Nat) (s : State) : Host.Outcome State Fault Refusal :=
  .next (s.whenUp fun s => s.served' q fun d => classIs 1 d && !mMerge d)

/-- MATRIX_MERGE: a merge item is dispatched (R147). -/
def execMatrixMerge (q : Nat) (s : State) : Host.Outcome State Fault Refusal :=
  .next (s.whenUp fun s => s.served' q fun d => classIs 1 d && mMerge d)

/-- REED_LAUNCH: a launch is checked and waits for its cores (R174, R175). -/
def execReedLaunch (q : Nat) (s : State) : Host.Outcome State Fault Refusal := .next (s.whenUp fun s => s.served' q (classIs 2))

/-- PLAIT: a chain is checked and waits for its cores (R202, R203). -/
def execPlait (q : Nat) (s : State) : Host.Outcome State Fault Refusal := .next (s.whenUp fun s => s.served' q (classIs 3))

/-- COPY (R425). -/
def execCopy (q : Nat) (s : State) : Host.Outcome State Fault Refusal := .next (s.whenUp fun s => s.served' q (classIs 4))

/-- FILL (R305). -/
def execFill (q : Nat) (s : State) : Host.Outcome State Fault Refusal := .next (s.whenUp fun s => s.served' q (classIs 5))

/-- GATHER (R426). -/
def execGather (q : Nat) (s : State) : Host.Outcome State Fault Refusal := .next (s.whenUp fun s => s.served' q (classIs 6))

/-- SCATTER (R426). -/
def execScatter (q : Nat) (s : State) : Host.Outcome State Fault Refusal := .next (s.whenUp fun s => s.served' q (classIs 7))

/-- A REDUCE_REGION head with an OP; a reserved OP is taken by any of the five. -/
def regionOp (op : Nat) (d : Desc) : Bool := classIs 8 d && (gOp d == op || decide (4 < gOp d))

/-- REGION_DECLARE (R276). -/
def execRegionDeclare (q : Nat) (s : State) : Host.Outcome State Fault Refusal := .next (s.whenUp fun s => s.served' q (regionOp 0))

/-- REGION_CLEAR (R280). -/
def execRegionClear (q : Nat) (s : State) : Host.Outcome State Fault Refusal := .next (s.whenUp fun s => s.served' q (regionOp 1))

/-- REGION_ADD (R278). -/
def execRegionAdd (q : Nat) (s : State) : Host.Outcome State Fault Refusal := .next (s.whenUp fun s => s.served' q (regionOp 2))

/-- REGION_OUT (R281). -/
def execRegionOut (q : Nat) (s : State) : Host.Outcome State Fault Refusal := .next (s.whenUp fun s => s.served' q (regionOp 3))

/-- REGION_RELEASE (R282). -/
def execRegionRelease (q : Nat) (s : State) : Host.Outcome State Fault Refusal := .next (s.whenUp fun s => s.served' q (regionOp 4))

/-- The item of a queue whose next operation is `op`, of a kind (1 ADD, 2 SET). -/
def State.eventItem (s : State) (q kind op : Nat) : Option Nat :=
  (List.find? (fun (e : Nat × Item) => e.2.queue == q && hClass e.2.desc == 0x0A && (e.2.phase == .running || e.2.phase == .waiting) &&
    e.2.nextOp == some op && evOp e.2.desc op == kind) s.items).map (·.1)

/-- The EVENT head whose first operation is `op` of a kind; an item with none of its own, or with a reserved one, is taken by either. -/
def eventHead (kind op : Nat) (d : Desc) : Bool :=
  classIs 0x0A d && match (evOps d).head? with
    | none => true
    | some i => !headerOk d || (i == op && evOp d i == kind)

/-- An operation of an EVENT item, in flight or at the queue's head (R422). -/
def State.eventCmd (s : State) (q kind op : Nat) : State :=
  match s.eventItem q kind op with
  | some id => if s.job.running then s else (s.eventOp id).reissueAll
  | none => s.served' q (eventHead kind op)

/-- EVENT_OP_ADD (R422). -/
def execEventOpAdd (q op : Nat) (s : State) : Host.Outcome State Fault Refusal := .next (s.whenUp fun s => s.eventCmd q 1 op)

/-- EVENT_OP_SET (R422). -/
def execEventOpSet (q op : Nat) (s : State) : Host.Outcome State Fault Refusal := .next (s.whenUp fun s => s.eventCmd q 2 op)

/-- BARRIER_ITEM: a barrier dispatches after every earlier item of its queue (R423). -/
def execBarrierItem (q : Nat) (s : State) : Host.Outcome State Fault Refusal :=
  .next (s.whenUp fun s => s.served' q fun d => classIs 0x0B d && !hStepCommit d)

/-- STEP_COMMIT: a barrier with STEP_COMMIT (R247). -/
def execStepCommit (q : Nat) (s : State) : Host.Outcome State Fault Refusal :=
  .next (s.whenUp fun s => s.served' q fun d => classIs 0x0B d && hStepCommit d)

/-- EPOCH_ITEM (R424). -/
def execEpochItem (q : Nat) (s : State) : Host.Outcome State Fault Refusal := .next (s.whenUp fun s => s.served' q (classIs 0x0C))

/-- A COLLECTIVE_STEP head with an OP; a reserved OP is taken by any of the six. -/
def stepOp (op : Nat) (d : Desc) : Bool := classIs 9 d && (cOp d == op || decide (5 < cOp d))

/-- ALL_REDUCE (R360). -/
def execAllReduce (q : Nat) (s : State) : Host.Outcome State Fault Refusal := .next (s.whenUp fun s => s.served' q (stepOp 0))

/-- REDUCE_SCATTER (R359). -/
def execReduceScatter (q : Nat) (s : State) : Host.Outcome State Fault Refusal := .next (s.whenUp fun s => s.served' q (stepOp 1))

/-- ALL_GATHER (R359). -/
def execAllGather (q : Nat) (s : State) : Host.Outcome State Fault Refusal := .next (s.whenUp fun s => s.served' q (stepOp 2))

/-- ALL_TO_ALL (R366). -/
def execAllToAll (q : Nat) (s : State) : Host.Outcome State Fault Refusal := .next (s.whenUp fun s => s.served' q (stepOp 3))

/-- BROADCAST (R359). -/
def execBroadcast (q : Nat) (s : State) : Host.Outcome State Fault Refusal := .next (s.whenUp fun s => s.served' q (stepOp 4))

/-- COLL_BARRIER (R359). -/
def execCollBarrier (q : Nat) (s : State) : Host.Outcome State Fault Refusal := .next (s.whenUp fun s => s.served' q (stepOp 5))

/-- HELD_HEAD_ADMIT: the held head of its die's presentation is admitted once the balance covers it (R470, R471). -/
def execHeldHeadAdmit (q : Nat) (s : State) : Host.Outcome State Fault Refusal :=
  .next (s.whenUp fun s => if s.heldOf (s.homeOf q) = some q then (s.dispatch q false).reissueAll else s)

/-- An item's work is done, or it has failed and waits for nothing (R412). -/
def State.canEnd (s : State) (id : Nat) (it : Item) : Bool :=
  it.pendingRemote == 0 && (it.phase == .waiting || it.phase == .running) &&
    match hClass it.desc with
    | 1 => it.status != 0 || (it.phase == .running && it.blocks.length == mBlocks it.desc)
    | 2 => it.live.isEmpty && (it.status != 0 || it.phase == .running)
    | 3 => it.live.isEmpty && (it.status != 0 || it.phase == .running)
    | 9 => (s.cols.find? id).isNone
    | 0x0A => it.nextOp.isNone
    | 0x0B => true
    | 0x0C => !s.epo.items.contains id
    | _ => it.status != 0 || it.phase == .running

/-- ITEM_COMPLETE: outputs are visible, signals increment, the record is written, unless a gate withholds them (R412, R238). -/
def execItemComplete (item measured : Nat) (s : State) : Host.Outcome State Fault Refusal :=
  .next (s.whenUp fun s =>
    match s.items.find? item with
    | none => s
    | some it => if s.canEnd item it then (s.endRun item measured).reissueAll else s)

/-- The rows of a stopped MATRIX item: written ones, and those of its other blocks that it had come to write, are undefined (R537, R551). -/
def State.stopMatrix (s : State) (it : Item) : State :=
  let d := it.desc
  (List.range (mBlocks d)).foldl (fun s n =>
    let b := s.blockPlan it n
    let p := s.blockTile d n
    let poison := match it.blocks.find? n with
      | some v => bit v 32
      | none => b.reads.any fun r => (s.peek r.1 r.2).2
    if !(b.writes.all fun r => s.mappedRange r.1 r.2 && !(rangeLines [r]).any s.farLine) then s
    else (List.range b.iN).foldl (fun s i =>
      let (w, s) := s.free
      if (it.blocks.find? n).isNone && !bit w.toNat 0 then s
      else
        let (r, s) := s.freeRow b
        s.writeRow p b (n % mCols d) i r poison) s) s

/-- Where a SCATTER puts a row: the table's row, or the window bytes of its region elements (R426). -/
def State.scatterOut (s : State) (d : Desc) (r : Nat) : List (Nat × Nat) :=
  if gsRegion d then match s.gsRgn d with
    | some g => [(windowBase + g.off + 16 * (r * gsE d), 16 * gsE d)]
    | none => []
  else [(gsTableRow d r, gsRow d)]

/-- What a stopped item's output lines hold: undefined data, marks as its writes have left them (R537, R551); of a launch, what its instances have stored and contributed to. -/
def State.stopOutputs (s : State) (id : Nat) (it : Item) : State :=
  let d := it.desc
  if it.phase ≠ .running then s
  else match hClass d with
    | 1 => s.stopMatrix it
    | 2 => (s.mem.wrote.getD id []).foldl State.undefine s
    | 3 => (s.mem.wrote.getD id []).foldl State.undefine s
    | 4 => (copyWrites d).foldl State.undefine s
    | 5 => State.undefine s (fAddr d, fLen d)
    | 6 => State.undefine s (gsDense d, gsCount d * gsRow d)
    | 7 => ((List.range (s.gsRows d).1).flatMap fun i => s.scatterOut d (s.gsIdx d i).1).foldl State.undefine s
    | _ => s

/-- JOB_FATAL_ITEM_STOP: an item in flight on tiles stops and completes with the sequence's code (R537). -/
def execJobFatalItemStop (item : Nat) (s : State) : Host.Outcome State Fault Refusal :=
  match s.items.find? item with
  | none => .next s
  | some it =>
    if s.up && s.job.running && usesTgroup (hClass it.desc) && it.phase != .withheld then
      let s := s.stopOutputs item it
      let code := s.job.code
      if it.live.isEmpty then .next ((s.modItem item fun it => { it with status := code, phase := .running }).endNow item)
      else .next ((s.modItem item fun it => { it with status := code, pendingRemote := 0 }).stopLaunch item code 0)
    else .next s

end Sys2Proof.Machine
end

