-- ==== Sys2Proof/Machine/Energy.lean ====
section
/-! DEFINITION. The energy account's window (R461 to R468, R472), droops (R44, R46), throttles and the hotspot trip (R480 to R482), stack temperatures (R262 to R265), the narrow limit (R267), stale requests (R60). -/

namespace Sys2Proof.Machine
open Sys2Proof

/-- A 16-bit temperature in 1/16 °C as a signed number. -/
def tempOf (t : Nat) : Int := sext 16 (t % 65536)

/-- A temperature as its 16-bit field. -/
def tempField (t : Int) : Nat := wrapInt 16 t

/-- A highest-reading field raised to a reading. -/
def State.maxTemp (s : State) (f : Fld) (t : Int) (ix : List Nat) : State :=
  if tempOf (s.fld f ix) < t then s.setFld f (tempField t) ix else s

/-- Unit ID of the woodpile. -/
abbrev nrgUnit : Nat := 0x0300

/-- A die's hotspot reading (Table 17-11); the sideband shows the highest (Table 1-7). -/
def State.hotReading (s : State) (die : Nat) (temp : Nat) : State :=
  let s := (s.setFld R.NRG_DIE_W0_HOTSPOT (temp % 65536) [die]).maxTemp R.NRG_DIE_W0_MAX_HOTSPOT (tempOf temp) [die]
  { s with sb := { s.sb with hotspot := wrapInt 32 (((List.range 5).map fun d => tempOf (s.fld R.NRG_DIE_W0_HOTSPOT [d])).foldl max (-32768)) } }

/-- A change of a throttle: setpoints, THROTTLE, emergency follow. -/
def State.hotStage (s : State) (die stage : Nat) : State :=
  ((s.modRail die fun r => { r with stage := stage }).setFldBit R.NRG_THR_HOT die (stage != 0)).powerMoved

/-- The throttles act: their limits are loaded, whether or not the units still run (R19, R478, R480). -/
def State.whenHot (s : State) (f : State → State) : State :=
  if s.up || (s.pins.modPwrgd && s.fld R.NRG_ENVELOPE_THROTTLE_C != 0) then f s else s

/-- An entry that the error log takes while the units run. -/
def State.logUp (s : State) (code unit : Nat) : State := if s.up then s.log code unit else s

/-- HOT_THROTTLE_ENTER: the hotspot of a die reaches the throttle temperature (Table 17-3). -/
def execHotThrottleEnter (die temp : Nat) (s : State) : Host.Outcome State Fault Refusal :=
  .next (s.whenHot fun s =>
    if 5 ≤ die then s else
      let s := s.hotReading die temp
      if (s.rail die).stage = 0 ∧ (16 * s.fld R.NRG_ENVELOPE_THROTTLE_C : Nat) ≤ tempOf temp then
        ((s.bumpSat R.NRG_THR_ENTRIES).logUp Code.HOT_THROTTLE nrgUnit).hotStage die 1
      else s)

/-- HOT_THROTTLE_STAGE2: the hotspot of a throttled die reaches 105 °C (Table 17-3). -/
def execHotThrottleStage2 (die temp : Nat) (s : State) : Host.Outcome State Fault Refusal :=
  .next (s.whenHot fun s =>
    if 5 ≤ die then s else
      let s := s.hotReading die temp
      if (s.rail die).stage = 1 ∧ 16 * 105 ≤ tempOf temp then s.hotStage die 2 else s)

/-- HOT_THROTTLE_STAGE2_EXIT: below 100 °C the first-stage cap returns (Table 17-3). -/
def execHotThrottleStage2Exit (die temp : Nat) (s : State) : Host.Outcome State Fault Refusal :=
  .next (s.whenHot fun s =>
    if 5 ≤ die then s else
      let s := s.hotReading die temp
      if (s.rail die).stage = 2 ∧ tempOf temp < 16 * 100 then s.hotStage die 1 else s)

/-- HOT_THROTTLE_EXIT: 5 °C below the throttle temperature both stages end (Table 17-3). -/
def execHotThrottleExit (die temp : Nat) (s : State) : Host.Outcome State Fault Refusal :=
  .next (s.whenHot fun s =>
    if 5 ≤ die then s else
      let s := s.hotReading die temp
      if (s.rail die).stage ≠ 0 ∧ tempOf temp < 16 * ((s.fld R.NRG_ENVELOPE_THROTTLE_C : Nat) - 5 : Int) then s.hotStage die 0 else s)

/-- ICL_THROTTLE_ENTER: input current reaches the active limit; the rails are lowered from where they stand (Table 17-3). -/
def execIclThrottleEnter (s : State) : Host.Outcome State Fault Refusal :=
  .next (s.whenHot fun s =>
    if s.flag R.NRG_THR_ICL then s
    else
      let s := (List.range 5).foldl (fun s d => s.modRail d fun r => { r with icl := some (s.fld R.NRG_DIE_W0_SETPOINT_MV [d]) }) s
      (((s.setFlag R.NRG_THR_ICL true).bumpSat R.NRG_THR_ENTRIES).logUp Code.ICL_THROTTLE nrgUnit).powerMoved)

/-- ICL_THROTTLE_STEP: 20 µs more of the condition lower every core rail by 10 mV (Table 17-3). -/
def execIclThrottleStep (s : State) : Host.Outcome State Fault Refusal :=
  .next (s.whenHot fun s =>
    if s.flag R.NRG_THR_ICL then
      ((List.range 5).foldl (fun s d => s.modRail d fun r => { r with icl := r.icl.map fun v => max 600 (v - 10) }) s).powerMoved
    else s)

/-- ICL_THROTTLE_EXIT: current below 95 % of the limit for 1 ms (Table 17-3). -/
def execIclThrottleExit (s : State) : Host.Outcome State Fault Refusal :=
  .next (s.whenHot fun s =>
    if s.flag R.NRG_THR_ICL then
      (((List.range 5).foldl (fun s d => s.modRail d fun r => { r with icl := none }) s).setFlag R.NRG_THR_ICL false).powerMoved
    else s)

/-- RAIL_RAMP_STEP: FW1 raises a rail by at most 10 mV after a cap has ended (Table 17-3). -/
def execRailRampStep (die : Nat) (s : State) : Host.Outcome State Fault Refusal :=
  .next (s.whenUp fun s =>
    if 5 ≤ die || (s.rail die).ramp.isNone || !s.fwRuns 1 then s
    else
      let t := s.railTarget die
      let v := min t (s.fld R.NRG_DIE_W0_SETPOINT_MV [die] + 10)
      (s.setFld R.NRG_DIE_W0_SETPOINT_MV v [die]).modRail die fun r => { r with ramp := if v = t then none else some v })

/-- HOT_TRIP: a hotspot reaches 110 °C. The pin, the alert and the rails answer wherever the module is powered; the job-fatal part needs the internal reset released (R31, R482, Table 17-4). -/
def execHotTrip (die : Nat) (s : State) : Host.Outcome State Fault Refusal :=
  .next (
    if !s.pins.modPwrgd || s.sb.trip || decide (5 ≤ die) then s
    else
      let s := { s with sb := { s.sb with trip := true }, pins := { s.pins with thermTripN := false } }.alertOn 3
      let s := if s.pins.released then
          let s := s.jobFatal Code.HOT_TRIP nrgUnit 0 0
          { s with job := { s.job with tilesOff := true } }
        else s
      s.tripUpdate.powerMoved)

/-- DROOP_DETECT: a core rail falls 30 mV below its setpoint: fast recovery, the hold of new matrix work, the count (R44). -/
def execDroopDetect (die : Nat) (s : State) : Host.Outcome State Fault Refusal :=
  .next (s.whenUp fun s =>
    if 5 ≤ die ∨ (s.rail die).droop then s
    else ((s.modRail die fun r => { r with droop := true }).bumpSat R.NRG_DIE_W1_DROOPS [die]).emit (.fastRecovery die))

/-- DROOP_RECOVER: the rail is back within 10 mV of its setpoint (R44). -/
def execDroopRecover (die : Nat) (s : State) : Host.Outcome State Fault Refusal :=
  .next (s.whenUp fun s => if 5 ≤ die then s else s.modRail die fun r => { r with droop := false })

/-- VCORE_UNDERVOLT: a core rail has stayed below 0.55 V for more than 2 µs (R46).
DESIGN CHOICE (log 119): the spec gives the entry no unit; the woodpile's is taken, and the entry names no die. -/
def execVcoreUndervolt (die : Nat) (s : State) : Host.Outcome State Fault Refusal :=
  .next (s.whenUp fun s => if 5 ≤ die then s else s.jobFatal Code.VCORE_UNDERVOLT nrgUnit 0 0)

/-- The held heads, in the order of R470. -/
def State.heldHeads (s : State) : List Nat := (List.range 4).filterMap s.heldOf

/-- The held head that comes first: priority, age, die (R470). -/
def State.firstHeld (s : State) : Option Nat :=
  let hs := s.heldHeads
  let prio := fun q => s.fld R.QMC_CTX_W0_PRIO [hContext (s.headDesc q)]
  let age := fun q => s.fld R.WQS_W5_HEAD_AGE [q]
  hs.find? fun q => hs.all fun r => r == q || decide (prio r < prio q) ||
    (prio r == prio q && (olderStamp (age q) (age r) || (!olderStamp (age r) (age q) && decide (s.homeOf q < s.homeOf r))))

/-- FW1's choices at a window start, free within their limits: coefficients (R469) and rail setpoints (R478). -/
def State.fw1Policy (s : State) : State :=
  if s.fwRuns 1 then
    let s := (List.range 12).foldl (fun s c =>
      let (w, s) := s.free
      s.setFld R.NRG_COEF_COEF (0x40 + w.toNat % (0x400 - 0x40 + 1)) [c]) s
    (List.range 5).foldl (fun s d =>
      let (w, s) := s.free
      s.modRail d fun r => { r with fw1 := 600 + w.toNat % 251 }) s
  else s

/-- The overshoot throttle for the window that starts, from the input energy of the last one (Table 17-3). -/
def State.overshoot (s : State) (inputUj : Nat) : State :=
  let env := s.fld R.GLB_CAPS_ENVELOPE_W * 1000
  let n := if env < inputUj then s.nrg.above + 1 else 0
  let s := { s with nrg := { s.nrg with above := n } }
  let hit := decide (115 * env < 100 * inputUj) || decide (10 ≤ n)
  let s := s.setFlag R.NRG_THR_OVERSHOOT hit
  if hit then (s.bumpSat R.NRG_THR_ENTRIES).log Code.ENVELOPE_OVERSHOOT nrgUnit else s

/-- The meters of a window that ends: a running item's share of it is a free value, attributed to that window (R462). -/
def State.meterItems (s : State) : State :=
  (FMap.keys s.items).foldl (fun s id => match s.items.find? id with
    | some it =>
      if it.admitted ∧ it.phase = .running then
        let (w, s) := s.free
        let e := bits w.toNat 0 32
        { (s.modItem id fun it => { it with metered := it.metered + e }) with nrg := { s.nrg with attributed := s.nrg.attributed + e } }
      else s
    | none => s) s

/-- Balances lapse, tokens are issued, the base of the last window is debited (R464). -/
def State.newWindow (s : State) (inputUj : Nat) : State :=
  let n := s.nrg
  let lapsed := n.general.toNat + n.reserve
  let s := s.bump R.NRG_LEDGER_LAPSED_UJ [] lapsed
  let pend := s.fld R.NRG_BUDGET_PENDING_UJ
  let s := if pend = 0 then s else (s.setFld R.NRG_BUDGET_WINDOW_UJ pend).setFld R.NRG_BUDGET_PENDING_UJ 0
  let b := s.fld R.NRG_BUDGET_WINDOW_UJ
  let s := s.bump R.NRG_LEDGER_ISSUED_UJ [] b
  let base : Int := (inputUj : Int) - n.attributed
  let s := s.setFld R.NRG_LEDGER_BASE_UJ (wrapInt 64 ((s.fld R.NRG_LEDGER_BASE_UJ : Int) + base))
  let s := (s.setFld R.NRG_WINDOW_INPUT_UJ inputUj).setFld R.NRG_WINDOW_BASE_UJ (wrapInt 32 base)
  let general := min n.general 0 + ((b - b / 10 : Nat) : Int) - base
  { s with nrg := { n with general := general, reserve := b / 10, attributed := 0, ctxDebits := [], issuedGeneral := b - b / 10 } }

/-- ENERGY_DEBT, once per debt (R468). -/
def State.energyDebt (s : State) : State :=
  let g := s.nrg.general
  if g < -(s.fld R.NRG_BUDGET_WINDOW_UJ : Int) then
    if s.nrg.debtLogged then s else { s with nrg := { s.nrg with debtLogged := true } }.log Code.ENERGY_DEBT nrgUnit
  else if 0 ≤ g then { s with nrg := { s.nrg with debtLogged := false } }
  else s

/-- The held head that comes first is admitted whatever its estimate (R472); one that its checks end is not admitted (R467). -/
def State.overdraw (s : State) : State :=
  if 0 < s.nrg.general then match s.firstHeld with
    | some q =>
      let t := s.dispatch q true
      if t.nextItem = s.nextItem then s
      else (if (s.verdict q (s.newItem q (s.headDesc q))).status = 0 then t.bumpSat R.NRG_HOLD_OVERDRAWS else t).reissueAll
    | none => s
  else s

/-- WINDOW_START: a window of 1 ms begins; the integrators' readings of the last one are given, and what it attributed to running items is a free value (R461 to R464, R468, R472, R477). -/
def execWindowStart (inputUj : Nat) (railMj : List Nat) (s : State) : Host.Outcome State Fault Refusal :=
  .next (s.whenUp fun s =>
    let s := (List.range 11).foldl (fun s r => s.bump R.NRG_RAIL_MJ [r] (railMj.getD r 0)) s
    let s := { s with sb := { s.sb with power := inputUj / 1000 } }
    (((s.meterItems.newWindow inputUj).energyDebt.fw1Policy.overshoot inputUj).powerMoved).overdraw)

/-- What a stack's state becomes on a reading (Table 10-3); 4 is the trip. -/
def stackState (cur : Nat) (t : Int) : Nat :=
  if cur = 4 ∨ 16 * 105 ≤ t then 4
  else if 16 * 100 ≤ t ∨ (cur = 3 ∧ 16 * 97 ≤ t) then 3
  else if 16 * 95 ≤ t ∨ (2 ≤ cur ∧ 16 * 92 ≤ t) then 2
  else if 16 * 85 ≤ t ∨ (1 ≤ cur ∧ 16 * 82 ≤ t) then 1
  else 0

/-- A stack, or a rim package, that has reached 105 °C: out of reach, alert source 2, job-fatal (R265). -/
def State.memTrip (s : State) (k unit : Nat) : State :=
  if s.mem.tripped.contains k then s
  else ({ s with mem := { s.mem with tripped := s.mem.tripped ++ [k] } }.tripUpdate.alertOn 2).jobFatal Code.MEM_THERMAL_TRIP unit 0 0

/-- Readings of all stacks. -/
def State.stackTemps (s : State) : List Int := (List.range 16).map fun k => tempOf (s.fld R.STK_STATUS_TEMP [k / 4, k % 4])

/-- STACK_TEMP_SAMPLE: a reading of stack 0 to 15, or of rim package 16 to 31 (R262 to R265, Table 10-3). -/
def execStackTempSample (stack : Nat) (temp : Int) (s : State) : Host.Outcome State Fault Refusal :=
  .next (s.whenUp fun s =>
    if stack < 16 then
      let ix := [stack / 4, stack % 4]
      let unit := 0x1210 + 0x400 * (stack / 4) + stack % 4
      let s := (s.setFld R.STK_STATUS_TEMP (tempField temp) ix).maxTemp R.STK_STATUS_MAX_TEMP temp ix
      let oldSlow := s.slowStands
      let cur := s.fld R.STK_STATUS_STATE ix
      let new := stackState cur temp
      let s := s.setFld R.STK_STATUS_STATE new ix
      let s := { s with sb := { s.sb with stackTemp := wrapInt 32 (s.stackTemps.foldl max (-32768)) } }
      let s := if cur < 2 ∧ 2 ≤ new then s.log Code.STK_HOT unit else s
      let s := if 16 * 100 ≤ temp then s.alertOn 1 else if s.stackTemps.all (fun t => decide (t < 16 * 95)) then s.alertOff 1 else s
      let s := s.flagsMoved (s.flag R.NRG_THR_THROTTLE) oldSlow
      if new = 4 ∧ cur ≠ 4 then s.memTrip stack unit else s
    else if stack < 32 ∧ s.flag R.GLB_CAPS_RIM_PRESENT then
      let s := s.setFld R.RIM_STATUS_TEMP (tempField temp) [stack - 16]
      if 16 * 105 ≤ temp then s.memTrip stack (0x2210 + (stack - 16)) else s
    else s)

/-- An arbiter of the narrow requests. -/
def State.arb (s : State) (k : Nat) : Arb := s.arbs.getD k Arb.fresh

/-- TIL_ARB_WEIGHT's weight of source i of a tile: the value plus 1 (Table 3-10). -/
def State.tileWeight (s : State) (p i : Nat) : Nat := bits (s.fld R.TIL_ARB_WEIGHT_WEIGHT (tix p)) (2 * i) 2 + 1

/-- The tile whose DMA issued a narrow request that waits: the first of its item's group. -/
def State.askTile (s : State) (a : Ask) : Nat :=
  match a.req.waiter with
  | .item id => match s.items.find? id with
    | some it => (s.groupTiles (hTgroup it.desc)).headD 0
    | none => 144 * a.req.narrow.getD 0
  | _ => 144 * a.req.narrow.getD 0

/-- The heads of a tile's sources: its waiting reed cores, 0 to 7, and its DMA, 9 (Table 3-9). -/
def State.tileHeads (s : State) (p : Nat) : List ArbHead :=
  ((s.waiting.filter fun e => e.2.tile == p).map fun e => { src := e.2.src, age := e.2.age, stale := e.2.stale }) ++
    (match s.narrowWait.find? fun a => s.askTile a == p with
    | some a => [{ src := 9, age := a.req.age, stale := a.flit.stale }]
    | none => [])

/-- The oldest request that a tile's DMA holds is sent. -/
def State.sendHeld (s : State) (p : Nat) : State :=
  match s.narrowWait.find? fun a => s.askTile a == p with
  | none => s
  | some a =>
    let s := { s with narrowWait := s.narrowWait.erase a }
    match s.freeTag with
    | some tag => s.sendAsk a tag
    | none => { s with tagWait := s.tagWait ++ [a] }

/-- What the injection arbiter of a tile puts forward. -/
def State.tileChoice (s : State) (p : Nat) : Option (ArbHead × Arb × Bool × Nat) := (s.arb p).grant (s.tileWeight p) (s.tileHeads p)

/-- The injection arbiter of a tile grants what it put forward: TIL_RTR_STAT counts what the cap withheld, and the longest wait (Table 3-11). -/
def State.tileGrant (s : State) (p : Nat) : State :=
  match s.tileChoice p with
  | none => s
  | some (w, r, withheld, waited) =>
    let s := { s with arbs := s.arbs.put p r, waiting := FMap.keep (fun _ x => !(x.tile == p && x.src == w.src)) s.waiting }
    let s := if withheld then s.bumpSat R.TIL_RTR_STAT_CAP_HITS (tix p) else s
    let s := s.maxFld R.TIL_RTR_STAT_MAX_WAIT (min waited 65535) (tix p)
    if w.src = 9 then s.sendHeld p else s

/-- The tiles of a die with a waiting request, each by what it puts forward. -/
def State.dieHeads (s : State) (die : Nat) : List ArbHead :=
  ((((s.waiting.map fun e => e.2.tile) ++ s.narrowWait.map s.askTile).filter fun p => p / 144 == die).eraseDups).filterMap fun p =>
    (s.tileChoice p).map fun c => { c.1 with src := p % 144 }

/-- NARROW_LIMIT_RELEASE: a request of the die has completed, and the tile whose head the die's arbiter grants may issue it (R61, R62, R267). -/
def execNarrowLimitRelease (die : Nat) (s : State) : Host.Outcome State Fault Refusal :=
  .next (s.whenUp fun s =>
    if s.narrowOut' die < 4096 then
      match (s.arb (1024 + die)).grant (fun _ => 1) (s.dieHeads die) with
      | some (w, r, _) => ({ s with arbs := s.arbs.put (1024 + die) r }.tileGrant (144 * die + w.src))
      | none => s
    else s)

/-- A stamp has reached an age of 16,384 units (R60). -/
def State.tooOld (s : State) (age : Nat) : Bool := decide (16384 ≤ (s.ageStamp + 65536 - age) % 65536)

/-- REQUEST_STALE: a waiting request has reached an age of 16,384 stamp units (R60). `req` is the core of a narrow request, 2^19 + the place of one that a DMA engine holds, or 2^20 + 2^16 × port + place of a flit that waits there. -/
def execRequestStale (req : Nat) (s : State) : Host.Outcome State Fault Refusal :=
  .next (s.whenUp fun s =>
    if 2 ^ 20 ≤ req then
      let k := (req - 2 ^ 20) / 2 ^ 16
      match (s.port k).txq[req % 2 ^ 16]? with
      | some f => if s.tooOld f.age && decide (k < 12) then s.modPort k fun p => { p with txq := p.txq.set (req % 2 ^ 16) { f with stale := true } } else s
      | none => s
    else if 2 ^ 19 ≤ req then
      match s.narrowWait[req - 2 ^ 19]? with
      | some a => if s.tooOld a.req.age && !a.flit.stale then
          { s with narrowWait := s.narrowWait.set (req - 2 ^ 19) { a with flit := { a.flit with stale := true } } }.bumpSat R.TIL_RTR_STAT_STALE (tix (s.askTile a))
        else s
      | none => s
    else match s.waiting.find? req with
      | some w =>
        if s.tooOld w.age && !w.stale then
          { s with waiting := s.waiting.put req { w with stale := true } }.bumpSat R.TIL_RTR_STAT_STALE (tix w.tile)
        else s
      | none => s)

end Sys2Proof.Machine
end

