-- ==== Sys2Proof/Machine/Ras.lean ====
section
/-! DEFINITION. Memory from outside the engines: line reads and writes, merges, atomics (R269, R274, R283 to R296), scrub (R307 to R309), the error log's tail (R310), fences and retirement (R315 to R320), injection (R290). -/

namespace Sys2Proof.Machine
open Sys2Proof

/-- Unit ID of the error-log block. -/
abbrev erlUnit : Nat := 0x0600

/-- Wrong bits of word `i` among flips (80 × word + bit, any value). -/
def wordFlips (flips : List (Nat × Nat)) (i : Nat) : Nat :=
  flips.foldl (fun e f => if f.1 / 80 = i then e ^^^ 2 ^ (f.1 % 80) else e) 0

/-- The 64 bytes of an on-chip line, or of the copy that a slice holds of a memory line. -/
def Mem.lineBytes (m : Mem) (l : Nat) : List Byte :=
  match m.slices.find? l with
  | some (d, _) => d
  | none => m.bytesAt (64 * l) 64

/-- Poison of the words of that line. -/
def Mem.linePoison (m : Mem) (l : Nat) : Nat :=
  match m.slices.find? l with
  | some (_, p) => p
  | none => (List.range 8).foldl (fun p i => p + b2n (m.wordPoison (8 * l + i)) * 2 ^ i) 0

/-- A word of that line with what a read has left in it, `flip` the bits that differ from what it held (R285). -/
def Mem.putWord (m : Mem) (a flip : Nat) (p : Bool) : Mem :=
  let l := a / 64
  let d := xorAt (m.lineBytes l) ((toBytes 8 flip).mapIdx fun i b => (a % 64 + i, b.toNat))
  let q := putBits (m.linePoison l) (a % 64 / 8) 1 (b2n p)
  match m.slices.find? l with
  | some _ => { m with slices := m.slices.put l (d, q) }
  | none => (m.putBytes a ((d.drop (a % 64)).take 8)).mark (a / 8) p

/-- Bytes of a line that no writer has changed: its travel check stays what it was (R291, R293). -/
def Mem.changed (m : Mem) (a flip : Nat) (p : Bool) : Mem :=
  let l := a / 64
  let c := m.checks.getD l (travelCheck (m.lineBytes l))
  let m := m.putWord a flip p
  { m with checks := if travelCheck (m.lineBytes l) = c then FMap.del l m.checks else m.checks.put l c }

/-- A word that does not decode: it is poisoned, and the check of the other words stands as it stood. -/
def Mem.spoiled (m : Mem) (a flip : Nat) : Mem :=
  let l := a / 64
  let old := travelCheck (m.lineBytes l)
  let m' := m.putWord a flip true
  match m.checks.find? l with
  | some c => { m' with checks := m'.checks.put l (c ^^^ old ^^^ travelCheck (m'.lineBytes l)) }
  | none => m'

/-- One word of an on-chip line, or of a line that its slice holds, read with bits wrong (R285): corrected in place, or marked poisoned. -/
def State.readWord (s : State) (a e : Nat) : State :=
  let unit := s.senderUnit a
  let keep := fun (s : State) (left : Nat) =>
    { s with mem := s.mem.changed a (bits left 0 64) (bit (s.mem.linePoison (a / 64)) (a % 64 / 8) != bit left 64) }
  match bchDecode e with
  | .clean left => if e = 0 then s else keep s left
  | .corrected left => ((keep s left).bumpSat R.ERL_COUNTS_CE).log Code.WORD_CE unit a
  | .uncorrectable =>
    ({ s with mem := s.mem.spoiled a (bits e 0 64) }.bumpSat R.ERL_COUNTS_UE).log Code.WORD_UE unit a

/-- Register-space words that are ledger state (R286): queue state and event counters, QMC and NRG ledgers, Nelax credits, bucket slots with their ledger, the gate store (R242). -/
def isLedger (off : Nat) : Bool :=
  decide (0x9000000 ≤ off ∧ off < 0xB000000) || decide (0xB000100 ≤ off ∧ off < 0xB000130) ||
    decide (0x3000018 ≤ off ∧ off < 0x3000020) || decide (0x3000040 ≤ off ∧ off < 0x3000070) ||
    (decide (0x20000000 ≤ off ∧ off < 0x20C00000) && decide (0x100 ≤ off % 0x100000 ∧ off % 0x100000 < 0x188)) ||
    decide (off / 8 * 8 = 0x21000038) || decide (0x21020000 ≤ off ∧ off < 0x21028000) ||
    decide (0x7004000 ≤ off ∧ off < 0x7004100)

/-- One hub-SRAM word read with bits wrong (R285, R286): an uncorrectable one keeps its poison bit set. -/
def State.readHub (s : State) (off e : Nat) : State :=
  let a := 0x0F000000000 + off
  match bchDecode e with
  | .clean _ => s
  | .corrected _ => (s.bumpSat R.ERL_COUNTS_CE).log Code.WORD_CE (unitOfOff off) a
  | .uncorrectable =>
    let s := (s.bumpSat R.ERL_COUNTS_UE).log Code.WORD_UE (unitOfOff off) a
    let s := s.markReg off true
    if isLedger off then s.ledgerFault (unitOfOff off) a else s

/-- Symbol errors that have come into a line. -/
def State.upset (s : State) (a : Nat) (flips : List (Nat × Nat)) : State :=
  let errs := mergeErrs (s.mem.errs.getD (a / 64) []) (flips.filter fun f => decide (f.1 < 72) && decide (0 < f.2 ∧ f.2 < 256))
  { s with mem := { s.mem with errs := FMap.setD s.mem.errs (a / 64) [] errs } }

/-- Wrong bits that a decoded word of a flit keeps. -/
def WordOutcome.left : WordOutcome → Nat
  | .clean e => e
  | .corrected e => e
  | .uncorrectable => 0

/-- The line a mesh flit delivers: words 2 to 9 with the bits that decoding left wrong, a word that did not decode poisoned; where all did, the line is checked against H0.TC, which carries its check (R54, R294). -/
def flitLine (v : LineView) (e : Nat → Nat) : LineView :=
  if (List.range 10).all fun i => e i == 0 then v else
  let w := fun i => (bchDecode (e i)).left
  let data := xorAt v.data ((List.range 64).map fun j => (j, bits (w (2 + j / 8)) (8 * (j % 8)) 8))
  let lost := (List.range 8).foldl (fun m i => m + b2n (bchDecode (e (2 + i)) == .uncorrectable) * 2 ^ i) 0
  let moved := (List.range 8).foldl (fun m i => m + b2n (bit (w (2 + i)) 64) * 2 ^ i) 0
  if lost = 0 ∧ travelCheck data ≠ travelCheck v.data ^^^ bits (w 0) 48 16 then ⟨3, data, 255, []⟩
  else { v with data := data, poison := (v.poison ^^^ moved) ||| lost }

/-- The mesh flit that carries a line read, with bits wrong in its words 0 (H0), 1 (H1) and 2 to 9 (data): a header word that does not decode is a ledger fault, a data word is delivered poisoned, and a changed line fails its travel check (R285, R286, R294).
DESIGN CHOICE (log 136): wrong bits that decoding leaves in the header beside TC move the flit nowhere else. -/
def State.meshFlit (s : State) (a : Nat) (flips : List (Nat × Nat)) (v : LineView) : LineView × State :=
  let e := fun i => wordFlips flips (8 + i)
  let unit := s.senderUnit a
  let s := (List.range 10).foldl (fun s i =>
    match bchDecode (e i) with
    | .clean _ => s
    | .corrected _ => (s.bumpSat R.ERL_COUNTS_CE).log Code.WORD_CE unit a
    | .uncorrectable =>
      let s := (s.bumpSat R.ERL_COUNTS_UE).log Code.WORD_UE unit a
      if i < 2 then s.ledgerFault unit a else s) s
  let out := flitLine v e
  (out, if out.outcome = 3 ∧ v.outcome ≠ 3 then s.noteChip a out else s)

/-- The errors that have come into a line since it was written: in the words of an on-chip line or of a slice's copy, each of which is read, or in the codeword that the line's tier holds. -/
def State.lineErrs (s : State) (a : Nat) (flips : List (Nat × Nat)) : State :=
  if (s.spot a).isSome && (s.mem.slices.find? (a / 64)).isNone then s.upset a flips
  else (List.range 8).foldl (fun s i => s.readWord (a + 8 * i) (wordFlips flips i)) s

/-- A line read, with the errors that have come into it (R285, R290): flips below 640 in the words of an on-chip line or of a slice's copy, or in the line's codeword in its tier; those above in the flit that carries it. -/
def State.lineRead (s : State) (addr src : Nat) (flips : List (Nat × Nat)) : State :=
  let a := s.localAddr addr / 64 * 64
  match s.regionOf a with
  | .regs off => (List.range 8).foldl (fun s i => s.readHub (off + 8 * i) (wordFlips flips i)) s
  | .remote _ _ => s
  | .pcie _ => s
  | _ =>
    if !s.mapped a then s
    else
      let (v, s) := (s.lineErrs a flips).readLine a src
      let (v, s) := s.meshFlit a flips v
      s.emit (.line a v.data v.poison)

/-- MEMORY_LINE_READ (R285 to R290, R507). -/
def execMemoryLineRead (addr src : Nat) (flips : List (Nat × Nat)) (s : State) : Host.Outcome State Fault Refusal :=
  .next (s.whenUp fun s => s.lineRead addr src flips)

/-- Memory of this device that plain writes reach: mapped, and no element of a declared region (R282). -/
def State.writable (s : State) (a n : Nat) : Bool :=
  s.mappedRange a n && !s.hitsRegion a n && !(rangeLines [(a, n)]).any s.farLine

/-- MEMORY_LINE_WRITE (R288, R295, R296). -/
def execMemoryLineWrite (addr : Nat) (data : List Byte) (poison : Nat) (s : State) : Host.Outcome State Fault Refusal :=
  .next (s.whenUp fun s =>
    let a := s.localAddr addr / 64 * 64
    if s.writable a 64 then s.writeLine a (padTo 64 data) (poison % 256) else s)

/-- PARTIAL_LINE_MERGE: a write within one line (R269, R552). -/
def execPartialLineMerge (addr : Nat) (data : List Byte) (poison : Bool) (src : Nat) (s : State) : Host.Outcome State Fault Refusal :=
  .next (s.whenUp fun s =>
    let a := s.localAddr addr
    let d := data.take (64 - a % 64)
    if s.writable a d.length then s.storePart a d poison src else s)

/-- The result of an atomic on `w` bits (R274): 0 ADD, 1 AND, 2 OR, 3 XOR, 4 MIN, 5 MAX, 6 MINU, 7 MAXU, 8 SWAP, 9 compare-and-swap. -/
def atomicResult (op w old operand compare : Nat) : Nat :=
  let x := operand % 2 ^ w
  let lt := decide (sext w old < sext w x)
  match op with
  | 0 => (old + x) % 2 ^ w
  | 1 => old &&& x
  | 2 => old ||| x
  | 3 => old ^^^ x
  | 4 => if lt then old else x
  | 5 => if lt then x else old
  | 6 => min old x
  | 7 => max old x
  | 8 => x
  | _ => if old = compare % 2 ^ w then x else old

/-- Where atomics are performed: stack, rim and the backed window, outside region elements (R274, R275). -/
def State.atomicOk (s : State) (a size : Nat) : Bool :=
  s.mapped a && !s.hitsRegion a size && match s.regionOf a with
    | .stack _ => true
    | .rim _ => true
    | .window _ => true
    | _ => false

/-- A word replaced at its home slice without another read of its line; a line that was poisoned or unwritten stays poisoned (R269, R275). -/
def State.storeWordHome (s : State) (a size v : Nat) (poison : Bool) (line : LineView) : State :=
  match s.spot a with
  | some _ => s.storeHome (a / 64 * 64) (splice line.data (a % 64) (toBytes size v)) (if line.poison ≠ 0 ∨ s.mem.written (a / 64 * 64) = false then 255 else 0)
  | none => s.storePart a (toBytes size v) poison 0

/-- An atomic that its address bars: a hart takes an exception, an engine's item completes with ADDR_UNMAPPED (R275). -/
def State.atomicFault (s : State) (hearth : Bool) (who : Nat) (o : Out) : State :=
  if hearth then s.emit o else s.failItem who Code.ADDR_UNMAPPED

/-- An atomic at a home slice, of hart `who` on the narrow path or for item `who` of an engine; op 10 is LR and 11 is SC (R266, R269, R274, R275). A misaligned engine atomic, on which the manual is silent, ends like one on a wrong place: log 118. -/
def State.atomic (s : State) (addr op size operand compare : Nat) (hearth : Bool) (who : Nat) : State :=
  let a := s.localAddr addr
  if size ≠ 4 ∧ size ≠ 8 then s
  else if a % size ≠ 0 then s.atomicFault hearth who (.hearthMisaligned who a)
  else if !s.atomicOk a size then s.atomicFault hearth who (.hearthFault who a)
  else
    let base := a / 64 * 64
    let (line, s) := (s.recall base true).readLine base (if hearth then 2 else 0)
    let old := fieldAt line.data (a % 64) size
    let p := bit line.poison (a % 64 / 8)
    match op with
    | 10 =>
      let s := { s with mem := { s.mem with reserved := s.mem.reserved.put who a } }
      s.emit (.oldValue (BitVec.ofNat 64 old) p)
    | 11 =>
      let ok := s.mem.reserved.find? who == some a
      let s := { s with mem := { s.mem with reserved := FMap.del who s.mem.reserved } }
      let s := if ok then s.storeWordHome a size operand p line else s
      s.emit (.oldValue (if ok then 0 else 1) false)
    | _ => (s.storeWordHome a size (atomicResult op (8 * size) old operand compare) p line).emit (.oldValue (BitVec.ofNat 64 old) p)

/-- HOME_SLICE_ATOMIC; LR and SC are a hart's (R274, R275). -/
def execHomeSliceAtomic (addr op size : Nat) (operand compare : Word) (src : AtomicSource) (s : State) : Host.Outcome State Fault Refusal :=
  .next (s.whenUp fun s => if op ≤ 11 ∧ (op < 10 ∨ src.hart) then s.atomic addr op size operand.toNat compare.toNat src.hart src.who else s)

/-- Key of a stack pseudo-channel or rim sub-channel, where it is active. -/
def State.chanKey (s : State) (rim : Bool) (c : Nat) : Option Nat :=
  if rim then (if c < 32 ∧ bit s.boot.rimMask c then some (512 + c) else none)
  else if c < 512 ∧ bit s.boot.stkMask c then some c else none

/-- PHY_RETRAIN_FAIL: FW7 could not retrain the channel; trigger 2 fences it (R316, R317, Table 16-4). -/
def execPhyRetrainFail (rim : Bool) (channel : Nat) (s : State) : Host.Outcome State Fault Refusal :=
  .next (s.whenUp fun s => match s.chanKey rim channel with
    | some k => if s.fwRuns 7 then s.fenceChannel k 2 else s
    | none => s)

/-- One line of the patrol scrub: what it finds in the tier is written back unless another write has reached the line, which a dirty copy counts as (R308, R309). -/
def State.scrub (s : State) (addr : Nat) (flips : List (Nat × Nat)) (moved : Bool) : State :=
  let a := s.localAddr addr / 64 * 64
  match s.spot a with
  | none => s
  | some sp =>
    if s.spotShut sp || !s.mapped a then s
    else
      let s := (s.tierAccess sp).upset a flips
      let v := s.tierView sp a
      let s := if v.outcome = 1 then s.countCe sp.key v.symbols true else s
      if moved || (s.mem.l3.getD (a / 64) none).isSome then s
      else if v.outcome = 1 then
        ({ s with mem := { s.mem with scrubCe := s.mem.scrubCe + 1 } }.storeHome a v.data v.poison).bumpSat R.ERL_SCRUB_CNT_CE
      else if 2 ≤ v.outcome ∧ v.outcome ≤ 4 then
        ({ s with mem := { s.mem with scrubUe := s.mem.scrubUe + 1 } }.storeHome a v.data 255).bumpSat R.ERL_SCRUB_CNT_UE
      else s

/-- The end of a scrub pass: its entry carries the pass's counts (R308). -/
def State.scrubPass (s : State) : State :=
  let d := s.mem.scrubCe % 2 ^ 32 + s.mem.scrubUe % 2 ^ 32 * 2 ^ 32
  let s := (s.bump R.ERL_SCRUB_PASSES).log Code.SCRUB_PASS erlUnit 0 d
  { s with mem := { s.mem with scrubCe := 0, scrubUe := 0 } }

/-- SCRUB_LINE: the scrub, which waits while FW7 is away, reads one line; `last` ends its pass (R307 to R309, Table 16-4). -/
def execScrubLine (addr : Nat) (flips : List (Nat × Nat)) (moved last : Bool) (s : State) : Host.Outcome State Fault Refusal :=
  .next (s.whenUp fun s =>
    if s.fld R.ERL_SCRUB_PERIOD_H = 0 || !s.fwRuns 7 then s
    else
      let s := s.scrub addr flips moved
      if last then s.scrubPass else s)

/-- ERL_TAIL written: COUNT follows (R310, R311). -/
def State.writeTail (s : State) (v : Nat) : State :=
  let old := s.fld R.ERL_TAIL_INDEX
  let n := (s.fld R.ERL_HEAD_INDEX + 4096 - v % 4096) % 4096
  let n := if n = 0 ∧ v % 4096 = old ∧ s.fld R.ERL_STATUS_COUNT = 4096 then 4096 else n
  (s.setFld R.ERL_TAIL_INDEX v).setFld R.ERL_STATUS_COUNT n

/-- ERL_TAIL_WRITE (R310). -/
def execErlTailWrite (val : Word) (s : State) : Host.Outcome State Fault Refusal := .next (s.whenUp fun s => s.writeTail val.toNat)

/-- The RAS record's entries of one kind: 1 page, 2 bank, 3 channel. -/
def Flash.rasOf (f : Flash) (kind : Nat) (rim : Bool) : List Retired := f.ras.filter fun r => r.kind == kind && (kind != 3 || r.rim == rim)

/-- ERL_PAGE, ERL_BANK and ERL_RAS_COUNT show the RAS record (R319). -/
def State.showRas (s : State) : State :=
  let f := s.flash
  let s := (s.setFld R.ERL_RAS_COUNT_PAGES (f.rasOf 1 false).length).setFld R.ERL_RAS_COUNT_BANKS (f.rasOf 2 false).length
  let s := (s.setFld R.ERL_RAS_COUNT_CHANNELS (f.rasOf 3 false).length).setFld R.ERL_RAS_COUNT_SUBCH (f.rasOf 3 true).length
  let s := (f.rasOf 1 false).zipIdx.foldl (fun s e =>
    (s.setFld R.ERL_PAGE_PAGE (e.1.target / 2 ^ 13) [e.2]).setFld R.ERL_PAGE_VALID 1 [e.2]) s
  (f.rasOf 2 false).zipIdx.foldl (fun s e =>
    let t := e.1.target
    let s := (s.setFld R.ERL_BANK_CHANNEL (bits t 0 10) [e.2]).setFld R.ERL_BANK_SID (bits t 10 2) [e.2]
    ((s.setFld R.ERL_BANK_BANK (bits t 12 4) [e.2]).setFld R.ERL_BANK_TIER (b2n e.1.rim) [e.2]).setFld R.ERL_BANK_VALID 1 [e.2]) s

/-- The limit of the RAS record for one kind (R319). -/
def rasLimit (r : Retired) : Nat := match r.kind with
  | 1 => 1024
  | 2 => 64
  | _ => if r.rim then 8 else 64

/-- A retirement passed on to the RAS record, or finished, at once or when FW7 has restarted (R319, Table 11-11, Table 16-4). -/
def State.finishRetire (s : State) (persist : Bool) (r : Retired) : State :=
  if persist then
    { s with mem := { s.mem with persist := s.mem.persist ++ [r] } }.setFlag R.ERL_RETIRE_STATUS_BUSY true
  else if s.fwRuns 7 then (s.setFlag R.ERL_RETIRE_STATUS_DONE true).setFld R.ERL_RETIRE_STATUS_STATUS 0
  else { s with mem := { s.mem with retireDue := true } }.setFlag R.ERL_RETIRE_STATUS_BUSY true

/-- ERL_RETIRE written: TYPE, TIER, PERSIST, TARGET (R316 to R320). -/
def State.retire (s : State) (kind : Nat) (rim persist : Bool) (target : Nat) : State :=
  let c := bits target 0 10
  let r : Retired := { kind := kind, rim := rim && kind != 1, target := target % 2 ^ 40 }
  match kind with
  | 1 => s.finishRetire persist r
  | 2 =>
    let s := match s.chanKey rim c with
      | none => s
      | some k =>
        let b := (k, if rim then 0 else bits target 10 2, bits target 12 4)
        if s.mem.fencedBanks.contains b then s
        else { s with mem := { s.mem with fencedBanks := s.mem.fencedBanks ++ [b] } }.log Code.BANK_FENCED (chanUnit k)
    s.finishRetire persist r
  | 3 => (match s.chanKey rim c with
      | none => s
      | some k => s.fenceChannel k 4).finishRetire persist r
  | _ => s

/-- RETIRE_PAGE: TARGET as in Table 11-11 (R320). -/
def execRetirePage (persist : Bool) (target : Nat) (s : State) : Host.Outcome State Fault Refusal := .next (s.whenUp fun s => s.retire 1 false persist target)

/-- RETIRE_BANK (R318). -/
def execRetireBank (rim persist : Bool) (target : Nat) (s : State) : Host.Outcome State Fault Refusal := .next (s.whenUp fun s => s.retire 2 rim persist target)

/-- RETIRE_CHANNEL (R316, trigger 4). -/
def execRetireChannel (rim persist : Bool) (target : Nat) (s : State) : Host.Outcome State Fault Refusal := .next (s.whenUp fun s => s.retire 3 rim persist target)

/-- A retirement added to the RAS record, where there is room (R319). -/
def State.addRas (s : State) (r : Retired) : State × Bool :=
  if s.flash.ras.contains r then (s, true)
  else if rasLimit r ≤ (s.flash.rasOf r.kind r.rim).length then (s, false)
  else ({ s with flash := { s.flash with ras := s.flash.ras ++ [r] } }, true)

/-- RETIRE_PERSIST_DONE: FW0 has added the oldest waiting retirement, or found no room (R319, Table 21-2). -/
def execRetirePersistDone (s : State) : Host.Outcome State Fault Refusal :=
  .next (s.whenUp fun s =>
    match s.mem.persist with
    | [] => s
    | r :: rest =>
      if !s.fwRuns 0 || !s.fwRuns 7 then s
      else
        let s := { s with mem := { s.mem with persist := rest } }
        let (s, ok) := s.addRas r
        let s := if ok then s else s.log Code.RETIRE_FULL erlUnit
        let s := s.showRas.setFld R.ERL_RETIRE_STATUS_STATUS (if ok then 0 else Code.RETIRE_FULL)
        (s.setFlag R.ERL_RETIRE_STATUS_BUSY (!rest.isEmpty)).setFlag R.ERL_RETIRE_STATUS_DONE true)

/-- ERL_INJECT written: LINE as an address / 64, and KIND (R290, Table 11-11). -/
def State.arm (s : State) (line kind : Nat) : State :=
  { s with mem := { s.mem with inject := if kind = 0 then none else some (line, kind) } }

/-- INJECT_DISARM. -/
def execInjectDisarm (s : State) : Host.Outcome State Fault Refusal := .next (s.whenUp fun s => s.arm 0 0)

/-- INJECT_ONE_SYMBOL: armed for the line's next full-line write. -/
def execInjectOneSymbol (line : Nat) (s : State) : Host.Outcome State Fault Refusal := .next (s.whenUp fun s => s.arm line 1)

/-- INJECT_THREE_SYMBOLS: armed for the line's next full-line write. -/
def execInjectThreeSymbols (line : Nat) (s : State) : Host.Outcome State Fault Refusal := .next (s.whenUp fun s => s.arm line 2)

/-- INJECT_TC_BIT: armed for the line's next full-line write. -/
def execInjectTcBit (line : Nat) (s : State) : Host.Outcome State Fault Refusal := .next (s.whenUp fun s => s.arm line 3)

end Sys2Proof.Machine
end

