-- ==== Sys2Proof/Machine/Weave.lean ====
section
/-! DEFINITION. The weave image: its layout (R492, R493, Tables 18-4 to 18-6), its checks (R494 to R496) and the S fields it loads. -/

namespace Sys2Proof.Machine
open Sys2Proof

/-- The sections of an image from offset `off`, each by its TYPE and reserved bytes, and the offset behind the last; none where one lies out of range (R492). -/
def weaveSections (b : List Byte) : Nat → Nat → Option (List (Nat × List Byte) × Nat)
  | 0, off => some ([], off)
  | n + 1, off =>
    let at' := (off + 7) / 8 * 8
    let h := b.drop at'
    let len := fieldAt h 4 4
    if b.length < at' + 8 + len then none
    else (weaveSections b n (at' + 8 + len)).map fun r => ((fieldAt h 0 4, (h.drop 8).take len) :: r.1, r.2)

/-- The body of a section. -/
def sectionOf (l : List (Nat × List Byte)) (t : Nat) : List Byte := ((l.find? fun e => e.1 == t).map (·.2)).getD []

/-- Body lengths of the fixed sections (Table 18-6). -/
def sectionLen (t : Nat) (body : List Byte) : Nat :=
  match t with
  | 1 => 4608
  | 2 => 8 + 72 * fieldAt body 0 1
  | 3 => 8
  | 4 => 528
  | 5 => 8
  | 6 => 16
  | 7 => 288
  | 8 => 32768
  | 9 => 72
  | _ => 8

/-- The sections are all there, once, of listed types, of their lengths, with reserved bytes 0 (R493, R494 check 2). -/
def sectionsOk (l : List (Nat × List Byte)) : Bool :=
  let ts := l.map (·.1)
  let once := fun t => ts.filter (· == t) |>.length
  (List.range 9).all (fun i => once (i + 1) == 1) && decide (once 10 ≤ 1) && decide (once 11 ≤ 1)
    && ts.all (fun t => decide ((1 ≤ t ∧ t ≤ 11) ∨ (0x8000 ≤ t ∧ t < 0x10000)))
    && l.all (fun e => decide (0x8000 ≤ e.1) || e.2.length == sectionLen e.1 e.2)
    && (List.range 576).all (fun p => fieldAt (sectionOf l 1) (8 * p + 3) 5 == 0)
    && fieldAt (sectionOf l 2) 1 7 == 0 && decide (1 ≤ fieldAt (sectionOf l 2) 0 1) && decide (fieldAt (sectionOf l 2) 0 1 ≤ 64)
    && fieldAt (sectionOf l 4) 0 8 / 128 == 0
    && (List.range 8).all (fun p => decide (1 ≤ fieldAt (sectionOf l 6) (2 * p) 2) && decide (fieldAt (sectionOf l 6) (2 * p) 2 ≤ 1000))
    && decide (fieldAt (sectionOf l 9) 68 1 ≤ 9) && decide (fieldAt (sectionOf l 9) 69 1 ≤ 12) && fieldAt (sectionOf l 9) 70 2 == 0
    && bits (fieldAt (sectionOf l 10) 0 8) 12 20 == 0 && bits (fieldAt (sectionOf l 10) 0 8) 48 16 == 0

/-- The words of a table that are not 0, by index. -/
def wordTable (n : Nat) (body : List Byte) : FMap Nat :=
  ((List.range n).map fun i => (i, fieldAt body (8 * i) 8)).filter fun e => e.2 != 0

/-- The signature of an image whose sections cannot be walked to their end: the SIG_LEN that agrees with the image's length and a signature of at most 1,280 bytes (R487, R492).
DESIGN CHOICE (log 138): a section out of range is WEAVE_FORMAT only behind a signature that verifies, which then can be found only from the end of the image. -/
def tailSigOk (pub b : List Byte) : Bool :=
  (List.range 1281).any fun n =>
    let fin := b.length - 4 - n
    decide (n + 4 ≤ b.length) && fieldAt (b.drop fin) 0 4 == n && Config.falconOk pub (shakeNat (b.take fin)) (b.drop (fin + 4))

/-- A weave image as its bytes give it, checked under the running firmware image's root key (R487, R492, R494).
A slot keeps the verdict: every image that runs carries the root key whose hash the mask ROM holds, so a later image checks under the same key. -/
def Weave.parse (rootKey : List Byte) (b : List Byte) : Weave :=
  let certLen := fieldAt b 0x24 4
  let cert := (b.drop 0x30).take certLen
  let secs := weaveSections b (fieldAt b 0x20 2) (0x30 + certLen)
  let l := (secs.map (·.1)).getD []
  let fin := (secs.map (·.2)).getD 0
  let sigLen := fieldAt (b.drop fin) 0 4
  let certSig := (cert.drop 0x722).take (fieldAt cert 0x720 2)
  let pub := (cert.drop 0x018).take 1793
  let sigOk := Config.falconOk rootKey (shakeNat (cert.take 0x720)) certSig
    && (if secs.isSome then Config.falconOk pub (shakeNat (b.take fin)) ((b.drop (fin + 4)).take sigLen) else tailSigOk pub b)
  let formatOk := fieldAt b 0 2 == 0x5756 && fieldAt b 2 2 == 1 && fieldAt b 4 4 == b.length && decide (b.length ≤ 1048576)
    && decide (fieldAt b 0x14 4 < 2) && fieldAt b 0x22 2 == 0 && fieldAt b 0x28 8 == 0 && secs.isSome && b.length == fin + 4 + sigLen
    && fieldAt cert 0 2 == 0x4F43 && fieldAt cert 2 2 == 1 && decide (fieldAt cert 0x10 4 < 2) && fieldAt cert 0x14 4 == 0
    && fieldAt cert 0x719 7 == 0 && sectionsOk l
  let groups := sectionOf l 2
  let mem := sectionOf l 9
  { version := fieldAt b 8 8, svn := fieldAt b 0x10 4, debugFlag := fieldAt b 0x14 4 % 2 == 1, deviceId := fieldAt b 0x18 8,
    sigOk := sigOk, formatOk := formatOk, certDevice := fieldAt cert 8 8, certDebug := fieldAt cert 0x10 4 % 2 == 1, opcert := cert,
    hash := shakeNat b, tiles := wordTable 576 (sectionOf l 1),
    groups := (List.range (fieldAt groups 0 1)).map fun i => fieldAt groups (8 + 72 * i) 72,
    unitsMask := fieldAt (sectionOf l 3) 0 8, role := fieldAt (sectionOf l 4) 0 8, node := fieldAt (sectionOf l 4) 8 8,
    members := wordTable 64 ((sectionOf l 4).drop 16), envelope := fieldAt (sectionOf l 5) 0 8,
    wdog := (List.range 8).map fun p => fieldAt (sectionOf l 6) (2 * p) 2,
    links := (List.range 12).map fun k => (List.range 3).map fun i => fieldAt (sectionOf l 7) (24 * k + 8 * i) 8,
    routes := wordTable 4096 (sectionOf l 8), stkMap := fieldAt mem 0 64, rimMap := fieldAt mem 64 4, localU := fieldAt mem 68 1,
    ways := fieldAt mem 69 1, time := fieldAt (sectionOf l 10) 0 8, hearth := fieldAt (sectionOf l 11) 0 8 }

/-- DEVICE_ID: the first eight bytes of KEYHASH (R491). -/
def Flash.deviceId (f : Flash) : Nat := f.keyHash % 2 ^ 64

/-- A debug image (R495). -/
def Weave.isDebug (w : Weave) (f : Flash) : Bool := w.debugFlag && w.certDebug && w.certDevice == f.deviceId

/-- The role of a tile. -/
def Weave.roleOf (w : Weave) (p : Nat) : Nat := w.tiles.getD p 0 % 4

/-- The effective stack channels: marked present, not failed, with no persisted bank or channel retirement (R496). -/
def Weave.stkMask (w : Weave) (f : Flash) : Nat :=
  f.ras.foldl (fun m r => if r.kind ≠ 1 ∧ !r.rim then putBit m (r.target % 1024) false else m) (w.stkMap &&& (w.stkMap ^^^ f.mfgStkFailed))

/-- GLB_CAPS under an image. -/
def Weave.caps (w : Weave) (f : Flash) : Nat := f.mfgCaps &&& (f.mfgCaps ^^^ w.unitsMask)

/-- The effective rim sub-channels (R496); none where rim memory is absent (R3). -/
def Weave.rimMask (w : Weave) (f : Flash) : Nat :=
  if bit (w.caps f) 12 then
    f.ras.foldl (fun m r => if r.kind ≠ 1 ∧ r.rim then putBit m (r.target % 1024) false else m) (w.rimMap &&& (w.rimMap ^^^ f.mfgRimFailed))
  else 0

/-- Presence bits of GLB_CAPS: ports, rim, PCIe, compute dies. -/
abbrev unitBits : Nat := 0xF3FFF

/-- Check 5 of R494: the image contradicts the module. -/
def Weave.mismatch (w : Weave) (f : Flash) : Bool :=
  let role := w.roleOf
  let missing := unitBits &&& (unitBits ^^^ f.mfgCaps)
  (List.range 576).any (fun p => bit f.mfgDefective p && role p != 3)
    || (List.range 4).any (fun d => ((List.range 144).filter fun l => decide (role (144 * d + l) < 2)).length != 136)
    || w.groups.any (fun g => (List.range 576).any (fun p => bit g p && decide (2 ≤ role p))
        || ((List.range 576).any (fun p => bit g p && role p == 0) && (List.range 576).any (fun p => bit g p && role p == 1)))
    || (missing &&& w.unitsMask) != missing
    || (w.role % 2 == 1 && bits w.role 1 6 == 0) || (w.role % 2 == 0 && bits w.role 1 6 != 0)
    || (List.range 4).any (fun d => bits (w.stkMask f) (128 * d) 128 == 0)

/-- The checks of R494 in their order; 0 when the image passes. -/
def Weave.verdict (w : Weave) (f : Flash) : Nat :=
  let id := f.deviceId
  if !w.sigOk || (w.deviceId != 0 && w.deviceId != id) || (w.certDevice != 0 && w.certDevice != id) then Code.WEAVE_SIG_BAD
  else if !w.formatOk then Code.WEAVE_FORMAT
  else if w.svn < f.ctrWeave && !w.isDebug f then Code.WEAVE_ROLLBACK
  else if (w.debugFlag && !w.isDebug f) || (!bit w.envelope 63 && !w.isDebug f) then Code.WEAVE_DEBUG
  else if w.mismatch f then Code.WEAVE_MISMATCH
  else 0

/-- A register word replaced by hardware. -/
def State.putReg (s : State) (f : Fld) (v : Nat) (ix : List Nat := []) : State :=
  { s with regs := s.regs.setD (f.at ix) f.rst (BitVec.ofNat 64 v) }

/-- `f` applied for 0 to n − 1. -/
def State.each (s : State) (n : Nat) (f : State → Nat → State) : State := (List.range n).foldl f s

/-- The tile registers (R51, R53). -/
def State.loadTiles (s : State) (w : Weave) : State :=
  let trn := (List.range 576).filter fun p => w.roleOf p == 0
  let ev := (List.range 576).filter fun p => w.roleOf p == 1
  let order := trn ++ ev
  let s := s.each 576 fun s p =>
    let e := w.tiles.getD p 0
    let logical := if w.roleOf p < 2 then (order.findIdx fun q => q == p) else 0x3FF
    let groups := w.groups.zipIdx.foldl (fun m g => m + b2n (bit g.1 p) * 2 ^ g.2) 0
    ((s.putReg R.TIL_ID_PHYS (p + logical * 2 ^ 10 + w.roleOf p * 2 ^ 20) (tix p)).putReg R.TIL_GROUPS_MASK groups (tix p)).putReg
      R.TIL_ARB_WEIGHT_WEIGHT (bits e 2 22) (tix p)
  let spare := ((List.range 576).filter fun p => w.roleOf p == 2).length
  s.putReg R.GLB_TILE_SUMMARY_TRAINING (trn.length + ev.length * 2 ^ 10 + spare * 2 ^ 20 + w.groups.length * 2 ^ 32)

/-- The camp and link registers of the ROLE, LINKS and ROUTES sections. -/
def State.loadLinks (s : State) (w : Weave) (debug : Bool) : State :=
  let s := s.putReg R.GLB_WEAVE_ROLE (w.role % 128 + b2n debug * 2 ^ 7 + w.version / 2 ^ 48 * 2 ^ 24)
  let s := s.putReg R.NLK_NODE_NODE_ID w.node
  let s := s.each 64 fun s m => s.putReg R.NLK_MEMBER_NODE (w.members.getD m 0) [m]
  let mask := (List.range 64).foldl (fun a m => a + b2n (bit (w.members.getD m 0) 63) * 2 ^ m) 0
  let s := (s.putReg R.GLB_CAMP_SIZE (popcount 64 mask)).putReg R.GLB_CAMP_MASK_MASK mask
  let s := s.each 12 fun s k =>
    let e := w.links.getD k []
    ((s.putReg R.NLK_CFG_EXPECT_NODE (e.getD 0 0) [k]).putReg R.NLK_POOL_LO_VC0 (e.getD 1 0) [k]).putReg R.NLK_POOL_HI_VC8 (e.getD 2 0) [k]
  w.routes.foldl (fun s e => s.putReg R.NLK_ROUTE_PORT e.2 [e.1]) s

/-- STK_CHMAP, RIM_MAP.ACTIVE and SCA_CFG of the MEMORY section, with the live maps. -/
def State.loadMaps (s : State) (w : Weave) : State :=
  let stk := w.stkMask s.flash
  let rim := w.rimMask s.flash
  let s := s.each 16 fun s k => s.putReg R.STK_CHMAP_ACTIVE (bits stk (32 * k) 32 * (1 + 2 ^ 32)) [k / 4, k % 4]
  let s := s.each 16 fun s k => s.setFld R.RIM_STATUS_LIVE (bits rim (2 * k) 2) [k]
  let s := s.setFld R.RIM_MAP_ACTIVE rim
  s.each 64 fun s k => s.putReg R.SCA_CFG_WAYS w.ways [k / 16, k % 16]

/-- The interleave is formed over the effective maps (R255 to R260). -/
def State.formMaps (s : State) (w : Weave) : State :=
  let stk := w.stkMask s.flash
  let rim := w.rimMask s.flash
  let s := { s with boot := { s.boot with stkMask := stk, rimMask := rim, localU := w.localU } }
  let n := s.chanN
  let s := s.each 4 fun s d =>
    let below := (List.range d).foldl (fun a k => a + s.chanNd k * w.localU) 0
    s.putReg R.STK_MAP_N (n + s.chanNd d * 2 ^ 10 + w.localU * 2 ^ 18 + (n * (9 - w.localU) + below) % 2 ^ 16 * 2 ^ 32) [d]
  (s.setFld R.RIM_MAP_N_R s.rimN).setFld R.RIM_MAP_SUB_SIZE (if bit (w.caps s.flash) 12 then bits (w.caps s.flash) 20 4 else 0)

/-- The S fields of every block, and what follows from them (Table 18-2, step 5). -/
def State.loadS (s : State) (w : Weave) : State :=
  let f := s.flash
  let debug := w.isDebug f
  let s := s.putReg R.GLB_CAPS_NLK_PORTS (w.caps f)
  let s := ((s.loadTiles w).loadLinks w debug).loadMaps w
  let s := (s.putReg R.NRG_ENV_WEAVE_VMAX_MV w.envelope).putReg R.NRG_ENVELOPE_VMAX_MV w.envelope
  let s := s.setFld R.NRG_BUDGET_WINDOW_UJ (s.fld R.GLB_CAPS_ENVELOPE_W * 1000)
  let s := s.each 8 fun s p => (s.setFld R.FWP_WDOG_WEAVE_MS (w.wdog.getD p 10) [p]).setFld R.FWP_WDOG_PERIOD_MS (w.wdog.getD p 10) [p]
  let s := s.putReg R.TIM_CFG_PRIMARY (bits w.time 0 12 + bits w.time 32 16 * 2 ^ 16)
  let s := s.putReg R.HRT_START_LOADER_ADDR w.hearth
  let s := s.each 4 fun s i => s.putReg R.GLB_WEAVE_HASH_HASH (bits w.hash (64 * i) 64) [i]
  let s := (s.putReg R.BSU_WEAVE_VER_VERSION w.version).putReg R.BSU_SVN_WEAVE_SVN (w.svn + f.ctrWeave * 2 ^ 32)
  let s := s.setFlag R.BSU_STATUS_DEBUG debug
  s.putReg R.MGT_MAC_MAC (0x02474D000000 + f.deviceId % 2 ^ 24)

/-- FW1 to FW7 start with the image's version; FW_EPOCH is 1, the mailboxes are empty (R439, Table 18-2). -/
def State.startFw (s : State) (version : Nat) : State :=
  let s := { s with fw := [] }
  let s := s.each 8 fun s p =>
    ((s.putReg R.FWP_VERSION_VERSION version [p]).setFld R.QMC_MBX_W2_FW_EPOCH 1 [p]).modFw p fun f => { f with kicked := s.elapsedNs }
  let m := s.flash.manifest
  ((s.setFld R.FWP_UPDATE_STATE m.update).setFlag R.FWP_UPDATE_AOB m.aob).showStaged

end Sys2Proof.Machine
end

