-- ==== Sys2Proof/Machine/Boot.lean ====
section
/-! DEFINITION. Power, reset, start-up and recovery (R15 to R29, R484 to R498, R505, R516, R545), and the module's own signals: alerts (R30), the power brake (R32), the test access port (R34, R35). -/

namespace Sys2Proof.Machine
open Sys2Proof

/-- Unit ID of the start-up block. -/
abbrev bsuUnit : Nat := 0x3000

/-- All that a loss of power leaves: the flash, the levels the outside drives, and the model's own fields (Table 1-2, R18). -/
def State.powerOff (s : State) : State :=
  let r := State.reset
  { r with
    pins := { r.pins with modEn := s.pins.modEn, modRstN := s.pins.modRstN, pwrBrakeN := s.pins.pwrBrakeN, recoveryN := s.pins.recoveryN,
                          ppsIn := s.pins.ppsIn, trstN := s.pins.trstN, modId := s.pins.modId, underVoltLatch := s.pins.underVoltLatch }
    mem := { r.mem with era := s.mem.era + 1 }
    flash := s.flash, out := s.out, fresh := s.fresh, pending := s.pending }

/-- A cold reset with the rails up: the sideband and a latched trip stay, and the brake acts on the rails as before (R27, R31, R32).
DESIGN CHOICE (log 118): the fall of MOD_RST_N clears START_FAIL and keeps the last status code; the spec says neither. -/
def State.coldReset (s : State) : State :=
  let r := s.powerOff
  { r with
    pins := { r.pins with modPwrgd := s.pins.modPwrgd, thermAlertN := s.pins.thermAlertN, thermTripN := s.pins.thermTripN }
    sb := { s.sb with startFail := false } }.pinsOnRails

/-- MOD_EN_ASSERT: the rails begin to ramp (R15, Table 1-6). -/
def execModEnAssert (s : State) : Host.Outcome State Fault Refusal := .next { s with pins := { s.pins with modEn := true } }

/-- MOD_PWRGD_RISE: all rails are in regulation (Table 1-6, step 3), and a brake already low acts on them (R19, R32). -/
def execModPwrgdRise (s : State) : Host.Outcome State Fault Refusal :=
  .next (if s.pins.modEn && !s.pins.underVoltLatch then
      let t := { s with pins := { s.pins with modPwrgd := true } }
      if s.pins.pwrBrakeN then t else t.pinsOnRails
    else s)

/-- PWRGD_TIMEOUT: MOD_PWRGD stays low until MOD_EN is cycled (R25). -/
def execPwrgdTimeout (s : State) : Host.Outcome State Fault Refusal :=
  .next (if s.pins.modEn && !s.pins.modPwrgd then { s with pins := { s.pins with underVoltLatch := true } } else s)

/-- MOD_EN_DEASSERT: all rails drop and every state is lost (R18, R31). -/
def execModEnDeassert (s : State) : Host.Outcome State Fault Refusal :=
  .next { s with pins := { s.pins with modEn := false, underVoltLatch := false } }.powerOff

/-- INPUT_UNDERVOLTAGE: all rails drop, and the module stays down until MOD_EN is cycled (R18).
DESIGN CHOICE (log 134): the loss of all state ends a latched trip and raises THERM_TRIP_N, which R31 otherwise holds until MOD_EN falls. -/
def execInputUndervoltage (s : State) : Host.Outcome State Fault Refusal :=
  .next (if s.pins.modEn then { s with pins := { s.pins with underVoltLatch := true } }.powerOff else s)

/-- MOD_RST_N_RISE: the BMC's release; the internal reset follows by RESET_RELEASE, at once or 1 ms after MOD_PWRGD (R24, R545). -/
def execModRstNRise (s : State) : Host.Outcome State Fault Refusal :=
  .next { s with pins := { s.pins with modRstN := true, extest := none } }

/-- MOD_RST_N_FALL: the EV7 stops at once, without the job-fatal sequence (R27). -/
def execModRstNFall (s : State) : Host.Outcome State Fault Refusal :=
  let s := { s with pins := { s.pins with modRstN := false } }
  .next (if s.pins.released then s.coldReset else s)

/-- STAGE: the last step of Table 18-2 reached. -/
def State.stageAt (s : State) (n : Nat) : State := { s with boot := { s.boot with stage := n } }.setFld R.BSU_STATUS_STAGE n

/-- A code of the start-up chapter in LAST_CODE. -/
def State.bsuCode (s : State) (code : Nat) : State := s.setFld R.BSU_STATUS_LAST_CODE code

/-- Start-up stops at a step with its code (R484); the codes of R494 are logged with severity 4. Past step 5 the rails go back to the static voltage and what caps it (R19). -/
def State.startFail (s : State) (step code : Nat) : State :=
  let s := { s with boot := { s.boot with failed := true }, sb := { s.sb with startFail := true, lastStatus := code } }
  let s := ((s.stageAt step).setFlag R.BSU_STATUS_START_FAIL true).bsuCode code
  let s := if 5 ≤ step then s.powerMoved else s
  if Code.WEAVE_SIG_BAD ≤ code ∧ code ≤ Code.WEAVE_MISMATCH then s.logFull code bsuUnit 4 (s.fld R.EPO_CUR_EPOCH) 0 0 else s

/-- A slot fell back to the other (R488). -/
def State.fellBack (s : State) : State :=
  ((s.setFlag R.BSU_STATUS_FALLBACK true).log Code.BOOT_FALLBACK bsuUnit).bsuCode Code.BOOT_FALLBACK

/-- A cold boot with an activation PENDING takes the staged image when AOB is 1, and leaves it STAGED when AOB is 0 (R456). -/
def Flash.bootUpdate (f : Flash) : Flash :=
  let m := f.manifest
  if m.update = 3 then
    if m.aob then f.writeManifest fun m => { m with fwActive := 1 - m.fwActive % 2, fwHash := m.stagedHash, stagedHash := 0, update := 0, aob := false }
    else f.writeManifest fun m => { m with update := 2 }
  else f

/-- Step 3: the firmware slot is chosen (R488); a counter below the image's SVN is raised before FW0 answers (R459). -/
def State.chooseFw (s : State) : Option State :=
  let f := s.flash
  let k := f.manifest.fwActive % 2
  let run := fun (s : State) (i : FwImage) =>
    { s with boot := { s.boot with fw := some i }, flash := { s.flash with ctrFw := max s.flash.ctrFw i.svn } }
  match f.accepts (f.fwSlot k) with
  | some i => some (run s i)
  | none => match f.accepts (f.fwSlot (1 - k)) with
    | some i =>
      let f := f.writeManifest fun m => { m with fwActive := 1 - k, fwHash := i.hash, stagedHash := 0, update := 0, aob := false }
      some (run { s with flash := f } i).fellBack
    | none => none

/-- The verdict on a weave slot; an empty one carries no signature. -/
def weaveVerdict (f : Flash) (w : Option Weave) : Nat := (w.map fun w => w.verdict f).getD Code.WEAVE_SIG_BAD

/-- Step 4: the weave slot is chosen by the same rule (R488, R494): the new state, or the active slot's code. -/
def State.chooseWeave (s : State) : Nat × State :=
  let f := s.flash
  let k := f.manifest.weaveActive % 2
  let c := weaveVerdict f (f.weaveSlot k)
  if c = 0 then (0, { s with boot := { s.boot with weave := f.weaveSlot k } })
  else if weaveVerdict f (f.weaveSlot (1 - k)) = 0 then
    let w := f.weaveSlot (1 - k)
    let f := f.writeManifest fun m => { m with weaveActive := 1 - k, weaveHash := (w.map (·.hash)).getD 0 }
    (0, { s with flash := f, boot := { s.boot with weave := w } }.fellBack)
  else (c, s)

/-- Identity and slots shown by the start-up block. -/
def State.showBoot (s : State) : State :=
  let f := s.flash
  let s := s.putReg R.BSU_DEVICE_ID_ID f.deviceId
  let s := s.each 4 fun s i => s.putReg R.BSU_KEYHASH_HASH (bits f.keyHash (64 * i) 64) [i]
  let s := s.putReg R.BSU_ROM_ROM_VERSION (f.romVersion % 2 ^ 32 + f.manifest.fwActive % 2 * 2 ^ 32 + f.manifest.weaveActive % 2 * 2 ^ 33)
  s.setFld R.BSU_BOOTS_COLD_BOOTS f.ctrBoots

/-- Every present port whose ENABLE is 1 begins its training (Table 18-2, step 7): full, or after a re-weave the TRAIN exchange of a port that keeps its adaptation, whose lanes stay as they were (R500). -/
def State.trainPorts (s : State) : State :=
  let on := fun (s : State) k => s.hasPort k && s.flag R.NLK_CTL_ENABLE [k]
  let s := { s with boot := { s.boot with adapted := s.boot.adapted.filter fun e => on s e.1 } }
  s.each 12 fun s k => if on s k then s.setFld R.NLK_STATUS_STATE 1 [k] else s

/-- Step 5 with the image in force: S fields, arrays poisoned, processors started (Table 18-2). FW1 takes the rails with the `powerMoved` that follows. -/
def State.configure (s : State) (w : Weave) : State :=
  let s := (s.loadS w).declareLmt
  let s := s.startFw ((s.boot.fw.map (·.version)).getD 0)
  (s.setFlag R.NRG_THR_BRAKE (!s.pins.pwrBrakeN)).showRas.resumeRas

/-- Steps 3 to 5, and the start of steps 6 to 8 (Table 18-2). -/
def State.startUp (s : State) (keyOk : Bool) : State :=
  match { s with flash := s.flash.bootUpdate }.chooseFw with
  | none => (s.startFail 3 Code.BOOT_IMAGE_BAD)
  | some s =>
    let (c, s) := s.chooseWeave
    if c ≠ 0 then s.startFail 4 c
    else match s.boot.weave with
      | none => s.startFail 4 Code.WEAVE_SIG_BAD
      | some w =>
        let s := ((s.showBoot.configure w).stageAt 6).trainPorts.powerMoved
        if keyOk then { s with boot := { s.boot with keyReady := true } } else s.startFail 8 Code.PUF_FAIL

/-- Recovery boot listens on the management lane; a failure of step 2 does not end it (R29, R484, R498). -/
def State.listen (s : State) : State := { s with boot := { s.boot with listening := true } }.setFlag R.BSU_STATUS_RECOVERY true

/-- RESET_RELEASE: RECOVERY_N is sampled and start-up begins (R545, Table 18-2). `pufOk`, `storageOk`, `keyOk`: the module's own physical outcomes (R490, R491). -/
def execResetRelease (recoveryN pufOk storageOk keyOk : Bool) (s : State) : Host.Outcome State Fault Refusal :=
  .next (
    if !s.pins.modPwrgd || !s.pins.modRstN || s.pins.released then s
    else
      let s := { s with pins := { s.pins with released := true, recoveryN := recoveryN }, boot := { s.boot with t0 := s.elapsedNs } }
      let s := s.stageAt 2
      let s := if recoveryN then s else s.listen
      if !pufOk then s.startFail 2 Code.PUF_FAIL
      else if !storageOk then s.startFail 2 Code.STORAGE_FAIL
      else match { s.flash with ctrBoots := s.flash.ctrBoots + 1 }.choose with
        | none => { s with flash := { s.flash with ctrBoots := s.flash.ctrBoots + 1 } }.startFail 2 Code.MANIFEST_BAD
        | some f =>
          let s := { s with flash := f }
          if recoveryN then s.startUp keyOk else s.showBoot)

/-- The channels of a training that failed are added to the RAS record as persisted retirements, and start-up fails (R486). -/
def State.trainFail (s : State) (stk rim : List Nat) : State :=
  let s := stk.foldl (fun s g => (s.addRas { kind := 3, rim := false, target := g }).1) s
  let s := rim.foldl (fun s g => (s.addRas { kind := 3, rim := true, target := g }).1) s
  s.showRas.startFail 6 Code.MEM_TRAIN_FAIL

/-- The failed channels among those in use. -/
def failedIn (mask : Nat) (l : List Nat) : List Nat := l.filter fun g => bit mask g

/-- MEM_TRAINING_DONE: the channel lists are formed, or start-up fails (R255, R260, R486). -/
def execMemTrainingDone (failedStk failedRim : List Nat) (s : State) : Host.Outcome State Fault Refusal :=
  .next (match s.boot.weave with
    | none => s
    | some w =>
      if !s.up ∨ s.boot.stage ≠ 6 then s
      else
        let fs := failedIn (w.stkMask s.flash) failedStk
        let fr := failedIn (w.rimMask s.flash) failedRim
        if fs.isEmpty && fr.isEmpty then (s.formMaps w).stageAt 9 else s.trainFail fs fr)

/-- The weave image names a time source (R523). -/
def State.timed (s : State) : Bool := s.fld R.TIM_CFG_PRIMARY != 0 || s.fld R.TIM_CFG_BACKUP != 0

/-- TIME_LOCK_TIMEOUT: start-up goes on without time lock (R485). -/
def execTimeLockTimeout (s : State) : Host.Outcome State Fault Refusal :=
  .next (if s.up && s.boot.stage == 9 && s.timed && !s.time.locked then (s.log Code.TIME_UNLOCKED bsuUnit).stageAt 10 else s)

/-- The hearth loader is copied by full-line writes and the harts of the mask are released in M mode there, with their ID and the DEVICE_ID (R505). -/
def State.startHarts (s : State) : State :=
  let loader := (s.boot.fw.map (·.loader)).getD []
  let n := (loader.length + 63) / 64
  let mask := s.fld R.HRT_START_HART_MASK
  let s := s.storeBytes (s.fld R.HRT_START_LOADER_ADDR) (padTo (64 * n) loader) false 0
  s.each 16 fun s h => if bit mask h then
      (s.setHart h { s.hart h with running := true }).emit (.hartStart h (s.fld R.HRT_START_LOADER_ADDR) (BitVec.ofNat 64 h) (BitVec.ofNat 64 s.flash.deviceId))
    else s

/-- A weave image that is not debug has reached MOD_READY: the WEAVE counter rises to its SVN (R497). -/
def State.raiseWeave (s : State) : State :=
  match s.boot.weave with
  | none => s
  | some w =>
    if w.isDebug s.flash then s
    else
      let s := { s with flash := { s.flash with ctrWeave := max s.flash.ctrWeave w.svn } }
      s.setFld R.BSU_SVN_WEAVE_COUNTER s.flash.ctrWeave

/-- MOD_READY goes high; READY, TIME_LOCKED and READY_US follow (Table 18-2, step 10; R485). -/
def State.goReady (s : State) (locked : Bool) : State :=
  let s := { s with pins := { s.pins with modReady := true } }.setFlag R.BSU_STATUS_READY true
  let s := s.setFlag R.BSU_STATUS_TIME_LOCKED locked
  (s.setFld R.BSU_STATUS_READY_US ((s.elapsedNs - s.boot.t0) / 1000)).raiseWeave

/-- MOD_READY_RISE: start-up completes, and the hearth cores are released (R26, R505). A start-up that went on without time lock shows TIME_LOCKED = 0, whatever has come since (R485). -/
def execModReadyRise (s : State) : Host.Outcome State Fault Refusal :=
  .next (
    let past := s.boot.stage == 10 || (s.boot.stage == 9 && (!s.timed || s.time.locked))
    if s.up && past && s.boot.keyReady && !s.job.running && !s.sb.trip && !s.flag R.BSU_STATUS_READY then ((s.stageAt 10).startHarts).goReady (s.time.locked && s.boot.stage == 9) else s)

/-- A recovery image that passes R487 and the counter is run on FW0 alone, and MOD_READY goes high unless start-up has failed (R26, R29, R484, R498); one that fails is discarded, and the ROM listens without limit. What a recovery image's own program rewrites is not modelled (log 137). -/
def State.tryRecovery (s : State) (i : Option FwImage) : State :=
  match s.flash.accepts i with
  | some i =>
    { s with boot := { s.boot with fw := some i, listening := false, recoveryRun := true },
             pins := { s.pins with modReady := !s.boot.failed } }.log Code.RECOVERY_BOOT bsuUnit
  | none => { s with boot := { s.boot with forever := true, recvd := [], recvBegun := false } }

/-- RECOVERY_LISTEN_TIMEOUT: no transfer has begun within 5 s, so the recovery region is taken (R498). -/
def execRecoveryListenTimeout (s : State) : Host.Outcome State Fault Refusal :=
  .next (if s.boot.listening && !s.boot.forever && !s.boot.recvBegun then s.tryRecovery s.flash.recovery else s)

/-- RECOVERY_DATA_FRAME: up to 8,192 bytes of the image at an offset (R516). -/
def execRecoveryDataFrame (offset : Nat) (data : List Byte) (s : State) : Host.Outcome State Fault Refusal :=
  .next (if s.boot.listening && decide (offset + data.length ≤ FlashRegion.recovery.size) && decide (data.length ≤ 8192) then
      { s with boot := { s.boot with recvBegun := true, recvd := data.zipIdx.foldl (fun m e => m.put (offset + e.2) e.1) s.boot.recvd } }
    else s)

/-- RECOVERY_END_FRAME: the transfer ends, and the image is verified and started (R498, R516). -/
def execRecoveryEndFrame (s : State) : Host.Outcome State Fault Refusal :=
  .next (if s.boot.listening && s.boot.recvBegun then
      let n := (s.boot.recvd.getLast?.map fun e => e.1 + 1).getD 0
      s.tryRecovery (some (FwImage.parse ((List.range n).map fun i => s.boot.recvd.getD i 0)))
    else s)

/-- Assert level of a source of Table 1-8, in 1/16 °C, 1/16 K or 0.1 A. -/
def State.assertLevel (s : State) (src : Nat) : Int :=
  match src with
  | 0 => 16 * 100
  | 1 => 16 * 100
  | 2 => 16 * 105
  | 3 => 16 * 110
  | 4 => 16 * 25
  | _ => (s.fld R.NRG_ENVELOPE_ICL_DA : Nat)

/-- A reading of a source has reached its assert level (Table 1-8). Before the image has set the input-current limit there is none to reach (log 118). -/
def State.atLevel (s : State) (src : Nat) (v : Int) : Bool :=
  decide (s.assertLevel src ≤ v) && !(src == 5 && s.fld R.NRG_ENVELOPE_ICL_DA == 0)

/-- A reading of a source has fallen below its deassert level (Table 1-8). -/
def State.belowLevel (s : State) (src : Nat) (v : Int) : Bool :=
  match src with
  | 0 => decide (v < 16 * 95)
  | 1 => decide (v < 16 * 95)
  | 4 => decide (v < 16 * 20)
  | 5 => decide (100 * v < 95 * (s.fld R.NRG_ENVELOPE_ICL_DA : Nat))
  | _ => false

/-- The value a reading compares: outlet ([31:16]) minus inlet ([15:0]) for the coolant, a current as it is, a temperature otherwise; temperatures are signed (Table 1-7). -/
def sourceValue (src reading : Nat) : Int :=
  if src = 4 then sext 16 (bits reading 16 16) - sext 16 (bits reading 0 16) else if src = 5 then reading else sext 32 (reading % 2 ^ 32)

/-- The sideband shows a reading (Table 1-7). -/
def State.sideReading (s : State) (src reading : Nat) : State :=
  match src with
  | 0 => { s with sb := { s.sb with hotspot := reading } }
  | 3 => { s with sb := { s.sb with hotspot := reading } }
  | 1 => { s with sb := { s.sb with stackTemp := reading } }
  | 2 => { s with sb := { s.sb with stackTemp := reading } }
  | 4 => { s with sb := { s.sb with coolant := reading } }
  | _ => s

/-- THERM_SOURCE_ASSERT: a source reaches its assert level (R16, R30). -/
def execThermSourceAssert (src reading : Nat) (s : State) : Host.Outcome State Fault Refusal :=
  .next (
    if !s.pins.modPwrgd || decide (6 ≤ src) then s
    else
      let s := s.sideReading src reading
      if !s.atLevel src (sourceValue src reading) then s
      else (if src = 4 then { s with sb := { s.sb with coolantBit := true } } else s).alertOn src)

/-- THERM_SOURCE_DEASSERT: a source falls below its deassert level; sources 2 and 3 stay latched (R16, R30). -/
def execThermSourceDeassert (src reading : Nat) (s : State) : Host.Outcome State Fault Refusal :=
  .next (
    if !s.pins.modPwrgd || decide (6 ≤ src) then s
    else
      let s := s.sideReading src reading
      if bit s.sb.active src && s.belowLevel src (sourceValue src reading) then
        (if src = 4 then { s with sb := { s.sb with coolantBit := false } } else s).alertOff src
      else s)

/-- SB_ALERT_SRC_CLEAR: sticky bits are cleared; clearing bit 2 ends the stack-trip source (R30, Table 1-7). -/
def execSbAlertSrcClear (mask : Nat) (s : State) : Host.Outcome State Fault Refusal :=
  .next (
    if !s.pins.modPwrgd then s
    else
      let s := { s with sb := { s.sb with alertSrc := (List.range 6).foldl (fun a i => if bit mask i then putBit a i false else a) s.sb.alertSrc } }
      if bit mask 2 && bit s.sb.active 2 then s.alertOff 2 else s)

/-- PWR_BRAKE_N_FALL: the brake is in force at once wherever the rails are up; running units log it (R19, R32, R33, Table 1-9, Table 17-3). -/
def execPwrBrakeNFall (s : State) : Host.Outcome State Fault Refusal :=
  let t := { s with pins := { s.pins with pwrBrakeN := false } }
  .next (if !s.pins.modPwrgd then t
    else
      let t := if s.up then t.log Code.POWER_BRAKE nrgUnit else t
      if s.flag R.NRG_THR_BRAKE then t else ((t.setFlag R.NRG_THR_BRAKE true).bumpSat R.NRG_THR_ENTRIES).powerMoved)

/-- POWER_BRAKE_RELEASE: PWR_BRAKE_N has been high for 1 ms (R32). -/
def execPowerBrakeRelease (s : State) : Host.Outcome State Fault Refusal :=
  let t := { s with pins := { s.pins with pwrBrakeN := true } }
  .next (if s.pins.modPwrgd && s.flag R.NRG_THR_BRAKE then (t.setFlag R.NRG_THR_BRAKE false).powerMoved else t)

/-- The test access port shifts out a word. -/
def State.shiftOut (s : State) (v : Nat) (pins : Option Nat) : State := { s with pins := { s.pins with tdo := v, extest := pins } }.emit (.tdo v)

/-- Boundary-scan instructions are accepted: the internal reset holds the device, or a debug weave image is active (R34).
DESIGN CHOICE (log 118): where MOD_RST_N has risen and the internal release of R545 has not yet come they are still accepted, and an EXTEST taken there outlasts the release. -/
def State.tapOpen (s : State) : Bool := s.pins.modPwrgd && (!s.pins.released || s.flag R.BSU_STATUS_DEBUG)

/-- An access to the test port: while TRST_N is at its default the port is held in Test-Logic-Reset and the access has no effect on the device (R36). -/
def State.tap (s : State) (f : State → State) : State := if s.pins.trstN then f s else s

/-- TRST_N driven to a level; low, it takes the port to Test-Logic-Reset, which ends EXTEST (R36). -/
def State.driveTrst (s : State) (high : Bool) : State := { s with pins := { s.pins with trstN := high, extest := if high then s.pins.extest else none } }

/-- TAP_IDCODE (R35). -/
def execTapIdcode (s : State) : Host.Outcome State Fault Refusal :=
  .next (s.tap fun s => if s.pins.modPwrgd then s.shiftOut 0x1EB70C3F none else s)

/-- TAP_BYPASS: one bit from TDI to TDO (R34). DESIGN CHOICE (log 118): no row of the table moves TRST_N, so this command, whose operand is the lines of the port, also drives it, and the level stays. -/
def execTapBypass (tdi : TapLines) (s : State) : Host.Outcome State Fault Refusal :=
  .next ((s.driveTrst tdi.trstN).tap fun s => if s.pins.modPwrgd then s.shiftOut (b2n tdi.tdi) none else s)

/-- TAP_SAMPLE_PRELOAD: the pins are sampled; the manual gives no order of cells, so the word is a free value (R34). -/
def execTapSamplePreload (s : State) : Host.Outcome State Fault Refusal :=
  .next (s.tap fun s =>
    if s.tapOpen then
      let (w, s) := s.free
      s.shiftOut w.toNat none
    else s)

/-- TAP_EXTEST: the pins are driven (R34). -/
def execTapExtest (pins : Nat) (s : State) : Host.Outcome State Fault Refusal :=
  .next (s.tap fun s => if s.tapOpen then { s with pins := { s.pins with extest := some pins } } else s)

end Sys2Proof.Machine
end

