-- ==== Sys2Proof/Machine/Mailbox.lean ====
section
/-! DEFINITION. Mailbox requests (R434 to R442) and what the processors answer: HELLO, PING, groups (R350 to R354, R388), BUDGET_SET (R476), CAMP_ROSTER (R513), updates (R450 to R457), ATTEST (R504). -/

namespace Sys2Proof.Machine
open Sys2Proof

/-- A request as it stands in its IN slot (Table 15-6). -/
structure Msg where
  major : Nat
  type : Nat
  seq : Nat
  /-- MAGIC, LENGTH and CRC are in order (R436). -/
  ok : Bool
  body : List Byte
  deriving DecidableEq, Repr

/-- The request at IN_CI of a processor. -/
def State.inMsg (s : State) (p : Nat) : Msg :=
  let ci := s.fld R.QMC_MBX_W0_IN_CI [p]
  let h := s.slotBytes p 0 ci 32
  let n := fieldAt h 0x0C 2
  let body := (s.slotBytes p 0 ci (32 + min n 4064)).drop 32
  { major := fieldAt h 2 1, type := fieldAt h 4 2, seq := fieldAt h 8 4,
    ok := decide (fieldAt h 0 2 = 0x474D) && decide (n ≤ 4064) && fieldAt h 0x1C 4 == crc32c (h.take 28 ++ body), body := body }

/-- Table 15-7: whether a processor serves a request type. -/
def servesType (p type : Nat) : Bool :=
  type == 0x0001 || type == 0x0002 || (p == 0 && (type == 0x0010 || (decide (0x0200 ≤ type) && decide (type ≤ 0x0202)) || type == 0x0400))
    || (p == 1 && type == 0x0300) || (p == 6 && (type == 0x0100 || type == 0x0101))

/-- The first code of R436 that applies to a request, 0 for none. -/
def State.refusal (s : State) (p : Nat) (m : Msg) : Nat :=
  let neg := s.fld R.QMC_MBX_W2_MAJOR [p]
  if !m.ok then Code.MBX_BAD
  else if m.type = 0x0001 then 0
  else if neg = 0 ∧ m.type ≠ 0x0002 then Code.MBX_NO_HELLO
  else if (if neg = 0 then m.major ≠ 3 ∧ m.major ≠ 2 else m.major ≠ neg) then Code.VERSION_UNSUPPORTED
  else if !servesType p m.type then Code.MBX_TYPE
  else 0

/-- The reply to the request in hand. -/
def State.answer (s : State) (p : Nat) (m : Msg) (status : Nat) (body : List Byte) : State :=
  s.postReply p (s.message p m.type 1 m.seq status body)

/-- A processor can take the request at IN_CI: it runs, a request is there, no earlier reply is held and no staging is in hand (R442). -/
def State.canServe (s : State) (p : Nat) : Bool :=
  decide (p < 8) && s.fwRuns p && s.fld R.QMC_MBX_W0_IN_PI [p] != s.fld R.QMC_MBX_W0_IN_CI [p] && (s.fwp p).heldReply.isNone
    && !(p == 0 && s.update.staging.isSome)

/-- The request at IN_CI handled: refused by R436, or answered by `f` where it is of the type. -/
def State.serve (s : State) (p : Nat) (type : Nat) (f : Msg → State → State) : State :=
  if !s.canServe p then s
  else
    let m := s.inMsg p
    let c := s.refusal p m
    if c ≠ 0 then s.answer p m c []
    else if m.type = type then f m s else s

/-- HELLO: the highest major in both ranges (R437). -/
def State.hello (s : State) (p : Nat) (m : Msg) : State :=
  let low := fieldAt m.body 0 1
  let pick := if low ≤ 3 ∧ 3 ≤ m.major then some (3, 1) else if low ≤ 2 ∧ 2 ≤ m.major then some (2, 3) else none
  match pick with
  | none => s.postReply p (messageBytes 3 1 1 1 m.seq Code.VERSION_UNSUPPORTED s.nowNs (s.fld R.QMC_MBX_W2_FW_EPOCH [p]) [])
  | some (maj, min) =>
    let s := (s.setFld R.QMC_MBX_W2_MAJOR maj [p]).setFld R.QMC_MBX_W2_MINOR min [p]
    s.answer p m 0 (toBytes 1 maj ++ toBytes 1 min ++ zeros 2 ++ toBytes 4 (s.fld R.QMC_MBX_W2_FW_EPOCH [p])
      ++ toBytes 8 (s.fld R.FWP_VERSION_VERSION [p]))

/-- HELLO (R437). -/
def execHello (p : Nat) (s : State) : Host.Outcome State Fault Refusal := .next (s.whenUp fun s => s.serve p 0x0001 fun m s => s.hello p m)

/-- PING: the body is echoed (R441). -/
def execPing (p : Nat) (s : State) : Host.Outcome State Fault Refusal := .next (s.whenUp fun s => s.serve p 0x0002 fun m s => s.answer p m 0 m.body)

/-- MAILBOX_OUT_CI_WRITE: the host frees OUT slots (R435, R442). -/
def execMailboxOutCiWrite (p val : Nat) (s : State) : Host.Outcome State Fault Refusal :=
  .next (s.whenUp fun s => if p < 8 then (s.setFld R.QMC_MBX_W1_OUT_CI val [p]).drainOut p else s)

/-- Present stack memory, rim memory or the backed shared-cache window. -/
def State.present (s : State) (a n : Nat) : Bool :=
  s.mappedRange a n && (rangeLines [(a, n)]).all fun l => match s.regionOf l with
    | .stack _ => true
    | .rim _ => true
    | .window _ => true
    | _ => false

/-- A group definition read from memory: its record and member entries, with whether both could be read (Tables 13-1 and 14-2, R351, R388). -/
def State.groupAt (s : State) (a : Nat) : Option (List Byte × List Nat) :=
  if a % 64 ≠ 0 || !s.present a 64 then none
  else
    let (rec, p) := s.peek a 64
    let n := fieldAt rec 4 2
    let ma := fieldAt rec 0x10 6
    if p || n == 0 || decide (4096 < n) || ma % 64 != 0 || !s.present ma (2 * n) then none
    else
      let (bytes, mp) := s.peek ma (2 * n)
      if mp then none else some (rec, (List.range n).map fun i => fieldAt bytes (2 * i) 2)

/-- The checks of R351 and R388 on the words of a record and its members. -/
def State.groupOk (s : State) (rec : List Byte) (members : List Nat) : Bool :=
  let f := fieldAt rec
  let n := f 4 2
  let rank := f 6 2
  let slow := f 0x18 6
  let base := f 0x20 6
  let size := f 0x28 3
  let reserved := f 0 1 / 64 + f 3 1 / 4 + f 0x0C 4 + f 0x16 2 + f 0x1E 2 + f 0x26 2 + f 0x2B 5 + f 0x30 8 + f 0x38 8
  decide (reserved = 0) && decide (4 ≤ f 1 1) && decide (f 1 1 ≤ 15) && decide (1 ≤ f 2 1) && decide (f 2 1 ≤ 15) && decide (rank < n)
    && (f 8 4 == 0 || (decide (10 ≤ f 8 4) && decide (f 8 4 ≤ 1000000)))
    && members.all (fun m => decide (m < 4096)) && members.getD rank 0 == s.node && members.eraseDups.length == n
    && members.all (fun m => m == s.node || s.flag R.NLK_ROUTE_VALID [m])
    && (!bit (f 3 1) 1 || (slow % 64 == 0 && s.present slow (4 * n)))
    && ((base == 0) == (size == 0)) && base % 65536 == 0
    && (base == 0 || s.inTier base (32 * size * 65536))

/-- The group a record defines, with its hash (R350, R352). -/
def groupOf (rec : List Byte) (members : List Nat) : Group :=
  let f := fieldAt rec
  { record := ofBytes rec, vc := f 1 1, weight := f 2 1, n := f 4 2, rank := f 6 2, grace := bit (f 3 1) 0, slowEn := bit (f 3 1) 1,
    timeout := if f 8 4 = 0 then 2000 else f 8 4, members := members, slowcnt := f 0x18 6, lbBase := f 0x20 6, slotSize := f 0x28 3,
    hash := crc32c (toBytes 2 (f 4 2) ++ toBytes 1 (f 1 1) ++ members.flatMap (toBytes 2)) }

/-- GROUP_DEFINE: the new table and the reply's status (R351). -/
def State.groupDefine (s : State) (a : Nat) : Nat × State :=
  match s.groupAt a with
  | none => (Code.COL_GROUP_INVALID, s)
  | some (rec, members) =>
    if !s.groupOk rec members then (Code.COL_GROUP_INVALID, s)
    else
      let g := fieldAt rec 0 1
      match s.groups.find? g with
      | some old => (if old.record = ofBytes rec ∧ old.members = members then 0 else Code.COL_GROUP_BUSY, s)
      | none => (0, { s with groups := s.groups.put g (groupOf rec members) })

/-- GROUP_DEFINE (R350, R351). -/
def execGroupDefine (p : Nat) (s : State) : Host.Outcome State Fault Refusal :=
  .next (s.whenUp fun s => s.serve p 0x0100 fun m s =>
    let a := fieldAt m.body 0 6
    let (c, s) := s.groupDefine a
    (s.answer p m c []).retryAllFw6)

/-- GROUP_RELEASE: the new table and the reply's status (R354). -/
def State.groupRelease (s : State) (g : Nat) : Nat × State :=
  if (s.groups.find? g).isNone then (0, s)
  else if s.activeGroups.contains g || (s.stepsOf g).any (fun id => (s.cols.find? id).any fun c => c.wait == .vc) || (List.range 32).any (fun k => s.fld R.COL_SLOT_W0_STATE [g, k] != 0) then (Code.COL_GROUP_BUSY, s)
  else (0, { s with groups := FMap.del g s.groups, keptAborts := FMap.keep (fun k _ => k / 65536 != g) s.keptAborts, ended := FMap.keep (fun k _ => k / 65536 != g) s.ended
                    forwarded := match s.groups.find? g with
                      | some gr => s.forwarded.filter fun e => e.1 != gr.hash
                      | none => s.forwarded })

/-- GROUP_RELEASE (R354). -/
def execGroupRelease (p : Nat) (s : State) : Host.Outcome State Fault Refusal :=
  .next (s.whenUp fun s => s.serve p 0x0101 fun m s =>
    let (c, s) := s.groupRelease (fieldAt m.body 0 1 % 64)
    (s.answer p m c []).retryAllFw6)

/-- A field of BUDGET_SET lies outside its range, or asks for more than the weave image gives (R476). -/
def State.budgetRange (s : State) (b : List Byte) : Bool :=
  let w := fieldAt b 0 4
  let v := fieldAt b 4 2
  let t := fieldAt b 6 1
  let i := fieldAt b 8 2
  let wi := s.fld R.NRG_ENV_WEAVE_ICL_DA
  (w != 0 && (decide (w < 400000) || decide (s.fld R.GLB_CAPS_ENVELOPE_W * 1000 < w)))
    || (v != 0 && (decide (v < 600) || decide (850 < v) || decide (s.fld R.NRG_ENV_WEAVE_VMAX_MV < v)))
    || (t != 0 && (decide (t < 85) || decide (100 < t) || decide (s.fld R.NRG_ENV_WEAVE_THROTTLE_C < t)))
    || (i != 0 && (decide (i < 100) || decide (wi < i)))
    || fieldAt b 7 1 != 0 || fieldAt b 0x0A 6 != 0

/-- A field of BUDGET_SET would loosen the active envelope while it is locked (R476, R479). -/
def State.budgetLocked (s : State) (b : List Byte) : Bool :=
  s.flag R.NRG_ENVELOPE_LOCK && (decide (s.fld R.NRG_ENVELOPE_VMAX_MV < fieldAt b 4 2) || decide (s.fld R.NRG_ENVELOPE_THROTTLE_C < fieldAt b 6 1)
    || decide (s.fld R.NRG_ENVELOPE_ICL_DA < fieldAt b 8 2))

/-- A field replaced unless the new value is 0. -/
def State.setUnless0 (s : State) (f : Fld) (v : Nat) : State := if v = 0 then s else s.setFld f v

/-- BUDGET_SET: the budget waits for the next window, the envelope takes effect at once (R476). -/
def State.budgetSet (s : State) (b : List Byte) : Nat × State :=
  if s.budgetRange b then (Code.BUDGET_RANGE, s)
  else if s.budgetLocked b then (Code.ENVELOPE_LOCKED, s)
  else
    let w := fieldAt b 0 4
    let s := s.setFld R.NRG_BUDGET_PENDING_UJ (if w = 0 then s.fld R.GLB_CAPS_ENVELOPE_W * 1000 else w)
    let s := (s.setUnless0 R.NRG_ENVELOPE_VMAX_MV (fieldAt b 4 2)).setUnless0 R.NRG_ENVELOPE_THROTTLE_C (fieldAt b 6 1)
    (0, (s.setUnless0 R.NRG_ENVELOPE_ICL_DA (fieldAt b 8 2)).powerMoved)

/-- BUDGET_SET (R476, R479). -/
def execBudgetSet (p : Nat) (s : State) : Host.Outcome State Fault Refusal :=
  .next (s.whenUp fun s => s.serve p 0x0300 fun m s =>
    let (c, s) := s.budgetSet m.body
    s.answer p m c [])

/-- STATE of a member in the roster: a worker knows only its own (R512). -/
def State.rosterState (s : State) (m : Nat) : Nat :=
  if m = s.fld R.GLB_WEAVE_MEMBER then (if s.flag R.BSU_STATUS_READY then 1 else 2)
  else if s.fld R.GLB_WEAVE_ROLE = 1 then 0
  else s.roster.state.getD m 0

/-- The CAMP_ROSTER body (Table 19-3). -/
def State.rosterBody (s : State) : List Byte :=
  let valid := fun m => s.flag R.NLK_MEMBER_VALID [m]
  toBytes 1 (popcount 64 (s.fld R.GLB_CAMP_MASK_MASK)) ++ toBytes 1 (s.fld R.GLB_WEAVE_MEMBER) ++ zeros 2 ++ toBytes 4 s.roster.gen ++
    (List.range 64).flatMap fun m =>
      let self := m == s.fld R.GLB_WEAVE_MEMBER
      let e := s.fld R.NLK_MEMBER_NODE [m] + b2n (valid m) * 2 ^ 12 + b2n (valid m && m != 0) * 2 ^ 13
        + (if valid m then s.rosterState m else 0) * 2 ^ 14 + (if self then s.fld R.BSU_DEVICE_ID_ID % 2 ^ 48 else 0) * 2 ^ 16
      toBytes 8 e

/-- A change of any STATE: the generation rises, CAMP_ROSTER is posted as an event, and source 6 is set and raised (R508, R512). -/
def State.rosterTell (s : State) : State :=
  if s.roster.state = s.roster.told then s
  else
    let s := { s with roster := { s.roster with told := s.roster.state, gen := (s.roster.gen + 1) % 2 ^ 32 } }
    ((s.postEvent 0 0x0010 s.rosterBody).interruptRoute 6).setFldBit R.HRT_PENDING_SOURCES 6 true

/-- CAMP_ROSTER (R513). -/
def execCampRoster (p : Nat) (s : State) : Host.Outcome State Fault Refusal :=
  .next (s.whenUp fun s => s.serve p 0x0010 fun m s => s.answer p m 0 s.rosterBody)

/-- A refusal of the update chapter: its code is replied and shown in LAST_STATUS. -/
def State.answerUpd (s : State) (p : Nat) (m : Msg) (code : Nat) (body : List Byte) : State :=
  (if code = 0 then s else s.updStatus code).answer p m code body

/-- The reply body of FW_STAGE (Table 16-5). -/
def stageBody (i : FwImage) : List Byte := toBytes 32 i.hash ++ toBytes 8 i.version ++ toBytes 4 i.svn

/-- FW_STAGE: refused, answered at once, or a staging begins (R451). -/
def State.fwStage (s : State) (p : Nat) (m : Msg) : State :=
  let st := s.fld R.FWP_UPDATE_STATE
  let a := fieldAt m.body 0 6
  let n := fieldAt m.body 8 4
  if st = 3 ∨ st = 4 then s.answerUpd p m Code.FW_UPDATE_BUSY []
  else if 2 ^ 24 < n ∨ a % 64 ≠ 0 ∨ !s.inTier a n then s.answerUpd p m Code.FW_IMAGE_BAD []
  else
    let (bytes, poison) := s.peek a n
    let i := FwImage.parse bytes
    if poison || !i.vendorOk s.flash.romRoot || !i.fits then s.answerUpd p m Code.FW_IMAGE_BAD []
    else if i.svn < s.flash.ctrFw then s.answerUpd p m Code.FW_ROLLBACK []
    else if st = 2 ∧ s.flash.manifest.stagedHash = i.hash then s.answer p m 0 (stageBody i)
    else
      let s := s.dropStaged
      { s with update := { s.update with staging := some i } }.setFld R.FWP_UPDATE_STATE 1

/-- FW_STAGE (R451). -/
def execFwStage (p : Nat) (s : State) : Host.Outcome State Fault Refusal :=
  .next (s.whenUp fun s => s.serve p 0x0200 fun m s => s.fwStage p m)

/-- FW_STAGE_DONE: the image is in the staging slot and the reply is posted (R451). -/
def execFwStageDone (s : State) : Host.Outcome State Fault Refusal :=
  .next (s.whenUp fun s =>
    match s.update.staging with
    | none => s
    | some i =>
      if !s.fwRuns 0 then s
      else
        let m := s.inMsg 0
        let f := (s.flash.setFw s.flash.stagingSlot (some i)).writeManifest fun m => { m with stagedHash := i.hash }
        let s := { s with flash := f, update := { s.update with staging := none } }
        ((s.setUpdate 2 false).showStaged).answer 0 m 0 (stageBody i))

/-- Every negotiated mailbox major is one the image speaks (R453). -/
def State.speaks (s : State) (i : FwImage) : Bool :=
  (List.range 8).all fun p => let m := s.fld R.QMC_MBX_W2_MAJOR [p]; m == 0 || bit i.compat m

/-- FW_ACTIVATE (R453, R455). -/
def State.fwActivate (s : State) (p : Nat) (m : Msg) : State :=
  let st := s.fld R.FWP_UPDATE_STATE
  let aob := fieldAt m.body 0 1 % 2 == 1
  if st = 0 ∨ st = 1 then s.answerUpd p m Code.FW_NOT_STAGED []
  else if st = 4 then s.answerUpd p m Code.FW_UPDATE_BUSY []
  else match s.flash.staged with
    | none => s.answerUpd p m Code.FW_NOT_STAGED []
    | some i =>
      if !s.speaks i then s.answerUpd p m Code.FW_INCOMPATIBLE []
      else
        let s := s.setUpdate 3 aob
        let late := !s.envStable
        let s := if late && st == 2 then
            ((s.bumpSat R.FWP_UPDATE_DEFERRALS).log Code.FW_DEFERRED 0x0410).updStatus Code.FW_DEFERRED
          else s
        s.answer p m 0 (toBytes 1 (b2n late))

/-- FW_ACTIVATE (R453). -/
def execFwActivate (p : Nat) (s : State) : Host.Outcome State Fault Refusal :=
  .next (s.whenUp fun s => s.serve p 0x0201 fun m s => s.fwActivate p m)

/-- FW_CANCEL (R457). -/
def State.fwCancel (s : State) (p : Nat) (m : Msg) : State :=
  let st := s.fld R.FWP_UPDATE_STATE
  let discard := fieldAt m.body 0 1 % 2 == 1
  if st = 4 then s.answerUpd p m Code.FW_UPDATE_BUSY []
  else
    let s := if st = 3 then (if discard then s.dropStaged else s.setUpdate 2 false)
      else if st = 2 && discard then s.dropStaged else s
    s.answer p m 0 []

/-- FW_CANCEL (R457). -/
def execFwCancel (p : Nat) (s : State) : Host.Outcome State Fault Refusal :=
  .next (s.whenUp fun s => s.serve p 0x0202 fun m s => s.fwCancel p m)

/-- The attestation report, 256 bytes (Table 18-7). -/
def State.report (s : State) (nonce : List Byte) : List Byte :=
  let fw := s.boot.fw.getD FwImage.reference
  let w := s.boot.weave.getD Weave.reference
  let flags := b2n (s.flag R.BSU_STATUS_DEBUG) + 2 * b2n (s.flag R.BSU_STATUS_RECOVERY) + 4 * b2n (s.flag R.BSU_STATUS_FALLBACK)
    + 8 * b2n (s.fld R.FWP_UPDATE_STATE == 3)
  toBytes 2 0x4152 ++ toBytes 1 1 ++ toBytes 1 flags ++ toBytes 4 256 ++ toBytes 8 s.flash.keyHash ++ padTo 32 nonce
    ++ toBytes 32 s.flash.romHash ++ toBytes 32 fw.hash ++ toBytes 32 w.hash ++ shake256 w.opcert
    ++ toBytes 8 fw.version ++ toBytes 8 w.version ++ toBytes 4 fw.svn ++ toBytes 4 w.svn ++ toBytes 4 s.flash.ctrFw ++ toBytes 4 s.flash.ctrWeave
    ++ toBytes 8 s.nowNs ++ toBytes 4 s.flash.romVersion ++ toBytes 4 s.flash.ctrBoots ++ zeros 32

/-- The body of an ATTEST reply in a mode (R504). -/
def State.attestBody (s : State) (mode : Nat) (nonce : List Byte) : List Byte :=
  match mode with
  | 0 =>
    let r := s.report nonce
    let sig := (Config.falconSign (keySeed s.flash.secret) (shakeNat r)).take 1280
    r ++ toBytes 4 sig.length ++ sig
  | 1 => s.flash.devCert.take 4064
  | 2 => ((s.boot.weave.map (·.opcert)).getD []).take 4064
  | _ => s.flash.mfgRec.take 4064

/-- ATTEST in one mode; a bad MODE or reserved byte is refused. A request that comes before the device key waits (R504). -/
def State.attest (s : State) (p mode : Nat) : State :=
  s.serve p 0x0400 fun m s =>
    if !s.boot.keyReady then s
    else if 3 < fieldAt m.body 0 1 ∨ fieldAt m.body 1 7 ≠ 0 then s.answer p m Code.ATTEST_FIELD []
    else if fieldAt m.body 0 1 = mode then s.answer p m 0 (s.attestBody mode ((m.body.drop 8).take 32))
    else s

/-- ATTEST_REPORT: MODE 0 (R504). -/
def execAttestReport (p : Nat) (s : State) : Host.Outcome State Fault Refusal := .next (s.whenUp fun s => s.attest p 0)

/-- ATTEST_DEVICE_CERT: MODE 1 (R504). -/
def execAttestDeviceCert (p : Nat) (s : State) : Host.Outcome State Fault Refusal := .next (s.whenUp fun s => s.attest p 1)

/-- ATTEST_OPERATOR_CERT: MODE 2 (R504). -/
def execAttestOperatorCert (p : Nat) (s : State) : Host.Outcome State Fault Refusal := .next (s.whenUp fun s => s.attest p 2)

/-- ATTEST_MFG_RECORD: MODE 3 (R504). -/
def execAttestMfgRecord (p : Nat) (s : State) : Host.Outcome State Fault Refusal := .next (s.whenUp fun s => s.attest p 3)

end Sys2Proof.Machine
end

