-- ==== Sys2Proof/Machine/Firmware.lean ====
section
/-! DEFINITION. Firmware processors: watchdogs, crashes and restarts (R444 to R449), activation (R455, R458 to R460). -/

namespace Sys2Proof.Machine
open Sys2Proof

/-- Unit ID of a processor. -/
abbrev fwUnit (p : Nat) : Nat := 0x0400 + p

/-- DETAIL of FW_CRASH (Table 16-3). -/
def crashDetail (p cause pc mcause epoch : Nat) : Nat :=
  ofBytes (toBytes 1 p ++ toBytes 1 cause ++ zeros 2 ++ toBytes 4 pc ++ toBytes 4 mcause ++ toBytes 4 epoch ++ zeros 16)

/-- The processor is held in reset until a re-weave or cold boot: job-fatal (R448). -/
def State.holdFw (s : State) (p : Nat) : State :=
  ((s.setFld R.FWP_STATUS_STATE 2 [p]).updStatus Code.FW_RESTART_LOOP).jobFatal Code.FW_RESTART_LOOP (fwUnit p) 0 0

/-- An activation's last step: the rollback counter rises, FW_ACTIVATED, NONE (Table 16-7, step 7). -/
def State.finishActivation (s : State) : State :=
  if s.fld R.FWP_UPDATE_STATE = 4 ∧ s.update.chain.isEmpty then
    let svn := (s.boot.fw.map (·.svn)).getD 0
    let f := { s.flash with ctrFw := max s.flash.ctrFw svn }
    let s := ({ s with flash := f.writeManifest fun m => { m with stagedHash := 0 } }.setUpdate 0 false).showStaged
    (s.log Code.FW_ACTIVATED 0x0410).updStatus Code.FW_ACTIVATED
  else s

/-- What else a crash does: FW0's staging is abandoned with its slot emptied, and an activation in its last step completes first (R452, Table 16-4). -/
def State.crashSide (s : State) (p : Nat) : State :=
  if p = 0 then
    let s := if s.update.staging.isSome then s.dropStaged else s
    s.finishActivation
  else s

/-- The crashes of a processor within the last second, this one included (R448). -/
def State.recentCrashes (s : State) (p : Nat) : List Nat :=
  s.elapsedNs :: (s.fwp p).crashes.filter fun t => decide (s.elapsedNs < t + 1000000000)

/-- Processor p is declared crashed: recorded, logged, and restarted or held (R446 to R449). -/
def State.crash (s : State) (p cause pc mcause : Nat) : State :=
  if 8 ≤ p || !s.fwRuns p then s
  else
    let s := s.crashSide p
    let ts := s.recentCrashes p
    let held := cause != 4 && decide (3 ≤ ts.length)
    let s := s.modFw p fun f => { f with crashes := if cause = 4 then f.crashes else ts, cause := cause, heldReply := none }
    let s := if held then s else s.bump R.QMC_MBX_W2_FW_EPOCH [p]
    let s := ((s.setFld R.FWP_CRASH_PC pc [p]).setFld R.FWP_CRASH_CAUSE cause [p]).setFld R.FWP_CRASH_MCAUSE (mcause % 256) [p]
    let s := s.setFld R.FWP_CRASH_TIME_TIME s.nowNs [p]
    let s := (s.log Code.FW_CRASH (fwUnit p) 0 (crashDetail p cause pc mcause (s.fld R.QMC_MBX_W2_FW_EPOCH [p]))).updStatus Code.FW_CRASH
    let s := if held then s.holdFw p
      else ((s.setFld R.FWP_STATUS_STATE 1 [p]).setFld R.FWP_STATUS_LAST_CAUSE cause [p]).bumpSat R.FWP_STATUS_RESTARTS [p]
    let s := s.showPending p
    if p = 1 then s.powerMoved else s

/-- A crash whose PC the manual leaves open: a free value. -/
def State.crashFree (s : State) (p cause mcause : Nat) : State :=
  let (w, s) := s.free
  s.crash p cause (bits w.toNat 0 32) mcause

/-- FW_WATCHDOG_EXPIRE (R444, R446). -/
def execFwWatchdogExpire (p : Nat) (s : State) : Host.Outcome State Fault Refusal :=
  .next (s.whenUp fun s => if 8 ≤ p || !s.fwRuns p then s else (s.bumpSat R.FWP_WDOG_EXPIRIES [p]).crashFree p 1 0)

/-- FW_WATCHDOG_KICK: the owning processor restarts its count (R444). -/
def execFwWatchdogKick (p : Nat) (s : State) : Host.Outcome State Fault Refusal :=
  .next (s.whenUp fun s => if 8 ≤ p || !s.fwRuns p then s else s.modFw p fun f => { f with kicked := s.elapsedNs })

/-- FW_FATAL_EXCEPTION (R446). -/
def execFwFatalException (p pc mcause : Nat) (s : State) : Host.Outcome State Fault Refusal :=
  .next (s.whenUp fun s => s.crash p 2 (pc % 2 ^ 32) (mcause % 2 ^ 32))

/-- FW_SRAM_UNCORRECTABLE: a word of private SRAM is counted, logged, and crashes its processor (R285, R286, R446). -/
def execFwSramUncorrectable (p : Nat) (s : State) : Host.Outcome State Fault Refusal :=
  .next (s.whenUp fun s =>
    if 8 ≤ p || !s.fwRuns p then s
    else
      let s := (s.bumpSat R.ERL_COUNTS_UE).log Code.WORD_UE (fwUnit p)
      let (w, s) := s.free
      s.crashFree p 3 (bits w.toNat 0 32))

/-- A write of 1 to FWP_CTLp.RESTART: honoured only under a debug weave image (R446, R495). -/
def State.restartRequest (s : State) (p : Nat) : State := if s.flag R.GLB_WEAVE_DEBUG then s.crashFree p 5 0 else s

/-- FW_RESTART_REQUEST (R446). -/
def execFwRestartRequest (p : Nat) (s : State) : Host.Outcome State Fault Refusal := .next (s.whenUp fun s => s.restartRequest p)

/-- The next processor of an activation is restarted with cause 4; one already restarting takes that cause, one held is passed over (Table 16-7). -/
def State.nextRestart : Nat → State → State
  | 0, s => s
  | fuel + 1, s =>
    match s.update.chain with
    | [] => s
    | p :: rest =>
      if s.fwRuns p then s.crashFree p 4 0
      else if s.fld R.FWP_STATUS_STATE [p] = 1 then (s.setFld R.FWP_STATUS_LAST_CAUSE 4 [p]).modFw p fun f => { f with cause := 4 }
      else State.nextRestart fuel { s with update := { s.update with chain := rest } }

/-- FW_RESTART_DONE: the copy is checked, the processor starts, drops its unanswered requests and posts RESTARTED; re-issues that fell due meanwhile resume (R242, R246, R439, R447, R448). -/
def execFwRestartDone (p : Nat) (imageOk : Bool) (s : State) : Host.Outcome State Fault Refusal :=
  .next (s.whenUp fun s =>
    if 8 ≤ p ∨ s.fld R.FWP_STATUS_STATE [p] ≠ 1 then s
    else if !imageOk then s.holdFw p
    else
      let s := s.setFld R.FWP_STATUS_STATE 0 [p]
      let s := match s.boot.fw with
        | some i => s.setFld R.FWP_VERSION_VERSION i.version [p]
        | none => s
      let s := s.setFld R.QMC_MBX_W0_IN_CI (s.fld R.QMC_MBX_W0_IN_PI [p]) [p]
      let (w, s) := s.free
      let s := s.modFw p fun f => { f with seq := bits w.toNat 0 32, kicked := s.elapsedNs }
      let s := s.postEvent p restartedType (toBytes 4 (s.fld R.QMC_MBX_W2_FW_EPOCH [p]) ++ toBytes 4 (s.fwp p).cause)
      let s := if p = 1 then s.powerMoved else if p = 7 then s.resumeRas else s
      let s := match s.update.chain with
        | h :: rest => if h = p then State.nextRestart 8 { s with update := { s.update with chain := rest } } else s
        | [] => s
      s.reissueAll)

/-- ACTIVATION_START: the envelope is stable, so a PENDING activation begins (R455, R458, Table 16-7). -/
def execActivationStart (s : State) : Host.Outcome State Fault Refusal :=
  .next (s.whenUp fun s =>
    if s.fld R.FWP_UPDATE_STATE ≠ 3 || !s.envStable || !s.fwRuns 0 then s
    else match s.flash.staged with
      | none => s
      | some i =>
        if i.hash ≠ s.flash.manifest.stagedHash then s
        else
          let k := s.flash.stagingSlot
          let f := s.flash.writeManifest fun m => { m with fwActive := k, fwHash := i.hash, stagedHash := 0, update := 0, aob := false }
          let s := { s with flash := f, boot := { s.boot with fw := some i }, update := { s.update with chain := [1, 7, 6, 2, 3, 4, 5, 0] } }
          let s := ((s.setFld R.FWP_UPDATE_STATE 4).setFlag R.FWP_UPDATE_AOB false).setFld R.BSU_ROM_FW_SLOT k
          State.nextRestart 8 s)

/-- ACTIVATION_COMPLETE: every processor has restarted (Table 16-7, step 7). -/
def execActivationComplete (s : State) : Host.Outcome State Fault Refusal :=
  .next (s.whenUp fun s =>
    match s.update.chain with
    | p :: _ => if s.fld R.FWP_STATUS_STATE [p] = 2 then State.nextRestart 8 s else s
    | [] => if s.fwRuns 0 then s.finishActivation else s)

end Sys2Proof.Machine
end

