-- ==== Sys2Proof/Machine/Queues.lean ====
section
/-! DEFINITION. Queues, doorbells, event counters and contexts (R403 to R408, R421, R428 to R431). -/

namespace Sys2Proof.Machine
open Sys2Proof

/-- Unit ID of the queue manager. -/
abbrev qmcUnit : Nat := 0x0B00

/-- A queue stops: STATE, STOP_STATUS, the poison's entry with site 0x0B, QUEUE_STOPPED (R300, R429). A FROZEN queue stays FROZEN, and only the poison is logged (R430, R431). -/
def State.stopQueue (s : State) (q addr place : Nat) : State :=
  if s.qState q = 3 then s.logPoison 0x0B qmcUnit q addr place
  else
  let s := (s.setFld R.WQS_W1_STATE 2 [q]).setFld R.WQS_W1_STOP_STATUS Code.POISON_CONSUMED [q]
  (s.logPoison 0x0B qmcUnit q addr place).log Code.QUEUE_STOPPED qmcUnit addr

/-- Register-space address of a queue's doorbell. -/
def doorbellAddr (q : Nat) : Nat := 0x0F000000000 + 0x8000000 + 64 * q

/-- A doorbell in range: the new PI of a work queue, or the new CI of a completion queue (R406). -/
def State.doorbellOk (s : State) (q : Nat) (val : Word) : Bool :=
  let v := val.toNat
  let pi := s.fld R.WQS_W2_PI [q]
  let ci := s.fld R.WQS_W2_CI [q]
  let gap := fun b => (v + 2 ^ 32 - b) % 2 ^ 32
  decide (v < 2 ^ 32) &&
    if s.fld R.WQS_W0_KIND [q] = 0 then decide (gap pi < 2 ^ 31) && decide (gap ci ≤ s.qLen q)
    else decide (gap ci ≤ (pi + 2 ^ 32 - ci) % 2 ^ 32)

/-- A doorbell store (R406 to R408, R429). -/
def State.doorbell (s : State) (q : Nat) (val : Word) (poison : Bool) (age : Option Nat := none) : State :=
  if 262144 ≤ q then s
  else if poison then s.stopQueue q (doorbellAddr q) 0
  else if !s.doorbellOk q val then s.log Code.DOORBELL_BAD qmcUnit (doorbellAddr q)
  else if s.fld R.WQS_W0_KIND [q] = 0 then
    let s := if s.fld R.WQS_W2_PI [q] = s.fld R.WQS_W2_CI [q] then s.setFld R.WQS_W5_HEAD_AGE (age.getD s.ageStamp) [q] else s
    s.setFld R.WQS_W2_PI val.toNat [q]
  else s.setFld R.WQS_W2_CI val.toNat [q]

/-- WQ_DOORBELL: a store to a work queue's doorbell (R406). -/
def execWqDoorbell (q : Nat) (val : Word) (poison : Bool) (s : State) : Host.Outcome State Fault Refusal :=
  .next (s.whenUp fun s => if s.fld R.WQS_W0_KIND [q] = 0 then s.doorbell q val poison else s)

/-- CQ_DOORBELL: a store to a completion queue's doorbell (R406). -/
def execCqDoorbell (q : Nat) (val : Word) (poison : Bool) (s : State) : Host.Outcome State Fault Refusal :=
  .next (s.whenUp fun s => if s.fld R.WQS_W0_KIND [q] = 1 then s.doorbell q val poison else s)

/-- Bytes of a queue's ring. -/
def State.ringBytes (s : State) (q : Nat) : Nat := s.qLen q * (if s.fld R.WQS_W0_KIND [q] = 0 then 128 else 32)

/-- STATE written ENABLED (R404, R429, R431). -/
def State.enableQueue (s : State) (q : Nat) : State :=
  let st := s.qState q
  if 262144 ≤ q ∨ st = 3 ∨ st = 1 then s
  else if !s.inTier (s.qBase q) (s.ringBytes q) then s.setFld R.WQS_W1_STOP_STATUS Code.ADDR_UNMAPPED [q]
  else
    let s := s.setFld R.WQS_W1_STATE 1 [q]
    if st = 2 && s.fld R.WQS_W0_KIND [q] == 0 && s.fld R.WQS_W2_PI [q] != s.fld R.WQS_W2_CI [q] && bit (s.headPoison q) 0 then
      s.stopQueue q (s.headAddr q) (s.headAddr q)
    else s

/-- STATE written DISABLED (R431). -/
def State.disableQueue (s : State) (q : Nat) : State :=
  if 262144 ≤ q ∨ s.qState q = 3 then s else s.setFld R.WQS_W1_STATE 0 [q]

/-- QUEUE_ENABLE (R431). -/
def execQueueEnable (q : Nat) (s : State) : Host.Outcome State Fault Refusal := .next (s.whenUp fun s => s.enableQueue q)

/-- QUEUE_DISABLE (R431). -/
def execQueueDisable (q : Nat) (s : State) : Host.Outcome State Fault Refusal := .next (s.whenUp fun s => s.disableQueue q)

/-- QUEUE_HEAD_POISONED: the first word of a head reads poisoned (R429). -/
def execQueueHeadPoisoned (q : Nat) (s : State) : Host.Outcome State Fault Refusal :=
  .next (s.whenUp fun s =>
    if s.served q && bit (s.headPoison q) 0 then ((s.touchLines (s.headAddr q) 8 0).unhold q).stopQueue q (s.headAddr q) (s.headAddr q) else s)

/-- What may be used of a head whose later words are poisoned: its first eight bytes, and FAIL_EN with FAIL_SIG where neither lies in a poisoned word (R429). -/
def cleanHead (d : Desc) (poison : Nat) : Desc :=
  let first := dsc d 0x00 0 64
  let fail := if hFlag d 11 && !bit poison 2 && !bit poison 5 then 2 ^ (8 * 0x14 + 11) + dsc d 0x2C 0 16 * 2 ^ (8 * 0x2C) else 0
  BitVec.ofNat 1024 (first + fail)

/-- DESC_BODY_POISONED: a head with a clean first word and poison behind it is taken and completed (R429). -/
def execDescBodyPoisoned (q : Nat) (s : State) : Host.Outcome State Fault Refusal :=
  .next (s.whenUp fun s =>
    let p := s.headPoison q
    if !s.served q || p == 0 || bit p 0 || !s.slotRoom (s.homeOf q) then s
    else if !s.cqRoom (s.cqOf q) then
      (if (s.cqMarks.find? q).isNone then { s with cqMarks := s.cqMarks.put q () }.bumpSat R.QMC_STATUS_CQ_WAITS else s)
    else
      let a := s.headAddr q
      let it := s.newItem q (cleanHead (s.headDesc q) p)
      let (id, s) := ((s.touchLines a 128 0).unhold q).takeHead q it
      ((s.logPoison 0x06 qmcUnit q a a).modItem id fun it => { it with status := Code.POISON_CONSUMED }).endNow id)

/-- EVC_SET_WRITE (R421). -/
def execEvcSetWrite (k : Nat) (val : Word) (s : State) : Host.Outcome State Fault Refusal :=
  .next (s.whenUp fun s => if k < 65536 then s.setFld R.EVC_VALUE val.toNat [k] else s)

/-- EVC_ADD_WRITE (R421). -/
def execEvcAddWrite (k : Nat) (val : Word) (s : State) : Host.Outcome State Fault Refusal :=
  .next (s.whenUp fun s => if k < 65536 then s.evcAdd k val.toNat else s)

/-- CONTEXT_HOLD (R428). -/
def execContextHold (c : Nat) (hold : Bool) (s : State) : Host.Outcome State Fault Refusal :=
  .next (s.whenUp fun s => if c < 4096 then s.setFlag R.QMC_CTX_W0_HOLD hold [c] else s)

/-- CONTEXT_ENABLE (R428). -/
def execContextEnable (c : Nat) (enable : Bool) (s : State) : Host.Outcome State Fault Refusal :=
  .next (s.whenUp fun s => if c < 4096 then s.setFlag R.QMC_CTX_W0_ENABLE enable [c] else s)

end Sys2Proof.Machine
end

