-- ==== Sys2Proof/Machine/Pcie.lean ====
section
/-! DEFINITION. The PCIe root port (R517 to R519). -/

namespace Sys2Proof.Machine
open Sys2Proof

/-- Unit ID of the PCIe block. -/
abbrev pciUnit : Nat := 0x2300

/-- The port is there and runs. -/
def State.pciUp (s : State) : Bool := s.hubUp && s.flag R.GLB_CAPS_PCIE_PRESENT

/-- A read that has failed: a hearth load faults, a work item or a launch ends with ADDR_UNMAPPED (R517). -/
def State.pcieFail (s : State) (r : Req) : State :=
  match r.waiter with
  | .hearth h _ => s.emit (.hearthFault h r.addr)
  | .item id =>
    (s.modItem id fun it => { it with status := if it.status = 0 then Code.ADDR_UNMAPPED else it.status, pendingRemote := it.pendingRemote - 1 }).answered id
  | .core c => { s with mem := { s.mem with remote := s.mem.remote.put (r.addr / 64 + 2 ^ 60 * (c + 1)) ([], 257) } }
  | _ => s

/-- A hearth load of a poisoned word: logged with site 0x05, and an access fault; the instruction's address is a free value (R300, R301). -/
def State.hearthPoison (s : State) (h a : Nat) : State :=
  let (w, s) := s.free
  (s.log Code.POISON_CONSUMED 0x0C00 a (poisonDetail 0x05 h 0xFFFF 0 w.toNat)).emit (.hearthFault h a)

/-- A line, or the bytes of a hearth load, handed to the one who waits for it. -/
def State.giveLine (s : State) (r : Req) (data : List Byte) (poison : Nat) : State :=
  match r.waiter with
  | .hearth h _ =>
    if bit poison 0 then s.hearthPoison h r.addr
    else s.emit (.hearthData h (BitVec.ofNat 64 (ofBytes (data.take r.len))))
  | .item id =>
    (s.modItem id fun it => { it with remote := it.remote.put (r.addr / 64) (padTo 64 data, poison), pendingRemote := it.pendingRemote - 1 }).answered id
  | .core c => { s with mem := { s.mem with remote := s.mem.remote.put (r.addr / 64 + 2 ^ 60 * (c + 1)) (padTo 64 data, poison) } }
  | _ => s

/-- An outbound request taken off the list. -/
def State.pcieTake (s : State) (tag : Nat) : Option (Req × State) :=
  if tag < 1024 then (s.pcieReqs.find? tag).map fun r => (r, { s with pcieReqs := FMap.del tag s.pcieReqs }) else none

/-- PCIE_OUTBOUND_COMPLETION: status 0 delivers the data; Unsupported Request and Completer Abort fail the request (R517). -/
def execPcieOutboundCompletion (tag status : Nat) (data : List Byte) (s : State) : Host.Outcome State Fault Refusal :=
  .next (if !s.hubUp then s else match s.pcieTake tag with
    | none => s
    | some (r, t) => if status = 0 then t.giveLine r data 0 else t.pcieFail r)

/-- PCIE_OUTBOUND_TIMEOUT: no completion in 50 ms (R517). -/
def execPcieOutboundTimeout (tag : Nat) (s : State) : Host.Outcome State Fault Refusal :=
  .next (if !s.hubUp then s else match s.pcieTake tag with
    | none => s
    | some (r, t) => t.pcieFail r)

/-- PCIE_LINK_UP (R517, Table 19-8). -/
def execPcieLinkUp (speed width : Nat) (flit : Bool) (s : State) : Host.Outcome State Fault Refusal :=
  .next (if s.pciUp then
      (((s.setFlag R.PCI_STATUS_LINK_UP true).setFld R.PCI_STATUS_SPEED speed).setFld R.PCI_STATUS_WIDTH width).setFlag R.PCI_STATUS_FLIT flit
    else s)

/-- Every outbound request fails. -/
def State.pcieDrop (s : State) : State :=
  (s.pcieReqs.keys.filter fun t => decide (t < 1024)).foldl (fun s tag => match s.pcieTake tag with
    | none => s
    | some (r, t) => t.pcieFail r) s

/-- PCIE_LINK_DOWN: while the link is down outbound accesses fail (R517). -/
def execPcieLinkDown (s : State) : Host.Outcome State Fault Refusal :=
  .next (if s.pciUp then
      ((((s.setFlag R.PCI_STATUS_LINK_UP false).setFld R.PCI_STATUS_SPEED 0).setFld R.PCI_STATUS_WIDTH 0).setFlag R.PCI_STATUS_FLIT false).pcieDrop
    else s)

/-- PCI_CTL.RETRAIN written with 1 (Table 19-8). -/
def State.pciRetrain (s : State) : State := if s.pciUp then s.emit .pcieRetrain else s

/-- PCIE_RETRAIN (R517). -/
def execPcieRetrain (s : State) : Host.Outcome State Fault Refusal := .next s.pciRetrain

/-- PCI_CTL.PERST written: 1 drives PCIE_PERST_N low (Table 19-8). -/
def State.pciPerst (s : State) (drive : Bool) : State :=
  if s.pciUp then { s with pins := { s.pins with perstN := !drive } }.setFlag R.PCI_CTL_PERST drive else s

/-- PCIE_PERST (R517). -/
def execPciePerst (drive : Bool) (s : State) : Host.Outcome State Fault Refusal := .next (s.pciPerst drive)

/-- PCIE_AER: an AER event, severity 2 where it is uncorrectable; its status word stands in DETAIL, its code in the log only (R519, R534). -/
def execPcieAer (uncorrectable : Bool) (status : Nat) (s : State) : Host.Outcome State Fault Refusal :=
  .next (if s.pciUp then
      s.logFull Code.PCI_AER pciUnit (1 + b2n uncorrectable) (s.fld R.EPO_CUR_EPOCH) 0 (status % 2 ^ 128)
    else s)

/-- Key of the configuration request among the outstanding ones. -/
abbrev cfgTag : Nat := 1024

/-- A configuration request ends: DONE and UR, and the data of a read (R519). -/
def State.cfgDone (s : State) (write : Bool) (data : Nat) (ur : Bool) : State :=
  let s := (s.setFlag R.PCI_CFG_DATA_DONE true).setFlag R.PCI_CFG_DATA_UR ur
  if write then s else s.setFld R.PCI_CFG_DATA_DATA data

/-- Bytes of the Type 1 header that keep what is written: bus numbers, and the bases and limits of what is forwarded.
PRESUMED (log 108): the manual names the header and gives no layout; this is the PCI one. -/
def hdrKept (off : Nat) : Bool := decide (0x18 ≤ off) && decide (off < 0x30) && decide (off ≠ 0x1B) && decide (off ≠ 0x1E) && decide (off ≠ 0x1F)

/-- A byte of the root port's own header: what it keeps, the header type, a free value elsewhere (log 108). -/
def State.hdrByte (s : State) (free : Word) (off : Nat) : Nat :=
  if off = 0x0E then 1 else if hdrKept off then s.pcieHdr.getD off 0 else bits free.toNat (8 * (off % 4)) 8

/-- A configuration request to bus 0, device 0, function 0: the root port's own Type 1 header, which it answers itself (R519). -/
def State.cfgOwn (s : State) (reg be : Nat) (write : Bool) (data : Nat) : State :=
  let reg := reg / 4 * 4
  if write then
    ((List.range 4).foldl (fun s i =>
      if bit be i && hdrKept (reg + i) then { s with pcieHdr := s.pcieHdr.setD (reg + i) 0 (bits data (8 * i) 8) } else s) s).cfgDone true 0 false
  else
    let (w, s) := s.free
    s.cfgDone false (((List.range 4).map fun i => s.hdrByte w (reg + i) * 2 ^ (8 * i)).sum) false

/-- PCI_CFG_ADDR written; GO starts a request and clears DONE (R519, Table 19-8). -/
def State.pciCfg (s : State) (val : Word) : State :=
  if !s.pciUp then s
  else
    let v := val.toNat
    let s := ((s.setFld R.PCI_CFG_ADDR_BUS (bits v 0 8)).setFld R.PCI_CFG_ADDR_DEV (bits v 8 5)).setFld R.PCI_CFG_ADDR_FN (bits v 13 3)
    let s := ((s.setFld R.PCI_CFG_ADDR_REG (bits v 16 12)).setFld R.PCI_CFG_ADDR_BE (bits v 28 4)).setFld R.PCI_CFG_ADDR_WRITE (bits v 32 1)
    if bit v 63 then
      let s := s.setFlag R.PCI_CFG_DATA_DONE false
      if bits v 0 16 = 0 then s.cfgOwn (bits v 16 12) (bits v 28 4) (bit v 32) (s.fld R.PCI_CFG_DATA_DATA)
      else
      let r : Req := { waiter := .none, dst := 0, vc := 0, op := bits v 32 1, addr := bits v 0 28, len := 4, age := s.ageStamp, narrow := none }
      { s with pcieReqs := s.pcieReqs.put cfgTag r }.emit (.pcieCfg val (s.fld R.PCI_CFG_DATA_DATA))
    else s

/-- PCI_CFG_REQUEST (R519). -/
def execPciCfgRequest (val : Word) (s : State) : Host.Outcome State Fault Refusal := .next (s.pciCfg val)

/-- PCI_CFG_DONE: DONE and UR, and the data of a read (R519). -/
def execPciCfgDone (data : Nat) (ur : Bool) (s : State) : Host.Outcome State Fault Refusal :=
  .next (if !s.pciUp then s else match s.pcieReqs.find? cfgTag with
    | none => s
    | some r =>
      { s with pcieReqs := FMap.del cfgTag s.pcieReqs }.cfgDone (r.op != 0) data ur)

/-- The vector of an inbound write that PCI_MSI takes: page 2 h + f, identity in the data (R518). -/
def State.msiVector (s : State) (addr len : Nat) (data : List Byte) : Option Nat :=
  let base := s.fld R.PCI_MSI_BUS_BASE / 2 ^ 17 * 2 ^ 17
  if len = 4 ∧ base ≤ addr ∧ addr < base + 2 ^ 17 then
    let page := (addr - base) / 4096
    let id := ofBytes (data.take 4)
    some (page % 2 * 64 + page / 2 * 128 + if id < 64 then id else 0)
  else none

/-- An inbound request that is answered with Unsupported Request: its code stands in the log only (R518, R534). -/
def State.inboundUr (s : State) (addr : Nat) : State := (s.log Code.PCI_INBOUND_UR pciUnit addr).emit (.pcieCpl 1 [] false)

/-- Stack, rim or window memory that an inbound request reaches; none once the export of memory has ended (R518, R539). -/
def State.inboundOk (s : State) (addr len : Nat) : Bool :=
  decide (addr + len ≤ 2 ^ 41) && s.mappedRange addr len && !s.job.noExport
    && (rangeLines [(addr, max len 1)]).all fun l => match localRegion l with
      | .stack _ => true
      | .rim _ => true
      | .window _ => true
      | _ => false

/-- An inbound request to device memory; in a re-weave it waits (R299, R502, R518). -/
def State.inboundMem (s : State) (write : Bool) (addr len : Nat) (data : List Byte) (ep : Bool) : State :=
  if !s.up then s.holdAccess (.inbound write addr len data ep)
  else if !s.inboundOk addr len then s.inboundUr addr
  else if write then
    if s.hitsRegion addr len then s.inboundUr addr else s.storeBytes addr (padTo len data) ep 5
  else
    let s := s.touchLines addr len 5
    let (d, p) := s.peek addr len
    (if p then s.logPoison 0x09 pciUnit 0 addr 0 else s).emit (.pcieCpl 0 d p)

/-- PCIE_INBOUND_REQUEST (R518, R299, Table 11-4). -/
def execPcieInboundRequest (write : Bool) (addr len : Nat) (data : List Byte) (ep : Bool) (s : State) : Host.Outcome State Fault Refusal :=
  .next (
    if !s.pciUp || !s.flag R.PCI_STATUS_LINK_UP then s
    else match if write then s.msiVector addr len data else none with
      | some v => s.deliver v
      | none => s.inboundMem write addr len data ep)

end Sys2Proof.Machine
end

