-- ==== Sys2Proof/Machine/Time.lean ====
section
/-! DEFINITION. Time sources, lock and holdover (R520 to R525), PPS (R523, R527). -/

namespace Sys2Proof.Machine
open Sys2Proof

/-- Unit ID of the time unit. -/
abbrev timUnit : Nat := 0x0200

/-- LOCK_NS in force: 0 means 100 (R523). -/
def State.lockNs (s : State) : Nat := if s.fld R.TIM_CFG_LOCK_NS = 0 then 100 else s.fld R.TIM_CFG_LOCK_NS

/-- The lowest-numbered UP port whose TIME_ROLE is RECEIVER, where there is one: the one that source 2 samples (Table 19-4). -/
def State.receiver (s : State) : Option Nat :=
  (List.range 12).find? fun k => s.hasPort k && s.fld R.NLK_STATUS_STATE [k] == 2 && s.fld R.NLK_CFG_TIME_ROLE [k] == 2

/-- The port that TIM_STATUS names. -/
def State.timePort (s : State) : Nat := s.receiver.getD 0

/-- TIM_STATUS shows the source, the lock, holdover and the port in use. -/
def State.showTime (s : State) : State :=
  let s := (s.setFld R.TIM_STATUS_ACTIVE s.time.active).setFlag R.TIM_STATUS_LOCKED s.time.locked
  (s.setFlag R.TIM_STATUS_HOLDOVER s.time.holdover).setFld R.TIM_STATUS_PORT (if s.time.active = 2 then s.timePort else 0)

/-- The source in use changes. -/
def State.useSource (s : State) (src : Nat) : State :=
  { s with time := { s.time with active := src, holdover := false, primaryBack := 0, good := 0, bad := 0 } }.bumpSat R.TIM_COUNTS_SWITCHES

/-- LOCKED rises: TIME_LOCK and the lock-change interrupt (R508, R524). -/
def State.lockRise (s : State) : State :=
  if s.time.locked then s else ({ s with time := { s.time with locked := true } }.log Code.TIME_LOCK timUnit).interruptRoute 3

/-- LOCKED falls. -/
def State.lockFall (s : State) : State :=
  if s.time.locked then ({ s with time := { s.time with locked := false } }.bumpSat R.TIM_COUNTS_UNLOCKS).interruptRoute 3 else s

/-- The elapsed count in ns, whole (R522). -/
def Time.ns (t : Time) : Nat := t.elapsed / 10000000000

/-- The corrections that the last 64 s still hold (R525). -/
def keepRates (from' : Nat) : List (Nat × Int) → List (Nat × Int)
  | [] => []
  | e :: rest => if e.1 ≤ from' then [e] else e :: keepRates from' rest

/-- A correction comes into force; it never exceeds ±250 ppm (R520). -/
def Time.setRate (t : Time) (ppb : Int) : Time :=
  let p := max (-250000) (min 250000 ppb)
  { t with ppb := p, rates := (t.ns, p) :: keepRates (t.ns - 64000000000) t.rates }

/-- The mean correction of the last 64 s, in whole parts per billion (R525). -/
def Time.meanRate (t : Time) : Int :=
  let (_, sum, span) := t.rates.foldl (fun (acc : Nat × Int × Nat) e =>
    let lo := max (t.ns - 64000000000) e.1
    (min acc.1 lo, acc.2.1 + e.2 * ((acc.1 - lo : Nat) : Int), acc.2.2 + (acc.1 - lo))) (t.ns, 0, 0)
  if span = 0 then t.ppb else sum / (span : Int)

/-- The servo's correction after a sample: the source's frequency and what slews the offset away, which after MOD_READY is at most 100 ppm. The manual gives no law, so both are free values (R520, R521). -/
def State.servo (s : State) (offset : Int) : State :=
  let d := (Config.servoPpb (s.fresh + 1)).natAbs
  let d := if s.pins.modReady then min 100000 d else d
  { s with time := s.time.setRate (Config.servoPpb s.fresh - offset.sign * (d : Int)), fresh := s.fresh + 2 }

/-- The one step of the counter: with the first offset after a cold boot, in step 9, when it exceeds 10 µs; a positive offset steps backward (R521). -/
def State.stepTime (s : State) (offset : Int) : State :=
  let far := decide (10000 < offset.natAbs) && s.boot.stage == 9 && !s.boot.stepped
  let s := { s with boot := { s.boot with stepped := true } }
  if far then
    { s with time := { s.time with now := (((s.time.now : Int) - offset * 10000000000) % ((2 ^ 64 * 10000000000 : Nat) : Int)).toNat } }
  else s

/-- A sample of the source in use: offset, counts, step or slew, lock (R521, R524). -/
def State.takeSample (s : State) (offset : Int) : State :=
  let s := ((s.setFld R.TIM_STATUS_OFFSET (wrapInt 32 offset)).bump R.TIM_COUNTS_SAMPLES).stepTime offset
  let lock := s.lockNs
  let good := if offset.natAbs ≤ lock then min 16 (s.time.good + 1) else 0
  let bad := if 4 * lock < offset.natAbs then min 4 (s.time.bad + 1) else 0
  let s := { s with time := { s.time with good := good, bad := bad } }.servo offset
  let s := if good = 16 then s.lockRise else s
  if bad = 4 then s.lockFall else s

/-- A source of TIM_CFG yields an offset, local minus source, in ns (R523, R524). PRIMARY is taken up again after 16 samples while BACKUP is in use, and a source at once out of holdover. -/
def State.timeOffset (s : State) (src : Nat) (offset : Int) : State :=
  let primary := s.fld R.TIM_CFG_PRIMARY
  let backup := s.fld R.TIM_CFG_BACKUP
  if src = 0 ∨ s.boot.stage < 9 ∨ (src ≠ primary ∧ src ≠ backup) then s
  else
  let s := { s with time := { s.time with gone := s.time.gone.filter (· != src) } }
  if s.time.active = src then (s.takeSample offset).showTime
  else if s.time.active = 0 then
    if src = primary ∨ s.time.holdover ∨ primary = 0 then ((s.useSource src).takeSample offset).showTime else s
  else if src = primary then
    let n := s.time.primaryBack + 1
    if 16 ≤ n then ((s.useSource src).takeSample offset).showTime else { s with time := { s.time with primaryBack := n } }
  else s

/-- TIME_SAMPLE (R524). Source 2 yields one only while some UP port is its RECEIVER (Table 19-4). -/
def execTimeSample (src : Nat) (offset : Int) (s : State) : Host.Outcome State Fault Refusal :=
  .next (if s.hubUp && (src != 2 || s.receiver.isSome) then s.timeOffset src offset else s)

/-- TIME_SOURCE_LOST: the other source follows where it has not been lost itself, and holdover when none is left (R524, R525). A lost PTP source loses its master (R526). -/
def execTimeSourceLost (src : Nat) (s : State) : Host.Outcome State Fault Refusal :=
  .next (
    let primary := s.fld R.TIM_CFG_PRIMARY
    let backup := s.fld R.TIM_CFG_BACKUP
    let inUse := s.time.active == src || (s.time.active == 0 && src == primary && !s.time.holdover)
    if !s.hubUp || src == 0 || (src != primary && src != backup) then s
    else
      let s := { s with time := { s.time with gone := src :: s.time.gone.filter (· != src), master := if src = 1 then none else s.time.master } }
      if !inUse then (if src = primary then { s with time := { s.time with primaryBack := 0 } } else s)
      else
        let s := s.lockFall
        let other := if src = primary then backup else primary
        if other ≠ 0 ∧ other ≠ src ∧ !s.time.gone.contains other then (s.useSource other).showTime
        else
          let t := { s.time with active := 0, holdover := true, good := 0, bad := 0, primaryBack := 0 }
          ({ s with time := t.setRate t.meanRate }.log Code.TIME_HOLDOVER timUnit).showTime)

/-- Offset of a PPS edge to the nearest whole second (Table 19-4). -/
def ppsOffset (now : Nat) : Int := (((now + 500000000) % 1000000000 : Nat) : Int) - 500000000

/-- PPS_IN_EDGE: the edge is captured, and is a sample where PPS_IN is a source (R523). -/
def execPpsInEdge (s : State) : Host.Outcome State Fault Refusal :=
  let t := { s with pins := { s.pins with ppsIn := true } }
  .next (if t.hubUp then (t.setFld R.TIM_PPS_IN_NS t.nowNs).timeOffset 3 (ppsOffset t.nowNs) else t)

/-- The counter stands within 10 ns of a multiple of 10^9 ns (R527). -/
def State.atSecond (s : State) : Bool := decide (s.nowNs % 1000000000 ≤ 10) || decide (999999990 ≤ s.nowNs % 1000000000)

/-- PPS_OUT_PULSE: the counter crosses a whole second (R527). -/
def execPpsOutPulse (s : State) : Host.Outcome State Fault Refusal :=
  .next (if s.hubUp && s.flag R.TIM_PPS_CTL_OUT_EN && s.atSecond then
      { s with pins := { s.pins with ppsOut := true }, time := { s.time with ppsAt := s.time.ns } }
    else s)

/-- PPS_OUT_END: WIDTH_US after the rise (R527). -/
def execPpsOutEnd (s : State) : Host.Outcome State Fault Refusal :=
  .next (if s.time.ppsAt + 1000 * s.fld R.TIM_PPS_CTL_WIDTH_US ≤ s.time.ns then { s with pins := { s.pins with ppsOut := false } } else s)

end Sys2Proof.Machine
end

