-- ==== Sys2Proof/Machine/Links.lean ====
section
/-! DEFINITION. The link layer of the Nelax ports: flits on the wire (R325, R326), retry (R331 to R334), credits (R335, R338), arbitration (R339), routing (R340, R341), training and loss (R322 to R324, R336, R337, R345 to R349). -/

namespace Sys2Proof.Machine
open Sys2Proof

/-- Unit ID of a port. -/
def portUnit (k : Nat) : Nat := 0x2000 + 0x10 * k

/-- Whether a type takes a SEQ (Table 12-3). -/
def isSequenced (t : Nat) : Bool := decide (3 ≤ t)

/-- The 256 bytes of a flit (Table 12-2, R326). -/
def flitBytes (f : Flit) : List Byte :=
  let w := f.ftype % 16 + f.vc % 16 * 2 ^ 4 + f.seq % 4096 * 2 ^ 8 + f.ack % 4096 * 2 ^ 20 + f.crVc % 16 * 2 ^ 32 + f.crCount % 32 * 2 ^ 36
    + b2n f.crSh * 2 ^ 41 + f.dst % 4096 * 2 ^ 42 + f.stream % 65536 * 2 ^ 54 + f.offset % 65536 * 2 ^ 70 + f.pmask % 32 * 2 ^ 86
    + b2n f.last * 2 ^ 91 + f.ttl % 8 * 2 ^ 92 + b2n f.sh * 2 ^ 95
  let h := toBytes 12 w
  let p := padTo 240 f.payload
  h ++ toBytes 4 (crc32 (h ++ p)) ++ p

/-- A flit read from its 256 bytes; none when the CRC fails. -/
def parseFlit (l : List Byte) : Option Flit :=
  let h := l.take 12
  let p := (l.drop 16).take 240
  let w := ofBytes h
  if l.length = 256 ∧ fieldAt l 12 4 = crc32 (h ++ p) then
    some { ftype := bits w 0 4, vc := bits w 4 4, seq := bits w 8 12, ack := bits w 20 12, crVc := bits w 32 4, crCount := bits w 36 5,
           crSh := bit w 41, dst := bits w 42 12, stream := bits w 54 16, offset := bits w 70 16, pmask := bits w 86 5, last := bit w 91,
           ttl := bits w 92 3, sh := bit w 95, payload := p, src := 7, age := 0, stale := false, step := none }
  else none

/-- The VCs Table 12-3 lists for a type. -/
def vcOk (t vc : Nat) : Bool :=
  match t with
  | 0 => vc == 0
  | 1 => vc == 0
  | 2 => vc == 0
  | 3 => vc == 0
  | 4 => vc == 1
  | 5 => vc == 1
  | 6 => vc == 1
  | 7 => vc == 2 || vc == 3
  | 8 => decide (3 ≤ vc)
  | _ => false

/-- A port sends and receives sequenced flits: UP or FENCED. -/
def State.portRuns (s : State) (k : Nat) : Bool :=
  s.up && s.hasPort k && (s.fld R.NLK_STATUS_STATE [k] == 2 || s.fld R.NLK_STATUS_STATE [k] == 5)

/-- STATE of a port that comes up: FENCED after a job-fatal fault (R347). -/
def State.upState (s : State) : Nat := if s.job.running then 5 else 2

/-- A heartbeat of a port (R345); its count moves on. -/
def State.heartbeat (s : State) (k : Nat) : Flit × State :=
  let p := s.port k
  ({ Flit.mk' 4 1 (s.fld R.NLK_STATUS_PEER_NODE [k]) (hbPayload s.nowNs s.node k (s.hbFlags (s.fld R.NLK_STATUS_STATE [k] == 5)) p.hbSeq) with
      ttl := s.fld R.NLK_NODE_TTL_INIT, age := s.ageStamp },
   s.setPort k { p with hbSeq := (p.hbSeq + 1) % 2 ^ 32 })

/-- The credit pool a flit would take: its VC's, else for VC2 to VC15 the shared one (R335). -/
def creditPool (p : Port) (vc : Nat) : Option Nat :=
  if p.credits.getD vc 0 ≠ 0 then some vc else if 2 ≤ vc ∧ p.credits.getD 16 0 ≠ 0 then some 16 else none

/-- A FENCED port originates only responses, abort messages and forwarded interrupts on VC2 and VC3, and carries transit flits, but no STREAM flit (R347). -/
def State.fencedOk (s : State) (k : Nat) (f : Flit) : Bool :=
  s.fld R.NLK_STATUS_STATE [k] != 5 || decide (f.vc ≤ 1) ||
    (f.ftype == 7 && (txSrc f != s.node || txOp f == 2 || txOp f == 3 || txOp f == 4 || (txOp f == 1 && txOff f == abortRxOff % 2 ^ 41) ||
      (txOp f == 6 && f.vc == 2 && txOff f == imsicAddr (s.fld R.HRT_FWD_VECTOR))))

/-- The first flit of each source that waits on a VC and may go now (R63). -/
def State.vcFlits (s : State) (k vc : Nat) : List Flit :=
  (List.range 8).filterMap fun i => (s.port k).txq.find? fun f => f.vc == vc && f.src == i && s.fencedOk k f

/-- The flit of a VC that the port's arbiter grants, with the arbiter after it (R61 to R63). -/
def State.grantFlit (s : State) (k vc : Nat) : Option (Flit × Arb) :=
  let p := s.port k
  let fs := s.vcFlits k vc
  if (creditPool p vc).isNone then none else
    match (p.arbs.getD vc Arb.fresh).grant (fun _ => 1) (fs.map fun f => { src := f.src, age := f.age, stale := f.stale }) with
    | some (w, r, _) => (fs.find? fun f => f.src == w.src).map fun f => (f, r)
    | none => none

/-- The flit of a VC that goes next. -/
def State.readyFlit (s : State) (k vc : Nat) : Option Flit := (s.grantFlit k vc).map (·.1)

/-- VC0 to VC2 have taken fewer than 20 of the last 1,023 slots (R339). -/
def capRoom (p : Port) : Bool := decide ((p.slots.filter fun b => b).length < 20)

/-- Weight of a VC in the round (R339). -/
def State.vcWeight (s : State) (k vc : Nat) : Nat :=
  if vc = 3 then s.fld R.NLK_CFG_VC3_WEIGHT [k]
  else ((s.vcHeld.find? vc).bind fun g => (s.groups.find? g).map (·.weight)).getD 1

/-- Deficit round-robin over VC3 to VC15: the VC that sends, with deficits and position after it (R339). -/
def State.drr (s : State) (k : Nat) : Nat → FMap Nat → Nat → Option Nat × FMap Nat × Nat
  | 0, d, v => (none, d, v)
  | fuel + 1, d, v =>
    match s.readyFlit k v with
    | some _ =>
      if d.getD v 0 ≠ 0 then (some v, d.setD v 0 (d.getD v 0 - 1), v)
      else
        let v' := if v = 15 then 3 else v + 1
        State.drr s k fuel (if (s.readyFlit k v').isSome then d.setD v' 0 (d.getD v' 0 + s.vcWeight k v') else d.setD v' 0 0) v'
    | none =>
      let d := d.setD v 0 0
      let v' := if v = 15 then 3 else v + 1
      State.drr s k fuel (if (s.readyFlit k v').isSome then d.setD v' 0 (d.getD v' 0 + s.vcWeight k v') else d.setD v' 0 0) v'

/-- What a slot carries: the link fields of R325, and the bytes on the wire. -/
def State.putSlot (s : State) (k : Nat) (f : Flit) (low : Bool) : State :=
  let p := s.port k
  let pool := (p.owed.head?).getD (0, 0)
  let n := min 31 pool.2
  let f := { f with ack := p.expSeq, crVc := if pool.1 = 16 then 0 else pool.1, crCount := n, crSh := pool.1 == 16 }
  let s := s.setPort k { p with owed := p.owed.setD pool.1 0 (pool.2 - n), slots := (low :: p.slots).take 1023 }
  s.emit (.flit k (flitBytes f))

/-- A device-time stamp in 2^-16 ns, as TIME flits carry it (R348). -/
def State.stamp (s : State) : Nat := s.time.now * 65536 / 10000000000 % 2 ^ 80

/-- A TIME flit leaves with the stamp of this moment: t1 in a SYNC, t3 in a DELAY_REQ, which the port keeps (R348). A replayed one is stamped again. -/
def State.stampTime (s : State) (k : Nat) (f : Flit) : Flit × State :=
  if f.ftype = 5 then
    let kind := fieldAt f.payload 0 1 % 4
    let g := { f with payload := splice f.payload 8 (toBytes 10 s.stamp) }
    if kind = 0 then (g, s)
    else if kind = 1 then (g, s.modPort k fun p => { p with stamps := p.stamps.take 2 ++ [s.stamp] })
    else (f, s)
  else (f, s)

/-- A new sequenced flit takes its credit and its SEQ and enters the replay buffer (R331, R335). -/
def State.sendNew (s : State) (k : Nat) (f : Flit) : State :=
  let arbs := match s.grantFlit k f.vc with
    | some (g, r) => if g = f then (s.port k).arbs.put f.vc r else (s.port k).arbs
    | none => (s.port k).arbs
  let (g, s) := s.stampTime k f
  let p := s.port k
  let pool := (creditPool p f.vc).getD 16
  let g := { g with seq := p.nextSeq, sh := pool == 16 }
  let s := s.setPort k { p with arbs := arbs, txq := p.txq.erase f, replay := p.replay ++ [g], nextSeq := (p.nextSeq + 1) % 4096
                                credits := p.credits.setD pool 0 (p.credits.getD pool 0 - 1) }
  let s := s.bump R.NLK_LEDGER_ISSUED [k, pool]
  let s := s.bump R.NLK_FLITS_TX [k]
  s.putSlot k g (decide (f.vc ≤ 2))

/-- A port in TEST, with its mode (R349). -/
def State.testMode (s : State) (k : Nat) : Nat := if s.up && s.hasPort k && s.fld R.NLK_STATUS_STATE [k] == 6 then s.fld R.NLK_CTL_TEST [k] else 0

/-- A VC left without a flit or a credit loses its deficit (R339). -/
def State.settleDrr (s : State) (k : Nat) : State :=
  s.modPort k fun q => { q with deficit := FMap.keep (fun v _ => (s.readyFlit k v).isSome) q.deficit }

/-- The slot of a due NAK (R332, R339). -/
def State.nakSlot (s : State) (k : Nat) : State :=
  let p := s.port k
  (s.setPort k { p with nakDue := false }).putSlot k { Flit.mk' 0 0 0 [] with ftype := 1, payload := padTo 240 (toBytes 2 p.expSeq) } false

/-- The slot of the first flit to be replayed; beyond the cap it stays idle (R333, R339). -/
def State.resendSlot (s : State) (k : Nat) (f : Flit) (rest : List Flit) : State :=
  let p := s.port k
  if decide (f.vc ≤ 2) && !capRoom p then s.putSlot k (Flit.mk' 0 0 0 []) false
  else
    let (g, s) := (s.setPort k { p with resend := rest }).stampTime k f
    (s.bump R.NLK_FLITS_TX [k]).putSlot k g (decide (f.vc ≤ 2))

/-- FLIT_TRANSMIT: one slot of a port (R339). In TEST the slot carries PRBS31 in mode 3; in near-end loop-back an IDLE flit returns inside the port, with no effect (R349). -/
def execFlitTransmit (port : Nat) (s : State) : Host.Outcome State Fault Refusal :=
  if s.testMode port = 3 then .next (s.emit (.prbs port))
  else if !s.portRuns port then .next s
  else
    let p := s.port port
    let idle : Flit := Flit.mk' 0 0 0 []
    if p.nakDue then .next (s.nakSlot port)
    else match p.resend with
      | f :: rest => .next (s.resendSlot port f rest)
      | [] =>
        if decide (2048 ≤ p.replay.length) then .next (s.putSlot port idle false)
        else
          let low := if !capRoom p then none else (s.readyFlit port 0).or ((s.readyFlit port 1).or (s.readyFlit port 2))
          if p.hbFirst then
            if capRoom p && (creditPool p 1).isSome then
              let (hb, t) := s.heartbeat port
              .next ((t.modPort port fun q => { q with hbFirst := false }).sendNew port hb)
            else .next (s.putSlot port idle false)
          else match low with
            | some f => .next ((s.sendNew port f).settleDrr port)
            | none =>
              let (v, d, rr) := s.drr port 28 p.deficit p.rr
              let s := s.modPort port fun q => { q with deficit := d, rr := rr }
              match v.bind (s.readyFlit port) with
              | some f => .next ((s.sendNew port f).settleDrr port)
              | none => .next (s.putSlot port idle false)

/-- Flits below a SEQ leave the replay buffer (R331, R332): those before the first whose SEQ equals it, within the window. -/
def dropAcked (ack : Nat) (l : List Flit) : List Flit := l.filter fun f => decide ((f.seq + 4096 - ack % 4096) % 4096 < 2048)

/-- The link fields of a good flit: acknowledgement and credits (R332, R335, R338). -/
def State.linkFields (s : State) (k : Nat) (f : Flit) : State :=
  let pool := if f.crSh then 16 else f.crVc
  let s := s.modPort k fun p =>
    { p with replay := dropAcked f.ack p.replay, resend := dropAcked f.ack p.resend, credits := p.credits.setD pool 0 (p.credits.getD pool 0 + f.crCount)
             replayed := FMap.keep (fun q _ => decide ((q + 4096 - f.ack % 4096) % 4096 < 2048)) p.replayed }
  s.bump R.NLK_LEDGER_RETURNED [k, pool] f.crCount

/-- The first bad or out-of-sequence flit after a good one asks for a NAK (R332). -/
def State.askNak (s : State) (k : Nat) : State :=
  s.modPort k fun p => if p.nakSent then p else { p with nakDue := true, nakSent := true }

/-- A discarded TXN request is answered with STATUS 1 where a route to its source exists (R341); an answer that is dropped is counted and logged in its turn. -/
def State.answerDrop (s : State) (f : Flit) : State :=
  if f.ftype = 7 ∧ (txOp f = 0 ∨ txOp f = 1 ∨ txOp f = 5 ∨ txOp f = 6 ∨ txOp f = 7) ∧ s.flag R.NLK_ROUTE_VALID [txSrc f] then
    s.sendFlit { Flit.mk' 7 f.vc (txSrc f) (txnPayload (txOff f) (txTag f) s.node 4 0 0 1 0 []) with ttl := s.fld R.NLK_NODE_TTL_INIT }
  else s

/-- A flit for another node goes on (R340), or is discarded, as one that would go on with TTL 0 is (R341). -/
def State.forward (s : State) (f : Flit) : State :=
  if f.ttl ≤ 1 then ((s.bumpSat R.NLK_ROUTE_DROP_TTL).log Code.ROUTE_DROP linkUnit).answerDrop f
  else
    let (s, dropped) := s.sendRaw { f with ttl := f.ttl - 1, sh := false }
    if dropped then (s.log Code.ROUTE_DROP linkUnit).answerDrop f else s

/-- Receive buffers of a pool, 0 to 15 a VC's own and 16 the shared one: 4,096 in all (R335, Table 12-10). -/
def State.poolSize (s : State) (k pool : Nat) : Nat :=
  let word := fun (f : Fld) => (s.regs.getD (f.at [k]) f.rst).toNat
  let own := fun v => 16 * bits (word (if v < 8 then R.NLK_POOL_LO_VC0 else R.NLK_POOL_HI_VC8)) (8 * (v % 8)) 8
  if pool = 16 then 4096 - ((List.range 16).map own).sum else own pool

/-- Buffers of a pool that hold no flit (R336). -/
def State.poolFree (s : State) (k pool : Nat) : Nat := s.poolSize k pool - (s.port k).used.getD pool 0

/-- The TRAIN flits of this end (R323, R336). -/
def State.sendTrain (s : State) (k : Nat) : State :=
  s.emit (.train k s.node (s.fld R.NLK_CFG_WIDTH [k]) (s.flag R.NLK_CFG_DEGRADE [k]) Config.nelaxVersion ((List.range 17).map (s.poolFree k)) (s.port k).expSeq)

/-- An accepted flit is delivered here, or forwarded (R340); a FENCED port accepts no STREAM flit, whoever it is for (R347). -/
def State.acceptFlit (s : State) (k : Nat) (f : Flit) : State :=
  let here := f.dst == s.node
  let shut := f.ftype == 8 && s.fld R.NLK_STATUS_STATE [k] == 5
  if here && !shut then
    s.modPort k fun p => { p with rxq := p.rxq ++ [f], used := p.used.setD f.pool 0 (p.used.getD f.pool 0 + 1) }
  else
    let s := s.modPort k fun p => { p with owed := p.owed.setD f.pool 0 (p.owed.getD f.pool 0 + 1) }
    if here || shut then s else s.forward f

/-- Codewords the FEC has corrected under a flit: at most the two it overlaps, less one that failed; how many is physical (R321, Table 12-11). -/
def State.fecCount (s : State) (k : Nat) (fecBad : Bool) : State :=
  let (w, s) := s.free
  let s := s.bumpSat R.NLK_FEC_CW_CORR [k] (w.toNat % (if fecBad then 2 else 3))
  if fecBad then s.bumpSat R.NLK_FEC_CW_UNCORR [k] else s

/-- A slot received in TEST (R349): far-end loop-back returns it, PRBS31 checking counts its errors, whose number is physical. -/
def State.testReceive (s : State) (k : Nat) (flit : List Byte) (bad : Bool) : State :=
  match s.testMode k with
  | 2 => s.emit (.flit k flit)
  | 3 => if bad then
      let (w, s) := s.free
      s.bumpSat R.NLK_FEC_CW_CORR [k] (1 + w.toNat % 2048)
    else s
  | _ => s

/-- FLIT_RECEIVE: a flit is checked, acknowledged and credited, and accepted when it is the one expected (R326, R331, R332), with its age stamp of entry (R58).
DESIGN CHOICE (log 121): a flit for which its pool has no buffer is treated as a bad one; the spec says only that none is sent without a credit. -/
def execFlitReceive (port : Nat) (flit : List Byte) (fecBad : Bool) (s : State) : Host.Outcome State Fault Refusal :=
  if !s.portRuns port then .next (s.testReceive port flit fecBad)
  else
    let s := s.fecCount port fecBad
    match (if fecBad then none else parseFlit flit) with
    | none => .next ((s.bumpSat R.NLK_RETRY_CRC_FAIL [port]).askNak port)
    | some f =>
      let f := { f with age := s.ageStamp }
      let s := s.linkFields port f
      let ok := vcOk f.ftype f.vc
      let s := if ok then s else s.log Code.LINK_PROTO (portUnit port)
      if !isSequenced f.ftype then
        if ok && f.ftype == 1 then .next (s.modPort port fun p => { p with rxq := p.rxq ++ [f] })
        else .next s
      else if f.seq ≠ (s.port port).expSeq ∨ (ok ∧ s.poolFree port f.pool = 0) then .next (s.askNak port)
      else
        let s := s.modPort port fun p => { p with expSeq := (p.expSeq + 1) % 4096, nakSent := false }
        let s := s.bump R.NLK_FLITS_RX [port]
        if ok then .next (s.acceptFlit port f)
        else .next (s.modPort port fun p => { p with owed := p.owed.setD f.pool 0 (p.owed.getD f.pool 0 + 1) })

/-- A port enters RETRAIN (R336). -/
def State.enterRetrain (s : State) (k : Nat) : State :=
  if s.portRuns k then
    ((s.setFld R.NLK_STATUS_STATE 3 [k]).bumpSat R.NLK_RETRY_RETRAINS [k]).log Code.LINK_RETRAIN (portUnit k)
  else s

/-- The sender replays from a SEQ; a second replay of any one flit enters RETRAIN (R333, R334). A flit that an earlier replay has still to send counts once. -/
def State.replayFrom (s : State) (k seq : Nat) : State :=
  let p := s.port k
  let keep := dropAcked seq p.replay
  let replayed := keep.foldl (fun m f => if p.resend.any (·.seq == f.seq) then m else m.put f.seq (FMap.getD m f.seq 0 + 1)) p.replayed
  let s := s.setPort k { p with replay := keep, resend := keep, replayed := replayed }
  let s := s.bumpSat R.NLK_RETRY_REPLAYS [k]
  if keep.any fun f => decide (2 ≤ replayed.getD f.seq 0) then s.enterRetrain k else s

/-- NAK_RECEIVE: the oldest NAK of a port (R333, R334). -/
def execNakReceive (port : Nat) (s : State) : Host.Outcome State Fault Refusal :=
  match pickFlit (fun f => f.ftype == 1) (s.port port).rxq with
  | none => .next s
  | some (f, rest) =>
    let s := s.modPort port fun p => { p with rxq := rest }
    if s.portRuns port then .next (s.replayFrom port (fieldAt f.payload 0 2 % 4096)) else .next s

/-- REPLAY_TIMER_EXPIRE: the oldest unacknowledged flit has waited 2.0 µs (R333). -/
def execReplayTimerExpire (port : Nat) (s : State) : Host.Outcome State Fault Refusal :=
  match (s.port port).replay.head? with
  | some f => if s.portRuns port then .next (s.replayFrom port f.seq) else .next s
  | none => .next s

/-- Credits of one pool set to the count the peer states, less the flits to be replayed into it; what that adds is restored (R336, R338). -/
def State.reconcilePool (s : State) (k pool stated : Nat) : State :=
  let p := s.port k
  let n := (p.replay.filter fun f => f.pool == pool).length
  let new := stated - n
  let old := p.credits.getD pool 0
  let s := s.setPort k { p with credits := p.credits.setD pool 0 new }
  (s.bump R.NLK_LEDGER_RETURNED [k, pool] (new - old)).bump R.NLK_RECOVERED_CREDITS [k] (new - old)

/-- RETRAIN_COMPLETE: the TRAIN exchange states this end's free buffers and expected SEQ, and gives the peer's (R336, R345). -/
def execRetrainComplete (port : Nat) (free : List Nat) (expect : Nat) (s : State) : Host.Outcome State Fault Refusal :=
  if !s.up || s.fld R.NLK_STATUS_STATE [port] != 3 then .next s
  else
    let s := s.sendTrain port
    let s := s.modPort port fun p =>
      let keep := dropAcked expect p.replay
      { p with replay := keep, resend := keep, replayed := [], nakDue := false, nakSent := false, hbFirst := true, owed := [] }
    let s := (List.range 17).foldl (fun s v => s.reconcilePool port v (free.getD v 0)) s
    .next (s.setFld R.NLK_STATUS_STATE s.upState [port])

/-- The requests of this device that stand in discarded flits fail (R337, R342). -/
def State.failRequestsIn (s : State) (l : List Flit) : State :=
  (l.filter fun f => f.ftype == 7 && txSrc f == s.node).foldl (fun s f => match s.reqs.find? (txTag f) with
    | some r => if txOp f = 0 ∨ txOp f = 1 ∨ txOp f = 5 ∨ txOp f = 6 ∨ txOp f = 7 then
        let s := { s with reqs := FMap.del (txTag f) s.reqs }
        match s.outStreams.find? (txTag f) with
        | some o => ({ s with outStreams := FMap.del (txTag f) s.outStreams }.modCol o.item fun c => { c with failed := some o.dst }).failItem o.item Code.REMOTE_UNREACHABLE
        | none => s.failRequest r
      else s
    | none => s) s

/-- A flit that waited on a port that has gone DOWN: one for the peer itself is gone; another takes its alternate port, or is dropped with its count, entry and answer (R340, R341). -/
def State.reroute (s : State) (f : Flit) : State :=
  if f.ftype ≤ 5 then s else
    let (s, dropped) := s.sendRaw f
    if dropped then
      let s := s.log Code.ROUTE_DROP linkUnit
      if f.ftype = 7 ∧ txSrc f = s.node then s.failRequestsIn [f] else s.answerDrop f
    else s

/-- The step of this device that a received STREAM flit belongs to. -/
def State.streamStep (s : State) (f : Flit) : Option Nat :=
  match s.inStreams.find? fun i => i.accepted && !i.done && i.number == f.stream with
  | some i => (s.groupByHash i.hash).bind fun g => s.stepOf g i.bucket i.gen
  | none => none

/-- A step whose flits a lost port held aborts, with the link peer the suspect where it is a member (Table 13-7). -/
def State.peerLost (s : State) (id peer detail : Nat) : State :=
  match s.stepView id with
  | some v => s.abortStep id 2 v.gr.rank ((v.gr.rankOf peer).getD v.gr.rank) detail true []
  | none => s

/-- A port loses everything it holds and takes a new STATE (R337); a step whose own or received flits it held aborts with PEER_LOST (Table 13-7). -/
def State.downPort (s : State) (k state detail : Nat) : State :=
  let p := s.port k
  let gone := p.replay ++ p.rxq
  let waits := if state = 4 then p.txq else []
  let peer := s.fld R.NLK_STATUS_PEER_NODE [k]
  let s := s.setPort k { p with txq := [], replay := [], resend := [], replayed := [], rxq := [], used := [], owed := [], deficit := [], nakDue := false,
                                nakSent := false, hbFirst := false, arbs := [] }
  let s := s.bump R.NLK_RECOVERED_DISCARDED [k] (p.replay.length + p.rxq.length)
  let s := s.setFld R.NLK_STATUS_STATE state [k]
  let s := s.setFld R.NLK_STATUS_WIDTH_ACT 0 [k]
  let s := s.failRequestsIn (if state = 4 then gone else gone ++ p.txq)
  let stuck := if state = 4 then p.txq.filter fun f => (s.route f.dst).all fun q => s.fld R.NLK_STATUS_STATE [q] == 4 else p.txq
  let s := waits.foldl State.reroute s
  let held := (p.replay ++ stuck).filterMap (·.step) ++ (p.rxq.filter fun f => f.ftype == 8).filterMap s.streamStep
  (held.eraseDups.foldl (fun s id => s.peerLost id peer detail) s).reapSteps.rosterTell

/-- RETRAIN_TIMEOUT: RETRAIN has not completed within 10 µs (R336, R337). -/
def execRetrainTimeout (port : Nat) (s : State) : Host.Outcome State Fault Refusal :=
  if s.up && s.fld R.NLK_STATUS_STATE [port] == 3 then .next ((s.log Code.LINK_DOWN (portUnit port)).downPort port 4 Code.LINK_DOWN) else .next s

/-- FULL_TRAINING_RETRY: every 1 s a DOWN port with ENABLE 1 trains again, once FW6 runs (R337, Table 16-4). -/
def execFullTrainingRetry (port : Nat) (s : State) : Host.Outcome State Fault Refusal :=
  if s.up && s.hasPort port && s.fwRuns 6 && s.fld R.NLK_STATUS_STATE [port] == 4 && s.flag R.NLK_CTL_ENABLE [port] then .next (s.setFld R.NLK_STATUS_STATE 1 [port])
  else .next s

/-- WIDTH_ACT a training can reach; 0 fails (R321, R324). -/
def trainWidth (width : Nat) (degrade : Bool) (info : TrainInfo) : Nat :=
  if !info.lanesOk then 0
  else match width with
    | 1 => if info.badLow then 0 else 2
    | 2 => if info.badHigh then 0 else 3
    | _ =>
      if info.badLow && info.badHigh then 0
      else if info.badLow then (if degrade && info.peerDegrade then 3 else 0)
      else if info.badHigh then (if degrade && info.peerDegrade then 2 else 0)
      else 1

/-- FULL_TRAINING_COMPLETE: FW6 has trained the port: peer checked, width chosen, credits and SEQ started afresh (R322 to R324, R337). After a re-weave that left the port's LINKS entry as it was, it ends the TRAIN exchange alone, and width, lane order and polarity stay (R500; log 101). -/
def execFullTrainingComplete (port : Nat) (info : TrainInfo) (s : State) : Host.Outcome State Fault Refusal :=
  if !s.up || !s.fwRuns 6 || !s.hasPort port || s.fld R.NLK_STATUS_STATE [port] != 1 then .next s
  else
    let s := s.modPort port fun p => { p with nextSeq := 0, expSeq := 0 }
    let kept := s.boot.adapted.find? port
    let info := match kept with
      | some v => { info with lanesOk := true, laneRev := bit v 5, polInv := bits v 6 8 }
      | none => info
    let s := { s with boot := { s.boot with adapted := FMap.del port s.boot.adapted } }
    let s := if info.lanesOk then s.sendTrain port else s
    let w := match kept with
      | some v => bits v 3 2
      | none => trainWidth (s.fld R.NLK_CFG_WIDTH [port]) (s.flag R.NLK_CFG_DEGRADE [port]) info
    let en := s.fld R.NLK_CFG_EXPECT_NODE [port]
    let ep := s.fld R.NLK_CFG_EXPECT_PORT [port]
    if w = 0 then .next ((s.log Code.LINK_DOWN (portUnit port)).downPort port 4 Code.LINK_DOWN)
    else if (en ≠ 0xFFF ∧ en ≠ info.peerNode) ∨ (ep ≠ 0xF ∧ ep ≠ info.peerPort) then
      .next ((s.log Code.LINK_PEER (portUnit port)).downPort port 4 Code.LINK_PEER)
    else
      let s := if s.fld R.NLK_CFG_WIDTH [port] = 0 ∧ w ≠ 1 then s.log Code.LINK_WIDTH (portUnit port) else s
      let s := s.setFld R.NLK_STATUS_STATE s.upState [port]
      let s := s.setFld R.NLK_STATUS_WIDTH_ACT w [port]
      let s := s.setFlag R.NLK_STATUS_LANE_REV info.laneRev [port]
      let s := s.setFld R.NLK_STATUS_POL_INV info.polInv [port]
      let s := s.setFld R.NLK_STATUS_PEER_NODE info.peerNode [port]
      let s := s.setFld R.NLK_STATUS_PEER_PORT info.peerPort [port]
      let s := s.modPort port fun p =>
        { p with replay := [], resend := [], replayed := [], nextSeq := 0, expSeq := 0, nakDue := false, nakSent := false, rxq := [], used := [], owed := [],
                 deficit := [], rr := 15, arbs := [], lastHb := some s.elapsedNs, lost := false, cause := 0 }
      .next ((List.range 17).foldl (fun s v =>
        let out := s.fld R.NLK_LEDGER_ISSUED [port, v] + 2 ^ 32 - s.fld R.NLK_LEDGER_RETURNED [port, v]
        let s := s.modPort port fun p => { p with credits := p.credits.setD v 0 (info.peerFree.getD v 0) }
        (s.bump R.NLK_LEDGER_RETURNED [port, v] (out % 2 ^ 32)).bump R.NLK_RECOVERED_CREDITS [port] (out % 2 ^ 32)) s)

/-- HEARTBEAT_SEND: every 5 µs on an UP or FENCED port (R345). -/
def execHeartbeatSend (port : Nat) (s : State) : Host.Outcome State Fault Refusal :=
  if s.portRuns port then
    let (f, s) := s.heartbeat port
    .next (s.sendPort port f)
  else .next s

/-- HEARTBEAT_RECEIVE: the peer-loss timer restarts, and the peer's flags are kept (R345, R346). -/
def execHeartbeatReceive (port : Nat) (s : State) : Host.Outcome State Fault Refusal :=
  match s.popRx port (fun f => f.ftype == 4) with
  | none => .next s
  | some (f, t) =>
    if !t.up then .next t
    else
      let flags := fieldAt f.payload 11 1
      let t := match (t.port port).lastHb with
        | some h => t.maxFld R.NLK_HB_MAX_GAP (min 0xFFFF ((t.elapsedNs - h) / 100)) [port]
        | none => t
      let t := (t.bump R.NLK_HB_HB_RX [port]).setFld R.NLK_STATUS_PEER_FLAGS flags [port]
      let t := t.modPort port fun p => { p with lastHb := some t.elapsedNs, lost := false }
      .next (if flags % 4 = 0 then t else t.noteSlow (fieldAt f.payload 8 2 % 4096))

/-- PEER_LOSS_TIMEOUT: 20 µs without a heartbeat (R346); steps of the peer's groups abort. -/
def execPeerLossTimeout (port : Nat) (s : State) : Host.Outcome State Fault Refusal :=
  let p := s.port port
  let st := s.fld R.NLK_STATUS_STATE [port]
  if !s.up || p.lastHb.isNone || p.lost || st == 0 || st == 6 then .next s
  else
    let s := (s.modPort port fun p => { p with lost := true }).setFlag R.NLK_STATUS_PEER_LOST true [port]
    let s := s.log Code.PEER_LOST (portUnit port)
    let s := s.abortFor (s.fld R.NLK_STATUS_PEER_NODE [port]) 2 Code.PEER_LOST false
    .next (if st = 4 then s else s.downPort port 4 Code.PEER_LOST)

/-- FW0 of a manager reads BSU_STATUS of a member through its window (R512). -/
def State.pollMember (s : State) (m : Nat) : State := s.askRemote (.roster m) m 0x0F030000000 5 0 0 0xFF [] 0 8

/-- The members behind a node that the manager polls (R512). -/
def State.membersAt (s : State) (node : Nat) : List Nat :=
  (List.range 64).filter fun m => s.flag R.NLK_MEMBER_VALID [m] && s.fld R.NLK_MEMBER_NODE [m] == node && m != s.fld R.GLB_WEAVE_MEMBER

/-- This EV7 is the manager of its camp: member 0. -/
def State.isManager (s : State) : Bool := s.fld R.GLB_WEAVE_ROLE == 0

/-- NOTICE_RECEIVE: a peer's fence notice is recorded, aborts its steps on its behalf, and has the manager poll it (R347, R375, R512). -/
def execNoticeReceive (port : Nat) (s : State) : Host.Outcome State Fault Refusal :=
  match s.popRx port (fun f => f.ftype == 3) with
  | none => .next s
  | some (f, t) =>
    if !t.up then .next t
    else
      let cause := fieldAt f.payload 0 2
      let peer := t.fld R.NLK_STATUS_PEER_NODE [port]
      let t := (t.modPort port fun p => { p with cause := cause }).setFldBit R.NLK_STATUS_PEER_FLAGS 2 true [port]
      let t := t.abortFor peer (if cause = Code.MEM_THERMAL_TRIP then 3 else 4) cause true
      .next (if t.isManager && t.fwRuns 0 then ((t.membersAt peer).foldl State.pollMember t).rosterTell else t)

/-- A TIME flit: kind and two stamps. -/
def timeFlit (dst kind a b : Nat) : Flit := Flit.mk' 5 1 dst (toBytes 8 kind ++ toBytes 10 a ++ toBytes 10 b)

/-- TIME_SYNC_SEND: every 1 ms on a SOURCE port (R348); FLIT_TRANSMIT puts t1 in. -/
def execTimeSyncSend (port : Nat) (s : State) : Host.Outcome State Fault Refusal :=
  if s.portRuns port && s.fld R.NLK_CFG_TIME_ROLE [port] == 1 then .next (s.sendPort port (timeFlit (s.fld R.NLK_STATUS_PEER_NODE [port]) 0 0 0))
  else .next s

/-- A signed 32-bit value in 1/16 ns. -/
def sixteenths (x : Int) : Nat := wrapInt 32 (x / 4096)

/-- TIME_MESSAGE_RECEIVE: SYNC is answered with DELAY_REQ, DELAY_REQ with DELAY_RESP, and DELAY_RESP gives delay and offset, a sample of source 2 on the port that it uses (R348, Table 19-4); FLIT_TRANSMIT puts t3 in. `stamp`: arrival, in 2^-16 ns. -/
def execTimeMessageReceive (port : Nat) (stamp : Nat) (s : State) : Host.Outcome State Fault Refusal :=
  match s.popRx port (fun f => f.ftype == 5) with
  | none => .next s
  | some (f, t) =>
    if !t.portRuns port then .next t
    else
      let kind := fieldAt f.payload 0 1 % 4
      let a := fieldAt f.payload 8 10
      let b := fieldAt f.payload 18 10
      let peer := t.fld R.NLK_STATUS_PEER_NODE [port]
      let role := t.fld R.NLK_CFG_TIME_ROLE [port]
      if kind = 0 ∧ role = 2 then
        .next ((t.modPort port fun p => { p with stamps := [a, stamp] }).sendPort port (timeFlit peer 1 0 0))
      else if kind = 1 ∧ role = 1 then .next (t.sendPort port (timeFlit peer 2 a stamp))
      else if kind = 2 ∧ role = 2 then
        match (t.port port).stamps with
        | [t1, t2, t3] =>
          let fwd : Int := (t2 : Int) - t1
          let delay := (fwd + ((b : Int) - t3)) / 2
          let asym := sext 32 (t.fld R.NLK_TIME_ADJ_ASYM [port]) * 4096
          let t := (t.setFld R.NLK_TIME_DELAY (sixteenths delay) [port]).setFld R.NLK_TIME_OFFSET (sixteenths (fwd - delay - asym)) [port]
          .next (if t.receiver = some port then t.timeOffset 2 ((fwd - delay - asym) / 65536) else t)
        | _ => .next t
      else .next t

/-- NLK_CTL.ENABLE set: full training starts (Table 12-8); that of a DOWN port waits for FW6 (Table 16-4). -/
def State.linkEnable (s : State) (port : Nat) : State :=
  if !s.up || !s.hasPort port then s
  else
    let s := s.setFlag R.NLK_CTL_ENABLE true [port]
    let st := s.fld R.NLK_STATUS_STATE [port]
    if st = 0 ∨ (st = 4 ∧ s.fwRuns 6 = true) then s.setFld R.NLK_STATUS_STATE 1 [port] else s

/-- LINK_ENABLE (Table 12-8). -/
def execLinkEnable (port : Nat) (s : State) : Host.Outcome State Fault Refusal := .next (s.linkEnable port)

/-- NLK_CTL.ENABLE cleared: the port goes to DISABLED, which stops its peer-loss timer (R337, R346). -/
def State.linkDisable (s : State) (port : Nat) : State :=
  if !s.up || !s.hasPort port then s
  else
    let s := { s with boot := { s.boot with adapted := FMap.del port s.boot.adapted } }
    let s := (s.setFlag R.NLK_CTL_ENABLE false [port]).downPort port 0 Code.LINK_DOWN
    s.modPort port fun p => { p with lastHb := none, lost := false }

/-- LINK_DISABLE (R337). -/
def execLinkDisable (port : Nat) (s : State) : Host.Outcome State Fault Refusal := .next (s.linkDisable port)

/-- LINK_RETRAIN_CMD: writing NLK_CTL.RETRAIN enters RETRAIN (R336). -/
def execLinkRetrainCmd (port : Nat) (s : State) : Host.Outcome State Fault Refusal := .next (s.enterRetrain port)

/-- NLK_CTL.TEST written: refused as busy unless the port is DISABLED or in TEST (R65, R349). -/
def State.linkTest (s : State) (port mode : Nat) : State :=
  let st := s.fld R.NLK_STATUS_STATE [port]
  if !s.up || !s.hasPort port then s
  else if st = 0 ∨ st = 6 then (s.setFld R.NLK_CTL_TEST mode [port]).setFld R.NLK_STATUS_STATE (if mode % 4 = 0 then 0 else 6) [port]
  else s.setFlag R.NLK_STATUS_CFG_BUSY true [port]

/-- LINK_TEST_MODE (R65, R349). -/
def execLinkTestMode (port mode : Nat) (s : State) : Host.Outcome State Fault Refusal := .next (s.linkTest port mode)

end Sys2Proof.Machine
end

