-- ==== Sys2Proof/Machine/Reweave.lean ====
section
/-! DEFINITION. The re-weave (R499 to R503): start, verification, the warm reset and what outlasts it, and ready. -/

namespace Sys2Proof.Machine
open Sys2Proof

/-- A re-weave is in progress (BSU_REWEAVE_STATUS.STATE 1 to 3). -/
def State.reweaving (s : State) : Bool :=
  s.fld R.BSU_REWEAVE_STATUS_STATE == 1 || s.fld R.BSU_REWEAVE_STATUS_STATE == 2 || s.fld R.BSU_REWEAVE_STATUS_STATE == 3

/-- The start is refused (R499, R535). After a job-fatal fault every queue is FROZEN (R430). -/
def State.reweaveBusy (s : State) : Bool :=
  s.fld R.FWP_UPDATE_STATE == 1 || s.fld R.FWP_UPDATE_STATE == 4 || s.reweaving
    || (s.fld R.QMC_STATUS_INFLIGHT != 0 && !s.job.running) || s.job.sev4

/-- An outcome code of a re-weave. -/
def State.reweaveCode (s : State) (code : Nat) : State := (s.setFld R.BSU_REWEAVE_STATUS_STATUS code).bsuCode code

/-- The image at ADDR; bytes that cannot be read carry no valid signature. -/
def State.reweaveImage (s : State) (a n : Nat) : Weave :=
  let fw := (s.boot.fw.map (·.rootKey)).getD []
  if s.mappedRange a n then
    let (b, p) := s.peek a n
    if p then { Weave.parse fw [] with sigOk := false } else Weave.parse fw b
  else { Weave.parse fw [] with sigOk := false }

/-- GO: refused, or the image is taken for verification (R499). -/
def State.reweaveGo (s : State) (len : Nat) (persist : Bool) : State :=
  let s := (s.setFld R.BSU_REWEAVE_CTL_LENGTH len).setFlag R.BSU_REWEAVE_CTL_PERSIST persist
  if s.reweaveBusy then s.reweaveCode Code.REWEAVE_BUSY
  else
    let w := s.reweaveImage (s.fld R.BSU_REWEAVE_ADDR_ADDR / 64 * 64) (len % 2 ^ 21)
    ({ s with boot := { s.boot with newWeave := some w, newPersist := persist, t0 := s.elapsedNs } }.setFld R.BSU_REWEAVE_STATUS_STATE 1)

/-- REWEAVE_GO (R499); the start-up block answers through a re-weave, so a second GO is refused there. -/
def execReweaveGo (len : Nat) (persist : Bool) (s : State) : Host.Outcome State Fault Refusal :=
  .next (if s.hubUp then s.reweaveGo len persist else s)

/-- A re-weave ends in DONE or FAILED, with ACK set (Table 18-10). -/
def State.reweaveEnd (s : State) (st code : Nat) : State :=
  ((s.setFld R.BSU_REWEAVE_STATUS_STATE st).setFlag R.BSU_REWEAVE_STATUS_ACK true).setFld R.BSU_REWEAVE_STATUS_STATUS code

/-- REWEAVE_VERIFY_FAILED: the device is left unchanged but for the code (R499, Table 18-12). -/
def execReweaveVerifyFailed (s : State) : Host.Outcome State Fault Refusal :=
  .next (s.whenUp fun s =>
    match s.boot.newWeave with
    | none => s
    | some w =>
      let c := w.verdict s.flash
      if s.fld R.BSU_REWEAVE_STATUS_STATE ≠ 1 ∨ c = 0 then s
      else ((({ s with boot := { s.boot with newWeave := none } }.logFull c bsuUnit 2 (s.fld R.EPO_CUR_EPOCH) 0 0).reweaveEnd 5 c).bsuCode c))

/-- The effective channel maps of an image differ from those in force (R496, R500). -/
def State.mapsMove (s : State) (w : Weave) : Bool :=
  w.stkMask s.flash != s.boot.stkMask || w.rimMask s.flash != s.boot.rimMask || w.localU != s.boot.localU

/-- Register blocks that a re-weave leaves as they are (R501, R502): the time unit, the error log, the update registers, the start-up block; and, while the maps stand, the hearth, PCIe and management blocks.
The lane marks end (R315). -/
def keptOff (moved : Bool) (off : Nat) : Bool :=
  let b := off / 0x1000000
  b == 0x02 || (b == 0x06 && !(decide (0x06010000 ≤ off) && decide (off < 0x06020000))) || (b == 0x04 && decide (0x04100000 ≤ off)) || b == 0x30
    || (!moved && (b == 0x0C || b == 0x23 || b == 0x24))

/-- The slots of a port before its last flit: a due NAK, the flits to be replayed, and idle ones until the cap has room (R339). -/
def State.lastSlots (k : Nat) : Nat → State → State
  | 0, s => s
  | n + 1, s =>
    let p := s.port k
    if p.nakDue then State.lastSlots k n (s.nakSlot k)
    else match p.resend with
      | f :: rest => State.lastSlots k n (s.resendSlot k f rest)
      | [] => if capRoom p then s else State.lastSlots k n (s.putSlot k (Flit.mk' 0 0 0 []) false)

/-- NOTICE with cause REWEAVE leaves every UP port as its last flit (R500, step 2), after the slots that go before it; a port that holds no credit of VC0, or whose replay buffer is full, cannot send it (R331, R335). -/
def State.reweaveNotices (s : State) : State :=
  s.each 12 fun s k =>
    if s.hasPort k && s.fld R.NLK_STATUS_STATE [k] == 2 && (creditPool (s.port k) 0).isSome && decide ((s.port k).replay.length < 2048) then
      (State.lastSlots k 4096 s).sendNew k { Flit.mk' 3 0 (s.fld R.NLK_STATUS_PEER_NODE [k]) (toBytes 2 Code.REWEAVE) with ttl := s.fld R.NLK_NODE_TTL_INIT }
    else s

/-- Lines the hearth caches hold are recalled, dirty ones written back (R502, R507). -/
def State.recallAll (s : State) : State := s.mem.l3.foldl (fun s e => s.recall (64 * e.1) true) s

/-- Whether a written byte outlasts the re-weave: stack and rim bytes whose tier keeps its map (R261, R502). -/
def keptByte (stk rim : Bool) (a : Nat) : Bool := (stk && decide (a < 0x09000000000)) || (rim && decide (0x10000000000 ≤ a) && decide (a < 0x20000000000))

/-- Memory after the warm reset (R287, R502). -/
def Mem.warm (m : Mem) (stk rim : Bool) : Mem :=
  { m with
    cells := m.cells.filter fun c => keptByte stk rim c.1
    poison := m.poison.filter fun e => keptByte stk rim (8 * e.1)
    errs := m.errs.filter fun e => keptByte stk rim (64 * e.1)
    era := m.era + b2n (!stk || !rim)
    checks := [], side := [], ovfLogged := [], reserved := [], l3 := [], lanes := [], ceTimes := [], scrubTimes := [], ueTimes := [], fencedBanks := [], tripped := [], laneDue := []
    slices := [], remote := [], wrote := [], cur := .none, curDie := none }

/-- Whether a request waits for a hearth core. -/
def Req.ofHearth (r : Req) : Bool := match r.waiter with
  | .hearth _ _ => true
  | _ => false

/-- The ports that keep their adaptation through a re-weave: trained, and of an unchanged LINKS entry (R500). -/
def State.adaptedPorts (s : State) (w : Weave) : FMap Nat :=
  let old := (s.boot.weave.map (·.links)).getD []
  ((List.range 12).filter fun k => s.hasPort k && s.fld R.NLK_STATUS_WIDTH_ACT [k] != 0 && old.getD k [] == w.links.getD k []).map
    fun k => (k, (s.regs.getD (R.NLK_STATUS_STATE.at [k]) 0).toNat)

/-- The warm reset: compute dies, collective engine, queues, links and firmware processors at their reset values; what R501 and R502 keep stays, and the stable window starts again (R456). -/
def State.warmReset (s : State) (w : Weave) : State :=
  let r := State.reset
  let moved := s.mapsMove w
  let stk := w.stkMask s.flash == s.boot.stkMask && w.localU == s.boot.localU
  let rim := w.rimMask s.flash == s.boot.rimMask
  { r with
    pins := { s.pins with perstN := s.pins.perstN && !moved }, sb := s.sb, time := s.time, flash := s.flash, boot := { s.boot with adapted := s.adaptedPorts w }
    regs := s.regs.filter fun e => keptOff moved e.1
    hubPoison := s.hubPoison.filter fun e => keptOff moved (8 * e.1)
    mem := s.mem.warm stk rim
    harts := if moved then [] else s.harts
    pcieReqs := if moved then [] else s.pcieReqs.filter fun e => e.2.ofHearth || e.1 == cfgTag
    pcieHdr := if moved then [] else s.pcieHdr
    mgt := if moved then r.mgt else { s.mgt with relayed := [] }
    reqs := if moved then [] else s.reqs.filter fun e => e.2.ofHearth
    nextTag := s.nextTag, tagUsed := s.tagUsed, nextItem := s.nextItem, nextStream := s.nextStream
    job := { r.job with sev4 := s.job.sev4 }
    update := { r.update with stableFrom := some s.elapsedNs }
    out := s.out, fresh := s.fresh, pending := s.pending }

/-- REWEAVE_RESET: verification has passed, and the device is reset (R500, steps 1 to 5). -/
def execReweaveReset (s : State) : Host.Outcome State Fault Refusal :=
  .next (s.whenUp fun s =>
    match s.boot.newWeave with
    | none => s
    | some w =>
      if s.fld R.BSU_REWEAVE_STATUS_STATE ≠ 1 ∨ w.verdict s.flash ≠ 0 then s
      else
        let s := s.readyLow.log Code.REWEAVE bsuUnit
        let present := (List.range 12).filter s.hasPort
        let s := ((s.reweaveNotices.recallAll).warmReset w).pinsOnRails
        (present.foldl (fun s k => s.setFld R.NLK_STATUS_STATE 4 [k]) s).setFld R.BSU_REWEAVE_STATUS_STATE 2)

end Sys2Proof.Machine
end

