-- ==== Sys2Proof/Machine/RegRead.lean ====
section
/-! DEFINITION. Reading a register: fields that show what the state holds elsewhere, and fields that a read clears (R6, R11, R14, R69, R520, R529). -/

namespace Sys2Proof.Machine
open Sys2Proof

/-- Bits of a field in its word. -/
def Fld.mask (f : Fld) : Nat := (2 ^ f.w - 1) * 2 ^ f.lo

/-- The cores of a tile for which `p` holds, a bit each. -/
def coreMask (p : Nat) (f : Nat → Bool) : Nat := (List.range 8).foldl (fun m k => m + b2n (f (8 * p + k)) * 2 ^ k) 0

/-- The items in flight that use a tile. -/
def State.tileItems (s : State) (p : Nat) : List Item :=
  (s.items.filter fun e => usesTgroup (hClass e.2.desc) && s.inGroup (hTgroup e.2.desc) p).map (·.2)

/-- Fields of a tile's registers that show the state of its units (Tables 3-3, 6-13, 7-15, 7-19, 8-5). -/
def State.tileView (s : State) (r : Reg) (ix : List Nat) : List (Fld × Nat) :=
  let p := ix.getD 0 0 * 144 + ix.getD 1 0
  let mats := fun (s : State) => (s.tileItems p).filter fun it => hClass it.desc == 1
  if r.base = R.TIL_STATUS_BUSY.base then [(R.TIL_STATUS_BUSY, b2n (!(s.tileItems p).isEmpty))]
  else if r.base = R.TIL_MAT_STATUS_BUSY.base then
    [(R.TIL_MAT_STATUS_BUSY, b2n ((mats s).any fun it => it.phase == .running)),
     (R.TIL_MAT_STATUS_LB_WAIT, b2n ((mats s).any fun it => it.waitPiece.isSome)),
     (R.TIL_MAT_STATUS_QUEUED, if (mats s).isEmpty then 0 else (Config.freeWord s.fresh).toNat % 5)]
  else if r.base = R.TIL_REED_STATUS_RUNNING.base then
    [(R.TIL_REED_STATUS_RUNNING, coreMask p fun c => (s.reeds.find? c).any fun k => k.item.isSome),
     (R.TIL_REED_STATUS_BLOCKED, coreMask p fun c => (s.reeds.find? c).any fun k => k.item.isSome && k.blocked != .no)]
  else if r.base = R.TIL_REED_SUMM_FULL.base then [(R.TIL_REED_SUMM_FULL, coreMask p fun c => (s.summ.find? c).isSome)]
  else []

/-- An open gate group's entry (Table 9-15). -/
def State.gateView (s : State) (r : Reg) (g : Nat) : List (Fld × Nat) :=
  match s.gates.find? g with
  | none => []
  | some gt =>
    let its := gt.items.filterMap s.items.find?
    if r.base = R.TRN_GATE_W0_LAYER.base then
      [(R.TRN_GATE_W0_LAYER, gt.layer), (R.TRN_GATE_W0_SLICE, gt.slice), (R.TRN_GATE_W0_ITEMS, gt.items.length),
       (R.TRN_GATE_W0_DONE, gt.items.length - (its.filter fun it => it.phase != .withheld).length),
       (R.TRN_GATE_W0_LAST_SEEN, b2n gt.lastSeen), (R.TRN_GATE_W0_OVERFLOW, b2n (its.any (·.overflow))),
       (R.TRN_GATE_W0_RUNG, s.rungOf gt.slice gt.layer), (R.TRN_GATE_W0_OPEN, 1)]
    else [(R.TRN_GATE_W1_STEP, gt.step), (R.TRN_GATE_W1_QUEUE, gt.queue)]

/-- Steps in flight of a group. -/
def State.groupSteps (s : State) (g : Nat) : Nat := (s.stepsOf g).length

/-- A group's entry (Table 13-16). -/
def State.groupView (s : State) (r : Reg) (g : Nat) : List (Fld × Nat) :=
  match s.groups.find? g with
  | none => []
  | some gr =>
    if r.base = R.COL_GROUP_W0_DEFINED.base then
      [(R.COL_GROUP_W0_DEFINED, 1), (R.COL_GROUP_W0_ACTIVE, b2n (s.vcHeld.any fun e => e.2 == g)), (R.COL_GROUP_W0_VC, gr.vc),
       (R.COL_GROUP_W0_WEIGHT, gr.weight), (R.COL_GROUP_W0_N, gr.n), (R.COL_GROUP_W0_RANK, gr.rank),
       (R.COL_GROUP_W0_GRACE_EN, b2n gr.grace), (R.COL_GROUP_W0_SLOWCNT_EN, b2n gr.slowEn)]
    else if r.base = R.COL_GROUP_W1_TIMEOUT_US.base then [(R.COL_GROUP_W1_TIMEOUT_US, gr.timeout), (R.COL_GROUP_W1_HASH, gr.hash)]
    else if r.base = R.COL_GROUP_W2_SLOWCNT.base then [(R.COL_GROUP_W2_SLOWCNT, gr.slowcnt)]
    else [(R.COL_GROUP_W3_INFLIGHT, s.groupSteps g)]

/-- Steps and stream opens that wait on a slot (Table 14-9). -/
def State.slotWaiting (s : State) (g sl : Nat) : Nat :=
  match s.groups.find? g with
  | none => 0
  | some gr => (s.slotHeads g sl).length +
      (s.inStreams.filter fun i => !i.accepted && i.hash == gr.hash && i.bucket % 32 == sl && !s.holdsBucket g i.bucket i.gen).length

/-- Fields of the collective engine's registers that show its state (Tables 13-13, 13-16, 14-9). -/
def State.colView (s : State) (r : Reg) (ix : List Nat) : List (Fld × Nat) :=
  let g := ix.getD 0 0
  if r.base = R.COL_STATUS_ACTIVE.base then
    [(R.COL_STATUS_ACTIVE, (s.vcHeld.map (·.2)).eraseDups.length), (R.COL_STATUS_VC_HELD, s.vcHeld.foldl (fun m e => m + 2 ^ (e.1 - 4)) 0),
     (R.COL_STATUS_INFLIGHT, s.cols.length)]
  else if r.base = R.COL_GROUP_W0_DEFINED.base ∨ r.base = R.COL_GROUP_W1_TIMEOUT_US.base ∨ r.base = R.COL_GROUP_W2_SLOWCNT.base
      ∨ r.base = R.COL_GROUP_W3_INFLIGHT.base then s.groupView r g
  else if r.base = R.COL_SLOT_W1_WAITING.base then [(R.COL_SLOT_W1_WAITING, s.slotWaiting g (ix.getD 1 0))]
  else []

/-- Fields of the time unit (R520, R522, Table 19-6). -/
def State.timeView (s : State) (r : Reg) : List (Fld × Nat) :=
  if r.base = R.TIM_NOW_NS.base then [(R.TIM_NOW_NS, s.nowNs)]
  else if r.base = R.TIM_RATE_PPB.base then [(R.TIM_RATE_PPB, wrapInt 32 s.time.ppb)]
  else if r.base = R.TIM_ELAPSED_NS.base then [(R.TIM_ELAPSED_NS, s.elapsedNs)]
  else []

/-- Whole ms since the last emergency ended (Table 16-12). -/
def State.stableMs (s : State) : Nat := match s.update.stableFrom with
  | some t => min 65535 ((s.elapsedNs - t) / 1000000)
  | none => 0

/-- Fields that show what the state holds elsewhere. -/
def State.regView (s : State) (r : Reg) (ix : List Nat) : List (Fld × Nat) :=
  let i := ix.getD 0 0
  if 0x10000000 ≤ r.base ∧ r.base < 0x11000000 then s.tileView r ix
  else if r.base = R.EPO_DRAIN_OLD_INFLIGHT.base then [(R.EPO_DRAIN_OLD_INFLIGHT, s.oldItems)]
  else if r.base = R.TRN_STATUS_OPEN_GATES.base then [(R.TRN_STATUS_OPEN_GATES, s.gates.length)]
  else if r.base = R.TRN_GATE_W0_LAYER.base ∨ r.base = R.TRN_GATE_W1_STEP.base then s.gateView r i
  else if r.base = R.SCA_NARROW_OUTSTANDING.base then [(R.SCA_NARROW_OUTSTANDING, min 4096 (s.narrowOut' i))]
  else if r.base = R.SCA_REGION_W0_OFFSET.base then
    if s.lmtEntry i (ix.getD 1 0) (ix.getD 2 0) then
      [(R.SCA_REGION_W0_OFFSET, s.lmtOff), (R.SCA_REGION_W0_ELEMENTS, 8192), (R.SCA_REGION_W0_EXP, s.fld R.TRN_LMT_CFG_EXP_W), (R.SCA_REGION_W0_VALID, 1)]
    else []
  else if 0x21000000 ≤ r.base ∧ r.base < 0x22000000 then s.colView r ix
  else if r.base = R.WQS_W1_STATE.base then [(R.WQS_W1_STATE, s.qState i)]
  else if r.base = R.NRG_POOL_GENERAL.base then
    [(R.NRG_POOL_GENERAL, wrapInt 32 s.nrg.general), (R.NRG_POOL_RESERVE, s.nrg.reserve)]
  else if r.base = R.FWP_STABLE_STABLE_MS.base then [(R.FWP_STABLE_STABLE_MS, s.stableMs)]
  else if r.base = R.HRT_STATUS_RUNNING.base then
    [(R.HRT_STATUS_RUNNING, (s.harts.filter fun e => e.2.running).foldl (fun m e => m + 2 ^ e.1) 0)]
  else s.timeView r

/-- Register blocks of units the module has not got: Nelax ports, RIM and PCIe (R6).
DESIGN CHOICE (log 134): a compute die whose GLB_CAPS bit an image clears keeps its register blocks. -/
def State.absentOff (s : State) (off : Nat) : Bool :=
  let b := off / 0x1000000
  (decide (0x20000000 ≤ off ∧ off < 0x20C00000) && !s.hasPort ((off - 0x20000000) / 0x100000))
    || (b == 0x22 && !s.flag R.GLB_CAPS_RIM_PRESENT) || (b == 0x23 && !s.flag R.GLB_CAPS_PCIE_PRESENT)

/-- Register-space memory without a field map: mailbox slots (R434) and mtimecmp of the harts (19). -/
def rawOff (off : Nat) : Bool := off / 0x1000000 == 0x05 || (decide (0x0C001000 ≤ off) && decide (off < 0x0C001080))

/-- A queue's index: the PI of a work queue, the CI of a completion queue (R406). -/
def State.queueIndex (s : State) (q : Nat) : Nat := s.fld (if s.fld R.WQS_W0_KIND [q] = 0 then R.WQS_W2_PI else R.WQS_W2_CI) [q]

/-- The value a read of an aligned word of register space returns; a doorbell returns its index (R406). -/
def State.regValue (s : State) (off : Nat) : Word :=
  if s.absentOff off then 0
  else if 0x08000000 ≤ off ∧ off < 0x09000000 then (if off % 64 = 0 then BitVec.ofNat 64 (s.queueIndex ((off - 0x08000000) / 64)) else 0)
  else if rawOff off then s.regs.getD off 0
  else match regAt off with
    | none => 0
    | some (r, ix) =>
      let w := (s.regs.getD off r.rst).toNat &&& (r.fields.foldl (fun m f => m ||| (if f.acc = .wo then 0 else f.mask)) 0)
      BitVec.ofNat 64 ((s.regView r ix).foldl (fun w e => putBits w e.1.lo e.1.w e.2) w)

/-- What a read leaves: RC fields at their reset values (R11), TIM_FRAC latched by a read of TIM_NOW (R520), a free value used. -/
def State.afterRead (s : State) (off : Nat) : State :=
  let s := { s with fresh := s.fresh + 1 }
  if s.absentOff off || rawOff off then s
  else match regAt off with
    | none => s
    | some (r, ix) =>
      let s := r.fields.foldl (fun s f => if f.acc = .rc then s.setFld f (bits f.rst.toNat f.lo f.w) ix else s) s
      if r.base = R.TIM_NOW_NS.base then s.setFld R.TIM_FRAC_FRAC (s.time.now % 10000000000 * 65536 / 10000000000) else s

/-- Register space answers: the block runs, or it is one that a re-weave leaves running. Blocks of the hub die that a re-weave resets answer with those of the compute dies, when it is ready (DESIGN CHOICE, log 102). -/
def State.regUp (s : State) (off : Nat) : Bool := s.up || (s.hubUp && keptOff false off)

/-- An aligned 8-byte read of register space. -/
def State.readReg (s : State) (off : Nat) : Word × State := (s.regValue off, s.afterRead off)

/-- Unit ID of the block a register-space offset lies in, for REG_ACCESS. -/
def State.badAccess (s : State) (off : Nat) : State := s.log Code.REG_ACCESS (unitOfOff off) (0x0F000000000 + off)

/-- An access that is no naturally aligned 8-byte access; in a re-weave it waits (R12, R502). -/
def State.badRegister (s : State) (off : Nat) (write : Bool) : State :=
  if s.regUp off then (if write then s.badAccess off else (s.badAccess off).emit (.regData off (BitVec.allOnes 64))) else s.holdAccess (.badReg off write)

/-- REG_ACCESS_BAD: not a naturally aligned 8-byte access (R12). -/
def execRegAccessBad (off : Nat) (write : Bool) (s : State) : Host.Outcome State Fault Refusal := .next (s.badRegister off write)

/-- A register read; in a re-weave it waits (R11, R502). -/
def State.readRegister (s : State) (off : Nat) : State :=
  if s.regUp off then (s.readReg off).2.emit (.regData off (s.readReg off).1) else s.holdAccess (.readReg off)

/-- RC_FIELD_READ: the values, and the RC fields back at reset (R11). -/
def execRcFieldRead (off : Nat) (s : State) : Host.Outcome State Fault Refusal :=
  .next (if off % 8 == 0 then s.readRegister off else s)

/-- TIM_NOW_READ: the count, with its fraction latched (R520). -/
def execTimNowRead (s : State) : Host.Outcome State Fault Refusal :=
  .next (s.readRegister R.TIM_NOW_NS.base)

end Sys2Proof.Machine
end

