-- ==== Sys2Proof/Machine/Registers.lean ====
section
/-! DEFINITION. Writing a register, field by field (R64 to R69, R73, R78, R530, R546, Tables 20-3 and 20-4), and what the writes of the chapters' registers do. -/

namespace Sys2Proof.Machine
open Sys2Proof

/-- Values a field takes; a write of another leaves it unchanged (Tables 3-3, 9-16, 13-11, 15-8, 17-9, 19-6, 11-11). -/
def fieldOk (f : Fld) (v : Nat) : Bool :=
  if f = R.TIL_NUM_CTL_RND ∨ f = R.COL_CFG_RND then decide (v ≤ 4)
  else if f = R.TIL_NUM_CTL_SR_BITS ∨ f = R.COL_CFG_SR_BITS then decide (8 ≤ v) && decide (v ≤ 24)
  else if f = R.COL_CFG_WIRE then decide (v ≤ 1)
  else if f = R.TRN_LAYER_LADDER_MAX then decide (v ≤ 5)
  else if f = R.WQS_W0_LOG2_N then decide (4 ≤ v) && decide (v ≤ 20)
  else if f = R.NRG_THR_HOT_MV then decide (600 ≤ v) && decide (v ≤ 700)
  else if f = R.TIM_PPS_CTL_WIDTH_US then decide (1 ≤ v) && decide (v ≤ 500000)
  else if f = R.ERL_SCRUB_PERIOD_H then decide (v ≤ 168)
  else true

/-- RW fields of class L that a store does not simply set: what it does stands in `writeEffect`. FWP_WDOG_PERIOD_MS takes a store of its own processor only, which no command brings (DESIGN CHOICE, log 137). -/
def ownEffect : List Fld :=
  [R.WQS_W1_STATE, R.ERL_TAIL_INDEX, R.NLK_CTL_ENABLE, R.QMC_MBX_W0_IN_PI, R.FWP_WDOG_PERIOD_MS, R.PCI_CTL_PERST]

/-- CFG_BUSY recorded where Table 20-4 and R65 put it.
DESIGN CHOICE (log 122): COL_STATUS.LAST_STATUS, the status of the last step completed, does not take it; Table 20-4 names no place for the collective block. -/
def State.cfgBusy (s : State) (off : Nat) (ix : List Nat) : State :=
  let b := off / 0x1000000
  if b = 0x09 then s.setFlag R.WQS_W1_CFG_BUSY true [ix.getD 0 0]
  else if 0x10 ≤ b ∧ b < 0x20 then s.setFlag R.TIL_STATUS_CFG_BUSY true [ix.getD 0 0, ix.getD 1 0]
  else if b = 0x20 then s.setFlag R.NLK_STATUS_CFG_BUSY true [ix.getD 0 0]
  else
    let s := s.log Code.CFG_BUSY (unitOfOff off) (0x0F000000000 + off)
    if b = 0x07 then s.trnLast Code.CFG_BUSY
    else if b = 0x24 then s.setFld R.MGT_STATUS_LAST_STATUS Code.CFG_BUSY
    else if b = 0x23 then s.setFld R.PCI_STATUS_LAST_STATUS Code.CFG_BUSY
    else s

/-- The block of a Q field is busy (Table 20-4, R431). -/
def State.blockBusy (s : State) (f : Fld) (ix : List Nat) : Bool :=
  let i := ix.getD 0 0
  let b := f.base / 0x1000000
  if b = 0x09 then
    s.qState i == 1 ||
      (if s.fld R.WQS_W0_KIND [i] = 0 then s.fld R.WQS_W2_CI [i] != s.fld R.WQS_W4_DONE [i] else s.fld R.WQS_W4_RESERVED [i] != 0)
  else if b = 0x0B then s.fld R.QMC_CTX_W0_INFLIGHT [i] != 0
  else if b = 0x07 then s.items.any fun e => hOptstep e.2.desc
  else if b = 0x06 then s.flag R.ERL_CTL_MIRROR_EN
  else if b = 0x20 then s.fld R.NLK_STATUS_STATE [i] != 0 && s.fld R.NLK_STATUS_STATE [i] != 6
  else if f = R.MGT_CTL_MBX_EN then s.mgt.relayed.any fun e => e.2 != 0
  else if b = 0x24 then s.flag R.MGT_CTL_ENABLE
  else if b = 0x23 then s.flag R.PCI_STATUS_LINK_UP
  else false

/-- The mask and value a field carries, added to staged ones. -/
def stageBits (f : Fld) (v : Nat) (old : Word × Word) : Word × Word :=
  (BitVec.ofNat 64 (old.1.toNat ||| f.mask), BitVec.ofNat 64 (putBits old.2.toNat f.lo f.w v))

/-- The present value of a G field: staged and not yet live, else live (R546). -/
def State.presentG (s : State) (off : Nat) (f : Fld) (ix : List Nat) : Nat :=
  let of' := fun (e : Word × Word) => if bit e.1.toNat f.lo then some (bits e.2.toNat f.lo f.w) else none
  match ((s.staged.find? off).bind of').or ((s.atBoundary.find? off).bind of') with
  | some v => v
  | none => s.fld f ix

/-- An item in flight uses the block of a G field. -/
def State.gBusy (s : State) (off : Nat) : Bool := s.items.any fun e => s.usesBlock e.2 off

/-- A write to a G field: joins the staging, is discarded in drain or barrier, else lands at the next work-item boundary, at once on an idle block (R67, R73, R78). The flag says that it was discarded. -/
def State.writeG (s : State) (off : Nat) (f : Fld) (ix : List Nat) (v : Nat) : State × Bool :=
  match s.fld R.EPO_STATUS_STATE with
  | 1 => ({ s with staged := s.staged.put off (stageBits f v (s.staged.getD off (0, 0))) }.showParticipants, false)
  | 2 => (s, true)
  | 3 => (s, true)
  | _ =>
    if s.gBusy off then ({ s with atBoundary := s.atBoundary.put off (stageBits f v (s.atBoundary.getD off (0, 0))) }, false)
    else (s.setFld f v ix, false)

/-- One field of a store (R546), for a block that stood as `s0` when the store came: the state, and whether CFG_BUSY is to be recorded, which a value out of range does not spare (R530). -/
def State.writeField (s0 s : State) (off : Nat) (ix : List Nat) (val : Nat) (f : Fld) : State × Bool :=
  let v := bits val f.lo f.w
  match f.acc, f.cls with
  | .rw, .l => (if ownEffect.contains f || !fieldOk f v then s else s.setFld f v ix, false)
  | .rw, .q =>
    if v = s.fld f ix then (s, false)
    else if s0.blockBusy f ix then (s, true)
    else if !fieldOk f v then (s, false)
    else if f = R.NLK_CTL_TEST then (s.linkTest (ix.getD 0 0) v, false)
    else (s.setFld f v ix, false)
  | .rw, .g =>
    if v = s.presentG off f ix then (s, false)
    else if !fieldOk f v then (s, s.fld R.EPO_STATUS_STATE == 2 || s.fld R.EPO_STATUS_STATE == 3)
    else s.writeG off f ix v
  | .w1c, _ => (s.setFld f (s.fld f ix &&& ((2 ^ f.w - 1) - v)) ix, false)
  | _, _ => (s, false)

/-- The fields of a store, each by its class; a block is busy as the store found it. -/
def State.writeFields (s0 : State) (off : Nat) (r : Reg) (ix : List Nat) (val : Nat) : State :=
  let (s, busy) := r.fields.foldl (fun (acc : State × Bool) f =>
    let (t, b) := s0.writeField acc.1 off ix val f
    (t, acc.2 || b)) (s0, false)
  if busy then s.cfgBusy off ix else s

/-- A RETIRE store's parts (Table 11-11). -/
def State.writeRetire (s : State) (v : Nat) : State := s.retire (bits v 0 2) (bit v 2) (bit v 3) (bits v 8 40)

/-- What a store to a queue's word 1 does to STATE (R431). -/
def State.writeQState (s : State) (q v : Nat) : State :=
  match v % 4 with
  | 0 => s.disableQueue q
  | 1 => s.enableQueue q
  | _ => s

/-- What a store to NLK_CTL does beside its TEST field (Table 12-8). -/
def State.writeNlkCtl (s : State) (k v : Nat) : State :=
  let s := if bit v 0 = s.flag R.NLK_CTL_ENABLE [k] then s else if bit v 0 then s.linkEnable k else s.linkDisable k
  if bit v 1 then s.enterRetrain k else s

/-- The effects of a store beside its fields' new values. -/
def State.writeEffect (s : State) (r : Reg) (ix : List Nat) (v : Nat) : State :=
  let i := ix.getD 0 0
  if r.base = R.EPO_CTL_CMD.base then
    match v % 4 with
    | 1 => s.epochOpen
    | 2 => s.epochCommit
    | 3 => s.epochCancel
    | _ => s
  else if r.base = R.EPO_STATUS_ABANDONED.base then (if bit v 3 then s.epochClear else s)
  else if r.base = R.TRN_CTL_CLEAR_EVAL_RUNGS.base then (if bit v 1 then s.writeClearEval else s)
  else if r.base = R.ERL_TAIL_INDEX.base then s.writeTail v
  else if r.base = R.ERL_RETIRE_TYPE.base then s.writeRetire v
  else if r.base = R.ERL_INJECT_LINE.base then s.arm (bits v 6 42) (bits v 48 2)
  else if r.base = R.NLK_CTL_ENABLE.base then s.writeNlkCtl i v
  else if r.base = R.COL_CTL_CANCEL.base then (if bit v 6 then s.cancelGroup (bits v 0 6) else s)
  else if r.base = R.COL_SLOT_FREE_GO.base then (if bit v 11 then s.slotFree (bits v 0 6) (bits v 6 5) else s)
  else if r.base = R.WQS_W1_STATE.base then s.writeQState i v
  else if r.base = R.EVC_ADD_ADD.base then s.evcAdd i v
  else if r.base = R.QMC_MBX_W0_IN_PI.base then (if bit (s.fld R.MGT_CTL_MBX_EN) i then s else s.setFld R.QMC_MBX_W0_IN_PI (bits v 0 32) [i])
  else if r.base = R.QMC_MBX_W1_OUT_CI.base then s.drainOut i
  else if r.base = R.MGT_CTL_ENABLE.base then s.relayEvery
  else if r.base = R.FWP_CTL_RESTART.base then (if bit v 0 then s.restartRequest i else s)
  else if r.base = R.NRG_THR_HOT_MV.base then s.powerMoved
  else if r.base = R.BSU_REWEAVE_CTL_GO.base then (if bit v 63 then s.reweaveGo (bits v 0 21) (bit v 21) else s)
  else if r.base = R.BSU_REWEAVE_STATUS_ACK.base then
    (if bit v 3 && (s.fld R.BSU_REWEAVE_STATUS_STATE == 4 || s.fld R.BSU_REWEAVE_STATUS_STATE == 5) then s.setFld R.BSU_REWEAVE_STATUS_STATE 0 else s)
  else if r.base = R.PCI_CTL_PERST.base then
    (let s := s.pciPerst (bit v 0)
     if bit v 1 then s.pciRetrain else s)
  else if r.base = R.PCI_CFG_ADDR_GO.base then s.pciCfg (BitVec.ofNat 64 v)
  else s

/-- A store to a register with a field map. -/
def State.writeMapped (s : State) (off : Nat) (r : Reg) (ix : List Nat) (v : Nat) : State :=
  let base := s.lmtOff
  let t := (s.writeFields off r ix v).writeEffect r ix v
  if t.lmtOff = base then t else t.declareLmt

/-- An aligned 8-byte store to register space; `poison` marks the stored value, which a doorbell and a word of plain memory take over; `age` is the stamp of a store that came in through a port, which a doorbell looks at (R58, R285, R300, R406, R434, R529). A store to a register with a field map writes a clean word: log 118. -/
def State.writeReg (s : State) (off : Nat) (val : Word) (poison : Bool) (age : Option Nat := none) : State :=
  if s.absentOff off then s
  else if 0x08000000 ≤ off ∧ off < 0x09000000 then (if off % 64 = 0 then s.doorbell ((off - 0x08000000) / 64) val poison age else s)
  else if rawOff off then { s with regs := s.regs.setD off 0 val }.markReg off poison
  else match regAt off with
    | none => s
    | some (r, ix) => (s.markReg off false).writeMapped off r ix val.toNat

/-- A register write; in a re-weave it waits (R502, R546). -/
def State.writeRegister (s : State) (off : Nat) (val : Word) : State :=
  if s.regUp off then s.writeReg off val false else s.holdAccess (.writeReg off val)

/-- REGISTER_WRITE (R546, Table 20-3). -/
def execRegisterWrite (off : Nat) (val : Word) (s : State) : Host.Outcome State Fault Refusal :=
  .next (if off % 8 == 0 then s.writeRegister off val else s)

end Sys2Proof.Machine
end

