-- ==== Sys2Proof/Machine/Hearth.lean ====
section
/-! DEFINITION. The hearth cores' accesses: loads, stores and FENCE (R301, R506, R507, R510, R511). -/

namespace Sys2Proof.Machine
open Sys2Proof

/-- A released hart, and an access size of its instruction set. -/
def State.hartRuns (s : State) (h size : Nat) : Bool :=
  s.hubUp && decide (h < 16) && (s.hart h).running && (size == 1 || size == 2 || size == 4 || size == 8)

/-- A line as the hearth caches hold it, with the poison of each word; the line's own outside them (R301). -/
def State.hearthLine (s : State) (a : Nat) : List Byte × Nat :=
  match s.mem.l3.getD (a / 64) none with
  | some l => l
  | none => ((s.lineView a).data, (s.lineView a).poison)

/-- A stack or rim line comes into the L3 by the narrow path; other regions are read where they lie (R266, R506, R507). The hearth cores lie on the hub die, and R267 counts the units of compute dies. -/
def State.hearthFill (s : State) (a : Nat) : State :=
  match s.spot a with
  | none => (s.readLine a 2).2
  | some _ =>
    if (s.mem.l3.find? (a / 64)).isSome then s
    else
      let s := (s.readLine a 2).2
      { s with mem := { s.mem with l3 := s.mem.l3.put (a / 64) none } }

/-- The bytes of [a, a + n) as a hearth core sees them, and whether any word touched is poisoned. -/
def State.hearthBytes (s : State) (a n : Nat) : List Byte × Bool :=
  let lines := (rangeLines [(a, n)]).map fun l => (l, s.hearthLine l)
  (((lines.flatMap (·.2.1)).drop (a % 64)).take n,
   lines.any fun e => (List.range 8).any fun i => bit e.2.2 i && overlaps a n (e.1 + 8 * i) 8)

/-- A load of memory of this device; in a re-weave it waits (R502). -/
def State.hearthMem (s : State) (h a size : Nat) : State :=
  if !s.up then s.holdAccess (.load h a size)
  else if !s.mappedRange a size then s.emit (.hearthFault h a)
  else
    let s := (rangeLines [(a, size)]).foldl State.hearthFill s
    let (d, p) := s.hearthBytes a size
    if p then s.hearthPoison h a else s.emit (.hearthData h (BitVec.ofNat 64 (ofBytes d)))

/-- Byte enables of `size` bytes at `a` within their word. -/
def enables (a size : Nat) : Nat := (2 ^ size - 1) * 2 ^ (a % 8)

/-- A hearth load (R301, R506, R511, R517). -/
def State.hearthLoad (s : State) (h addr size : Nat) : State :=
  let a := s.localAddr addr
  match s.regionOf a with
  | .regs off =>
    if !s.regUp off then s.holdAccess (.load h a size)
    else if size = 8 ∧ off % 8 = 0 then
      (if s.regPoison off then (s.readReg off).2.hearthPoison h a else (s.readReg off).2.emit (.hearthData h (s.readReg off).1))
    else (s.badAccess off).emit (.hearthData h (BitVec.ofNat 64 (2 ^ (8 * size) - 1)))
  | .remote m off =>
    if a % size ≠ 0 then s.emit (.hearthMisaligned h a)
    else s.askRemote (.hearth h true) m (off / 8 * 8) 5 0 0 (enables a size) [] a size
  | .pcie off =>
    if a % size ≠ 0 then s.emit (.hearthMisaligned h a)
    else if s.mapped a then s.pcieRead (.hearth h true) off a size
    else s.emit (.hearthFault h a)
  | .hole => s.emit (.hearthFault h a)
  | _ => s.hearthMem h a size

/-- HEARTH_LOAD (R301). -/
def execHearthLoad (hart addr size : Nat) (s : State) : Host.Outcome State Fault Refusal :=
  .next (if s.hartRuns hart size then s.hearthLoad hart addr size else s)

/-- The part of a store that falls in one line, written into the L3's copy: a whole word takes the store's poison, a part of one keeps its own as well. -/
def State.hearthPut (s : State) (line a : Nat) (data : List Byte) (poison : Bool) : State :=
  let lo := max a line
  let hi := min (a + data.length) (line + 64)
  let (d, p) := s.hearthLine line
  let d := splice d (lo - line) ((data.drop (lo - a)).take (hi - lo))
  let p := (List.range 8).foldl (fun p i =>
    let w := line + 8 * i
    if w + 8 ≤ lo ∨ hi ≤ w then p
    else if lo ≤ w ∧ w + 8 ≤ hi then putBit p i poison
    else putBit p i (bit p i || poison)) p
  { s with mem := { (s.mem.dropReservations lo (hi - lo)) with l3 := s.mem.l3.put (line / 64) (some (d, p)) } }

/-- A store to memory of this device: into the caches on a tier, at its place otherwise; an element of a declared region faults (R282, R506, R507). In a re-weave it waits (R502). -/
def State.hearthStoreMem (s : State) (h a : Nat) (data : List Byte) (poison : Bool) : State :=
  if !s.up then s.holdAccess (.store h a data.length (BitVec.ofNat 64 (ofBytes data)) poison)
  else if !s.mappedRange a data.length || s.hitsRegion a data.length then s.emit (.hearthFault h a)
  else match s.spot a with
    | none => s.storeBytes a data poison 2
    | some _ =>
      let lines := rangeLines [(a, data.length)]
      lines.foldl (fun s l => s.hearthPut l a data poison) (lines.foldl State.hearthFill s)

/-- A store to another member, counted for FENCE until it is acknowledged (R511). -/
def State.hearthRemote (s : State) (h m off a : Nat) (data : List Byte) (poison : Bool) : State :=
  let s := s.setHart h { s.hart h with remote := (s.hart h).remote + 1 }
  let s := { s with mem := { s.mem with cur := .hearth h false } }.narrowOut m off a data poison
  { s with mem := { s.mem with cur := .none } }

/-- A hearth store (R506, R511, R517). -/
def State.hearthStore (s : State) (h addr size : Nat) (val : Word) (poison : Bool) : State :=
  let a := s.localAddr addr
  let data := toBytes size val.toNat
  match s.regionOf a with
  | .regs off =>
    if !s.regUp off then s.holdAccess (.store h a size val poison)
    else if size = 8 ∧ off % 8 = 0 then s.writeReg off val poison
    else s.badAccess off
  | .remote m off => if a % size ≠ 0 then s.emit (.hearthMisaligned h a) else s.hearthRemote h m off a data poison
  | .pcie off =>
    if a % size ≠ 0 then s.emit (.hearthMisaligned h a)
    else if s.mapped a then s.pcieOut off a data poison
    else s.emit (.hearthFault h a)
  | .hole => s.emit (.hearthFault h a)
  | _ => s.hearthStoreMem h a data poison

/-- HEARTH_STORE (R511). -/
def execHearthStore (hart addr size : Nat) (val : Word) (poison : Bool) (s : State) : Host.Outcome State Fault Refusal :=
  .next (if s.hartRuns hart size then s.hearthStore hart addr size val poison else s)

/-- HEARTH_FENCE: done at once, or when the last remote write is acknowledged (R511). -/
def execHearthFence (hart : Nat) (s : State) : Host.Outcome State Fault Refusal :=
  .next (if !s.hartRuns hart 8 then s
    else if (s.hart hart).remote = 0 then s.emit (.hearthFenceDone hart)
    else s.setHart hart { s.hart hart with fencing := true })

end Sys2Proof.Machine
end

