-- ==== Sys2Proof/Machine/Mgt.lean ====
section
/-! DEFINITION. The management port: frames (R514), mailbox relay (R515), PTP (R526). -/

namespace Sys2Proof.Machine
open Sys2Proof

/-- The IEEE 1588 multicast address (R514). -/
abbrev ptpMac : Nat := 0x011B19000000

/-- Octets of a frame as a number, first octet highest. -/
def bigAt (l : List Byte) (off n : Nat) : Nat := ofBytes ((l.drop off).take n).reverse

/-- A frame that is dropped. -/
def State.dropFrame (s : State) : State := s.bumpSat R.MGT_COUNTS_DROPPED

/-- A frame accepted, for its handler: KIND 0 of 0x88B5, which keeps the stamp of its entry, or PTP (R58, R514, R515). -/
def State.takeFrame (s : State) (frame : List Byte) : State :=
  let s := s.bumpSat R.MGT_COUNTS_RX_GOOD
  if bigAt frame 12 2 = 0x88F7 then { s with mgt := { s.mgt with ptp := s.mgt.ptp ++ [frame] } }
  else if fieldAt frame 14 1 = 0 then { s with mgt := { s.mgt with rx := s.mgt.rx ++ [(s.ageStamp, frame)] } }
  else s

/-- The address and type filter of R514; the largest frame, with its 4-byte FCS, is 9,018 bytes. -/
def State.frameOk (s : State) (frame : List Byte) : Bool :=
  let dst := bigAt frame 0 6
  let typ := bigAt frame 12 2
  decide (14 ≤ frame.length) && decide (frame.length + 4 ≤ 9018) && (dst == s.fld R.MGT_MAC_MAC || dst == ptpMac) && (typ == 0x88F7 || typ == 0x88B5)
    && (typ != 0x88B5 || s.fld R.MGT_PEER_PEER == 0 || bigAt frame 6 6 == s.fld R.MGT_PEER_PEER)

/-- MGT_FRAME_RECEIVE: counted and dropped, or passed on (R514). -/
def execMgtFrameReceive (frame : List Byte) (fcsOk : Bool) (s : State) : Host.Outcome State Fault Refusal :=
  .next (
    if !s.hubUp || !s.flag R.MGT_CTL_ENABLE then s
    else
      let s := s.setFlag R.MGT_STATUS_LINK_UP true
      if !fcsOk then s.bumpSat R.MGT_COUNTS_FCS_ERR
      else if s.frameOk frame then s.takeFrame frame
      else s.dropFrame)

/-- The IN mailbox has a free slot (R435). -/
def State.inRoom (s : State) (p : Nat) : Bool :=
  decide ((s.fld R.QMC_MBX_W0_IN_PI [p] + 2 ^ 32 - s.fld R.QMC_MBX_W0_IN_CI [p]) % 2 ^ 32 < 256)

/-- MGT_MAILBOX_REQUEST: the oldest KIND 0 frame goes to the next IN slot of its mailbox while MBX_EN allows it; else it is dropped (R515). -/
def execMgtMailboxRequest (s : State) : Host.Outcome State Fault Refusal :=
  .next (s.whenUp fun s =>
    match s.mgt.rx with
    | [] => s
    | (_, frame) :: rest =>
      let p := fieldAt frame 15 1
      let t := { s with mgt := { s.mgt with rx := rest } }
      if 8 ≤ p || !bit (s.fld R.MGT_CTL_MBX_EN) p || decide (4096 + 22 < frame.length) then t.dropFrame
      else if !s.inRoom p then s
      else
        let pi := t.fld R.QMC_MBX_W0_IN_PI [p]
        let t := (t.fillSlot p 0 pi (frame.drop 22)).bump R.QMC_MBX_W0_IN_PI [p]
        { t with mgt := { t.mgt with from? := some (bigAt frame 6 6), relayed := t.mgt.relayed.setD p 0 (t.mgt.relayed.getD p 0 + 1) } }.relayEvery)

/-- A PTP timestamp, in ns: 6 octets of seconds, 4 of nanoseconds. -/
def ptpTime (msg : List Byte) (off : Nat) : Int := ((bigAt msg off 6 * 1000000000 + bigAt msg (off + 6) 4 : Nat) : Int)

/-- correctionField, in ns. -/
def ptpCorrection (msg : List Byte) : Int := sext 64 (bigAt msg 8 8) / 65536

/-- The PTP exchange as `Time.ptp` keeps it: delay, t1, t2, t3, SEQ of a two-step Sync that awaits its Follow_Up (−1 none). -/
def State.ptpAt (s : State) (i : Nat) : Int := s.time.ptp.getD i (if i = 4 then -1 else 0)

/-- The exchange replaced. -/
def State.setPtp (s : State) (delay t1 t2 t3 seq : Int) : State := { s with time := { s.time with ptp := [delay, t1, t2, t3, seq] } }

/-- A Sync whose origin time is known: the offset is a sample, and a Delay_Req of the next sequenceId goes out (Table 19-4, R526). -/
def State.ptpSync (s : State) (t1 t2 : Int) : State :=
  let delay := s.ptpAt 0
  let s := (s.timeOffset 1 (t2 - t1 - delay)).setPtp delay t1 t2 s.nowNs (-1)
  { s with time := { s.time with delaySeq := (s.time.delaySeq + 1) % 2 ^ 16, delayWait := true } }.emit .ptpDelayReq

/-- Port identity of a message's sender. -/
def ptpSender (msg : List Byte) : Nat := bigAt msg 20 10

/-- The rank of an Announce by the default data set comparison, the lower the better: priority1, class, accuracy, variance, priority2 and identity of the grandmaster, steps removed, sender (R526). -/
def announceRank (msg : List Byte) : List Nat :=
  [bigAt msg 47 1, bigAt msg 48 1, bigAt msg 49 1, bigAt msg 50 2, bigAt msg 52 1, bigAt msg 53 8, bigAt msg 61 2, ptpSender msg]

/-- Whether a rank stands before another. -/
def rankBefore : List Nat → List Nat → Bool
  | a :: as, b :: bs => decide (a < b) || (a == b && rankBefore as bs)
  | _, _ => false

/-- An Announce: its sender becomes the master when none is chosen yet, or when it ranks before the master; the master's own renews its rank (R526). -/
def State.ptpAnnounce (s : State) (msg : List Byte) : State :=
  let rank := announceRank msg
  let take := match s.time.master with
    | none => true
    | some (p, r) => p == ptpSender msg || rankBefore rank r
  if take && decide (64 ≤ msg.length) && decide (bigAt msg 61 2 < 255) then { s with time := { s.time with master := some (ptpSender msg, rank) } } else s

/-- A message comes from the chosen master (R526). -/
def State.fromMaster (s : State) (msg : List Byte) : Bool := s.time.master.map (·.1) == some (ptpSender msg)

/-- This clock's port identity: the EUI-64 of the port's MAC address, port 1. -/
def State.ptpPort (s : State) : Nat :=
  let m := s.fld R.MGT_MAC_MAC
  (m / 2 ^ 24 * 2 ^ 40 + 0xFFFE * 2 ^ 24 + m % 2 ^ 24) * 2 ^ 16 + 1

/-- A Delay_Resp of the master that answers this clock's last Delay_Req (R526). -/
def State.answersDelay (s : State) (msg : List Byte) : Bool :=
  s.fromMaster msg && s.time.delayWait && bigAt msg 30 2 == s.time.delaySeq && bigAt msg 44 10 == s.ptpPort

/-- A PTP message of the domain handled: Announce 11; Sync 0, Follow_Up 8 and Delay_Resp 9 of the master (R526). -/
def State.ptpMessage (s : State) (msg : List Byte) (rxStamp : Int) : State :=
  let kind := fieldAt msg 0 1 % 16
  let seq : Int := bigAt msg 30 2
  let twoStep := bit (fieldAt msg 6 1) 1
  match kind with
  | 11 => s.ptpAnnounce msg
  | 0 =>
    if !s.fromMaster msg then s
    else if twoStep then s.setPtp (s.ptpAt 0) (ptpCorrection msg) rxStamp (s.ptpAt 3) seq
    else s.ptpSync (ptpTime msg 34 + ptpCorrection msg) rxStamp
  | 8 => if s.fromMaster msg && s.ptpAt 4 == seq then s.ptpSync (ptpTime msg 34 + ptpCorrection msg + s.ptpAt 1) (s.ptpAt 2) else s
  | 9 =>
    if !s.answersDelay msg then s
    else
      let t4 := ptpTime msg 34 - ptpCorrection msg
      let s := { s with time := { s.time with delayWait := false } }
      s.setPtp (((s.ptpAt 2 - s.ptpAt 1) + (t4 - s.ptpAt 3)) / 2) (s.ptpAt 1) (s.ptpAt 2) (s.ptpAt 3) (s.ptpAt 4)
  | _ => s

/-- PTP is a source of the weave image (R523). -/
def State.ptpUsed (s : State) : Bool := s.fld R.TIM_CFG_PRIMARY == 1 || s.fld R.TIM_CFG_BACKUP == 1

/-- PTP_MESSAGE_RECEIVE: the oldest PTP frame; `rxStamp` is its arrival at the PCS in ns of the device counter (R526). -/
def execPtpMessageReceive (rxStamp : Int) (s : State) : Host.Outcome State Fault Refusal :=
  .next (if !s.hubUp then s else
    match s.mgt.ptp with
    | [] => s
    | frame :: rest =>
      let t := { s with mgt := { s.mgt with ptp := rest } }
      let msg := frame.drop 14
      if t.ptpUsed && decide (34 ≤ msg.length) && fieldAt msg 4 1 == t.fld R.TIM_CFG_PTP_DOMAIN then t.ptpMessage msg rxStamp else t)

end Sys2Proof.Machine
end

