-- ==== Sys2Proof/Machine/ScalarFp.lean ====
section
/-! DEFINITION. Scalar floating point as RISC-V F and D define it: full subnormals, fflags NV, DZ, OF, UF, NX (R170, R181). -/

namespace Sys2Proof.Machine
open Sys2Proof

/-- fflags bits. -/
abbrev nvF : Nat := 16
abbrev dzF : Nat := 8
abbrev ofF : Nat := 4
abbrev ufF : Nat := 2
abbrev nxF : Nat := 1

/-- The layout of single (false) and double (true) precision. -/
def sfp (dbl : Bool) : FP := if dbl then ⟨11, 52, 1023, true, true⟩ else ⟨8, 23, 127, true, true⟩

/-- The value of an f register's bits; a single that is not NaN-boxed is the canonical NaN. -/
def fRead (dbl : Bool) (b : Nat) : Val :=
  if dbl then decodeFp (sfp true) b
  else if bits b 32 32 = 2 ^ 32 - 1 then decodeFp (sfp false) (bits b 0 32) else .nan false

/-- The bits of a single in an f register, the canonical NaN where it is not boxed. -/
def fBits (dbl : Bool) (b : Nat) : Nat :=
  if dbl then b else if bits b 32 32 = 2 ^ 32 - 1 then bits b 0 32 else canonNan (sfp false)

/-- A single is NaN-boxed. -/
def box (dbl : Bool) (b : Nat) : Nat := if dbl then b else b % 2 ^ 32 + (2 ^ 32 - 1) * 2 ^ 32

/-- IEEE flags of an operation's own conditions. -/
def ieeeFlags (fl : Nat) : Nat := (if hasBit fl 0 then nvF else 0) + (if hasBit fl 1 then dzF else 0)
where hasBit (n i : Nat) : Bool := bit n i

/-- Rounding control of a RISC-V rounding mode. -/
def rmCtl (rm : Nat) : Rnd := ⟨if rm = 4 then 5 else rm, false, 0, 0⟩

/-- A result in an f register's bits, rounded once, with its fflags; tininess is detected after rounding. -/
def fRound (dbl : Bool) (rm : Nat) (v : Val) : Nat × Nat :=
  let f := sfp dbl
  match v with
  | .nan _ => (box dbl (canonNan f), 0)
  | .inf n => (box dbl (packInf f n), 0)
  | .fin n m e =>
    let r := roundFp (if dbl then 0 else 1) f (rmCtl rm) false n m e
    let ofl := bit r.flags 2
    let inex := bit r.flags 5
    let tiny := m != 0 && inex && (let (q, _) := roundGrid (rmCtl rm) n m e ((Nat.log2 m : Int) + e - f.mbits)
      cmpMag q ((Nat.log2 m : Int) + e - f.mbits) 1 (1 - f.bias) == .lt)
    (box dbl r.bits, (if ofl then ofF else 0) + (if tiny then ufF else 0) + (if inex then nxF else 0))

/-- An operation's exact result rounded, its own flags and those of signalling operands added. -/
def fDone (dbl : Bool) (rm : Nat) (snan : Bool) (x : Val × Nat) : Nat × Nat :=
  let (b, fl) := fRound dbl rm x.1
  (b, fl ||| ieeeFlags x.2 ||| (if snan then nvF else 0))

/-- a + b or a − b. -/
def fAdd (dbl sub : Bool) (rm a b : Nat) : Nat × Nat :=
  let x := fRead dbl a
  let y := fRead dbl b
  fDone dbl rm (x.isSnan || y.isSnan) (addVal x (if sub then y.negate else y) (rm == 2))

/-- a × b. -/
def fMul (dbl : Bool) (rm a b : Nat) : Nat × Nat :=
  let x := fRead dbl a
  let y := fRead dbl b
  fDone dbl rm (x.isSnan || y.isSnan) (mulVal x y)

/-- a / b. -/
def fDiv (dbl : Bool) (rm a b : Nat) : Nat × Nat :=
  let x := fRead dbl a
  let y := fRead dbl b
  fDone dbl rm (x.isSnan || y.isSnan) (divVal x y)

/-- √a. -/
def fSqrt (dbl : Bool) (rm a : Nat) : Nat × Nat :=
  let x := fRead dbl a
  fDone dbl rm x.isSnan (sqrtVal x)

/-- ±(a × b) ± c, rounded once. -/
def fFma (dbl negP negC : Bool) (rm a b c : Nat) : Nat × Nat :=
  let x := fRead dbl a
  let y := fRead dbl b
  let z := fRead dbl c
  let (p, fp) := mulVal x y
  let (v, fv) := addVal (if negP then p.negate else p) (if negC then z.negate else z) (rm == 2)
  fDone dbl rm (x.isSnan || y.isSnan || z.isSnan) (v, fp ||| fv)

/-- FMIN and FMAX: a NaN gives the other operand, −0 lies below +0. -/
def fMinMax (dbl greater : Bool) (a b : Nat) : Nat × Nat :=
  let x := fRead dbl a
  let y := fRead dbl b
  let fl := if x.isSnan || y.isSnan then nvF else 0
  let pick := fun (n : Nat) => box dbl (fBits dbl n)
  if x.isNan && y.isNan then (box dbl (canonNan (sfp dbl)), fl)
  else if x.isNan then (pick b, fl) else if y.isNan then (pick a, fl)
  else if (ordVal true x y == .lt) == greater then (pick b, fl) else (pick a, fl)

/-- FEQ (0), FLT (1), FLE (2). -/
def fCmp (dbl : Bool) (op a b : Nat) : Nat × Nat :=
  let x := fRead dbl a
  let y := fRead dbl b
  if x.isNan || y.isNan then (0, if op != 0 || x.isSnan || y.isSnan then nvF else 0)
  else
    let o := ordVal false x y
    (b2n (match op with
      | 0 => o == .eq
      | 1 => o == .lt
      | _ => o != .gt), 0)

/-- FCLASS. -/
def fClass (dbl : Bool) (a : Nat) : Nat :=
  let f := sfp dbl
  let b := fBits dbl a
  match decodeFp f b with
  | .nan s => 2 ^ (if s then 8 else 9)
  | .inf n => 2 ^ (if n then 0 else 7)
  | .fin n m _ =>
    if m = 0 then 2 ^ (if n then 3 else 4)
    else if isSubnormal f b then 2 ^ (if n then 2 else 5)
    else 2 ^ (if n then 1 else 6)

/-- Sign injection: 0 copy, 1 negated, 2 exclusive or. -/
def fSgnj (dbl : Bool) (op a b : Nat) : Nat :=
  let w := if dbl then 63 else 31
  let x := fBits dbl a
  let y := fBits dbl b
  let sgn := match op with
    | 0 => bit y w
    | 1 => !bit y w
    | _ => bit x w != bit y w
  box dbl (putBit x w sgn)

/-- A floating-point value as an integer of w bits, signed or not, with fflags. -/
def fToInt (dbl : Bool) (w : Nat) (signed : Bool) (rm a : Nat) : Int × Nat :=
  let lo : Int := if signed then -(2 ^ (w - 1) : Nat) else 0
  let hi : Int := if signed then (2 ^ (w - 1) : Nat) - 1 else (2 ^ w : Nat) - 1
  match fRead dbl a with
  | .nan _ => (hi, nvF)
  | .inf n => (if n then lo else hi, nvF)
  | .fin n m e =>
    let (q, inex) := roundGrid (rmCtl rm) n m e 0
    let i : Int := if n then -(q : Int) else q
    if i < lo then (lo, nvF) else if hi < i then (hi, nvF) else (i, if inex then nxF else 0)

/-- An integer as a floating-point value. -/
def fOfInt (dbl : Bool) (rm : Nat) (i : Int) : Nat × Nat := fRound dbl rm (.fin (decide (i < 0)) i.natAbs 0)

/-- A value changed between single and double. -/
def fCvt (toDbl : Bool) (rm a : Nat) : Nat × Nat :=
  let x := fRead (!toDbl) a
  fDone toDbl rm x.isSnan (x, 0)

end Sys2Proof.Machine
end

