-- ==== Sys2Proof/Machine/VecFp.lean ====
section
/-! DEFINITION. Floating point in vector registers (R188 to R191), VCVT (R108), tangent lanes (R227 to R229). -/

namespace Sys2Proof.Machine
open Sys2Proof

/-- The rounding mode VRM selects in an item's epoch (R188). -/
def RC.vMode (k : RC) : Nat :=
  let m := bits k.r.vrm 0 3
  if m = 7 then cfgFld k.it R.TIL_NUM_CTL_RND (tix k.tile) else m

/-- The rounding control of SR index offset e (R188, R189). -/
def RC.rnd (k : RC) (e : Nat) : Rnd :=
  let p := k.tile
  let mode := k.vMode
  let r := bits k.r.vrm 5 5
  { mode := mode, ovf := ovfMode k.it p (bits k.r.vrm 3 2), r := if r = 0 then cfgFld k.it R.TIL_NUM_CTL_SR_BITS (tix p) else r
    word := if mode = 4 then genWord (cfgFld k.it R.TIL_SR_SEED_SEED (tix p)) k.r.vtid ((k.r.vsrbase + e) % 2 ^ 48) k.r.vstep else 0 }

/-- Round down is in force: the sign of an exact zero sum (R93). -/
def RC.rdn (k : RC) : Bool := k.vMode == 2

/-- Issue steps of VFDIV and VFSQRT (Table 7-12). -/
def divCost (ew : Nat) : Nat := match ew with
  | 2 => 4
  | 3 => 8
  | _ => 2

/-- Results with their flags and flush counts written to elements of vd. -/
def RC.put (k : RC) (vd w : Nat) (res : List (Nat × Res × Bool)) (s : State) (cost : Nat) : Step' :=
  let fl := orFlags (res.map (·.2.1.flags))
  let n := (res.map (·.2.1.flush)).sum
  .next s ((k.r.setEls vd w (res.map fun x => (x.1, x.2.1.bits, x.2.2))).addFlags fl n false) cost

/-- An exact value rounded to an element: flags of the reads and of the operation added. -/
def RC.round (k : RC) (fmt e : Nat) (v : Val) (fl flush : Nat) : Res :=
  let r := encodeVal fmt (k.rnd e) true v
  ⟨r.bits, r.flags ||| fl, r.flush + flush⟩

/-- One element of a floating-point instruction: an exact value from its sources, rounded once (R99, R188). -/
def RC.fp2 (k : RC) (f : VFields) (op : Val → Val → Val × Nat) (e : Nat) : Res :=
  let fmt := fpEwFmt f.ew
  let w := fpEwBits f.ew
  let (a, fa, na) := readElem fmt (k.r.el f.s1 w e)
  let (b, fb, nb) := readElem fmt (k.r.el f.s2 w e)
  let (v, fl) := op a b
  k.round fmt e v (fl ||| fa ||| fb) (na + nb)

/-- A floating-point instruction of two sources. -/
def State.vFp (s : State) (c f5 : Nat) (f : VFields) (cost : Nat) (op : RC → Val → Val → Val × Nat) : State :=
  let w := fpEwBits f.ew
  s.osierW c custom2 f5 w f (fun _ => false) fun k s =>
    let pz := k.r.gpp f.pg
    k.put f.vd w ((k.actives f).map fun e => (e, k.fp2 f (op k) e, k.r.elp f.s1 w e || k.r.elp f.s2 w e || pz)) s cost

/-- A multiply-add: vd ± vs1 × vs2, rounded once (R190). -/
def State.vFma (s : State) (c f5 : Nat) (f : VFields) (negProduct : Bool) : State :=
  let w := fpEwBits f.ew
  let fmt := fpEwFmt f.ew
  s.osierW c custom2 f5 w f (fun _ => false) fun k s =>
    let pz := k.r.gpp f.pg
    k.put f.vd w ((k.actives f).map fun e =>
      let (a, fa, na) := readElem fmt (k.r.el f.s1 w e)
      let (b, fb, nb) := readElem fmt (k.r.el f.s2 w e)
      let (d, fd, nd) := readElem fmt (k.r.el f.vd w e)
      let (p, fp) := mulVal a b
      let (v, fv) := addVal (if negProduct then p.negate else p) d k.rdn
      (e, k.round fmt e v (fa ||| fb ||| fd ||| fp ||| fv) (na + nb + nd), k.r.elp f.s1 w e || k.r.elp f.s2 w e || k.r.elp f.vd w e || pz)) s 1

/-- The greater or the smaller of two values (R95). -/
def pickVal (greater : Bool) (a b : Val) : Val × Nat :=
  if a.isNan || b.isNan then (.nan false, 0)
  else if (ordVal true a b == .lt) == greater then (b, 0) else (a, 0)

/-- VFADD (R188). -/
def execVfadd (core : Nat) (f : VFields) (s : State) : Host.Outcome State Fault Refusal := .next (s.vFp core 0x00 f 1 fun k a b => addVal a b k.rdn)
/-- VFSUB (R188). -/
def execVfsub (core : Nat) (f : VFields) (s : State) : Host.Outcome State Fault Refusal := .next (s.vFp core 0x01 f 1 fun k a b => addVal a b.negate k.rdn)
/-- VFMUL (R188). -/
def execVfmul (core : Nat) (f : VFields) (s : State) : Host.Outcome State Fault Refusal := .next (s.vFp core 0x02 f 1 fun _ a b => mulVal a b)
/-- VFDIV (R188). -/
def execVfdiv (core : Nat) (f : VFields) (s : State) : Host.Outcome State Fault Refusal := .next (s.vFp core 0x03 f (divCost f.ew) fun _ a b => divVal a b)
/-- VFMADD (R190). -/
def execVfmadd (core : Nat) (f : VFields) (s : State) : Host.Outcome State Fault Refusal := .next (s.vFma core 0x04 f false)
/-- VFNMSUB (R190). -/
def execVfnmsub (core : Nat) (f : VFields) (s : State) : Host.Outcome State Fault Refusal := .next (s.vFma core 0x05 f true)
/-- VFMIN (R95, R190). -/
def execVfmin (core : Nat) (f : VFields) (s : State) : Host.Outcome State Fault Refusal := .next (s.vFp core 0x06 f 1 fun _ a b => pickVal false a b)
/-- VFMAX (R95, R190). -/
def execVfmax (core : Nat) (f : VFields) (s : State) : Host.Outcome State Fault Refusal := .next (s.vFp core 0x07 f 1 fun _ a b => pickVal true a b)

/-- VFSQRT (R188). -/
def execVfsqrt (core : Nat) (f : VFields) (s : State) : Host.Outcome State Fault Refusal :=
  let w := fpEwBits f.ew
  let fmt := fpEwFmt f.ew
  .next (s.osierW core custom2 0x08 w f (fun _ => f.s2 != 0) fun k s =>
    let pz := k.r.gpp f.pg
    k.put f.vd w ((k.actives f).map fun e =>
      let (a, fa, na) := readElem fmt (k.r.el f.s1 w e)
      let (v, fl) := sqrtVal a
      (e, k.round fmt e v (fa ||| fl) na, k.r.elp f.s1 w e || pz)) s (divCost f.ew))

/-- Sign injection: the bits of vs1 under a sign made from both; no flag (Table 7-10). -/
def State.vSgn (s : State) (c f5 : Nat) (f : VFields) (sign : Bool → Bool → Bool) : State :=
  let w := fpEwBits f.ew
  s.osierW c custom2 f5 w f (fun _ => false) fun k s =>
    k.intOp f w (fun a b => (a % 2 ^ (w - 1) + b2n (sign (bit a (w - 1)) (bit b (w - 1))) * 2 ^ (w - 1), false)) s

/-- VFSGNJ (Table 7-10). -/
def execVfsgnj (core : Nat) (f : VFields) (s : State) : Host.Outcome State Fault Refusal := .next (s.vSgn core 0x09 f fun _ b => b)
/-- VFSGNJN (Table 7-10). -/
def execVfsgnjn (core : Nat) (f : VFields) (s : State) : Host.Outcome State Fault Refusal := .next (s.vSgn core 0x0A f fun _ b => !b)
/-- VFSGNJX (Table 7-10). -/
def execVfsgnjx (core : Nat) (f : VFields) (s : State) : Host.Outcome State Fault Refusal := .next (s.vSgn core 0x0B f fun a b => a != b)

/-- A floating-point comparison into pd: a NaN is unordered; flags of the reads only (R94, R96). -/
def State.vFpCmp (s : State) (c f5 : Nat) (f : VFields) (op : Ordering → Bool) : State :=
  let w := fpEwBits f.ew
  let fmt := fpEwFmt f.ew
  s.osierW c custom2 f5 w f (fun _ => decide (8 ≤ f.vd)) fun k s =>
    let rd := fun (n e : Nat) => readElem fmt (k.r.el n w e)
    let act := k.actives f
    let fl := orFlags (act.map fun e => (rd f.s1 e).2.1 ||| (rd f.s2 e).2.1)
    let n := (act.map fun e => (rd f.s1 e).2.2 + (rd f.s2 e).2.2).sum
    k.cmpOp f w (fun x y =>
      let a := (readElem fmt x).1
      let b := (readElem fmt y).1
      !a.isNan && !b.isNan && op (ordVal false a b)) fl n s

/-- VFCMPEQ (R96). -/
def execVfcmpeq (core : Nat) (f : VFields) (s : State) : Host.Outcome State Fault Refusal := .next (s.vFpCmp core 0x0C f (· == .eq))
/-- VFCMPLT (R96). -/
def execVfcmplt (core : Nat) (f : VFields) (s : State) : Host.Outcome State Fault Refusal := .next (s.vFpCmp core 0x0D f (· == .lt))
/-- VFCMPLE (R96). -/
def execVfcmple (core : Nat) (f : VFields) (s : State) : Host.Outcome State Fault Refusal := .next (s.vFpCmp core 0x0E f (· != .gt))

/-- VFSPLAT: the low EW bits of f[rs1] (Table 7-10). -/
def execVfsplat (core : Nat) (f : VFields) (s : State) : Host.Outcome State Fault Refusal :=
  let w := fpEwBits f.ew
  .next (s.osierW core custom2 0x0F w f (fun _ => f.s2 != 0) fun k s => k.fill f w (fun _ => k.r.gf f.s1 % 2 ^ w) (fun _ => k.r.gfp f.s1) s)

/-- Format codes VCVT takes (Table 7-10). -/
def cvtFmtOk (fmt : Nat) : Bool := decide (fmt ≤ 5) || fmt == 9 || fmt == 11 || fmt == 12 || fmt == 13

/-- A value written in a format a reed core has, Q15 and Q31 included (R191). -/
def encodeReed (fmt : Nat) (c : Rnd) (fromFloat : Bool) (v : Val) : Res :=
  encodeVal fmt c fromFloat (match fmt with
    | 12 => v.scale 15
    | 13 => v.scale 31
    | _ => v)

/-- VCVT: source S2[4:1], destination the low bits of F5 with EW (R108, R187, R191). -/
def execVcvt (core f5 : Nat) (f : VFields) (s : State) : Host.Outcome State Fault Refusal :=
  let dst := f5 % 4 * 4 + f.ew
  let src := f.s2 / 2
  let ws := fmtBits src
  let wd := fmtBits dst
  .next (s.osierW core custom2 (0x10 + f5 % 4) (max ws wd) f (fun _ => f.s2 % 2 != 0 || !cvtFmtOk src || !cvtFmtOk dst) fun k s =>
    let pz := k.r.gpp f.pg
    k.put f.vd wd ((k.actives f).map fun e =>
      let (v, fl, n) := readElem src (k.r.el f.s1 ws e)
      let r := encodeReed dst (k.rnd e) (fpOf src).isSome v
      (e, ⟨r.bits, r.flags ||| fl, r.flush + n⟩, k.r.elp f.s1 ws e || pz)) s 1)

/-- The register pair a field of VT names (R227). -/
def pairOf (n : Nat) : Nat := n / 2 * 2

/-- A tangent-lane instruction: value and tangent of an element from (a, a′) and (b, b′), whether the value lane uses a, and whether the tangent lane uses the values (R227 to R229). -/
def State.vTan (s : State) (c sub : Nat) (f : VFields) (usesA tanVals : Bool)
    (op : RC → Nat → Nat → Nat → Nat → Nat → Res × Res) : State :=
  let w := fpEwBits f.ew
  let (pd, pa, pb) := (pairOf f.vd, pairOf f.s1, pairOf f.s2)
  s.osierW c custom3 0x1D w f (fun _ => f.vd % 2 * 4 + f.s1 % 2 * 2 + f.s2 % 2 != sub) fun k s =>
    let r := k.r
    let pz := r.gpp f.pg
    let res := (k.actives f).map fun e =>
      let (v, t) := op k e (r.el pa w e) (r.el (pa + 1) w e) (r.el pb w e) (r.el (pb + 1) w e)
      let pv := (usesA && r.elp pa w e) || r.elp pb w e || pz
      let pt := r.elp (pa + 1) w e || r.elp (pb + 1) w e || (tanVals && (r.elp pa w e || r.elp pb w e)) || pz
      (e, v, t, pv, pt)
    let fl := orFlags (res.map fun x => x.2.1.flags ||| x.2.2.1.flags)
    let n := (res.map fun x => x.2.1.flush + x.2.2.1.flush).sum
    let r' := r.setEls pd w (res.map fun x => (x.1, x.2.1.bits, x.2.2.2.1))
    let r' := r'.setEls (pd + 1) w (res.map fun x => (x.1, x.2.2.1.bits, x.2.2.2.2))
    .next s (r'.addFlags fl n false) 1

/-- Values read by a lane, with flags and flush count. -/
def readAll (fmt : Nat) (bs : List Nat) : List Val × Nat × Nat :=
  let rs := bs.map (readElem fmt)
  (rs.map (·.1), orFlags (rs.map (·.2.1)), (rs.map (·.2.2)).sum)

/-- A lane: an exact value of its inputs, rounded once; the first `again` inputs are those the value lane has read and counted. -/
def RC.lane (k : RC) (f : VFields) (e : Nat) (ins : List Nat) (op : List Val → Val × Nat) (again : Nat := 0) : Res :=
  let fmt := fpEwFmt f.ew
  let (vs, fl, n) := readAll fmt ins
  let (v, fo) := op vs
  k.round fmt e v (fl ||| fo) (n - (readAll fmt (ins.take again)).2.2)

/-- The n-th of a list of values. -/
def nth (l : List Val) (n : Nat) : Val := l.getD n (.fin false 0 0)

/-- VTADD (Table 8-4). -/
def execVtadd (core : Nat) (f : VFields) (s : State) : Host.Outcome State Fault Refusal :=
  let add := fun (k : RC) l => addVal (nth l 0) (nth l 1) k.rdn
  .next (s.vTan core 0 f true false fun k e a a' b b' => (k.lane f e [a, b] (add k), k.lane f e [a', b'] (add k)))
/-- VTSUB (Table 8-4). -/
def execVtsub (core : Nat) (f : VFields) (s : State) : Host.Outcome State Fault Refusal :=
  let sub := fun (k : RC) l => addVal (nth l 0) (nth l 1).negate k.rdn
  .next (s.vTan core 1 f true false fun k e a a' b b' => (k.lane f e [a, b] (sub k), k.lane f e [a', b'] (sub k)))
/-- VTMUL: the tangent a′·b + a·b′ exactly, rounded once (Table 8-4). -/
def execVtmul (core : Nat) (f : VFields) (s : State) : Host.Outcome State Fault Refusal :=
  .next (s.vTan core 2 f true true fun k e a a' b b' =>
    (k.lane f e [a, b] fun l => mulVal (nth l 0) (nth l 1),
     k.lane f e [a, b, a', b'] (again := 2) fun l =>
      let (x, fx) := mulVal (nth l 2) (nth l 1)
      let (y, fy) := mulVal (nth l 0) (nth l 3)
      let (v, fv) := addVal x y k.rdn
      (v, fx ||| fy ||| fv)))
/-- VTDIV: the tangent (a′ − q·b′) / b with the rounded quotient, rounded once (Table 8-4). -/
def execVtdiv (core : Nat) (f : VFields) (s : State) : Host.Outcome State Fault Refusal :=
  .next (s.vTan core 3 f true true fun k e a a' b b' =>
    let q := k.lane f e [a, b] fun l => divVal (nth l 0) (nth l 1)
    (q, k.lane f e [q.bits, b, a', b'] (again := 2) fun l =>
      let (x, fx) := mulVal (nth l 0) (nth l 3)
      let (y, fy) := addVal (nth l 2) x.negate k.rdn
      let (v, fv) := divVal y (nth l 1)
      (v, fx ||| fy ||| fv)))
/-- VTCHAIN: the value copied, the tangent b′·a′ (Table 8-4). -/
def execVtchain (core : Nat) (f : VFields) (s : State) : Host.Outcome State Fault Refusal :=
  .next (s.vTan core 4 f false false fun k e _ a' b b' => (⟨b, 0, 0⟩, k.lane f e [b', a'] fun l => mulVal (nth l 0) (nth l 1)))

end Sys2Proof.Machine
end

