-- ==== Sys2Proof/Machine/VecMem.lean ====
section
/-! DEFINITION. Vector loads and stores (R194 to R196), scatter-add into a region (R278). -/

namespace Sys2Proof.Machine
open Sys2Proof

/-- The bytes an access touches: element, first byte, number of bytes. -/
abbrev Touch := Nat × Nat × Nat

/-- Byte ranges of accesses. -/
def touchRanges (ts : List Touch) : List (Nat × Nat) := ts.map fun t => t.2

/-- Fault of an access: cause and address (R167, R194). -/
def State.touchFault (s : State) (k : RC) (right : Nat) (align : Bool) (ts : List Touch) : Option (Nat × Nat) :=
  s.accessFault k right align (touchRanges ts)

/-- Checks common to vector accesses, in this order: poisoned address operands, faults, unmapped memory; then `body` with the far lines there. -/
def State.vecAccess (s : State) (k : RC) (word right : Nat) (align poison : Bool) (ts : List Touch) (body : State → Step') (narrow : Bool := false) : Step' :=
  if ts.isEmpty then .next s k.r 1
  else if poison then .poison s 0x01 word
  else match s.touchFault k right align ts with
    | some (cause, a) => .trap s cause a
    | none =>
      if ts.any fun t => !s.mappedRange t.2.1 t.2.2 then .stop s Code.ADDR_UNMAPPED
      else if right = 0 then (if narrow then s.withNarrow k (touchRanges ts) body else s.withLines k (touchRanges ts) body)
      else if narrow then s.narrowGate k ((rangeLines (touchRanges ts)).filter s.farLine).length body
      else body s

/-- Elements read from memory: value and poison. -/
def State.readEls (s : State) (ts : List Touch) (src : Nat) : List (Nat × Nat × Bool) × State :=
  let (lines, s) := s.fetchLines (touchRanges ts) src
  (ts.map fun t => let (b, p) := fromLines lines t.2.1 t.2.2; (t.1, ofBytes b, p), s)

/-- Addresses of the active elements at a step in bytes. -/
def RC.unit (k : RC) (f : VFields) (n : Nat) (step : Int) : List Touch :=
  (k.actives f).map fun e => (e, wrapInt 64 ((k.r.gx f.s1 : Int) + e * step), n)

/-- Addresses of a gather or scatter: unsigned offsets at width EW. -/
def RC.indexed (k : RC) (f : VFields) (w : Nat) : List Touch :=
  (k.actives f).map fun e => (e, (k.r.gx f.s1 + k.r.el f.s2 w e) % 2 ^ 64, w / 8)

/-- A poisoned offset of an active element, or base (R183); a poisoned predicate only propagates. -/
def RC.indexPoison (k : RC) (f : VFields) (w : Nat) : Bool :=
  k.r.gxp f.s1 || (k.actives f).any fun e => k.r.elp f.s2 w e

/-- A load of elements into vd. -/
def State.vLoad (s : State) (k : RC) (f : VFields) (word w src cost : Nat) (poison : Bool) (ts : List Touch) : Step' :=
  s.vecAccess k word 0 true poison ts (narrow := src == 2) fun s =>
    let (es, s) := s.readEls ts src
    .next s (k.r.setEls f.vd w (es.map fun e => (e.1, e.2.1, e.2.2 || k.r.gpp f.pg))) cost

/-- VLD (R194). -/
def execVld (core : Nat) (f : VFields) (s : State) : Host.Outcome State Fault Refusal :=
  let w := ewBits f.ew
  .next (s.osierW core custom0 0x00 w f (fun _ => f.s2 != 0) fun k s =>
    s.vLoad k f (vword f custom0 0x00) w 0 1 (k.r.gxp f.s1) (k.unit f (w / 8) (w / 8 : Nat)))

/-- VLDS: the stride is signed (R194). -/
def execVlds (core : Nat) (f : VFields) (s : State) : Host.Outcome State Fault Refusal :=
  let w := ewBits f.ew
  .next (s.osierW core custom0 0x01 w f (fun _ => false) fun k s =>
    s.vLoad k f (vword f custom0 0x01) w 0 1 (k.r.gxp f.s1 || k.r.gxp f.s2) (k.unit f (w / 8) (sext 64 (k.r.gx f.s2))))

/-- The source code of a gather or scatter: 8-byte elements travel on the narrow path (R194). -/
def narrowSrc (w : Nat) : Nat := if w = 64 then 2 else 0

/-- VLDG (R194). -/
def execVldg (core : Nat) (f : VFields) (s : State) : Host.Outcome State Fault Refusal :=
  let w := ewBits f.ew
  .next (s.osierW core custom0 0x02 w f (fun _ => false) fun k s =>
    s.vLoad k f (vword f custom0 0x02) w (narrowSrc w) (k.actives f).length (k.indexPoison f w) (k.indexed f w))

/-- Whether an element's access would fault. -/
def State.touchBad (s : State) (k : RC) (t : Touch) : Bool :=
  (s.touchFault k 0 true [t]).isSome || !s.mappedRange t.2.1 t.2.2

/-- VLDFF (R195): the first faulting element after element 0 ends the load and becomes vl. -/
def execVldff (core : Nat) (f : VFields) (s : State) : Host.Outcome State Fault Refusal :=
  let w := ewBits f.ew
  .next (s.osierW core custom0 0x03 w f (fun _ => f.s2 != 0) fun k s =>
    let ts := k.unit f (w / 8) (w / 8 : Nat)
    let word := vword f custom0 0x03
    if k.r.gxp f.s1 ∧ !ts.isEmpty then .poison s 0x01 word
    else match ts.find? fun t => s.touchBad k t with
      | none => s.vLoad k f word w 0 1 false ts
      | some bad =>
        if bad.1 = 0 then s.vLoad k f word w 0 1 false ts
        else
          let k' := { k with r := { k.r with vl := bad.1 } }
          s.vLoad k' f word w 0 1 false (ts.filter fun t => decide (t.1 < bad.1)))

/-- Stores of elements: consecutive elements with the same poison go together. -/
def coalesce : List (Nat × List Byte × Bool) → List (Nat × List Byte × Bool)
  | [] => []
  | (a, b, p) :: t => match coalesce t with
    | (a', b', p') :: r => if a + b.length = a' ∧ p = p' then (a, b ++ b', p) :: r else (a, b, p) :: (a', b', p') :: r
    | [] => [(a, b, p)]

/-- A store of elements of vs3, narrow requests one by one (R266, R269); every check precedes the first store. -/
def State.vStore (s : State) (k : RC) (f : VFields) (word w src cost : Nat) (poison : Bool) (ts : List Touch) : Step' :=
  s.vecAccess k word 1 true poison ts (narrow := src == 2) fun s =>
    if ts.any fun t => s.hitsRegion t.2.1 t.2.2 then .stop s Code.REGION_UNDECLARED
    else
      let parts := ts.map fun t => (t.2.1, toBytes (w / 8) (k.r.el f.vd w t.1), k.r.elp f.vd w t.1 || k.r.gpp f.pg)
      let (s, r) := (if src = 2 then parts else coalesce parts).foldl (fun (acc : State × Reed) x => acc.1.coreStore k acc.2 x.1 x.2.1 x.2.2 src) (s, k.r)
      match (if hOptstep k.it.desc then parts.find? (·.2.2) else none) with
      | some _ => .poison (s.setReed k.c r) 0x07 word
      | none => .next s r cost

/-- VST (R194). -/
def execVst (core : Nat) (f : VFields) (s : State) : Host.Outcome State Fault Refusal :=
  let w := ewBits f.ew
  .next (s.osierW core custom0 0x04 w f (fun _ => f.s2 != 0) fun k s =>
    s.vStore k f (vword f custom0 0x04) w 0 1 (k.r.gxp f.s1) (k.unit f (w / 8) (w / 8 : Nat)))

/-- VSTS (R194). -/
def execVsts (core : Nat) (f : VFields) (s : State) : Host.Outcome State Fault Refusal :=
  let w := ewBits f.ew
  .next (s.osierW core custom0 0x05 w f (fun _ => false) fun k s =>
    s.vStore k f (vword f custom0 0x05) w 0 1 (k.r.gxp f.s1 || k.r.gxp f.s2) (k.unit f (w / 8) (sext 64 (k.r.gx f.s2))))

/-- VSTG (R194). -/
def execVstg (core : Nat) (f : VFields) (s : State) : Host.Outcome State Fault Refusal :=
  let w := ewBits f.ew
  .next (s.osierW core custom0 0x06 w f (fun _ => false) fun k s =>
    s.vStore k f (vword f custom0 0x06) w (narrowSrc w) (k.actives f).length (k.indexPoison f w) (k.indexed f w))

/-- Contributions of a core to region elements (R278, R279): flags and flushes go to the core, and the flags to its item. -/
def State.contribute (s : State) (k : RC) (fmt : Nat) (cs : List (Nat × Nat × Bool)) : State × Marks :=
  cs.foldl (fun (acc : State × Marks) c =>
    match acc.1.regionAt c.1 with
    | none => acc
    | some (r, i) =>
      let (s, m) := acc.1.rgnAdd k.it.cfg r i fmt c.2.1 c.2.2
      (s.addMarks k.id ⟨m.flags, 0⟩, ⟨acc.2.flags ||| m.flags, acc.2.flush + m.flush⟩)) (s, ⟨0, 0⟩)

/-- VSTRA (R194, R278). DESIGN CHOICE (log 135): a contribution is no store of R171, and leaves the data cache as it was. -/
def execVstra (core : Nat) (f : VFields) (s : State) : Host.Outcome State Fault Refusal :=
  let w := fpEwBits f.ew
  .next (s.osierW core custom0 0x07 w f (fun _ => decide (f.ew < 2)) fun k s =>
    let ts := k.indexed f w
    s.vecAccess k (vword f custom0 0x07) 1 true (k.indexPoison f w) ts fun s =>
      if ts.any fun t => (s.regionAt t.2.1).isNone then .stop s Code.REGION_UNDECLARED
      else
        let cs := ts.map fun t => (t.2.1, k.r.el f.vd w t.1, k.r.elp f.vd w t.1 || k.r.gpp f.pg)
        let (s, m) := s.contribute k (fpEwFmt f.ew) cs
        let s := (ts.filterMap fun t => s.regionAt t.2.1).foldl (fun s e => s.noteWrite k.id (e.1.addr e.2, 16)) s
        .next s (k.r.addFlags m.flags m.flush false) ts.length)

/-- Source format of the VLDX operations in the order of Table 7-8. -/
def vldxFmt (i : Nat) : Nat := match i with
  | 0 => 4
  | 1 => 5
  | 2 => 6
  | 3 => 7
  | 4 => 8
  | _ => 10

/-- FP6 and FP4 need a scale, INT4 allows none (R196). -/
def vldxBad (fmt s2 : Nat) : Bool :=
  match fmt with
  | 6 => s2 == 0
  | 7 => s2 == 0
  | 8 => s2 == 0
  | 10 => s2 != 0
  | _ => false

/-- VLDX: packed elements, converted, under one scale byte where rs2 is given (R196). -/
def execVldx (core : Nat) (fmt : Nat) (f : VFields) (s : State) : Host.Outcome State Fault Refusal :=
  let src := vldxFmt fmt
  let b := fmtBits src
  let w := fpEwBits f.ew
  .next (s.osierW core custom0 (0x08 + fmt) w f (fun _ => vldxBad src f.s2) fun k s =>
    let base := k.r.gx f.s1
    let els : List Touch := (k.actives f).map fun e => (e, (base + b * e / 8) % 2 ^ 64, (b * e % 8 + b + 7) / 8)
    let sc : List Touch := if f.s2 = 0 ∨ els.isEmpty then [] else [(0, k.r.gx f.s2, 1)]
    s.vecAccess k (vword f custom0 (0x08 + fmt)) 0 false (k.r.gxp f.s1 || k.r.gxp f.s2) (els ++ sc) fun s =>
      let (lines, s) := s.fetchLines (touchRanges (els ++ sc)) 0
      let (scale, sp) : Nat × Bool := match sc with
        | [] => (127, false)
        | t :: _ => let (x, p) := fromLines lines t.2.1 1; (ofBytes x, p)
      let res := els.map fun t =>
        let (x, p) := fromLines lines t.2.1 t.2.2
        let (v, fl, n) := readElem src (bits (ofBytes x) (b * t.1 % 8) b)
        let v := if f.s2 = 0 then v else scaled scale v
        (t.1, k.round (fpEwFmt f.ew) t.1 v fl n, p || sp || k.r.gpp f.pg)
      k.put f.vd w res s 1)

end Sys2Proof.Machine
end

