-- ==== Sys2Proof/Machine/ReedScalar.lean ====
section
/-! DEFINITION. Scalar instructions of a reed core: RV64I with M, F, D, Zicsr and Zifencei in U mode (Table 7-1, R167 to R171, R177, R181, R183), and the Osier CSRs (Table 7-14). -/

namespace Sys2Proof.Machine
open Sys2Proof

/-- The fields of a 32-bit RISC-V word. -/
structure SW where
  w : Nat
  deriving DecidableEq, Repr

/-- OPCODE. -/
def SW.op (i : SW) : Nat := bits i.w 0 7
/-- rd. -/
def SW.rd (i : SW) : Nat := bits i.w 7 5
/-- funct3. -/
def SW.f3 (i : SW) : Nat := bits i.w 12 3
/-- rs1. -/
def SW.rs1 (i : SW) : Nat := bits i.w 15 5
/-- rs2. -/
def SW.rs2 (i : SW) : Nat := bits i.w 20 5
/-- funct7. -/
def SW.f7 (i : SW) : Nat := bits i.w 25 7
/-- I immediate. -/
def SW.immI (i : SW) : Int := sext 12 (bits i.w 20 12)
/-- S immediate. -/
def SW.immS (i : SW) : Int := sext 12 (bits i.w 7 5 + bits i.w 25 7 * 32)
/-- B immediate. -/
def SW.immB (i : SW) : Int := sext 13 (bits i.w 8 4 * 2 + bits i.w 25 6 * 32 + bits i.w 7 1 * 2048 + bits i.w 31 1 * 4096)
/-- U immediate. -/
def SW.immU (i : SW) : Int := sext 32 (bits i.w 12 20 * 4096)
/-- J immediate. -/
def SW.immJ (i : SW) : Int := sext 21 (bits i.w 21 10 * 2 + bits i.w 20 1 * 2048 + bits i.w 12 8 * 4096 + bits i.w 31 1 * 2 ^ 20)

/-- Illegal instruction: TVAL is the word. -/
def SW.illegal (i : SW) (s : State) : Step' := .trap s 2 i.w

/-- An integer result. -/
def RC.setX (k : RC) (rd : Nat) (v : Int) (poison : Bool) (s : State) : Step' := .next s (k.r.sx rd (wrapInt 64 v) poison) 1

/-- Signed quotient and remainder as RISC-V M defines them, at width w. -/
def divS (w : Nat) (a b : Int) : Int × Int :=
  if b = 0 then (-1, a)
  else if a = -(2 ^ (w - 1) : Nat) ∧ b = -1 then (a, 0)
  else (Int.tdiv a b, Int.tmod a b)

/-- Unsigned quotient and remainder. -/
def divU (w a b : Nat) : Nat × Nat := if b = 0 then (2 ^ w - 1, a) else (a / b, a % b)

/-- OP and OP-IMM at width w: funct3, the alternative of funct7 bit 5, operands. -/
def aluOp (w f3 : Nat) (alt : Bool) (a b : Nat) : Int :=
  match f3 with
  | 0 => if alt then sext w a - sext w b else sext w a + sext w b
  | 1 => ((a * 2 ^ (b % w) % 2 ^ w : Nat) : Int)
  | 2 => b2n (decide (sext w a < sext w b))
  | 3 => b2n (decide (a % 2 ^ w < b % 2 ^ w))
  | 4 => ((a ^^^ b : Nat) : Int)
  | 5 => if alt then sext w a / (2 ^ (b % w) : Nat) else ((a % 2 ^ w / 2 ^ (b % w) : Nat) : Int)
  | 6 => ((a ||| b : Nat) : Int)
  | _ => ((a &&& b : Nat) : Int)

/-- The M extension at width w. -/
def mulOp (w f3 a b : Nat) : Int :=
  match f3 with
  | 0 => sext w a * sext w b
  | 1 => sext w a * sext w b / (2 ^ w : Nat)
  | 2 => sext w a * (b : Int) / (2 ^ w : Nat)
  | 3 => ((a * b / 2 ^ w : Nat) : Int)
  | 4 => (divS w (sext w a) (sext w b)).1
  | 5 => ((divU w (a % 2 ^ w) (b % 2 ^ w)).1 : Nat)
  | 6 => (divS w (sext w a) (sext w b)).2
  | _ => ((divU w (a % 2 ^ w) (b % 2 ^ w)).2 : Nat)

/-- A 32-bit result sign-extended. -/
def sx32 (v : Int) : Int := sext 32 (wrapInt 32 v)

/-- LUI, AUIPC, OP-IMM, OP, OP-IMM-32 and OP-32. -/
def RC.alu (k : RC) (i : SW) (s : State) : Step' :=
  let r := k.r
  let a := r.gx i.rs1
  let b := r.gx i.rs2
  let pa := r.gxp i.rs1
  let pb := r.gxp i.rs2
  match i.op with
  | 0x37 => k.setX i.rd i.immU false s
  | 0x17 => k.setX i.rd ((r.pc : Int) + i.immU) false s
  | 0x13 =>
    let hi := bits i.w 26 6
    if (i.f3 = 1 ∧ hi ≠ 0) ∨ (i.f3 = 5 ∧ hi ≠ 0 ∧ hi ≠ 0x10) then i.illegal s
    else k.setX i.rd (aluOp 64 i.f3 (i.f3 == 5 && hi == 0x10) a (wrapInt 64 i.immI)) pa s
  | 0x1B =>
    if (i.f3 = 0) ∨ (i.f3 = 1 ∧ i.f7 = 0) ∨ (i.f3 = 5 ∧ (i.f7 = 0 ∨ i.f7 = 0x20)) then
      k.setX i.rd (sx32 (aluOp 32 i.f3 (i.f3 == 5 && i.f7 == 0x20) (a % 2 ^ 32) (wrapInt 32 i.immI))) pa s
    else i.illegal s
  | 0x33 =>
    if i.f7 = 1 then k.setX i.rd (mulOp 64 i.f3 a b) (pa || pb) s
    else if i.f7 = 0 ∨ (i.f7 = 0x20 ∧ (i.f3 = 0 ∨ i.f3 = 5)) then k.setX i.rd (aluOp 64 i.f3 (i.f7 == 0x20) a b) (pa || pb) s
    else i.illegal s
  | _ =>
    if i.f7 = 1 ∧ i.f3 ≠ 1 ∧ i.f3 ≠ 2 ∧ i.f3 ≠ 3 then k.setX i.rd (sx32 (mulOp 32 i.f3 (a % 2 ^ 32) (b % 2 ^ 32))) (pa || pb) s
    else if (i.f7 = 0 ∧ (i.f3 = 0 ∨ i.f3 = 1 ∨ i.f3 = 5)) ∨ (i.f7 = 0x20 ∧ (i.f3 = 0 ∨ i.f3 = 5)) then
      k.setX i.rd (sx32 (aluOp 32 i.f3 (i.f7 == 0x20) (a % 2 ^ 32) (b % 2 ^ 32))) (pa || pb) s
    else i.illegal s

/-- A jump to a target, which must be aligned to 4 bytes. -/
def gotoPc (r : Reed) (t : Nat) (s : State) : Step' := if t % 4 = 0 then .jump s r t else .trap s 0 t

/-- JAL, JALR and branches: a poisoned condition or target bites (R183). -/
def RC.branch (k : RC) (i : SW) (s : State) : Step' :=
  let r := k.r
  let link := r.sx i.rd (r.pc + 4) false
  match i.op with
  | 0x6F => gotoPc link (wrapInt 64 ((r.pc : Int) + i.immJ)) s
  | 0x67 =>
    if i.f3 ≠ 0 then i.illegal s
    else if r.gxp i.rs1 then .poison s 0x01 i.w
    else gotoPc link (wrapInt 64 ((r.gx i.rs1 : Int) + i.immI) / 2 * 2) s
  | _ =>
    let a := r.gx i.rs1
    let b := r.gx i.rs2
    if i.f3 = 2 ∨ i.f3 = 3 then i.illegal s
    else if r.gxp i.rs1 || r.gxp i.rs2 then .poison s 0x02 i.w
    else
      let taken := match i.f3 with
        | 0 => a == b
        | 1 => a != b
        | 4 => decide (sext 64 a < sext 64 b)
        | 5 => decide (sext 64 b ≤ sext 64 a)
        | 6 => decide (a < b)
        | _ => decide (b ≤ a)
      if taken then gotoPc r (wrapInt 64 ((r.pc : Int) + i.immB)) s else .next s r 1

/-- A scalar load's bytes through the data cache of 256 lines (R171, Table 7-1). -/
def State.cachedLoad (s : State) (r : Reed) (a n : Nat) : Nat × Bool × State × Reed :=
  let base := a / 64 * 64
  let take := fun (d : List Byte) (p : Nat) =>
    (fieldAt d (a % 64) n, (List.range 8).any fun w => bit p w && decide (a % 64 < 8 * w + 8) && decide (8 * w < a % 64 + n))
  match r.dcache.find? fun e => e.1 == base with
  | some (_, d, p) => let (v, q) := take d p; (v, q, s, r)
  | none =>
    let (v, s) := s.readLine base 0
    let (x, q) := take v.data v.poison
    (x, q, s, { r with dcache := ((base, v.data, v.poison) :: r.dcache).take 256 })

/-- A scalar load of n bytes; `write` places the value and its poison. -/
def RC.load (k : RC) (i : SW) (n : Nat) (write : Reed → Nat → Bool → Reed) (s : State) : Step' :=
  let a := wrapInt 64 ((k.r.gx i.rs1 : Int) + i.immI)
  if k.r.gxp i.rs1 then .poison s 0x01 i.w
  else match s.accessFault k 0 true [(a, n)] with
    | some (cause, t) => .trap s cause t
    | none =>
      if !s.mappedRange a n then .stop s Code.ADDR_UNMAPPED
      else if (k.r.dcache.any fun e => e.1 == a / 64 * 64) then
        let (v, p, s, r) := s.cachedLoad k.r a n
        .next s (write r v p) 1
      else s.withLines k [(a, n)] fun s =>
        let (v, p, s, r) := s.cachedLoad k.r a n
        .next s (write r v p) 1

/-- A scalar store of n bytes. -/
def RC.store (k : RC) (i : SW) (n v : Nat) (poison : Bool) (s : State) : Step' :=
  let a := wrapInt 64 ((k.r.gx i.rs1 : Int) + i.immS)
  if k.r.gxp i.rs1 then .poison s 0x01 i.w
  else match s.accessFault k 1 true [(a, n)] with
    | some (cause, t) => .trap s cause t
    | none =>
      if !s.mappedRange a n then .stop s Code.ADDR_UNMAPPED
      else if s.hitsRegion a n then .stop s Code.REGION_UNDECLARED
      else
        let (s, r) := s.coreStore k k.r a (toBytes n v) poison 0
        if hOptstep k.it.desc && poison then .poison (s.setReed k.c r) 0x07 i.w else .next s r 1

/-- LOAD, STORE, LOAD-FP and STORE-FP. -/
def RC.memory (k : RC) (i : SW) (s : State) : Step' :=
  match i.op with
  | 0x03 =>
    let n := 2 ^ (i.f3 % 4)
    if i.f3 = 7 then i.illegal s
    else k.load i n (fun r v p => r.sx i.rd (if i.f3 < 4 then wrapInt 64 (sext (8 * n) v) else v) p) s
  | 0x23 => if 4 ≤ i.f3 then i.illegal s else k.store i (2 ^ i.f3) (k.r.gx i.rs2) (k.r.gxp i.rs2) s
  | 0x07 => if i.f3 = 2 then k.load i 4 (fun r v p => r.sf i.rd (box false v) p) s
    else if i.f3 = 3 then k.load i 8 (fun r v p => r.sf i.rd v p) s else i.illegal s
  | _ => if i.f3 = 2 then k.store i 4 (k.r.gf i.rs2) (k.r.gfp i.rs2) s
    else if i.f3 = 3 then k.store i 8 (k.r.gf i.rs2) (k.r.gfp i.rs2) s else i.illegal s

/-- A CSR's value; none where it does not exist in U mode (R169, Table 7-14). -/
def State.csrRead (s : State) (k : RC) (a : Nat) : Option Nat :=
  let r := k.r
  match a with
  | 0x001 => some (bits r.fcsr 0 5)
  | 0x002 => some (bits r.fcsr 5 3)
  | 0x003 => some (bits r.fcsr 0 8)
  | 0xC00 => some (r.steps % 2 ^ 64)
  | 0xC01 => some s.nowNs
  | 0xC02 => some (r.steps % 2 ^ 64)
  | 0x800 => some (bits r.vflags 0 9)
  | 0x801 => some (bits r.vrm 0 11)
  | 0x802 => some (bits r.vfxrm 0 2)
  | 0x803 => some (bits r.vtid 0 32)
  | 0x804 => some (bits r.vstep 0 32)
  | 0x805 => some (bits r.vsrbase 0 48)
  | 0x806 => some (bits r.vflush 0 32)
  | 0xCC0 => some (bits r.vl 0 7)
  | 0xCC1 => some 64
  | 0xCC2 => some (r.inst % 8192 + r.count % 8192 * 65536)
  | 0xCC3 => some (k.tile + s.fld R.TIL_ID_LOGICAL (tix k.tile) % 1024 * 1024 + coreNo k.c * 2 ^ 20)
  | _ => none

/-- VRM written field by field: a reserved value leaves its field (Table 7-14). -/
def vrmWrite (old v : Nat) : Nat :=
  let rnd := if rndOk (bits v 0 3) then bits v 0 3 else bits old 0 3
  let ovf := if bits v 3 2 = 3 then bits old 3 2 else bits v 3 2
  let sr := if srBitsOk (bits v 5 5) then bits v 5 5 else bits old 5 5
  rnd + 8 * ovf + 32 * sr + 1024 * bits v 10 1

/-- A CSR written. -/
def Reed.csrWrite (r : Reed) (a v : Nat) : Reed :=
  match a with
  | 0x001 => { r with fcsr := putBits r.fcsr 0 5 v }
  | 0x002 => { r with fcsr := putBits r.fcsr 5 3 v }
  | 0x003 => { r with fcsr := v % 256 }
  | 0x800 => { r with vflags := v &&& 0x17F }
  | 0x801 => { r with vrm := vrmWrite r.vrm v }
  | 0x802 => { r with vfxrm := v % 4 }
  | 0x803 => { r with vtid := v % 2 ^ 32 }
  | 0x804 => { r with vstep := v % 2 ^ 32 }
  | 0x805 => { r with vsrbase := v % 2 ^ 48 }
  | 0x806 => { r with vflush := v % 2 ^ 32 }
  | _ => r

/-- CSRRW, CSRRS, CSRRC and their immediate forms; a poisoned value written bites (R183). -/
def RC.csr (k : RC) (i : SW) (s : State) : Step' :=
  let a := bits i.w 20 12
  let imm := decide (4 < i.f3)
  let writes := i.f3 % 4 == 1 || i.rs1 != 0
  match s.csrRead k a with
  | none => i.illegal s
  | some old =>
    if writes && a / 1024 == 3 then i.illegal s
    else if writes && !imm && k.r.gxp i.rs1 then .poison s 0x03 i.w
    else
      let src := if imm then i.rs1 else k.r.gx i.rs1
      let new := match i.f3 % 4 with
        | 1 => src
        | 2 => old ||| src
        | _ => old - (old &&& src)
      let r := if writes then k.r.csrWrite a new else k.r
      .next s (r.sx i.rd old false) 1

/-- SYSTEM: ECALL, EBREAK, WFI, the CSR instructions (R177); the rest needs a privilege a kernel has not. -/
def RC.system (k : RC) (i : SW) (s : State) : Step' :=
  if i.f3 = 0 then
    if i.w = 0x00000073 then k.ecall s
    else if i.w = 0x00100073 then .trap s 3 k.r.pc
    else if i.w = 0x10500073 then .next s k.r 1
    else i.illegal s
  else if i.f3 = 4 then i.illegal s
  else k.csr i s

/-- The rounding mode of an instruction; none where it is reserved. -/
def RC.rm (k : RC) (i : SW) : Option Nat :=
  let m := if i.f3 = 7 then bits k.r.fcsr 5 3 else i.f3
  if m < 5 then some m else none

/-- An f result with its fflags. -/
def RC.setF (k : RC) (i : SW) (x : Nat × Nat) (poison : Bool) (s : State) : Step' :=
  .next s ({ k.r.sf i.rd x.1 poison with fcsr := k.r.fcsr ||| x.2 }) 1

/-- An x result with fflags. -/
def RC.setXF (k : RC) (i : SW) (v : Int) (fl : Nat) (poison : Bool) (s : State) : Step' :=
  .next s ({ k.r.sx i.rd (wrapInt 64 v) poison with fcsr := k.r.fcsr ||| fl }) 1

/-- An instruction that needs a rounding mode. -/
def RC.withRm (k : RC) (i : SW) (s : State) (body : Nat → Step') : Step' :=
  match k.rm i with
  | some m => body m
  | none => i.illegal s

/-- OP-FP. -/
def RC.opFp (k : RC) (i : SW) (s : State) : Step' :=
  let r := k.r
  let dbl := i.f7 % 4 == 1
  let a := r.gf i.rs1
  let b := r.gf i.rs2
  let pa := r.gfp i.rs1
  let pb := pa || r.gfp i.rs2
  if 2 ≤ i.f7 % 4 then i.illegal s else
  match i.f7 / 4 with
  | 0x00 => k.withRm i s fun m => k.setF i (fAdd dbl false m a b) pb s
  | 0x01 => k.withRm i s fun m => k.setF i (fAdd dbl true m a b) pb s
  | 0x02 => k.withRm i s fun m => k.setF i (fMul dbl m a b) pb s
  | 0x03 => k.withRm i s fun m => k.setF i (fDiv dbl m a b) pb s
  | 0x0B => if i.rs2 = 0 then k.withRm i s fun m => k.setF i (fSqrt dbl m a) pa s else i.illegal s
  | 0x04 => if i.f3 < 3 then k.setF i (fSgnj dbl i.f3 a b, 0) pb s else i.illegal s
  | 0x05 => if i.f3 < 2 then k.setF i (fMinMax dbl (i.f3 == 1) a b) pb s else i.illegal s
  | 0x08 =>
    if (dbl ∧ i.rs2 = 0) ∨ (!dbl ∧ i.rs2 = 1) then k.withRm i s fun m => k.setF i (fCvt dbl m a) pa s else i.illegal s
  | 0x14 =>
    if i.f3 < 3 then
      let (v, fl) := fCmp dbl (2 - i.f3) a b
      k.setXF i v fl pb s
    else i.illegal s
  | 0x18 =>
    if i.rs2 < 4 then k.withRm i s fun m =>
      let (v, fl) := fToInt dbl (if i.rs2 < 2 then 32 else 64) (i.rs2 % 2 == 0) m a
      k.setXF i (if i.rs2 < 2 then sx32 v else v) fl pa s
    else i.illegal s
  | 0x1A =>
    if i.rs2 < 4 then k.withRm i s fun m =>
      let x := r.gx i.rs1
      let v : Int := match i.rs2 with
        | 0 => sext 32 x
        | 1 => ((x % 2 ^ 32 : Nat) : Int)
        | 2 => sext 64 x
        | _ => (x : Int)
      k.setF i (fOfInt dbl m v) (r.gxp i.rs1) s
    else i.illegal s
  | 0x1C =>
    if i.rs2 = 0 ∧ i.f3 = 0 then k.setX i.rd (if dbl then (a : Int) else sext 32 a) pa s
    else if i.rs2 = 0 ∧ i.f3 = 1 then k.setX i.rd (fClass dbl a) pa s
    else i.illegal s
  | 0x1E => if i.rs2 = 0 ∧ i.f3 = 0 then k.setF i (box dbl (r.gx i.rs1), 0) (r.gxp i.rs1) s else i.illegal s
  | _ => i.illegal s

/-- FMADD, FMSUB, FNMSUB and FNMADD. -/
def RC.fma (k : RC) (i : SW) (s : State) : Step' :=
  let r := k.r
  let rs3 := bits i.w 27 5
  let f := i.f7 % 4
  if 2 ≤ f then i.illegal s
  else k.withRm i s fun m =>
    k.setF i (fFma (f == 1) (decide (0x4B ≤ i.op)) (i.op == 0x47 || i.op == 0x4F) m (r.gf i.rs1) (r.gf i.rs2) (r.gf rs3))
      (r.gfp i.rs1 || r.gfp i.rs2 || r.gfp rs3) s

/-- One scalar instruction. -/
def RC.scalar (k : RC) (i : SW) (s : State) : Step' :=
  match i.op with
  | 0x37 => k.alu i s
  | 0x17 => k.alu i s
  | 0x13 => k.alu i s
  | 0x1B => k.alu i s
  | 0x33 => k.alu i s
  | 0x3B => k.alu i s
  | 0x6F => k.branch i s
  | 0x67 => k.branch i s
  | 0x63 => k.branch i s
  | 0x03 => k.memory i s
  | 0x23 => k.memory i s
  | 0x07 => k.memory i s
  | 0x27 => k.memory i s
  | 0x0F => if i.f3 = 0 then k.fence i.w s else if i.f3 = 1 then .next s k.r 1 else i.illegal s
  | 0x73 => k.system i s
  | 0x53 => k.opFp i s
  | 0x43 => k.fma i s
  | 0x47 => k.fma i s
  | 0x4B => k.fma i s
  | 0x4F => k.fma i s
  | _ => i.illegal s

/-- F5 values that Tables 7-8 to 7-10 reserve; Table 7-11 uses them all (R197). -/
def reservedF5 (op f5 : Nat) : Bool :=
  (op == custom0 && (f5 == 0x0E || f5 == 0x0F || decide (0x11 ≤ f5))) || (op == custom1 && f5 == 0x1F) || (op == custom2 && decide (0x14 ≤ f5))

/-- REED_SCALAR_INSTRUCTION: a word with a reserved F5 is illegal (R197); the other words of the custom opcodes are commands of their own. -/
def execReedScalarInstruction (core : Nat) (w : BitVec 32) (s : State) : Host.Outcome State Fault Refusal :=
  let i : SW := ⟨w.toNat⟩
  if reservedF5 i.op (bits i.w 27 5) then .next (s.issue core fun _ s => i.illegal s)
  else if i.op = custom0 ∨ i.op = custom1 ∨ i.op = custom2 ∨ i.op = custom3 then .next s
  else .next (s.issue core fun k s => k.scalar i s)

end Sys2Proof.Machine
end

