-- ==== Sys2Proof/Machine/ReweaveReady.lean ====
section
/-! DEFINITION. The end of a re-weave (R486, R500 to R503), and the accesses that waited for it (R502). -/

namespace Sys2Proof.Machine
open Sys2Proof

/-- An access that has waited, made again by the operation that held it (R502). -/
def State.runAccess (s : State) (a : HubAccess) : State :=
  match a with
  | .load h addr size => s.hearthLoad h addr size
  | .store h addr size val poison => s.hearthStore h addr size val poison
  | .inbound write addr len data ep => s.inboundMem write addr len data ep
  | .readReg off => s.readRegister off
  | .writeReg off val => s.writeRegister off val
  | .badReg off write => s.badRegister off write

/-- The accesses that waited for the re-weave, oldest first (R502). -/
def State.runHeld (s : State) : State := s.held.foldl State.runAccess { s with held := [] }

/-- The image that becomes active is written to the inactive weave slot (R503). -/
def State.persistWeave (s : State) (w : Weave) : State :=
  if s.boot.newPersist then
    let k := 1 - s.flash.manifest.weaveActive % 2
    let f := (s.flash.setWeave k (some w)).writeManifest fun m => { m with weaveActive := k, weaveHash := w.hash }
    { s with flash := f }.setFld R.BSU_ROM_WEAVE_SLOT k
  else s

/-- REWEAVE_READY: steps 4 to 10 (no effect once a hotspot trip has begun a job-fatal sequence in the reset, log 118) of Table 18-2 with the new image; `failedStk` and `failedRim` are channels whose training failed, which runs only where a map changes (R486, R500 to R503). -/
def execReweaveReady (failedStk failedRim : List Nat) (s : State) : Host.Outcome State Fault Refusal :=
  .next (match s.boot.newWeave with
    | none => s
    | some w =>
      if s.fld R.BSU_REWEAVE_STATUS_STATE ≠ 2 ∨ s.job.running then s
      else
        let moved := s.mapsMove w
        let mac := s.fld R.MGT_MAC_MAC
        let s := { s with boot := { s.boot with weave := some w, newWeave := none } }
        let fs := failedIn (w.stkMask s.flash) failedStk
        let fr := failedIn (w.rimMask s.flash) failedRim
        let s := s.configure w
        let s := if moved then s else s.setFld R.MGT_MAC_MAC mac
        if moved && !(fs.isEmpty && fr.isEmpty) then (s.trainFail fs fr).reweaveEnd 5 Code.MEM_TRAIN_FAIL
        else
          let s := ((s.formMaps w).trainPorts).stageAt 10
          let s := if moved then s.startHarts else s
          let s := (s.goReady s.time.locked).persistWeave w
          let s := (s.bump R.BSU_BOOTS_REWEAVES).setFld R.BSU_REWEAVE_STATUS_LAST_MS ((s.elapsedNs - s.boot.t0) / 1000000)
          ((s.reweaveEnd 4 0).powerMoved).runHeld)

end Sys2Proof.Machine
end

