-- ==== Sys2Proof/Machine/Txn.lean ====
section
/-! DEFINITION. Requests and responses over the links (R327, R329, R341, R342, R347, R509 to R512, R538, R539), and the roster poll (R512). -/

namespace Sys2Proof.Machine
open Sys2Proof

/-- A response flit to the source of a request. -/
def State.respond (s : State) (f : Flit) (op lines pmark status : Nat) (data : List Byte) : State :=
  s.sendFlit { Flit.mk' 7 f.vc (txSrc f) (txnPayload (txOff f) (txTag f) s.node op lines pmark status 0 data) with ttl := s.fld R.NLK_NODE_TTL_INIT }

/-- An error response (STATUS of Table 12-4). -/
def State.respondErr (s : State) (f : Flit) (status : Nat) : State := s.respond f 4 0 0 status []

/-- The device memory or register space an offset reaches for a peer: STATUS 2 where nothing is there, 3 where a job-fatal sequence bars it, which it does for every write (R347, R538, R539). -/
def State.peerStatus (s : State) (a n : Nat) (write : Bool) : Nat :=
  if write && s.job.running then 3 else
  match localRegion a with
  | .regs _ => 0
  | .pcie _ => 2
  | .remote _ _ => 2
  | .hole => 2
  | .tile _ _ => if s.job.running && (s.job.noExport || s.job.tilesOff) then 3 else if s.mappedRange a n then 0 else 2
  | _ => if s.job.running && s.job.noExport then 3 else if s.mappedRange a n then 0 else 2

/-- A line read: up to three lines; a poisoned one travels as its mark alone (R299, R329). Of register space it is no legal access: all ones come back (R12). -/
def State.serveLineRead (s : State) (f : Flit) : State :=
  let a := txOff f / 64 * 64
  let n := txLines f
  let st := s.peerStatus a (64 * n) false
  if st ≠ 0 then s.respondErr f st
  else match localRegion a with
    | .regs off => (s.badAccess off).respond f 2 n 0 0 (List.replicate (64 * n) 0xFF)
    | _ =>
      let (data, marks, s) := (List.range n).foldl (fun (acc : List Byte × Nat × State) i =>
        let (v, t) := acc.2.2.readLine (a + 64 * i) 4
        if v.poison ≠ 0 then (acc.1 ++ zeros 64, acc.2.1 + 2 ^ i, t.logPoison 0x08 linkUnit 0 (a + 64 * i) 0)
        else (acc.1 ++ padTo 64 v.data, acc.2.1, t)) ([], 0, s)
      s.respond f 2 n marks 0 data

/-- A narrow read of one aligned word: a line with the word in its place. -/
def State.serveNarrowRead (s : State) (f : Flit) : State :=
  let a := txOff f / 8 * 8
  let st := s.peerStatus a 8 false
  if st ≠ 0 then s.respondErr f st
  else match localRegion a with
    | .regs off =>
      if txArg f % 256 = 255 then
        let (w, t) := s.readReg off
        if s.regPoison off then (t.logPoison 0x08 linkUnit 0 a 0).respond f 2 1 1 0 (zeros 8)
        else t.respond f 2 1 0 0 (toBytes 8 w.toNat)
      else (s.badAccess off).respond f 2 1 0 0 (List.replicate 8 0xFF)
    | _ =>
      let (v, s) := s.readLine (a / 64 * 64) 4
      if bit v.poison (a % 64 / 8) then (s.logPoison 0x08 linkUnit 0 a 0).respond f 2 1 1 0 (zeros 8)
      else s.respond f 2 1 0 0 ((v.data.drop (a % 64)).take 8)

/-- A line write: COL_ABORT_RX takes it at all times; a line marked in PMARK is written poisoned; other register space discards it (R12, R329, R347, R374). -/
def State.serveLineWrite (s : State) (f : Flit) : State :=
  let a := txOff f / 64 * 64
  let n := txLines f
  let data := (txData f).take (64 * n)
  if a = abortRxOff ∧ f.vc = 2 then ({ s with abortRx := s.abortRx ++ [data.take 64] }).respond f 3 0 0 0 []
  else
    let st := s.peerStatus a (64 * n) true
    if st ≠ 0 then s.respondErr f st
    else match localRegion a with
      | .regs off => (s.badAccess off).respond f 3 0 0 0 []
      | _ =>
        if s.hitsRegion a (64 * n) then s.respondErr f 2
        else
          let s := (List.range n).foldl (fun s i => s.writeLine (a + 64 * i) ((data.drop (64 * i)).take 64)
            (if bit (txPmark f) i then 255 else 0)) s
          s.respond f 3 0 0 0 []

/-- The bytes that byte enables select, as runs of offset and data. -/
def enabledRuns (en : Nat) (data : List Byte) : List (Nat × List Byte) :=
  ((List.range 8).filter fun i => bit en i && (i == 0 || !bit en (i - 1))).map fun i =>
    let n := ((List.range 8).takeWhile fun k => decide (i + k < 8) && bit en (i + k)).length
    (i, (data.drop i).take n)

/-- The interrupt file an offset names, where it is one of this device. -/
def imsicOf (off : Nat) : Option Nat := (List.range 32).find? fun v => imsicAddr (64 * v) == off

/-- A narrow write: an interrupt file takes it at all times; register space wants the whole word (R11, R347, R509). -/
def State.serveNarrowWrite (s : State) (f : Flit) : State :=
  let a := txOff f / 8 * 8
  let en := txArg f % 256
  let data := (txData f).take 8
  let poison := bit (txPmark f) 0
  match imsicOf (txOff f) with
  | some v => (s.deliver (64 * v + ofBytes (data.take 4) % 64)).respond f 3 0 0 0 []
  | none =>
    let st := s.peerStatus a 8 true
    if st ≠ 0 then s.respondErr f st
    else match localRegion a with
      | .regs off =>
        (if en = 255 then s.writeReg off (BitVec.ofNat 64 (ofBytes data)) poison (some f.age) else s.badAccess off).respond f 3 0 0 0 []
      | _ =>
        if s.hitsRegion a 8 then s.respondErr f 2
        else ((enabledRuns en data).foldl (fun s r => s.storePart (a + r.1) r.2 poison 4) s).respond f 3 0 0 0 []

/-- TXN_REQUEST_RECEIVE: the oldest line or narrow request of a port is served, refused, or answered with an error (R327). -/
def execTxnRequestReceive (port : Nat) (s : State) : Host.Outcome State Fault Refusal :=
  match s.popRx port (fun f => f.ftype == 7 && (txOp f == 0 || txOp f == 1 || txOp f == 5 || txOp f == 6)) with
  | none => .next s
  | some (f, t) =>
    .next (if !s.up then s else match txOp f with
      | 0 => t.serveLineRead f
      | 1 => t.serveLineWrite f
      | 5 => t.serveNarrowRead f
      | _ => t.serveNarrowWrite f)

/-- STATE of a member after a poll: READY of its BSU_STATUS (R512); FW0, while it is away, takes no answer. -/
def State.rosterAnswer (s : State) (m st : Nat) : State :=
  if !s.fwRuns 0 then s else ({ s with roster := { s.roster with state := s.roster.state.put m st } }).rosterTell

/-- A request is over without data: its item may end (R342). -/
def State.requestOver (s : State) (r : Req) : State :=
  match r.waiter with
  | .item id => (s.answered id).reapSteps
  | _ => s.rosterTell

/-- A request answered with a status that is not 0, or by nothing (R342). -/
def State.requestFails (s : State) (tag : Nat) (r : Req) (status : Nat) : State :=
  match s.outStreams.find? tag with
  | some o => (({ s with outStreams := FMap.del tag s.outStreams }.modCol o.item fun c => { c with failed := some o.dst }).failItem o.item Code.REMOTE_UNREACHABLE).reapSteps
  | none => match r.waiter with
    | .roster m => s.rosterAnswer m (if status = 3 then 2 else 3)
    | _ => (s.failRequest r).requestOver r

/-- A read response's data handed to the waiter: a hearth load gets its bytes from the word (R342, R512). -/
def State.deliverRead (s : State) (r : Req) (f : Flit) : State :=
  let poison := if bit (txPmark f) 0 then 255 else 0
  match r.waiter with
  | .roster m => s.rosterAnswer m (if bit (fieldAt (txData f) 0 8) 4 then 1 else 2)
  | .hearth _ _ => s.giveLine r ((txData f).drop (r.addr % 8)) poison
  | _ => s.giveLine r (if r.len = 8 ∧ r.op = 5 then splice (zeros 64) (r.addr % 64 / 8 * 8) ((txData f).take 8) else (txData f).take 64) poison

/-- A write acknowledgement: one request of its waiter less (R342, R511). -/
def State.ackWrite (s : State) (r : Req) : State :=
  match r.waiter with
  | .hearth h _ => s.remoteDone h
  | .item id => ((s.modItem id fun it => { it with pendingRemote := it.pendingRemote - 1 }).answered id).reapSteps
  | _ => s

/-- TXN_RESPONSE_RECEIVE: the oldest response of a port completes the request of its TAG; one without a request is dropped (R342). -/
def execTxnResponseReceive (port : Nat) (s : State) : Host.Outcome State Fault Refusal :=
  match s.popRx port (fun f => f.ftype == 7 && (txOp f == 2 || txOp f == 3 || txOp f == 4)) with
  | none => .next s
  | some (f, t) =>
    .next (if !s.up then s else match t.reqs.find? (txTag f) with
      | none => t
      | some r =>
        let t := { t with reqs := FMap.del (txTag f) t.reqs }
        if txOp f = 4 ∨ txStatus f ≠ 0 then t.requestFails (txTag f) r (txStatus f)
        else if txOp f = 2 then t.deliverRead r f
        else t.ackWrite r)

/-- REQUEST_TIMEOUT: no response within REQ_TIMEOUT completes the request with STATUS 4 (R342). -/
def execRequestTimeout (tag : Nat) (s : State) : Host.Outcome State Fault Refusal :=
  .next (if !s.hubUp then s else match s.reqs.find? tag with
    | none => s
    | some r => { s with reqs := FMap.del tag s.reqs }.requestFails tag r 4)

/-- The other members that are valid, lowest first. -/
def State.otherMembers (s : State) : List Nat :=
  (List.range 64).filter fun m => m != s.fld R.GLB_WEAVE_MEMBER && s.flag R.NLK_MEMBER_VALID [m]

/-- The manager's own STATE, read through its own window, which is local (R510, R512). -/
def State.pollSelf (s : State) : State :=
  let m := s.fld R.GLB_WEAVE_MEMBER
  if !s.flag R.NLK_MEMBER_VALID [m] || s.roster.state.find? m == some (s.rosterState m) then s
  else { s with roster := { s.roster with state := s.roster.state.put m (s.rosterState m) } }

/-- ROSTER_POLL: every 10 ms a manager's FW0 reads BSU_STATUS of every valid member (R512). -/
def execRosterPoll (s : State) : Host.Outcome State Fault Refusal :=
  .next (s.whenUp fun s => if s.isManager && s.fwRuns 0 then (s.otherMembers.foldl State.pollMember s.pollSelf).rosterTell else s)

end Sys2Proof.Machine
end

