-- ==== Sys2Proof/Machine/ExpLn.lean ====
section
/-! DEFINITION. exp and ln, correctly rounded to nearest even in FP32 and FP64 (R224): a value carried to several hundred bits with a sticky last bit, rounded once. -/

namespace Sys2Proof.Machine

/-- Bits of the fixed-point fraction. -/
abbrev expP : Nat := 448

/-- ln 2 · 2^512, rounded down. -/
def ln2Fix : Nat :=
  9293584264128987901384440660653081117630633404975079641076009770578364573633075645167623918067512986930843040596952636663673675798576024949780480621393957

/-- exp of a fixed-point fraction r / 2^P with |r| below 2^P, times 2^P: the Taylor series. -/
def expSeries (r : Int) : Int :=
  ((List.range 120).foldl (fun (acc : Int × Int) n =>
    let t := acc.2 * r / ((n + 1 : Nat) * 2 ^ expP : Nat)
    (acc.1 + t, t)) ((2 ^ expP : Nat), (2 ^ expP : Nat))).1

/-- exp of a value: exact at 0, otherwise with a sticky last bit; flags. -/
def expVal (v : Val) : Val × Nat :=
  match v with
  | .nan _ => (.nan false, 0)
  | .inf neg => (if neg then .fin false 0 0 else .inf false, 0)
  | .fin neg m e =>
    if m = 0 then (.fin false 1 0, 0)
    else if cmpMag m e 1 13 == .gt then (.fin false 1 (if neg then -16384 else 16384), 0)
    else
      let x : Int := if 0 ≤ e + expP then (m * 2 ^ (e + expP).toNat : Nat) else (m / 2 ^ (-(e + expP)).toNat : Nat)
      let x := if neg then -x else x
      let l2 : Int := (ln2Fix / 2 ^ (512 - expP) : Nat)
      let k := (2 * x + l2) / (2 * l2)
      let y := expSeries (x - k * l2)
      let y := if neg ∧ x = 0 then y - 1 else y
      (.fin false (2 * y.toNat + 1) (k - expP - 1), 0)

/-- 2 · atanh(num / den) · 2^P for a small ratio. -/
def atanh2 (num : Int) (den : Nat) : Int :=
  let z := num * (2 ^ expP : Nat) / den
  let z2 := z * z / (2 ^ expP : Nat)
  2 * ((List.range 200).foldl (fun (acc : Int × Int) n =>
    (acc.1 + acc.2 / (2 * n + 1 : Nat), acc.2 * z2 / (2 ^ expP : Nat))) (0, z)).1

/-- ln of a value: exact at 1, otherwise with a sticky last bit; flags (R224). -/
def lnVal (v : Val) : Val × Nat :=
  match v with
  | .nan _ => (.nan false, 0)
  | .inf neg => if neg then (.nan false, fInvalid) else (.inf false, 0)
  | .fin neg m e =>
    if m = 0 then (.inf true, fDivzero)
    else if neg then (.nan false, fInvalid)
    else if cmpMag m e 1 0 == .eq then (.fin false 0 0, 0)
    else
      let lg := Nat.log2 m
      let k0 := (lg : Int) + e
      let up := decide (3 * 2 ^ lg < 2 * m)
      let k := if up then k0 + 1 else k0
      let unit : Nat := if up then 2 ^ (lg + 1) else 2 ^ lg
      let y := k * ((ln2Fix / 2 ^ (512 - expP) : Nat) : Int) + atanh2 ((m : Int) - unit) (m + unit)
      (.fin (decide (y < 0)) (2 * y.natAbs + 1) (-(expP : Int) - 1), 0)

end Sys2Proof.Machine
end

