-- ==== Sys2Proof/Machine/VecRed.lean ====
section
/-! DEFINITION. Scans (R214, R215), reductions (R217 to R222), the tile register (R198, R221), precision-floor helpers (R223 to R226). -/

namespace Sys2Proof.Machine
open Sys2Proof

/-- The accumulation format of an EW code (R215). -/
def accOf (ew : Nat) : Nat := if ew = 3 then 0 else 1

/-- A value with the flags and flushes that made it; `exact`: it is an exact zero or no zero at all. -/
structure RedAcc where
  v : Val
  m : Marks
  exact : Bool
  deriving DecidableEq, Repr

/-- An exact value as a leaf. -/
def RedAcc.leaf (v : Val) : RedAcc := ⟨v, ⟨0, 0⟩, true⟩

/-- Marks of two parts. -/
def Marks.plus (a b : Marks) : Marks := ⟨a.flags ||| b.flags, a.flush + b.flush⟩

/-- Where an accumulation rounds: a format, and what an overflow gives there (VRM.OVF; R101, R188). -/
structure AccFmt where
  fmt : Nat
  ovf : Bool
  deriving DecidableEq, Repr

/-- Accumulation in a format under the VRM of an instruction. -/
def RC.accIn (k : RC) (fmt : Nat) : AccFmt := ⟨fmt, (k.rnd 0).ovf⟩

/-- An operation rounded once to nearest even in a format (R218, R223). -/
def accOp (F : AccFmt) (op : Val → Val → Val × Nat) (a b : RedAcc) : RedAcc :=
  let (x, fl) := op a.v b.v
  let r := encodeVal F.fmt ⟨0, F.ovf, 0, 0⟩ true x
  ⟨decodeFmt F.fmt r.bits, (a.m.plus b.m).plus ⟨r.flags ||| fl, r.flush⟩, !hasFlag r.flags fFlush⟩

/-- One operation on one operand, rounded once. -/
def accUn (F : AccFmt) (op : Val → Val × Nat) (a : RedAcc) : RedAcc := accOp F (fun x _ => op x) a (RedAcc.leaf (.fin false 0 0))

/-- The sum of two, and the difference. -/
def accAdd (F : AccFmt) : RedAcc → RedAcc → RedAcc := accOp F fun a b => addVal a b false
/-- The difference of two. -/
def accSub (F : AccFmt) : RedAcc → RedAcc → RedAcc := accOp F fun a b => addVal a b.negate false
/-- The product of two. -/
def accMul (F : AccFmt) : RedAcc → RedAcc → RedAcc := accOp F mulVal
/-- The quotient of two. -/
def accDiv (F : AccFmt) : RedAcc → RedAcc → RedAcc := accOp F divVal

/-- Neighbours combined, an absent one passing its sibling on (R122). -/
def pairUp (op : RedAcc → RedAcc → RedAcc) : List (Option RedAcc) → List (Option RedAcc)
  | a :: b :: t => (match a, b with
    | some x, some y => some (op x y)
    | some x, none => some x
    | none, y => y) :: pairUp op t
  | l => l

/-- The tree of R122 over leaves, some absent; `fuel` levels. -/
def treeRed (op : RedAcc → RedAcc → RedAcc) : Nat → List (Option RedAcc) → Option RedAcc
  | 0, l => l.head?.join
  | n + 1, l => treeRed op n (pairUp op l)

/-- The elements of a vector or line that take part: position, bits, poison; and how many there are in all. -/
structure Line where
  n : Nat
  act : List (Nat × Nat × Bool)
  pz : Bool
  deriving DecidableEq, Repr

/-- The active elements of vs1 at a width. -/
def RC.line (k : RC) (f : VFields) (w : Nat) : Line :=
  { n := k.r.vl, act := (k.actives f).map fun e => (e, k.r.el f.s1 w e, k.r.elp f.s1 w e), pz := k.r.gpp f.pg }

/-- Something that enters a result is poisoned (R222). -/
def Line.poison (l : Line) : Bool := l.pz || l.act.any (·.2.2)

/-- The leaves of the tree: element e at leaf e, where it is active. -/
def Line.leaves (l : Line) (val : Nat → Val) : List (Option RedAcc) :=
  (List.range l.n).map fun e => (l.act.find? fun x => x.1 == e).map fun x => RedAcc.leaf (val x.2.1)

/-- Flags and flushes of reading the active elements. -/
def Line.reads (l : Line) (fmt : Nat) : Marks :=
  ⟨orFlags (l.act.map fun x => (readElem fmt x.2.1).2.1), (l.act.map fun x => (readElem fmt x.2.1).2.2).sum⟩

/-- The extreme value with the smallest index at which it occurs; the first NaN decides (R219). -/
def Line.extreme (l : Line) (fmt : Nat) (greater : Bool) : Val × Nat :=
  let vs := l.act.map fun x => (x.1, (readElem fmt x.2.1).1)
  match vs.find? fun x => x.2.isNan with
  | some x => (.nan false, x.1)
  | none => match vs with
    | [] => (.inf greater, 0)
    | h :: t =>
      let best := t.foldl (fun (b : Nat × Val) x => if ordVal true b.2 x.2 == (if greater then .lt else .gt) then x else b) h
      (best.2, best.1)

/-- A reduction of a line: value bits and marks, and the index where the kind has one (R217 to R220, Table 8-2). `ew`: the EW code. -/
def RC.reduce (k : RC) (l : Line) (kind ew : Nat) : Nat × Marks × Option Nat :=
  let w := if kind = 0 then ewBits ew else fpEwBits ew
  let fmt := fpEwFmt ew
  let a := k.accIn (accOf ew)
  let empty := l.act.isEmpty
  let val := fun b => (readElem fmt b).1
  let fin := fun (x : Val) (m : Marks) =>
    let r := encodeVal fmt (k.rnd 0) true x
    (r.bits, m.plus ⟨r.flags, r.flush⟩)
  let idEmpty := fun (x : Val) => ((encodeVal fmt ⟨0, false, 0, 0⟩ true x).bits, (⟨fEmpty, 0⟩ : Marks))
  let sum := fun (op : RedAcc → RedAcc → RedAcc) => (treeRed op 6 (l.leaves val)).getD (RedAcc.leaf (.fin false 0 0))
  match kind with
  | 0 => ((l.act.map (·.2.1)).sum % 2 ^ w, ⟨if empty then fEmpty else 0, 0⟩, none)
  | 1 =>
    if empty then let x := idEmpty (.fin false 0 0); (x.1, x.2, none)
    else
      let r := sum (accAdd a)
      let zs := l.act.map fun x => val x.2.1
      let neg := if zs.all fun v => v.isZero then (if zs.all fun v => !v.neg then false else if zs.all (·.neg) then true else k.rdn) else k.rdn
      let v := if r.v.isZero && r.exact then .fin neg 0 0 else r.v
      let x := fin v ((l.reads fmt).plus r.m)
      (x.1, x.2, none)
  | 2 =>
    if empty then let x := idEmpty (.inf true); (x.1, x.2, none)
    else let x := fin (l.extreme fmt true).1 (l.reads fmt); (x.1, x.2, none)
  | 3 =>
    if empty then let x := idEmpty (.inf false); (x.1, x.2, none)
    else let x := fin (l.extreme fmt false).1 (l.reads fmt); (x.1, x.2, none)
  | 4 =>
    if empty then let x := idEmpty (.inf true); (x.1, x.2, some (2 ^ w - 1))
    else let e := l.extreme fmt true; let x := fin e.1 (l.reads fmt); (x.1, x.2, some e.2)
  | 5 =>
    if empty then let x := idEmpty (.inf false); (x.1, x.2, some (2 ^ w - 1))
    else let e := l.extreme fmt false; let x := fin e.1 (l.reads fmt); (x.1, x.2, some e.2)
  | 6 =>
    if empty then let x := idEmpty (.fin false 1 0); (x.1, x.2, none)
    else let r := sum (accMul a); let x := fin r.v ((l.reads fmt).plus r.m); (x.1, x.2, none)
  | _ =>
    if empty then let x := idEmpty (.nan false); (x.1, x.2, none)
    else
      let r := accDiv a (sum (accAdd a)) (RedAcc.leaf (.fin false l.act.length 0))
      let x := fin r.v ((l.reads fmt).plus r.m)
      (x.1, x.2, none)

/-- A reduction's elements written: 0, 1 and, where the kind has an index, 2 (R217, R222). -/
def RC.putReduction (k : RC) (f : VFields) (l : Line) (kind : Nat) (s : State) : Step' :=
  let w := if kind = 0 then ewBits f.ew else fpEwBits f.ew
  let (v, m, ix) := k.reduce l kind f.ew
  let p := l.poison
  let cnt := min l.act.length (2 ^ w - 1)
  let es := [(0, v, p), (1, cnt, p)] ++ (match ix with
    | some i => [(2, i, p)]
    | none => [])
  .next s ((k.r.setEls f.vd w es).addFlags m.flags m.flush false) 1

/-- A reduction of vs1. -/
def State.vRed (s : State) (c kind : Nat) (f : VFields) : State :=
  let w := if kind = 0 then ewBits f.ew else fpEwBits f.ew
  s.osierW c custom3 (0x10 + kind) w f (fun _ => f.s2 != 0) fun k s => k.putReduction f (k.line f w) kind s

/-- VRED.I (R217). -/
def execVredI (core : Nat) (f : VFields) (s : State) : Host.Outcome State Fault Refusal := .next (s.vRed core 0 f)
/-- VRED.F (R218). -/
def execVredF (core : Nat) (f : VFields) (s : State) : Host.Outcome State Fault Refusal := .next (s.vRed core 1 f)
/-- VRED.FMAX (R219). -/
def execVredFmax (core : Nat) (f : VFields) (s : State) : Host.Outcome State Fault Refusal := .next (s.vRed core 2 f)
/-- VRED.FMIN (R219). -/
def execVredFmin (core : Nat) (f : VFields) (s : State) : Host.Outcome State Fault Refusal := .next (s.vRed core 3 f)
/-- VRED.FARGMAX (R219). -/
def execVredFargmax (core : Nat) (f : VFields) (s : State) : Host.Outcome State Fault Refusal := .next (s.vRed core 4 f)
/-- VRED.FARGMIN (R219). -/
def execVredFargmin (core : Nat) (f : VFields) (s : State) : Host.Outcome State Fault Refusal := .next (s.vRed core 5 f)
/-- VRED.FPROD (R218). -/
def execVredFprod (core : Nat) (f : VFields) (s : State) : Host.Outcome State Fault Refusal := .next (s.vRed core 6 f)
/-- VRED.FMEAN (R218). -/
def execVredFmean (core : Nat) (f : VFields) (s : State) : Host.Outcome State Fault Refusal := .next (s.vRed core 7 f)

/-- The active elements that element e of a scan combines (R214). -/
def RC.scanned (k : RC) (f : VFields) (e : Nat) : List Nat :=
  let seg := bits f.s2 0 3
  let excl := bit f.s2 3
  let start := fun j => j == 0 || (seg != 0 && bit (k.r.gp seg) j)
  let from' := ((List.range (e + 1)).filter start).getLast?.getD 0
  (k.actives f).filter fun j => decide (from' ≤ j) && (decide (j < e) || (j == e && !excl))

/-- A scan: the combination of the elements before each active one, and their poison (R214, R222). -/
def State.vScan (s : State) (c f5 w : Nat) (f : VFields) (one : RC → Nat → List Nat → Res) (reads : RC → Marks) : State :=
  s.osierW c custom3 f5 w f (fun _ => decide (16 ≤ f.s2)) fun k s =>
    let pz := k.r.gpp f.pg || k.r.gpp (bits f.s2 0 3)
    let res := (k.actives f).map fun e =>
      let js := k.scanned f e
      (e, one k e js, pz || js.any fun j => k.r.elp f.s1 w j)
    let m := reads k
    let fl := orFlags (res.map (·.2.1.flags)) ||| m.flags
    let n := (res.map (·.2.1.flush)).sum + m.flush
    .next s ((k.r.setEls f.vd w (res.map fun x => (x.1, x.2.1.bits, x.2.2))).addFlags fl n false) 1

/-- VSCAN.I (R214, R215). -/
def execVscanI (core : Nat) (f : VFields) (s : State) : Host.Outcome State Fault Refusal :=
  let w := ewBits f.ew
  .next (s.vScan core 0x0D w f (fun k _ js => ⟨(js.map (k.r.el f.s1 w)).sum % 2 ^ w, 0, 0⟩) fun _ => ⟨0, 0⟩)

/-- The running sum of VSCAN.F over positions, and the flushes of its last addition alone (each addition is made once). -/
def RC.scanSum (k : RC) (f : VFields) (js : List Nat) : RedAcc × Nat :=
  let w := fpEwBits f.ew
  let fmt := fpEwFmt f.ew
  match js.map fun j => RedAcc.leaf (readElem fmt (k.r.el f.s1 w j)).1 with
  | [] => (RedAcc.leaf (.fin false 0 0), 0)
  | h :: t =>
    t.foldl (fun (acc : RedAcc × Nat) x =>
      let r := accAdd (k.accIn (accOf f.ew)) acc.1 x
      (r, r.m.flush - acc.1.m.flush)) (h, 0)

/-- VSCAN.F (R215). -/
def execVscanF (core : Nat) (f : VFields) (s : State) : Host.Outcome State Fault Refusal :=
  let w := fpEwBits f.ew
  let fmt := fpEwFmt f.ew
  .next (s.vScan core 0x0E w f (fun k e js =>
    let (a, last) := k.scanSum f js
    let r := encodeVal fmt (k.rnd e) true a.v
    ⟨r.bits, r.flags ||| a.m.flags, r.flush + last⟩) fun k => (k.line f w).reads fmt)

/-- VSCAN.FMAX (R214, R215). -/
def execVscanFmax (core : Nat) (f : VFields) (s : State) : Host.Outcome State Fault Refusal :=
  let w := fpEwBits f.ew
  let fmt := fpEwFmt f.ew
  .next (s.vScan core 0x0F w f (fun k _ js =>
    let l : Line := { n := k.r.vl, act := js.map fun j => (j, k.r.el f.s1 w j, false), pz := false }
    encodeVal fmt ⟨0, false, 0, 0⟩ true (l.extreme fmt true).1) fun k => (k.line f w).reads fmt)

/-- Selector fields: INDEX, AXIS, FIRST (R198). -/
def selIndex (x : Nat) : Nat := bits x 0 5
/-- AXIS. -/
def selAxis (x : Nat) : Bool := bit x 5
/-- FIRST. -/
def selFirst (x : Nat) : Nat := bits x 6 5

/-- Key of the tile-register element a selector gives for element e (R198). -/
def tregKey (p x e : Nat) : Nat :=
  let i := selIndex x
  let j := selFirst x + e
  1024 * p + (if selAxis x then 32 * j + i else 32 * i + j)

/-- The selector runs past the tile register. -/
def RC.selBad (k : RC) (f : VFields) : Bool := decide (32 < selFirst (k.r.gx f.s1) + k.r.vl)

/-- VTRRD (R198). -/
def execVtrrd (core : Nat) (f : VFields) (s : State) : Host.Outcome State Fault Refusal :=
  let w := ewBits f.ew
  .next (s.osierW core custom3 0x18 w f (fun k => f.s2 != 0 || k.selBad f) fun k s =>
    let key := tregKey k.tile (k.r.gx f.s1)
    k.fill f w (fun e => s.treg.getD (key e) 0 % 2 ^ w) (fun e => (s.tregC.find? (key e)).isNone || k.r.gxp f.s1) s)

/-- VTRWR (R198). -/
def execVtrwr (core : Nat) (f : VFields) (s : State) : Host.Outcome State Fault Refusal :=
  let w := ewBits f.ew
  .next (s.osierW core custom3 0x19 w f (fun k => f.s2 != 0 || k.selBad f) fun k s =>
    let key := tregKey k.tile (k.r.gx f.s1)
    let s' := (k.actives f).foldl (fun (s : State) e =>
      let p := k.r.elp f.vd w e || k.r.gpp f.pg || k.r.gxp f.s1
      { s with treg := FMap.setD s.treg (key e) 0 (k.r.el f.vd w e), tregC := if p then FMap.del (key e) s.tregC else FMap.put (key e) () s.tregC }) s
    .next s' k.r 1)

/-- VTRRED: one line of the tile register reduced (R221). -/
def execVtrred (core : Nat) (f : VFields) (s : State) : Host.Outcome State Fault Refusal :=
  let kind := f.s2
  let w := if kind = 0 then ewBits f.ew else fpEwBits f.ew
  .next (s.osierW core custom3 0x1A w f (fun k => decide (8 ≤ f.s2) || k.selBad f) fun k s =>
    let key := tregKey k.tile (k.r.gx f.s1)
    let l : Line := { n := k.r.vl, act := (k.actives f).map fun e => (e, s.treg.getD (key e) 0 % 2 ^ w, (s.tregC.find? (key e)).isNone)
                      pz := k.r.gpp f.pg || k.r.gxp f.s1 }
    k.putReduction f l kind s)

/-- The floor format's width and code (R223). -/
def RC.floorW (k : RC) (f : VFields) : Nat := if f.ew = 3 ∨ bit k.r.vrm 10 then 64 else 32
/-- The floor format. -/
def RC.floorFmt (k : RC) (f : VFields) : Nat := if f.ew = 3 ∨ bit k.r.vrm 10 then 0 else 1

/-- A helper's inputs: the active elements' values as leaves of the tree. -/
def RC.inputs (k : RC) (f : VFields) : List (Option RedAcc) := (k.line f (fpEwBits f.ew)).leaves fun b => (readElem (fpEwFmt f.ew) b).1

/-- A floor-format element of a register as a value with its marks. -/
def RC.state (k : RC) (f : VFields) (reg i : Nat) : RedAcc :=
  let (v, fl, n) := readElem (k.floorFmt f) (k.r.el reg (k.floorW f) i)
  ⟨v, ⟨fl, n⟩, true⟩

/-- The tree sum in F of one function of each active input. -/
def RC.treeSum (k : RC) (f : VFields) (g : RedAcc → RedAcc) : RedAcc :=
  (treeRed (accAdd (k.accIn (k.floorFmt f))) 6 ((k.inputs f).map fun o => o.map g)).getD (RedAcc.leaf (.fin false 0 0))

/-- The bits of a value in F. -/
def RC.floorBits (k : RC) (f : VFields) (a : RedAcc) : Nat := (encodeVal (k.floorFmt f) ⟨0, false, 0, 0⟩ true a.v).bits

/-- A count that saturates with SATURATE (R223). -/
def satCount (w n : Nat) : Nat × Nat := if 2 ^ w ≤ n then (2 ^ w - 1, fSaturate) else (n, 0)

/-- A natural number as a value of F, rounded where it does not fit. -/
def RC.ofCount (k : RC) (f : VFields) (n : Nat) : RedAcc := accUn (k.accIn (k.floorFmt f)) (fun _ => (.fin false n 0, 0)) (RedAcc.leaf (.fin false 0 0))

/-- A helper that updates state elements of vd (R226): what it writes, and the marks of its operations. -/
def State.helper (s : State) (c sub : Nat) (f : VFields) (body : RC → Line → List (Nat × Nat) × Marks) : State :=
  s.osierW c custom3 0x1E (fpEwBits f.ew) f (fun _ => f.s2 != sub) fun k s =>
    let l := k.line f (fpEwBits f.ew)
    if l.act.isEmpty then .next s (k.r.addFlags fEmpty 0 false) 1
    else
      let w := k.floorW f
      let (es, m) := body k l
      let p := l.poison || (List.range 3).any fun i => es.any (fun e => e.1 == i) && k.r.elp f.vd w i
      let m := m.plus (l.reads (fpEwFmt f.ew))
      .next s ((k.r.setEls f.vd w (es.map fun e => (e.1, e.2, p))).addFlags m.flags m.flush false) 1

/-- VH.SUMSQ (Table 8-3). -/
def execVhSumsq (core : Nat) (f : VFields) (s : State) : Host.Outcome State Fault Refusal :=
  .next (s.helper core 0 f fun k l =>
    let F := k.accIn (k.floorFmt f)
    let r := accAdd F (k.state f f.vd 0) (k.treeSum f fun x => accMul F x x)
    let (n, fl) := satCount (k.floorW f) (k.r.el f.vd (k.floorW f) 1 + l.act.length)
    ([(0, k.floorBits f r), (1, n)], r.m.plus ⟨fl, 0⟩))

/-- VH.MEANVAR (R226). -/
def execVhMeanvar (core : Nat) (f : VFields) (s : State) : Host.Outcome State Fault Refusal :=
  .next (s.helper core 1 f fun k l =>
    let F := k.accIn (k.floorFmt f)
    let w := k.floorW f
    let clean := fun (a : RedAcc) => RedAcc.leaf a.v
    let nb := k.ofCount f l.act.length
    let sum := k.treeSum f id
    let mub := accDiv F sum nb
    let m2b := k.treeSum f fun x => let d := accSub F x (clean mub); accMul F d (clean d) |> fun r => ⟨r.v, r.m, r.exact⟩
    let na := k.r.el f.vd w 0
    let nav := k.ofCount f na
    let mua := k.state f f.vd 1
    let m2a := k.state f f.vd 2
    let (n, fl) := satCount w (na + l.act.length)
    let nv := k.ofCount f n
    let d := accSub F mub mua
    let mu := accAdd F (clean mua) (accDiv F (accMul F (clean d) nb) nv)
    let t := accDiv F (accMul F (accMul F (accMul F (clean d) (clean d)) nav) (clean nb)) (clean nv)
    let m2 := accAdd F (accAdd F m2a m2b) t
    ([(0, n), (1, k.floorBits f mu), (2, k.floorBits f m2)], ((d.m.plus mu.m).plus m2.m).plus ⟨fl, 0⟩))

/-- VH.SMAXSTAT (R226); a maximum below FP32's range is flushed where it is written to vd (R91, R92, log 123). -/
def execVhSmaxstat (core : Nat) (f : VFields) (s : State) : Host.Outcome State Fault Refusal :=
  .next (s.helper core 2 f fun k l =>
    let F := k.accIn (k.floorFmt f)
    let m := k.state f f.vd 0
    let sv := k.state f f.vd 1
    let mn := (pickVal true m.v (l.extreme (fpEwFmt f.ew) true).1).1
    if mn == .inf true then ([], m.m)
    else
      let mx := RedAcc.leaf mn
      let t := k.treeSum f fun x => accUn F expVal (accSub F x mx)
      let r := if m.v == .inf true then t
        else accAdd F (accMul F sv (accUn F expVal (accSub F (RedAcc.leaf m.v) mx))) t
      let mo := encodeVal F.fmt ⟨0, false, 0, 0⟩ true mn
      ([(1, k.floorBits f r), (0, mo.bits)], (m.m.plus r.m).plus ⟨mo.flags, mo.flush⟩))

/-- VH.SMAXOUT (Table 8-3). -/
def execVhSmaxout (core : Nat) (f : VFields) (s : State) : Host.Outcome State Fault Refusal :=
  let w := fpEwBits f.ew
  let fmt := fpEwFmt f.ew
  .next (s.osierW core custom3 0x1E w f (fun _ => f.s2 != 3) fun k s =>
    let F := k.accIn (k.floorFmt f)
    let m := k.state f f.vd 0
    let sv := k.state f f.vd 1
    let fw := k.floorW f
    let ps := k.r.elp f.vd fw 0 || k.r.elp f.vd fw 1 || k.r.gpp f.pg
    let act := k.actives f
    let res := act.map fun e =>
      let (x, fl, n) := readElem fmt (k.r.el f.s1 w e)
      let q := accDiv F (accUn F expVal (accSub F (RedAcc.leaf x) (RedAcc.leaf m.v))) (RedAcc.leaf sv.v)
      let r := encodeVal fmt (k.rnd e) true q.v
      (e, (⟨r.bits, r.flags ||| q.m.flags ||| fl, r.flush + q.m.flush + n⟩ : Res), ps || k.r.elp f.s1 w e)
    match k.put f.vd w res s 1 with
    | .next s r c => .next s (if act.isEmpty then r else r.addFlags (m.m.flags ||| sv.m.flags) (m.m.flush + sv.m.flush) false) c
    | x => x)

/-- VH.LSE: m + ln s of the state in vs1; not governed by a predicate (R226). -/
def execVhLse (core : Nat) (f : VFields) (s : State) : Host.Outcome State Fault Refusal :=
  .next (s.osierW core custom3 0x1E (fpEwBits f.ew) f (fun _ => f.s2 != 4 || f.pg != 0) fun k s =>
    let F := k.accIn (k.floorFmt f)
    let w := k.floorW f
    let r := accAdd F (k.state f f.s1 0) (accUn F lnVal (k.state f f.s1 1))
    .next s ((k.r.setEls f.vd w [(0, k.floorBits f r, k.r.elp f.s1 w 0 || k.r.elp f.s1 w 1)]).addFlags r.m.flags r.m.flush false) 1)

end Sys2Proof.Machine
end

