-- ==== Sys2Proof/Machine/Dispatch.lean ====
section
/-! DEFINITION. One arm per command: its meaning. -/

namespace Sys2Proof.Machine
open Sys2Proof

/-- The effect of a command on everything but the queue. -/
def exec (i : Instr) (s : State) : Host.Outcome State Fault Refusal :=
  match i with
  | .modEnAssert => Sys2Proof.Machine.execModEnAssert s
  | .modPwrgdRise => Sys2Proof.Machine.execModPwrgdRise s
  | .pwrgdTimeout => Sys2Proof.Machine.execPwrgdTimeout s
  | .modEnDeassert => Sys2Proof.Machine.execModEnDeassert s
  | .inputUndervoltage => Sys2Proof.Machine.execInputUndervoltage s
  | .modRstNRise => Sys2Proof.Machine.execModRstNRise s
  | .resetRelease recoveryN pufOk storageOk keyOk => Sys2Proof.Machine.execResetRelease recoveryN pufOk storageOk keyOk s
  | .memTrainingDone failedStk failedRim => Sys2Proof.Machine.execMemTrainingDone failedStk failedRim s
  | .timeLockTimeout => Sys2Proof.Machine.execTimeLockTimeout s
  | .modReadyRise => Sys2Proof.Machine.execModReadyRise s
  | .recoveryListenTimeout => Sys2Proof.Machine.execRecoveryListenTimeout s
  | .recoveryDataFrame offset data => Sys2Proof.Machine.execRecoveryDataFrame offset data s
  | .recoveryEndFrame => Sys2Proof.Machine.execRecoveryEndFrame s
  | .modRstNFall => Sys2Proof.Machine.execModRstNFall s
  | .thermSourceAssert src reading => Sys2Proof.Machine.execThermSourceAssert src reading s
  | .thermSourceDeassert src reading => Sys2Proof.Machine.execThermSourceDeassert src reading s
  | .sbAlertSrcClear mask => Sys2Proof.Machine.execSbAlertSrcClear mask s
  | .pwrBrakeNFall => Sys2Proof.Machine.execPwrBrakeNFall s
  | .powerBrakeRelease => Sys2Proof.Machine.execPowerBrakeRelease s
  | .tapIdcode => Sys2Proof.Machine.execTapIdcode s
  | .tapBypass tdi => Sys2Proof.Machine.execTapBypass tdi s
  | .tapSamplePreload => Sys2Proof.Machine.execTapSamplePreload s
  | .tapExtest pins => Sys2Proof.Machine.execTapExtest pins s
  | .registerWrite off val => Sys2Proof.Machine.execRegisterWrite off val s
  | .regAccessBad off write => Sys2Proof.Machine.execRegAccessBad off write s
  | .droopDetect die => Sys2Proof.Machine.execDroopDetect die s
  | .droopRecover die => Sys2Proof.Machine.execDroopRecover die s
  | .vcoreUndervolt die => Sys2Proof.Machine.execVcoreUndervolt die s
  | .jobFatalItemStop item => Sys2Proof.Machine.execJobFatalItemStop item s
  | .requestStale req => Sys2Proof.Machine.execRequestStale req s
  | .epochOpen => Sys2Proof.Machine.execEpochOpen s
  | .epochCommit => Sys2Proof.Machine.execEpochCommit s
  | .epochCancel => Sys2Proof.Machine.execEpochCancel s
  | .epochDrainEnd => Sys2Proof.Machine.execEpochDrainEnd s
  | .epochPrepareAck unit => Sys2Proof.Machine.execEpochPrepareAck unit s
  | .epochPrepareRefusal unit => Sys2Proof.Machine.execEpochPrepareRefusal unit s
  | .epochAckTimeout => Sys2Proof.Machine.execEpochAckTimeout s
  | .epochAbandonClear => Sys2Proof.Machine.execEpochAbandonClear s
  | .wqDoorbell q val poison => Sys2Proof.Machine.execWqDoorbell q val poison s
  | .cqDoorbell q val poison => Sys2Proof.Machine.execCqDoorbell q val poison s
  | .queueEnable q => Sys2Proof.Machine.execQueueEnable q s
  | .queueDisable q => Sys2Proof.Machine.execQueueDisable q s
  | .queueHeadPoisoned q => Sys2Proof.Machine.execQueueHeadPoisoned q s
  | .descBodyPoisoned q => Sys2Proof.Machine.execDescBodyPoisoned q s
  | .heldHeadAdmit q => Sys2Proof.Machine.execHeldHeadAdmit q s
  | .matrixProduct q => Sys2Proof.Machine.execMatrixProduct q s
  | .matrixMerge q => Sys2Proof.Machine.execMatrixMerge q s
  | .lbSlotBind item => Sys2Proof.Machine.execLbSlotBind item s
  | .lbPieceReady item piece => Sys2Proof.Machine.execLbPieceReady item piece s
  | .matrixBlockDone item block => Sys2Proof.Machine.execMatrixBlockDone item block s
  | .reedLaunch q => Sys2Proof.Machine.execReedLaunch q s
  | .reedLaunchStart item => Sys2Proof.Machine.execReedLaunchStart item s
  | .plait q => Sys2Proof.Machine.execPlait q s
  | .plaitStart item => Sys2Proof.Machine.execPlaitStart item s
  | .reedEcall core => Sys2Proof.Machine.execReedEcall core s
  | .reedEbreak core => Sys2Proof.Machine.execReedEbreak core s
  | .reedLimit item => Sys2Proof.Machine.execReedLimit item s
  | .reedFence core w => Sys2Proof.Machine.execReedFence core w s
  | .vld core f => Sys2Proof.Machine.execVld core f s
  | .vlds core f => Sys2Proof.Machine.execVlds core f s
  | .vldg core f => Sys2Proof.Machine.execVldg core f s
  | .vldff core f => Sys2Proof.Machine.execVldff core f s
  | .vst core f => Sys2Proof.Machine.execVst core f s
  | .vsts core f => Sys2Proof.Machine.execVsts core f s
  | .vstg core f => Sys2Proof.Machine.execVstg core f s
  | .vstra core f => Sys2Proof.Machine.execVstra core f s
  | .vldx core fmt f => Sys2Proof.Machine.execVldx core fmt f s
  | .vsetl core f => Sys2Proof.Machine.execVsetl core f s
  | .vadd core f => Sys2Proof.Machine.execVadd core f s
  | .vsub core f => Sys2Proof.Machine.execVsub core f s
  | .vmul core f => Sys2Proof.Machine.execVmul core f s
  | .vmulh core f => Sys2Proof.Machine.execVmulh core f s
  | .vmulhu core f => Sys2Proof.Machine.execVmulhu core f s
  | .vand core f => Sys2Proof.Machine.execVand core f s
  | .vor core f => Sys2Proof.Machine.execVor core f s
  | .vxor core f => Sys2Proof.Machine.execVxor core f s
  | .vsll core f => Sys2Proof.Machine.execVsll core f s
  | .vsrl core f => Sys2Proof.Machine.execVsrl core f s
  | .vsra core f => Sys2Proof.Machine.execVsra core f s
  | .vmin core f => Sys2Proof.Machine.execVmin core f s
  | .vmax core f => Sys2Proof.Machine.execVmax core f s
  | .vminu core f => Sys2Proof.Machine.execVminu core f s
  | .vmaxu core f => Sys2Proof.Machine.execVmaxu core f s
  | .vcmpeq core f => Sys2Proof.Machine.execVcmpeq core f s
  | .vcmplt core f => Sys2Proof.Machine.execVcmplt core f s
  | .vcmpltu core f => Sys2Proof.Machine.execVcmpltu core f s
  | .vsadd core f => Sys2Proof.Machine.execVsadd core f s
  | .vsaddu core f => Sys2Proof.Machine.execVsaddu core f s
  | .vssub core f => Sys2Proof.Machine.execVssub core f s
  | .vssubu core f => Sys2Proof.Machine.execVssubu core f s
  | .vaadd core f => Sys2Proof.Machine.execVaadd core f s
  | .vasub core f => Sys2Proof.Machine.execVasub core f s
  | .vfmulq core f => Sys2Proof.Machine.execVfmulq core f s
  | .vnsra core f => Sys2Proof.Machine.execVnsra core f s
  | .vnsrl core f => Sys2Proof.Machine.execVnsrl core f s
  | .vsplatx core f => Sys2Proof.Machine.execVsplatx core f s
  | .vindex core f => Sys2Proof.Machine.execVindex core f s
  | .vmv core f => Sys2Proof.Machine.execVmv core f s
  | .vmvx core f => Sys2Proof.Machine.execVmvx core f s
  | .vfadd core f => Sys2Proof.Machine.execVfadd core f s
  | .vfsub core f => Sys2Proof.Machine.execVfsub core f s
  | .vfmul core f => Sys2Proof.Machine.execVfmul core f s
  | .vfdiv core f => Sys2Proof.Machine.execVfdiv core f s
  | .vfmadd core f => Sys2Proof.Machine.execVfmadd core f s
  | .vfnmsub core f => Sys2Proof.Machine.execVfnmsub core f s
  | .vfmin core f => Sys2Proof.Machine.execVfmin core f s
  | .vfmax core f => Sys2Proof.Machine.execVfmax core f s
  | .vfsqrt core f => Sys2Proof.Machine.execVfsqrt core f s
  | .vfsgnj core f => Sys2Proof.Machine.execVfsgnj core f s
  | .vfsgnjn core f => Sys2Proof.Machine.execVfsgnjn core f s
  | .vfsgnjx core f => Sys2Proof.Machine.execVfsgnjx core f s
  | .vfcmpeq core f => Sys2Proof.Machine.execVfcmpeq core f s
  | .vfcmplt core f => Sys2Proof.Machine.execVfcmplt core f s
  | .vfcmple core f => Sys2Proof.Machine.execVfcmple core f s
  | .vfsplat core f => Sys2Proof.Machine.execVfsplat core f s
  | .vcvt core f5 f => Sys2Proof.Machine.execVcvt core f5 f s
  | .pand core f => Sys2Proof.Machine.execPand core f s
  | .por core f => Sys2Proof.Machine.execPor core f s
  | .pxor core f => Sys2Proof.Machine.execPxor core f s
  | .pandn core f => Sys2Proof.Machine.execPandn core f s
  | .pcount core f => Sys2Proof.Machine.execPcount core f s
  | .pfirst core f => Sys2Proof.Machine.execPfirst core f s
  | .pmvx core f => Sys2Proof.Machine.execPmvx core f s
  | .pmxv core f => Sys2Proof.Machine.execPmxv core f s
  | .vcompress core f => Sys2Proof.Machine.execVcompress core f s
  | .vexpand core f => Sys2Proof.Machine.execVexpand core f s
  | .vslidedn core f => Sys2Proof.Machine.execVslidedn core f s
  | .vslideup core f => Sys2Proof.Machine.execVslideup core f s
  | .vperm core f => Sys2Proof.Machine.execVperm core f s
  | .vscanI core f => Sys2Proof.Machine.execVscanI core f s
  | .vscanF core f => Sys2Proof.Machine.execVscanF core f s
  | .vscanFmax core f => Sys2Proof.Machine.execVscanFmax core f s
  | .vredI core f => Sys2Proof.Machine.execVredI core f s
  | .vredF core f => Sys2Proof.Machine.execVredF core f s
  | .vredFmax core f => Sys2Proof.Machine.execVredFmax core f s
  | .vredFmin core f => Sys2Proof.Machine.execVredFmin core f s
  | .vredFargmax core f => Sys2Proof.Machine.execVredFargmax core f s
  | .vredFargmin core f => Sys2Proof.Machine.execVredFargmin core f s
  | .vredFprod core f => Sys2Proof.Machine.execVredFprod core f s
  | .vredFmean core f => Sys2Proof.Machine.execVredFmean core f s
  | .vtrrd core f => Sys2Proof.Machine.execVtrrd core f s
  | .vtrwr core f => Sys2Proof.Machine.execVtrwr core f s
  | .vtrred core f => Sys2Proof.Machine.execVtrred core f s
  | .plsend core f => Sys2Proof.Machine.execPlsend core f s
  | .plrecv core f => Sys2Proof.Machine.execPlrecv core f s
  | .plaitFifoRoom core => Sys2Proof.Machine.execPlaitFifoRoom core s
  | .plaitFifoData core => Sys2Proof.Machine.execPlaitFifoData core s
  | .vtadd core f => Sys2Proof.Machine.execVtadd core f s
  | .vtsub core f => Sys2Proof.Machine.execVtsub core f s
  | .vtmul core f => Sys2Proof.Machine.execVtmul core f s
  | .vtdiv core f => Sys2Proof.Machine.execVtdiv core f s
  | .vtchain core f => Sys2Proof.Machine.execVtchain core f s
  | .vhSumsq core f => Sys2Proof.Machine.execVhSumsq core f s
  | .vhMeanvar core f => Sys2Proof.Machine.execVhMeanvar core f s
  | .vhSmaxstat core f => Sys2Proof.Machine.execVhSmaxstat core f s
  | .vhSmaxout core f => Sys2Proof.Machine.execVhSmaxout core f s
  | .vhLse core f => Sys2Proof.Machine.execVhLse core f s
  | .vsummAny core f => Sys2Proof.Machine.execVsummAny core f s
  | .vsummAll core f => Sys2Proof.Machine.execVsummAll core f s
  | .vsummCnt core f => Sys2Proof.Machine.execVsummCnt core f s
  | .summrd core f => Sys2Proof.Machine.execSummrd core f s
  | .summor core f => Sys2Proof.Machine.execSummor core f s
  | .summarySlotEmptied core => Sys2Proof.Machine.execSummarySlotEmptied core s
  | .summarySlotFilled core => Sys2Proof.Machine.execSummarySlotFilled core s
  | .copy q => Sys2Proof.Machine.execCopy q s
  | .fill q => Sys2Proof.Machine.execFill q s
  | .gather q => Sys2Proof.Machine.execGather q s
  | .scatter q => Sys2Proof.Machine.execScatter q s
  | .regionDeclare q => Sys2Proof.Machine.execRegionDeclare q s
  | .regionClear q => Sys2Proof.Machine.execRegionClear q s
  | .regionAdd q => Sys2Proof.Machine.execRegionAdd q s
  | .regionOut q => Sys2Proof.Machine.execRegionOut q s
  | .regionRelease q => Sys2Proof.Machine.execRegionRelease q s
  | .eventOpAdd q op => Sys2Proof.Machine.execEventOpAdd q op s
  | .eventOpSet q op => Sys2Proof.Machine.execEventOpSet q op s
  | .evcSetWrite k val => Sys2Proof.Machine.execEvcSetWrite k val s
  | .evcAddWrite k val => Sys2Proof.Machine.execEvcAddWrite k val s
  | .barrierItem q => Sys2Proof.Machine.execBarrierItem q s
  | .stepCommit q => Sys2Proof.Machine.execStepCommit q s
  | .epochItem q => Sys2Proof.Machine.execEpochItem q s
  | .clearEvalRungs => Sys2Proof.Machine.execClearEvalRungs s
  | .itemComplete item measured => Sys2Proof.Machine.execItemComplete item measured s
  | .contextHold c hold => Sys2Proof.Machine.execContextHold c hold s
  | .contextEnable c enable => Sys2Proof.Machine.execContextEnable c enable s
  | .windowStart inputUj railMj => Sys2Proof.Machine.execWindowStart inputUj railMj s
  | .hotThrottleEnter die temp => Sys2Proof.Machine.execHotThrottleEnter die temp s
  | .hotThrottleStage2 die temp => Sys2Proof.Machine.execHotThrottleStage2 die temp s
  | .hotThrottleStage2Exit die temp => Sys2Proof.Machine.execHotThrottleStage2Exit die temp s
  | .hotThrottleExit die temp => Sys2Proof.Machine.execHotThrottleExit die temp s
  | .iclThrottleEnter => Sys2Proof.Machine.execIclThrottleEnter s
  | .iclThrottleStep => Sys2Proof.Machine.execIclThrottleStep s
  | .iclThrottleExit => Sys2Proof.Machine.execIclThrottleExit s
  | .railRampStep die => Sys2Proof.Machine.execRailRampStep die s
  | .hotTrip die => Sys2Proof.Machine.execHotTrip die s
  | .budgetSet p => Sys2Proof.Machine.execBudgetSet p s
  | .stackTempSample stack temp => Sys2Proof.Machine.execStackTempSample stack temp s
  | .narrowLimitRelease die => Sys2Proof.Machine.execNarrowLimitRelease die s
  | .memoryLineRead addr src flips => Sys2Proof.Machine.execMemoryLineRead addr src flips s
  | .memoryLineWrite addr data poison => Sys2Proof.Machine.execMemoryLineWrite addr data poison s
  | .partialLineMerge addr data poison src => Sys2Proof.Machine.execPartialLineMerge addr data poison src s
  | .homeSliceAtomic addr op size operand compare src => Sys2Proof.Machine.execHomeSliceAtomic addr op size operand compare src s
  | .phyRetrainFail rim channel => Sys2Proof.Machine.execPhyRetrainFail rim channel s
  | .scrubLine addr flips moved last => Sys2Proof.Machine.execScrubLine addr flips moved last s
  | .erlTailWrite val => Sys2Proof.Machine.execErlTailWrite val s
  | .retirePage persist target => Sys2Proof.Machine.execRetirePage persist target s
  | .retireBank rim persist target => Sys2Proof.Machine.execRetireBank rim persist target s
  | .retireChannel rim persist target => Sys2Proof.Machine.execRetireChannel rim persist target s
  | .retirePersistDone => Sys2Proof.Machine.execRetirePersistDone s
  | .injectDisarm => Sys2Proof.Machine.execInjectDisarm s
  | .injectOneSymbol line => Sys2Proof.Machine.execInjectOneSymbol line s
  | .injectThreeSymbols line => Sys2Proof.Machine.execInjectThreeSymbols line s
  | .injectTcBit line => Sys2Proof.Machine.execInjectTcBit line s
  | .flitTransmit port => Sys2Proof.Machine.execFlitTransmit port s
  | .flitReceive port flit fecBad => Sys2Proof.Machine.execFlitReceive port flit fecBad s
  | .nakReceive port => Sys2Proof.Machine.execNakReceive port s
  | .replayTimerExpire port => Sys2Proof.Machine.execReplayTimerExpire port s
  | .retrainComplete port free expect => Sys2Proof.Machine.execRetrainComplete port free expect s
  | .retrainTimeout port => Sys2Proof.Machine.execRetrainTimeout port s
  | .fullTrainingRetry port => Sys2Proof.Machine.execFullTrainingRetry port s
  | .fullTrainingComplete port info => Sys2Proof.Machine.execFullTrainingComplete port info s
  | .heartbeatSend port => Sys2Proof.Machine.execHeartbeatSend port s
  | .heartbeatReceive port => Sys2Proof.Machine.execHeartbeatReceive port s
  | .peerLossTimeout port => Sys2Proof.Machine.execPeerLossTimeout port s
  | .noticeReceive port => Sys2Proof.Machine.execNoticeReceive port s
  | .timeSyncSend port => Sys2Proof.Machine.execTimeSyncSend port s
  | .timeMessageReceive port stamp => Sys2Proof.Machine.execTimeMessageReceive port stamp s
  | .txnRequestReceive port => Sys2Proof.Machine.execTxnRequestReceive port s
  | .txnResponseReceive port => Sys2Proof.Machine.execTxnResponseReceive port s
  | .requestTimeout tag => Sys2Proof.Machine.execRequestTimeout tag s
  | .streamOpenReceive port => Sys2Proof.Machine.execStreamOpenReceive port s
  | .streamAcceptReceive port => Sys2Proof.Machine.execStreamAcceptReceive port s
  | .streamFlitReceive port => Sys2Proof.Machine.execStreamFlitReceive port s
  | .statusFlitReceive port => Sys2Proof.Machine.execStatusFlitReceive port s
  | .linkEnable port => Sys2Proof.Machine.execLinkEnable port s
  | .linkDisable port => Sys2Proof.Machine.execLinkDisable port s
  | .linkRetrainCmd port => Sys2Proof.Machine.execLinkRetrainCmd port s
  | .linkTestMode port mode => Sys2Proof.Machine.execLinkTestMode port mode s
  | .groupDefine p => Sys2Proof.Machine.execGroupDefine p s
  | .groupRelease p => Sys2Proof.Machine.execGroupRelease p s
  | .allReduce q => Sys2Proof.Machine.execAllReduce q s
  | .reduceScatter q => Sys2Proof.Machine.execReduceScatter q s
  | .allGather q => Sys2Proof.Machine.execAllGather q s
  | .allToAll q => Sys2Proof.Machine.execAllToAll q s
  | .broadcast q => Sys2Proof.Machine.execBroadcast q s
  | .collBarrier q => Sys2Proof.Machine.execCollBarrier q s
  | .collVcFreed vc => Sys2Proof.Machine.execCollVcFreed vc s
  | .feedWaitEnd step => Sys2Proof.Machine.execFeedWaitEnd step s
  | .slotClaimRetry group slot => Sys2Proof.Machine.execSlotClaimRetry group slot s
  | .collRoundComplete step => Sys2Proof.Machine.execCollRoundComplete step s
  | .collRoundTimeout step => Sys2Proof.Machine.execCollRoundTimeout step s
  | .collAbortReceive => Sys2Proof.Machine.execCollAbortReceive s
  | .collCancel group => Sys2Proof.Machine.execCollCancel group s
  | .collFw6WaitTimeout step => Sys2Proof.Machine.execCollFw6WaitTimeout step s
  | .colSlotFree group slot => Sys2Proof.Machine.execColSlotFree group slot s
  | .slotFreeDeferred group slot => Sys2Proof.Machine.execSlotFreeDeferred group slot s
  | .hello p => Sys2Proof.Machine.execHello p s
  | .ping p => Sys2Proof.Machine.execPing p s
  | .campRoster p => Sys2Proof.Machine.execCampRoster p s
  | .fwStage p => Sys2Proof.Machine.execFwStage p s
  | .fwStageDone => Sys2Proof.Machine.execFwStageDone s
  | .fwActivate p => Sys2Proof.Machine.execFwActivate p s
  | .fwCancel p => Sys2Proof.Machine.execFwCancel p s
  | .attestReport p => Sys2Proof.Machine.execAttestReport p s
  | .attestDeviceCert p => Sys2Proof.Machine.execAttestDeviceCert p s
  | .attestOperatorCert p => Sys2Proof.Machine.execAttestOperatorCert p s
  | .attestMfgRecord p => Sys2Proof.Machine.execAttestMfgRecord p s
  | .mailboxOutCiWrite p val => Sys2Proof.Machine.execMailboxOutCiWrite p val s
  | .fwWatchdogExpire p => Sys2Proof.Machine.execFwWatchdogExpire p s
  | .fwWatchdogKick p => Sys2Proof.Machine.execFwWatchdogKick p s
  | .fwFatalException p pc mcause => Sys2Proof.Machine.execFwFatalException p pc mcause s
  | .fwSramUncorrectable p => Sys2Proof.Machine.execFwSramUncorrectable p s
  | .fwRestartRequest p => Sys2Proof.Machine.execFwRestartRequest p s
  | .fwRestartDone p imageOk => Sys2Proof.Machine.execFwRestartDone p imageOk s
  | .activationStart => Sys2Proof.Machine.execActivationStart s
  | .activationComplete => Sys2Proof.Machine.execActivationComplete s
  | .reweaveGo len persist => Sys2Proof.Machine.execReweaveGo len persist s
  | .reweaveReset => Sys2Proof.Machine.execReweaveReset s
  | .reweaveReady failedStk failedRim => Sys2Proof.Machine.execReweaveReady failedStk failedRim s
  | .rosterPoll => Sys2Proof.Machine.execRosterPoll s
  | .hearthLoad hart addr size => Sys2Proof.Machine.execHearthLoad hart addr size s
  | .hearthStore hart addr size val poison => Sys2Proof.Machine.execHearthStore hart addr size val poison s
  | .hearthFence hart => Sys2Proof.Machine.execHearthFence hart s
  | .mgtFrameReceive frame fcsOk => Sys2Proof.Machine.execMgtFrameReceive frame fcsOk s
  | .mgtMailboxRequest => Sys2Proof.Machine.execMgtMailboxRequest s
  | .ptpMessageReceive rxStamp => Sys2Proof.Machine.execPtpMessageReceive rxStamp s
  | .pcieInboundRequest write addr len data ep => Sys2Proof.Machine.execPcieInboundRequest write addr len data ep s
  | .pcieOutboundTimeout tag => Sys2Proof.Machine.execPcieOutboundTimeout tag s
  | .pciCfgRequest val => Sys2Proof.Machine.execPciCfgRequest val s
  | .pciCfgDone data ur => Sys2Proof.Machine.execPciCfgDone data ur s
  | .pcieRetrain => Sys2Proof.Machine.execPcieRetrain s
  | .pciePerst drive => Sys2Proof.Machine.execPciePerst drive s
  | .pcieAer uncorrectable status => Sys2Proof.Machine.execPcieAer uncorrectable status s
  | .timeSample src offset => Sys2Proof.Machine.execTimeSample src offset s
  | .timeSourceLost src => Sys2Proof.Machine.execTimeSourceLost src s
  | .ppsInEdge => Sys2Proof.Machine.execPpsInEdge s
  | .ppsOutPulse => Sys2Proof.Machine.execPpsOutPulse s
  | .ppsOutEnd => Sys2Proof.Machine.execPpsOutEnd s
  | .timNowRead => Sys2Proof.Machine.execTimNowRead s
  | .reweaveVerifyFailed => Sys2Proof.Machine.execReweaveVerifyFailed s
  | .pcieLinkUp speed width flit => Sys2Proof.Machine.execPcieLinkUp speed width flit s
  | .pcieLinkDown => Sys2Proof.Machine.execPcieLinkDown s
  | .pcieOutboundCompletion tag status data => Sys2Proof.Machine.execPcieOutboundCompletion tag status data s
  | .rcFieldRead off => Sys2Proof.Machine.execRcFieldRead off s
  | .reedScalarInstruction core w => Sys2Proof.Machine.execReedScalarInstruction core w s

end Sys2Proof.Machine
end

