-- ==== Sys2Proof/Machine/Tick.lean ====
section
/-! DEFINITION. The time unit's count (R520, R522). -/

namespace Sys2Proof.Machine
open Sys2Proof

/-- The least step rate, in steps a microsecond, that Table 2-1 gives a supply at 110 °C; a supply between two rows has at least the lower one's, and none is given outside 600 to 850 mV (R38). -/
def minRate (mv : Nat) : Nat :=
  if mv < 600 ∨ 850 < mv then 0
  else if mv < 650 then 1050
  else if mv < 700 then 1240
  else if mv < 720 then 1430
  else if mv < 780 then 1500
  else if mv < 850 then 1690
  else 1880

/-- The least step rate of a die (4 the hub) at a supply: up to 110 °C that of Table 2-1 (R38). -/
def State.leastRate (s : State) (d mv : Nat) : Nat := if tempOf (s.fld R.NRG_DIE_W0_HOTSPOT [d]) ≤ 16 * 110 then minRate mv else 0

/-- The replica paths' readings for the microsecond that has passed (R38, Table 2-2): 0 to 3 the compute dies, 4 the hub. The speed is physical: the voltage is a free value, and the rate one no less than Table 2-1 gives. -/
def State.pace (s : State) : State :=
  (List.range 5).foldl (fun s d =>
    let (w, s) := s.free
    let mv := bits w.toNat 16 16
    let least := s.leastRate d mv
    let rate := least + bits w.toNat 0 16 % (65536 - least)
    if d < 4 then ((s.setFld R.GLB_PACE_CD_RATE rate [d]).setFld R.GLB_PACE_CD_MIN_RATE (min rate (s.fld R.GLB_PACE_CD_MIN_RATE [d])) [d]).setFld R.GLB_PACE_CD_VCORE_MV mv [d]
    else ((s.setFld R.GLB_PACE_HUB_RATE rate).setFld R.GLB_PACE_HUB_MIN_RATE (min rate (s.fld R.GLB_PACE_HUB_MIN_RATE))).setFld R.GLB_PACE_HUB_VCORE_MV mv) s

/-- One period of the reference oscillator, 6.4 ns with the servo's correction, in units of 10^-10 ns; the elapsed count advances as the device time does (R520, R522). Each microsecond of it ends a window of the pace registers, and sends the requests for which a TAG has become free (R41, R342, Table 2-2). Items that wait to run again, and are held by no restart and no barrier, run first (R241, R242, R246). -/
def tick (s : State) : State :=
  if s.pins.modPwrgd && s.pins.released then
    let d := (64000000000 + 64 * s.time.ppb).toNat
    let s := if s.up then s.reissueAll else s
    let t := { s with time := { s.time with now := (s.time.now + d) % (2 ^ 64 * 10000000000), elapsed := s.time.elapsed + d } }
    if s.up && decide (s.time.elapsed / 10000000000000 < t.time.elapsed / 10000000000000) then State.releaseAsks t.tagWait.length t.pace else t
  else s

end Sys2Proof.Machine
end

