-- ==== Sys2Proof/Safety.lean ====
section
/-! DEFINITION. What a safe run is: no step of it stops; and the canonical form of a state. -/

namespace Sys2Proof
open Machine

/-- The canonical form of a reed core: its registers and their poison listed by strictly rising number. -/
def Machine.Reed.canon (r : Reed) : Bool :=
  FMap.sorted r.x && FMap.sorted r.xp && FMap.sorted r.v && FMap.sorted r.vp && FMap.sorted r.p && FMap.sorted r.pp

/-- The canonical form of a state: register words, bytes, poison marks, items and core registers each listed by strictly rising number. -/
def Machine.State.canon (s : State) : Bool :=
  FMap.sorted s.regs && s.mem.wf && FMap.sorted s.items && s.reeds.all fun e => e.2.canon

/-- A step that answers a next state. -/
def StepSafe (s : State) : Prop := ∃ t, step s = .next t

/-- Every step of the first `k` answers a next state. -/
def RunSafe : Nat → State → Prop
  | 0, _ => True
  | k + 1, s => ∃ t, step s = .next t ∧ RunSafe k t

end Sys2Proof
end

