-- ==== Sys2Proof/Certificates/Slice0/Obligations.lean ====
section
/-! DEFINITION. The statements for the provers: what the commands of the EV7 do, what they leave, and what every step keeps. -/

namespace Sys2Proof.Claims
open Machine

/-- Only register words at the listed offsets differ, and poison marks of register words, of which none is new; everything else of the state is as it was. -/
def OnlyRegs (offs : List Nat) (s t : State) : Prop :=
  t = { s with regs := t.regs, hubPoison := t.hubPoison } ∧ (s.hubPoison = [] → t.hubPoison = []) ∧
    ∀ o, o ∉ offs → FMap.find? o t.regs = FMap.find? o s.regs

/-- Registers whose writing does something beside giving their fields values. -/
def effectBases : List Nat :=
  [R.EPO_CTL_CMD.base, R.EPO_STATUS_ABANDONED.base, R.TRN_CTL_CLEAR_EVAL_RUNGS.base, R.ERL_TAIL_INDEX.base, R.ERL_RETIRE_TYPE.base,
   R.ERL_INJECT_LINE.base, R.NLK_CTL_ENABLE.base, R.COL_CTL_CANCEL.base, R.COL_SLOT_FREE_GO.base, R.WQS_W1_STATE.base, R.EVC_ADD_ADD.base,
   R.QMC_MBX_W0_IN_PI.base, R.QMC_MBX_W1_OUT_CI.base, R.MGT_CTL_ENABLE.base, R.FWP_CTL_RESTART.base, R.NRG_THR_HOT_MV.base,
   R.BSU_REWEAVE_CTL_GO.base, R.BSU_REWEAVE_STATUS_ACK.base, R.PCI_CTL_PERST.base, R.PCI_CFG_ADDR_GO.base]

/-- The error-log entry at the head of `s` carries a code and a unit ID in `t` (Table 11-8). -/
def LoggedAt (s t : State) (code unit : Nat) : Prop :=
  bits (t.fld R.ERL_ENTRY_WORD [s.fld R.ERL_HEAD_INDEX, 1]) 0 32 = code + unit * 2 ^ 16

/-- Register words that the writing of a log entry may change: the log's own, the counts of its interrupt's forwarding, and the traffic count of its mirror's line (R310 to R314, R341, R509). -/
def LogTouches (o : Nat) : Bool :=
  o / 0x1000000 == 6 || o == R.NLK_ROUTE_DROP.base || o == R.HRT_PENDING.base || (List.range 16).any fun k => o == R.STK_TRAFFIC_LINES.at [k / 4, k % 4]

/-- What a store leaves of a word with fields of class L alone: each RW field takes its part, where it may hold it, a bit written 1 clears one of a W1C field, and the others stay (R546, Table 3-12). -/
def FieldsTaken (s t : State) (r : Reg) (ix : List Nat) (v : Nat) : Prop :=
  ∀ f ∈ r.fields,
    (f.acc = .rw → f ∉ ownEffect → t.fld f ix = if fieldOk f (bits v f.lo f.w) then bits v f.lo f.w else s.fld f ix) ∧
    (f.acc = .w1c → ∀ i < f.w, bit (t.fld f ix) i = (bit (s.fld f ix) i && !bit v (f.lo + i))) ∧
    (f.acc ≠ .rw → f.acc ≠ .w1c → t.fld f ix = s.fld f ix)

/-- Nothing of memory, of the items in flight or of the reed cores differs. -/
def WorkKept (s t : State) : Prop := t.mem = s.mem ∧ t.items = s.items ∧ t.reeds = s.reeds ∧ t.treg = s.treg ∧ t.summ = s.summ ∧ t.fifos = s.fifos

/-- Nothing is in flight: no item, gate group, collective step or write that waits for an item's end. -/
def Quiet (s : State) : Prop := s.items = [] ∧ s.gates = [] ∧ s.cols = [] ∧ s.atBoundary = [] ∧ s.train.clearEval = false ∧ s.job.running = false

/-- Core `c` runs the instance `k`, is not blocked, and may fetch at its pc, which is mapped: an instruction issues (R5, R167, R197). VFLUSH holds a 32-bit count. -/
def Issues (s : State) (c : Nat) (k : RC) : Prop :=
  s.runningCore c = some k ∧ k.r.blocked = .no ∧ k.r.vflush < 2 ^ 32 ∧ s.mayAccess k.it.desc k.tile 2 k.r.pc = true ∧ s.mapped k.r.pc = true

/-- What a core controls its instructions by stays: rounding, identity and scalar floating-point state (Table 7-14). -/
def ControlsKept (t : State) (c : Nat) (r : Reed) : Prop :=
  (t.reed c).vrm = r.vrm ∧ (t.reed c).vfxrm = r.vfxrm ∧ (t.reed c).vtid = r.vtid ∧ (t.reed c).vstep = r.vstep ∧ (t.reed c).vsrbase = r.vsrbase ∧
    (t.reed c).fcsr = r.fcsr

/-- An instruction of core `c` has ended: the pc is four further, no register word but the tile's step count has changed, and memory, the items and every other core are as they were. -/
def CoreOnly (s t : State) (c : Nat) (r : Reed) : Prop :=
  (t.reed c).pc = (r.pc + 4) % 2 ^ 64 ∧ ControlsKept t c r ∧ t.mem.cells = s.mem.cells ∧ t.mem.poison = s.mem.poison ∧ t.items = s.items ∧ t.out = s.out ∧
    (∀ d, d ≠ c → t.reed d = s.reed d) ∧
    ∀ o, o ≠ R.TIL_REED_STEPS_STEPS.at (tix (coreTile c)) → FMap.find? o t.regs = FMap.find? o s.regs

/-- The active elements of v[vd] hold `val`; its other elements and every other register stay. -/
def VectorResult (s t : State) (c : Nat) (k : RC) (vd w : Nat) (active : Nat → Bool) (val : Nat → Nat) : Prop :=
  CoreOnly s t c k.r ∧ (∀ e < 512 / w, (t.reed c).el vd w e = if active e then val e else k.r.el vd w e) ∧
    (∀ n, n ≠ vd → (t.reed c).gv n = k.r.gv n) ∧ (∀ n, (t.reed c).gx n = k.r.gx n) ∧ (∀ n, (t.reed c).gp n = k.r.gp n) ∧ (t.reed c).vl = k.r.vl ∧
    (t.reed c).vflags = k.r.vflags ∧ (t.reed c).vflush = k.r.vflush

/-- The active bits of p[pd] hold `val`, but for p0, which stays all ones; its other bits and every other register stay. -/
def PredicateResult (s t : State) (c : Nat) (k : RC) (pd : Nat) (active val : Nat → Bool) : Prop :=
  CoreOnly s t c k.r ∧ (∀ e < 64, bit ((t.reed c).gp pd) e = if pd ≠ 0 ∧ active e then val e else bit (k.r.gp pd) e) ∧
    (∀ n, n ≠ pd → (t.reed c).gp n = k.r.gp n) ∧ (∀ n, (t.reed c).gv n = k.r.gv n) ∧ (∀ n, (t.reed c).gx n = k.r.gx n) ∧ (t.reed c).vl = k.r.vl ∧
    (t.reed c).vflags = k.r.vflags ∧ (t.reed c).vflush = k.r.vflush

/-- x[rd] holds a value, but for x0, which stays 0; every other register of `r` stays. -/
def ScalarResult (s t : State) (c : Nat) (r : Reed) (rd v : Nat) : Prop :=
  CoreOnly s t c r ∧ (t.reed c).gx rd = (if rd = 0 then 0 else v) ∧ (∀ n, n ≠ rd → (t.reed c).gx n = r.gx n) ∧
    (∀ n, (t.reed c).gv n = r.gv n) ∧ (∀ n, (t.reed c).gp n = r.gp n) ∧ (t.reed c).vl = r.vl ∧ (t.reed c).vflags = r.vflags ∧ (t.reed c).vflush = r.vflush

/-- f[rd] holds a value, the rest of its vector register 0; every other register of `r` stays (R181). -/
def FResult (s t : State) (c : Nat) (r : Reed) (rd v : Nat) : Prop :=
  CoreOnly s t c r ∧ (t.reed c).gv rd = v % 2 ^ 64 ∧ (∀ n, n ≠ rd → (t.reed c).gv n = r.gv n) ∧ (∀ n, (t.reed c).gx n = r.gx n) ∧
    (∀ n, (t.reed c).gp n = r.gp n) ∧ (t.reed c).vl = r.vl ∧ (t.reed c).vflags = r.vflags ∧ (t.reed c).vflush = r.vflush

/-- A right shift rounded by VFXRM: to nearest with halves up, to nearest with halves to even, down, to odd (R192). -/
def roundedShift (mode : Nat) (x : Int) (d : Nat) : Int :=
  if d = 0 then x
  else match mode with
    | 0 => (x + (2 ^ (d - 1) : Nat)) / (2 ^ d : Nat)
    | 1 =>
      let q := (x + (2 ^ (d - 1) : Nat)) / (2 ^ d : Nat)
      if x % (2 ^ d : Nat) = (2 ^ (d - 1) : Nat) ∧ q % 2 = 1 then q - 1 else q
    | 2 => x / (2 ^ d : Nat)
    | _ => if x % (2 ^ d : Nat) = 0 ∨ (x / (2 ^ d : Nat)) % 2 = 1 then x / (2 ^ d : Nat) else x / (2 ^ d : Nat) + 1

/-- One byte of memory as a read delivers it. -/
def byteRead (s : State) (a : Nat) : Byte := (s.lineView (a / 64 * 64)).data.getD (a % 64) 0

/-- What the shared-cache slices hold is what the tiers give. -/
def SlicesAgree (s : State) : Prop :=
  FMap.sorted s.mem.slices = true ∧
    ∀ k d p, FMap.find? k s.mem.slices = some (d, p) → ∃ sp, s.spot (64 * k) = some sp ∧ s.tierView sp (64 * k) = ⟨0, d, p, []⟩

/-- Nothing disturbs a read or a write of memory: no mirror of the log, no copy in the L3, no stored symbol errors, no stale travel check, no armed injection, no fencing by count; the slices hold what the tiers give. -/
def Clean (s : State) : Prop :=
  s.flag R.ERL_CTL_MIRROR_EN = false ∧ s.mem.l3 = [] ∧ s.mem.errs = [] ∧ s.mem.checks = [] ∧ s.mem.inject = none ∧ s.fld R.ERL_THRESH_UE_FENCE = 0 ∧
    FMap.sorted s.mem.side = true ∧ SlicesAgree s

/-- Every byte that lies at no place of the ranges reads as before. -/
def OnlyBytes (rs : List (Nat × Nat)) (s t : State) : Prop :=
  ∀ a, (∀ r ∈ rs, ∀ i < r.2, s.localAddr (r.1 + i) ≠ s.localAddr a) → byteRead t a = byteRead s a

/-- A line that this device holds and a write reaches: mapped, its own, not shut, no element of a region. -/
def Storable (s : State) (a : Nat) : Prop :=
  a % 64 = 0 ∧ a < 0x800000000000 ∧ s.mapped a = true ∧ s.farLine a = false ∧ s.hitsRegion a 64 = false ∧
    ∀ sp, s.spot a = some sp → s.spotShut sp = false

/-- The state as an item sees it while it runs: with the far lines that have been read for it (R511). -/
def seenBy (s : State) (id : Nat) (it : Item) : State := { s with mem := { s.mem with cur := .item id, remote := it.remote } }

/-- No line of some ranges lies with another member or behind the PCIe port. -/
def AllNear (s : State) (rs : List (Nat × Nat)) : Prop := ∀ a ∈ rangeLines rs, s.farLine a = false

/-- Queue `q` holds the head its die presents, no other die presents one before it, its checks find nothing, the balance covers it, and nothing else is in flight: its dispatch begins a run. -/
def Starts (s : State) (q : Nat) : Prop :=
  s.canon = true ∧ s.up = true ∧ Quiet s ∧ s.presented q = true ∧ s.outranked q = false ∧ s.verdict q (s.newItem q (s.headDesc q)) = Verdict.run ∧
    s.admits (s.headDesc q) false = true

/-- The head of `q` has been taken: one item is in flight, with the head's descriptor, the epoch and the configuration of its dispatch, its energy debited; CI has moved on. -/
def Taken (s t : State) (q : Nat) (it : Item) : Prop :=
  t.items = [(s.nextItem, it)] ∧ t.nextItem = s.nextItem + 1 ∧ it.queue = q ∧ it.desc = s.headDesc q ∧ it.epoch = s.fld R.EPO_CUR_EPOCH ∧
    it.cfg = s.modeRegs ∧ it.debited = s.corrected (s.headDesc q) ∧ t.fld R.WQS_W2_CI [q] = (s.fld R.WQS_W2_CI [q] + 1) % 2 ^ 32

/-- The head of `q` has been taken and has completed: nothing is in flight, CI and the queue's count of completed items have moved on. -/
def TakenAndDone (s t : State) (q : Nat) : Prop :=
  t.items = [] ∧ t.nextItem = s.nextItem + 1 ∧ t.fld R.WQS_W2_CI [q] = (s.fld R.WQS_W2_CI [q] + 1) % 2 ^ 32 ∧
    t.fld R.WQS_W4_DONE [q] = (s.fld R.WQS_W4_DONE [q] + 1) % 2 ^ 32

/-- Every other member of a group is reached over a port that is not DOWN (R340, R341). -/
def Routed (s : State) (gr : Group) : Prop :=
  ∀ i < gr.n, i ≠ gr.rank → ∃ k, s.route (gr.nodeAt i) = some k ∧ s.fld R.NLK_STATUS_STATE [k] ≠ 4 ∧ s.hasPort k = true

/-- A group as its record defines it: at least two members, this device among them (R351). -/
def GroupOk (gr : Group) : Prop := 2 ≤ gr.n ∧ gr.members.length = gr.n ∧ gr.rank < gr.n

/-- The step of item `id` is the one step in flight, and nothing but its item is: what an abort or an end of the step leaves is not mixed with anything else. -/
def LoneStep (s : State) (id : Nat) (it : Item) (c : Col) (gr : Group) : Prop :=
  s.canon = true ∧ s.up = true ∧ Clean s ∧ s.items = [(id, it)] ∧ s.cols = [(id, c)] ∧ hClass it.desc = 9 ∧ it.gate = none ∧ it.queue < 262144 ∧ it.die < 4 ∧ it.evc = [] ∧ it.bound = [] ∧
    s.gates = [] ∧ s.atBoundary = [] ∧ s.train.clearEval = false ∧ FMap.find? (cGroup it.desc) s.groups = some gr ∧ GroupOk gr

/-- The step of item `id` has aborted with a record of Table 13-6: it is no longer in flight, and COL_ABORT_LAST shows the record, the group and the bucket. -/
def Aborted (t : State) (id : Nat) (it : Item) (rec' : Nat) : Prop :=
  FMap.find? id t.cols = none ∧ FMap.find? id t.items = none ∧ t.fld R.COL_ABORT_LAST0_RECORD = rec' % 2 ^ 63 ∧ t.fld R.COL_ABORT_LAST0_VALID = 1 ∧
    t.fld R.COL_ABORT_LAST1_GROUP = cGroup it.desc ∧ t.fld R.COL_ABORT_LAST1_BUCKET = cBucket it.desc ∧
    t.fld R.COL_ABORT_LAST1_GEN = cGen it.desc ∧ t.fld R.COL_STATUS_LAST_STATUS = Code.COLL_ABORT

/-- A core's instance with sticky flags and flushes added, as VFLAGS and VFLUSH take them (R188, R193). -/
def flagged (k : RC) (flags flush : Nat) : RC :=
  { k with r := { k.r with vflags := k.r.vflags ||| flags, vflush := min (k.r.vflush + flush) (2 ^ 32 - 1) } }

/-- The active elements of v[vd] hold floating-point results, whose flags and flushes VFLAGS and VFLUSH have taken. -/
def FloatResult (s t : State) (c : Nat) (k : RC) (f : VFields) (w : Nat) (val : Nat → Res) : Prop :=
  VectorResult s t c (flagged k (orFlags ((k.actives f).map fun e => (val e).flags)) ((k.actives f).map fun e => (val e).flush).sum) f.vd w (k.on f)
    fun e => (val e).bits % 2 ^ w

/-- The little-endian number of `n` bytes at an address, as reads deliver them. -/
def numRead (s : State) (a n : Nat) : Nat := ofBytes ((List.range n).map fun i => byteRead s (a + i))

/-- A core may read `n` bytes: they lie in a window or its own tile store, are mapped, lie here, and their lines read without error. -/
def Loadable (s : State) (k : RC) (a n : Nat) : Prop :=
  (∀ i < n, s.mayAccess k.it.desc k.tile 0 (a + i) = true) ∧ s.mappedRange a n = true ∧
    ∀ l ∈ rangeLines [(a, n)], s.farLine l = false ∧ (s.lineView l).outcome = 0

/-- A core may store `n` bytes, aligned: they lie in a window or its own tile store, are mapped, lie here, and are no element of a region; their line is not shut. -/
def Writable (s : State) (k : RC) (a n : Nat) : Prop :=
  a % n = 0 ∧ (∀ i < n, s.mayAccess k.it.desc k.tile 1 (a + i) = true) ∧ s.mapped (a / 64 * 64) = true ∧ s.farLine (a / 64 * 64) = false ∧
    s.hitsRegion a n = false ∧ ∀ sp, s.spot (a / 64 * 64) = some sp → s.spotShut sp = false

/-- No register word but the traffic and the hit and miss counts of reads and the step counts of cores differs. -/
def OnlyReadCounts (s t : State) : Prop :=
  ∀ o, (∀ k < 16, o ≠ R.STK_TRAFFIC_LINES.at [k / 4, k % 4]) → (∀ k < 64, o ≠ R.SCA_STAT_MISSES.at [k / 16, k % 16]) →
    (∀ p < 576, o ≠ R.TIL_REED_STEPS_STEPS.at (tix p)) → FMap.find? o t.regs = FMap.find? o s.regs

/-- A store of core `c` has ended: the pc is four further; the core's registers, the items and every other core are as they were. -/
def StoreEnds (s t : State) (c : Nat) (r : Reed) : Prop :=
  (t.reed c).pc = (r.pc + 4) % 2 ^ 64 ∧ ControlsKept t c r ∧ t.items = s.items ∧ (∀ d, d ≠ c → t.reed d = s.reed d) ∧
    (∀ n, (t.reed c).gv n = r.gv n) ∧ (∀ n, (t.reed c).gx n = r.gx n) ∧ (∀ n, (t.reed c).gp n = r.gp n) ∧ (t.reed c).vl = r.vl ∧
    (t.reed c).vflags = r.vflags ∧ (t.reed c).vflush = r.vflush

/-- The elements of v[vd] that `new` lists hold its values; its other elements and every other register stay, and VFLAGS and VFLUSH have taken some marks. -/
def ListedResult (s t : State) (c : Nat) (k : RC) (vd w : Nat) (new : List (Nat × Nat)) (m : Marks) : Prop :=
  VectorResult s t c (flagged k m.flags m.flush) vd w (fun e => (FMap.find? e new).isSome) fun e => (FMap.find? e new).getD 0 % 2 ^ w

/-- The active elements of a register pair hold the results of the value lane and of the tangent lane; every other register stays (R227). -/
def PairResult (s t : State) (c : Nat) (k : RC) (f : VFields) (val tan : Nat → Res) : Prop :=
  let w := fpEwBits f.ew
  let pd := pairOf f.vd
  CoreOnly s t c k.r ∧
    (∀ e < 512 / w, (t.reed c).el pd w e = (if k.on f e then (val e).bits % 2 ^ w else k.r.el pd w e) ∧
      (t.reed c).el (pd + 1) w e = (if k.on f e then (tan e).bits % 2 ^ w else k.r.el (pd + 1) w e)) ∧
    (∀ n, n ≠ pd → n ≠ pd + 1 → (t.reed c).gv n = k.r.gv n) ∧ (∀ n, (t.reed c).gx n = k.r.gx n) ∧ (∀ n, (t.reed c).gp n = k.r.gp n) ∧
    (t.reed c).vl = k.r.vl ∧
    (t.reed c).vflags = k.r.vflags ||| orFlags ((k.actives f).map fun e => (val e).flags ||| (tan e).flags) ∧
    (t.reed c).vflush = min (k.r.vflush + ((k.actives f).map fun e => (val e).flush + (tan e).flush).sum) (2 ^ 32 - 1)

/-- Processor `p` has request `m` of a type before it, which R436 does not refuse, and nothing waits for its OUT mailbox, which has a free slot. -/
def Asked (s : State) (p : Nat) (m : Msg) (type : Nat) : Prop :=
  s.canon = true ∧ s.up = true ∧ s.canServe p = true ∧ s.inMsg p = m ∧ s.refusal p m = 0 ∧ m.type = type ∧ s.outRoom p = true ∧ (s.fwp p).events = []

/-- The next OUT slot holds the reply to request `m` with a version, a status and a body; both mailboxes have moved on by one (R435 to R437). -/
def Replied (s t : State) (p : Nat) (m : Msg) (version : Nat × Nat) (status : Nat) (body : List Byte) : Prop :=
  let pi := s.fld R.QMC_MBX_W1_OUT_PI [p]
  t.slotBytes p 1 pi (32 + body.length) = messageBytes version.1 version.2 m.type 1 m.seq status s.nowNs (s.fld R.QMC_MBX_W2_FW_EPOCH [p]) body ∧
    t.fld R.QMC_MBX_W1_OUT_PI [p] = (pi + 1) % 2 ^ 32 ∧ t.fld R.QMC_MBX_W0_IN_CI [p] = (s.fld R.QMC_MBX_W0_IN_CI [p] + 1) % 2 ^ 32

/-- Processor `p` has crashed with a cause: its registers show it, and it restarts under the next firmware epoch, or is held with the job-fatal sequence running after the third crash within a second (R446 to R449). -/
def Crashed (s t : State) (p cause : Nat) : Prop :=
  t.fld R.FWP_CRASH_CAUSE [p] = cause ∧ t.fld R.FWP_CRASH_TIME_TIME [p] = s.nowNs ∧ (t.fwp p).cause = cause ∧ (t.fwp p).heldReply = none ∧
    ((s.recentCrashes p).length < 3 → t.fld R.FWP_STATUS_STATE [p] = 1 ∧ t.fld R.FWP_STATUS_LAST_CAUSE [p] = cause ∧
      t.fld R.FWP_STATUS_RESTARTS [p] = min (s.fld R.FWP_STATUS_RESTARTS [p] + 1) (2 ^ 16 - 1) ∧
      t.fld R.QMC_MBX_W2_FW_EPOCH [p] = (s.fld R.QMC_MBX_W2_FW_EPOCH [p] + 1) % 2 ^ 32) ∧
    (3 ≤ (s.recentCrashes p).length → t.fld R.FWP_STATUS_STATE [p] = 2 ∧ t.job.running = true)

end Sys2Proof.Claims

open Sys2Proof Sys2Proof.Machine Sys2Proof.Claims

/-- The power and reset pins, and the test access port. MOD_EN_ASSERT, MOD_PWRGD_RISE, PWRGD_TIMEOUT, MOD_EN_DEASSERT, INPUT_UNDERVOLTAGE, MOD_RST_N_RISE and MOD_RST_N_FALL complete. MOD_EN, MOD_PWRGD and MOD_RST_N take their new levels and nothing else changes, but that the rise of MOD_RST_N ends EXTEST (the model's choice, log entry 118); after a timeout or an undervoltage MOD_PWRGD cannot rise until MOD_EN has been cycled; a loss of power or a reset while the device runs empties registers, memory, items and ports, lowers MOD_READY and keeps the flash, and sends nothing (a falling MOD_RST_N runs no job-fatal sequence); only a loss of power releases a latched trip pin (an input undervoltage with MOD_EN still high too, the model's choice, log entry 134). With PWR_BRAKE_N low the brake is in force as soon as MOD_PWRGD is high, every setpoint at 600 mV or below, and after a fall of MOD_RST_N too. While the module is powered and TRST_N is high, TAP_IDCODE shifts out 0x1EB7_0C3F and TAP_BYPASS its input bit, in any state of the device; SAMPLE/PRELOAD shifts a word out (a free value, log entry 4) and EXTEST drives the pins while MOD_RST_N holds the device or a debug image is active (and, the model's choice, log entry 118, between the rise of MOD_RST_N and the internal release), and neither has any effect otherwise; with TRST_N low none of them has an effect on the device, and BYPASS, which carries the lines of the port (the model's choice, log entry 118), leaves the port in Test-Logic-Reset. (R15, R18, R19, R24, R25, R27, R31, R32, R34, R35, R36, Table 1-6.) -/
def Obligations.PowerSequence : Prop :=
  ∀ s : State,
    exec .modEnAssert s = .next { s with pins := { s.pins with modEn := true } } ∧
    (s.pins.modEn = true → s.pins.underVoltLatch = false → s.pins.pwrBrakeN = true →
      exec .modPwrgdRise s = .next { s with pins := { s.pins with modPwrgd := true } }) ∧
    (s.pins.modEn = true → s.pins.underVoltLatch = false → s.pins.pwrBrakeN = false → s.cols = [] →
      ∃ t, exec .modPwrgdRise s = .next t ∧ t.pins = { s.pins with modPwrgd := true } ∧ t.flag R.NRG_THR_BRAKE = true ∧ WorkKept s t ∧
        ∀ d < 5, t.fld R.NRG_DIE_W0_SETPOINT_MV [d] ≤ 600) ∧
    (s.pins.modEn = true → s.pins.modPwrgd = false →
      ∃ t, exec .pwrgdTimeout s = .next t ∧ t = { s with pins := t.pins } ∧ t.pins.modPwrgd = false ∧ exec .modPwrgdRise t = .next t) ∧
    (∃ t, exec .modEnDeassert s = .next t ∧ t.pins.modEn = false ∧ t.pins.modPwrgd = false ∧ t.pins.modReady = false ∧ t.pins.thermTripN = true ∧
      t.regs = [] ∧ t.mem.cells = [] ∧ t.mem.poison = [] ∧ t.items = [] ∧ t.ports = [] ∧ t.flash = s.flash ∧ t.out = s.out ∧
      ∃ u v, exec .modEnAssert t = .next u ∧ exec .modPwrgdRise u = .next v ∧ v.pins.modPwrgd = true) ∧
    (s.pins.modEn = true →
      ∃ t, exec .inputUndervoltage s = .next t ∧ t.pins.modPwrgd = false ∧ t.pins.modReady = false ∧
        t.regs = [] ∧ t.mem.cells = [] ∧ t.mem.poison = [] ∧ t.items = [] ∧ t.ports = [] ∧ t.flash = s.flash ∧ t.out = s.out ∧
        exec .modPwrgdRise t = .next t) ∧
    exec .modRstNRise s = .next { s with pins := { s.pins with modRstN := true, extest := none } } ∧
    (s.pins.released = true →
      ∃ t, exec .modRstNFall s = .next t ∧ t.pins.modRstN = false ∧ t.pins.released = false ∧ t.pins.modReady = false ∧
        t.pins.modPwrgd = s.pins.modPwrgd ∧ t.pins.thermTripN = s.pins.thermTripN ∧
        (s.pins.pwrBrakeN = true → s.sb.trip = false → t.regs = []) ∧ (s.pins.pwrBrakeN = false → t.flag R.NRG_THR_BRAKE = true) ∧
        t.mem.cells = [] ∧ t.mem.poison = [] ∧ t.items = [] ∧ t.ports = [] ∧ t.flash = s.flash ∧ t.out = s.out) ∧
    (s.pins.modPwrgd = true →
      (∀ b : Bool, exec (.tapBypass ⟨true, b⟩) s =
        .next { s with pins := { s.pins with trstN := true, tdo := (if b then 1 else 0), extest := none }, out := s.out ++ [.tdo (if b then 1 else 0)] }) ∧
      (s.pins.trstN = true →
        exec .tapIdcode s = .next { s with pins := { s.pins with tdo := 0x1EB70C3F, extest := none }, out := s.out ++ [.tdo 0x1EB70C3F] } ∧
        (s.pins.released = false ∨ s.flag R.BSU_STATUS_DEBUG = true →
          (∃ t w, exec .tapSamplePreload s = .next t ∧ t.pins = { s.pins with tdo := w, extest := none } ∧ t.out = s.out ++ [.tdo w] ∧
            t.regs = s.regs ∧ WorkKept s t) ∧
          ∀ p, exec (.tapExtest p) s = .next { s with pins := { s.pins with extest := some p } }) ∧
        (s.pins.released = true → s.flag R.BSU_STATUS_DEBUG = false → exec .tapSamplePreload s = .next s ∧ ∀ p, exec (.tapExtest p) s = .next s))) ∧
    (s.pins.trstN = false → exec .tapIdcode s = .next s ∧ exec .tapSamplePreload s = .next s ∧ ∀ p, exec (.tapExtest p) s = .next s) ∧
    ∀ b : Bool, exec (.tapBypass ⟨false, b⟩) s = .next { s with pins := { s.pins with trstN := false, extest := none } }

/-- What RESET_RELEASE leaves. RESET_RELEASE with MOD_PWRGD and MOD_RST_N high and the device still held samples RECOVERY_N into the pin record and releases the device, and the boot count of the flash goes up by one. Without a PUF key it stops at step 2 with PUF_FAIL, without a working storage element at step 2 with STORAGE_FAIL, and without a manifest copy to use at step 2 with MANIFEST_BAD, START_FAIL set in BSU_STATUS and on the sideband. With RECOVERY_N low it listens, RECOVERY set, whatever step 2 finds, and no firmware of the slots runs. With RECOVERY_N high and both images accepted from the active slots it stands at step 6, not failed. (R29, R484, R489, R490, R498, R545.) -/
def Obligations.ResetRelease : Prop :=
  ∀ (s : State) (rec puf stor key : Bool), s.canon = true → s.pins.modPwrgd = true → s.pins.modRstN = true → s.pins.released = false →
    ∃ t, exec (.resetRelease rec puf stor key) s = .next t ∧ t.pins.released = true ∧ t.pins.recoveryN = rec ∧
      (rec = false → t.boot.listening = true ∧ t.flag R.BSU_STATUS_RECOVERY = true ∧ t.boot.fw = s.boot.fw) ∧
      (puf = false → t.boot.failed = true ∧ t.boot.stage = 2 ∧ t.fld R.BSU_STATUS_STAGE = 2 ∧ t.flag R.BSU_STATUS_START_FAIL = true ∧
        t.fld R.BSU_STATUS_LAST_CODE = Code.PUF_FAIL ∧ t.sb.startFail = true ∧ t.sb.lastStatus = Code.PUF_FAIL) ∧
      (puf = true → stor = false → t.boot.failed = true ∧ t.boot.stage = 2 ∧ t.fld R.BSU_STATUS_LAST_CODE = Code.STORAGE_FAIL ∧ t.sb.startFail = true) ∧
      (puf = true → stor = true → t.flash.ctrBoots = s.flash.ctrBoots + 1) ∧
      (puf = true → stor = true → { s.flash with ctrBoots := s.flash.ctrBoots + 1 }.choose = none →
        t.boot.failed = true ∧ t.boot.stage = 2 ∧ t.fld R.BSU_STATUS_LAST_CODE = Code.MANIFEST_BAD ∧ t.sb.startFail = true) ∧
      ∀ f, { s.flash with ctrBoots := s.flash.ctrBoots + 1 }.choose = some f → puf = true → stor = true →
        (rec = false → t.flash = f) ∧
        (rec = true → key = true → ∀ i w, f.manifest.update ≠ 3 → f.accepts (f.fwSlot (f.manifest.fwActive % 2)) = some i →
          f.weaveSlot (f.manifest.weaveActive % 2) = some w → weaveVerdict { f with ctrFw := max f.ctrFw i.svn } (some w) = 0 →
          t.boot.fw = some i ∧ t.boot.weave = some w ∧ t.boot.stage = 6 ∧ t.boot.keyReady = true ∧ t.boot.failed = s.boot.failed)

/-- Start-up from memory training to MOD_READY, and recovery. MEM_TRAINING_DONE at step 6 forms the maps and goes to step 9 when no channel in use failed, and otherwise fails start-up with MEM_TRAIN_FAIL, leaving MOD_READY as it was. TIME_LOCK_TIMEOUT at step 9 of an image with a time source goes on to step 10 without lock. MOD_READY_RISE after step 9 raises MOD_READY and READY with the key ready, no job-fatal sequence and no latched trip, shows TIME_LOCKED only where start-up did not go on without lock, and starts the harts of the mask at the loader, their number and the device ID in their first two arguments. RECOVERY_LISTEN_TIMEOUT takes the image of the recovery region, RECOVERY_DATA_FRAME stores its bytes and RECOVERY_END_FRAME takes the image received; an accepted image, from either source, ends the listening, raises MOD_READY unless start-up has failed, and runs alone; a refused one, from either source, is discarded, leaves MOD_READY low and makes the wait one without limit. (R26, R29, R255, R260, R485, R486, R497, R498, R505, R516, Table 18-2.) -/
def Obligations.StartUpSteps : Prop :=
  ∀ s : State, s.canon = true →
    (∀ fs fr w, s.up = true → s.boot.weave = some w → s.boot.stage = 6 →
      (failedIn (w.stkMask s.flash) fs = [] → failedIn (w.rimMask s.flash) fr = [] →
        ∃ t, exec (.memTrainingDone fs fr) s = .next t ∧ t.boot.stage = 9 ∧ t.boot.stkMask = w.stkMask s.flash ∧
          t.boot.rimMask = w.rimMask s.flash ∧ t.boot.localU = w.localU ∧ t.boot.failed = s.boot.failed ∧ t.fld R.BSU_STATUS_STAGE = 9) ∧
      ((failedIn (w.stkMask s.flash) fs ≠ [] ∨ failedIn (w.rimMask s.flash) fr ≠ []) →
        ∃ t, exec (.memTrainingDone fs fr) s = .next t ∧ t.boot.failed = true ∧ t.boot.stage = 6 ∧ t.sb.startFail = true ∧
          t.fld R.BSU_STATUS_LAST_CODE = Code.MEM_TRAIN_FAIL ∧ t.pins = s.pins)) ∧
    (s.up = true → s.boot.stage = 9 → s.timed = true → s.time.locked = false →
      ∃ t, exec .timeLockTimeout s = .next t ∧ t.boot.stage = 10 ∧ t.fld R.BSU_STATUS_STAGE = 10 ∧ t.time = s.time ∧
        LoggedAt s t Code.TIME_UNLOCKED bsuUnit) ∧
    (s.up = true → (s.boot.stage = 10 ∨ (s.boot.stage = 9 ∧ (s.timed = false ∨ s.time.locked = true))) → s.boot.keyReady = true →
      s.job.running = false → s.sb.trip = false → s.flag R.BSU_STATUS_READY = false →
      ∃ t, exec .modReadyRise s = .next t ∧ t.pins = { s.pins with modReady := true } ∧ t.boot.stage = 10 ∧ t.flag R.BSU_STATUS_READY = true ∧
        t.flag R.BSU_STATUS_TIME_LOCKED = (s.time.locked && s.boot.stage == 9) ∧ ∀ h < 16, bit (s.fld R.HRT_START_HART_MASK) h = true → (t.hart h).running = true ∧
          .hartStart h (s.fld R.HRT_START_LOADER_ADDR) (BitVec.ofNat 64 h) (BitVec.ofNat 64 s.flash.deviceId) ∈ t.out) ∧
    (∀ i, s.boot.listening = true → s.boot.forever = false → s.boot.recvBegun = false → s.flash.accepts s.flash.recovery = some i →
      ∃ t, exec .recoveryListenTimeout s = .next t ∧ t.boot.listening = false ∧ t.boot.recoveryRun = true ∧ t.boot.fw = some i ∧ t.pins.modReady = !s.boot.failed) ∧
    (s.boot.listening = true → s.boot.forever = false → s.boot.recvBegun = false → s.flash.accepts s.flash.recovery = none →
      ∃ t, exec .recoveryListenTimeout s = .next t ∧ t = { s with boot := { s.boot with forever := true, recvd := [], recvBegun := false } }) ∧
    (∀ off data, s.boot.listening = true → off + data.length ≤ 2 ^ 24 → data.length ≤ 8192 →
      ∃ t, exec (.recoveryDataFrame off data) s = .next t ∧ t.boot.recvBegun = true ∧ t = { s with boot := { s.boot with recvBegun := true, recvd := t.boot.recvd } } ∧
        ∀ a, FMap.find? a t.boot.recvd = if off ≤ a ∧ a < off + data.length then some (data.getD (a - off) 0) else FMap.find? a s.boot.recvd) ∧
    (s.boot.listening = true → s.boot.recvBegun = true →
      let got := s.flash.accepts (some (FwImage.parse ((List.range ((s.boot.recvd.getLast?.map fun e => e.1 + 1).getD 0)).map fun k => FMap.getD s.boot.recvd k 0)))
      (∀ i, got = some i →
        ∃ t, exec .recoveryEndFrame s = .next t ∧ t.boot.listening = false ∧ t.boot.recoveryRun = true ∧ t.boot.fw = some i ∧ t.pins.modReady = !s.boot.failed) ∧
      (got = none → exec .recoveryEndFrame s = .next { s with boot := { s.boot with forever := true, recvd := [], recvBegun := false } }))

/-- Alert sources, the power brake and their pins. THERM_SOURCE_ASSERT at the assert level of an inactive source makes it active and sticky, pulls THERM_ALERT_N low and sends one in-band interrupt; on an active source it sends none. THERM_SOURCE_DEASSERT below the level releases sources 0, 1, 4 and 5, and the pin rises when no other source is active; sources 2 and 3 stay. SB_ALERT_SRC_CLEAR clears the sticky bits of its mask, and of the active sources only source 2. PWR_BRAKE_N_FALL sets BRAKE and THROTTLE, takes every core rail that stands above it to 0.60 V, is an emergency, and admits nothing but collective steps; POWER_BRAKE_RELEASE ends it. (R16, R30, R32, R33, R475, R481, Table 1-8.) -/
def Obligations.AlertsAndBrake : Prop :=
  ∀ s : State, s.canon = true →
    (∀ src v, s.pins.modPwrgd = true → src < 6 → s.atLevel src (sourceValue src v) = true → bit s.sb.active src = false →
      ∃ t, exec (.thermSourceAssert src v) s = .next t ∧ t.pins = { s.pins with thermAlertN := false } ∧ bit t.sb.active src = true ∧
        bit t.sb.alertSrc src = true ∧ t.out = s.out ++ [.ibi src] ∧ t.regs = s.regs ∧ WorkKept s t) ∧
    (∀ src v, s.pins.modPwrgd = true → src < 6 → bit s.sb.active src = true →
      ∃ t, exec (.thermSourceAssert src v) s = .next t ∧ t.pins = s.pins ∧ t.sb.active = s.sb.active ∧ t.out = s.out) ∧
    (∀ src v, s.pins.modPwrgd = true → (src = 0 ∨ src = 1 ∨ src = 4 ∨ src = 5) → bit s.sb.active src = true → s.belowLevel src (sourceValue src v) = true →
      ∃ t, exec (.thermSourceDeassert src v) s = .next t ∧ t.sb.active = putBit s.sb.active src false ∧
        t.pins = { s.pins with thermAlertN := putBit s.sb.active src false == 0 } ∧ t.sb.alertSrc = s.sb.alertSrc ∧ t.regs = s.regs ∧ WorkKept s t) ∧
    (∀ src v, s.pins.modPwrgd = true → (src = 2 ∨ src = 3) →
      ∃ t, exec (.thermSourceDeassert src v) s = .next t ∧ t.sb.active = s.sb.active ∧ t.pins = s.pins) ∧
    (∀ mask, s.pins.modPwrgd = true →
      ∃ t, exec (.sbAlertSrcClear mask) s = .next t ∧ t.regs = s.regs ∧ WorkKept s t ∧
        (∀ i < 6, bit t.sb.alertSrc i = (bit s.sb.alertSrc i && !bit mask i)) ∧
        t.sb.active = (if bit mask 2 then putBit s.sb.active 2 false else s.sb.active) ∧
        (bit mask 2 = false ∨ bit s.sb.active 2 = false → t.pins = s.pins)) ∧
    (s.pins.modPwrgd = true → s.flag R.NRG_THR_BRAKE = false → (∀ d < 5, 600 ≤ s.fld R.NRG_DIE_W0_SETPOINT_MV [d]) →
      ∃ t, exec .pwrBrakeNFall s = .next t ∧ t.pins = { s.pins with pwrBrakeN := false } ∧ t.flag R.NRG_THR_BRAKE = true ∧
        t.flag R.NRG_THR_THROTTLE = true ∧ (∀ d < 5, t.fld R.NRG_DIE_W0_SETPOINT_MV [d] = 600) ∧ t.emergency = true ∧
        ∀ d f, isStep d = false → t.admits d f = false) ∧
    (s.pins.modPwrgd = true → s.flag R.NRG_THR_BRAKE = true →
      ∃ t, exec .powerBrakeRelease s = .next t ∧ t.pins = { s.pins with pwrBrakeN := true } ∧ t.flag R.NRG_THR_BRAKE = false)

/-- What a register read answers and clears. RC_FIELD_READ at an aligned offset of a present register answers one value, returns every RC field of that word to its reset value and leaves the other fields of the word, and every other register but TIM_FRAC. A read of a doorbell answers the work queue's PI or the completion queue's CI. TIM_NOW_READ answers the device time in nanoseconds and latches its fraction of a nanosecond in TIM_FRAC, in 1/65,536 ns. (R11, R406, R520, Table 0-5, Table 20-3.) -/
def Obligations.RegisterReads : Prop :=
  ∀ s : State, s.canon = true →
    (∀ off r ix, s.regUp off = true → off % 8 = 0 → s.absentOff off = false → rawOff off = false → regAt off = some (r, ix) →
      ∃ t v, exec (.rcFieldRead off) s = .next t ∧ t.out = s.out ++ [.regData off v] ∧ WorkKept s t ∧
        (∀ f ∈ r.fields, f.acc = .rc → t.fld f ix = bits f.rst.toNat f.lo f.w) ∧
        (∀ f ∈ r.fields, f.acc ≠ .rc → t.fld f ix = s.fld f ix) ∧
        ∀ o, o ≠ off → o ≠ R.TIM_FRAC_FRAC.base → FMap.find? o t.regs = FMap.find? o s.regs) ∧
    (∀ q < 262144, s.up = true →
      ∃ t, exec (.rcFieldRead (0x08000000 + 64 * q)) s = .next t ∧ t.regs = s.regs ∧
        t.out = s.out ++ [.regData (0x08000000 + 64 * q)
          (BitVec.ofNat 64 (if s.fld R.WQS_W0_KIND [q] = 0 then s.fld R.WQS_W2_PI [q] else s.fld R.WQS_W2_CI [q]))]) ∧
    (s.up = true →
      ∃ t, exec .timNowRead s = .next t ∧ t.out = s.out ++ [.regData R.TIM_NOW_NS.base (BitVec.ofNat 64 (s.time.now / 10000000000))] ∧
        t.fld R.TIM_FRAC_FRAC = s.time.now % 10000000000 * 65536 / 10000000000 ∧ WorkKept s t ∧
        ∀ o, o ≠ R.TIM_FRAC_FRAC.base → FMap.find? o t.regs = FMap.find? o s.regs)

/-- What a register write does to fields of each class. REGISTER_WRITE to an aligned offset with no register behind it changes nothing, and neither does one to a unit that is absent (R6; the model's choice, log entries 17 and 111) or at an offset that is not a multiple of 8 (the model's choice, log entry 7: an access that is not aligned comes as REG_ACCESS_BAD, which logs it). A write of a register with fields of class L and no effect of its own gives its RW fields their parts of the word, clears the bits of its W1C fields that are written 1, leaves its other fields and every other register; so one whose fields are all read-only keeps its word. A write of mailbox memory replaces the word. A write of EVC sets the counter and one of EVC_ADD adds to it modulo 2^64. A write of COL_SR_SEED, a G field, is staged while a staging is open and stays out of the live register, is discarded in drain and barrier with its live and staged values as they were and CFG_BUSY logged (where, is the model's choice, log entry 122), waits for the item boundary while a collective step is in flight, and is live at once on an idle engine. (R14, R64, R73, R78, R421, R529, R546, Table 3-12.) -/
def Obligations.RegisterWrites : Prop :=
  ∀ s : State, s.canon = true → s.up = true →
    (∀ off v, ∃ t, exec (.registerWrite off v) s = .next t ∧ (off % 8 ≠ 0 → t = s) ∧ (s.absentOff off = true → t = s)) ∧
    (∀ off v r ix, off % 8 = 0 → s.absentOff off = false → rawOff off = false → ¬(0x08000000 ≤ off ∧ off < 0x09000000) → regAt off = some (r, ix) →
      r.base ∉ effectBases → (∀ f ∈ r.fields, f.acc = .rw → f.cls = .l) →
      ∃ t, exec (.registerWrite off v) s = .next t ∧ FieldsTaken s t r ix v.toNat ∧ OnlyRegs [off] s t) ∧
    (∀ off v, off % 8 = 0 → rawOff off = true →
      ∃ t, exec (.registerWrite off v) s = .next t ∧ FMap.getD t.regs off 0 = v ∧ OnlyRegs [off] s t) ∧
    (∀ off v, off % 8 = 0 → regAt off = none → rawOff off = false → ¬(0x08000000 ≤ off ∧ off < 0x09000000) →
      exec (.registerWrite off v) s = .next s) ∧
    (∀ v, ∀ off ∈ [R.GLB_CAPS.base, R.TIM_NOW.base, R.EPO_CUR.base, R.QMC_LEDGER_CQE.base],
      ∃ t, exec (.registerWrite off v) s = .next t ∧ OnlyRegs [] s t) ∧
    (∀ k < 65536, ∀ v : Word,
      (∃ t, exec (.registerWrite (0x0A000000 + 8 * k) v) s = .next t ∧ t.fld R.EVC_VALUE [k] = v.toNat ∧ OnlyRegs [0x0A000000 + 8 * k] s t) ∧
      ∃ t, exec (.registerWrite (0x0A080000 + 8 * k) v) s = .next t ∧ t.fld R.EVC_VALUE [k] = (s.fld R.EVC_VALUE [k] + v.toNat) % 2 ^ 64 ∧
        OnlyRegs [0x0A000000 + 8 * k] s t) ∧
    (∀ v : Word, v.toNat ≠ s.presentG R.COL_SR_SEED.base R.COL_SR_SEED_SEED [] →
      (s.fld R.EPO_STATUS_STATE = 1 →
        ∃ t, exec (.registerWrite R.COL_SR_SEED.base v) s = .next t ∧ t.fld R.COL_SR_SEED_SEED = s.fld R.COL_SR_SEED_SEED ∧
          (∃ m, FMap.find? R.COL_SR_SEED.base t.staged = some (m, v)) ∧ t.fld R.EPO_STATUS_PARTICIPANTS = t.participants.length % 65536) ∧
      (s.fld R.EPO_STATUS_STATE = 2 ∨ s.fld R.EPO_STATUS_STATE = 3 →
        ∃ t, exec (.registerWrite R.COL_SR_SEED.base v) s = .next t ∧ t.fld R.COL_SR_SEED_SEED = s.fld R.COL_SR_SEED_SEED ∧ t.staged = s.staged ∧
          t.atBoundary = s.atBoundary ∧ LoggedAt s t Code.CFG_BUSY 0x2100) ∧
      (s.fld R.EPO_STATUS_STATE = 0 → (∃ e ∈ s.items, isStep e.2.desc = true) →
        ∃ t, exec (.registerWrite R.COL_SR_SEED.base v) s = .next t ∧ t.regs = s.regs ∧ t.staged = s.staged ∧
          ∃ m, FMap.find? R.COL_SR_SEED.base t.atBoundary = some (m, v)) ∧
      (s.fld R.EPO_STATUS_STATE = 0 → (∀ e ∈ s.items, isStep e.2.desc = false) →
        ∃ t, exec (.registerWrite R.COL_SR_SEED.base v) s = .next t ∧ t.fld R.COL_SR_SEED_SEED = v.toNat ∧ OnlyRegs [R.COL_SR_SEED.base] s t))

/-- An access to register space that is not an aligned 8-byte one. REG_ACCESS_BAD at any offset of a running block logs REG_ACCESS; a read answers all ones; a write, and the read, leave every register outside the error log, its interrupt's forwarding and the mirror's traffic count as it was. (R12.) -/
def Obligations.BadRegisterAccess : Prop :=
  ∀ (s : State) (off : Nat) (write : Bool), s.canon = true → s.regUp off = true →
    ∃ t, exec (.regAccessBad off write) s = .next t ∧ LoggedAt s t Code.REG_ACCESS (unitOfOff off % 65536) ∧
      (write = false → t.out.getLast? = some (.regData off 0xFFFFFFFFFFFFFFFF)) ∧
      t.items = s.items ∧ t.reeds = s.reeds ∧ t.staged = s.staged ∧ t.atBoundary = s.atBoundary ∧
      ∀ o, LogTouches o = false → FMap.find? o t.regs = FMap.find? o s.regs

/-- Droops, undervolt, stale requests and the narrow limit. DROOP_DETECT on a die without one holds matrix admission there, counts it and commands the regulator to its fast recovery, DROOP_RECOVER ends the hold. VCORE_UNDERVOLT runs the job-fatal sequence with its code: MOD_READY and READY go low. REQUEST_STALE marks a waiting request that has reached 16,384 stamp units and counts it at its tile. NARROW_LIMIT_RELEASE below the limit lets a lone waiting request of the die issue: it no longer waits. A grant takes a source that has had fewer than two grants ahead of every other waiting head, and counts one more for each. (R44, R46, R60, R61, R62, R267, R537.) -/
def Obligations.DroopsAndAges : Prop :=
  ∀ s : State, s.canon = true → s.up = true →
    (∀ d < 5, (s.rail d).droop = false →
      ∃ t, exec (.droopDetect d) s = .next t ∧ (t.rail d).droop = true ∧ t.fld R.NRG_DIE_W1_DROOPS [d] = min (s.fld R.NRG_DIE_W1_DROOPS [d] + 1) (2 ^ 32 - 1) ∧
        (∀ e ≠ d, t.rail e = s.rail e) ∧ WorkKept s t ∧ t.out = s.out ++ [.fastRecovery d] ∧
        ∀ c : Desc, ∀ f, hClass c = 1 → d ∈ t.itemDies c → t.admits c f = false) ∧
    (∀ d < 5, ∃ t, exec (.droopRecover d) s = .next t ∧ (t.rail d).droop = false ∧ (∀ e ≠ d, t.rail e = s.rail e) ∧ t.regs = s.regs ∧ WorkKept s t) ∧
    (∀ d < 5, s.job.running = false →
      ∃ t, exec (.vcoreUndervolt d) s = .next t ∧ t.job.running = true ∧ t.job.code = Code.VCORE_UNDERVOLT ∧ t.pins.modReady = false ∧
        (s.cols = [] → t.flag R.BSU_STATUS_READY = false) ∧ ∀ q, t.qState q = 3) ∧
    (∀ r w, FMap.find? r s.waiting = some w → w.stale = false → 16384 ≤ (s.ageStamp + 65536 - w.age) % 65536 →
      ∃ t, exec (.requestStale r) s = .next t ∧ FMap.find? r t.waiting = some { w with stale := true } ∧
        (∀ k ≠ r, FMap.find? k t.waiting = FMap.find? k s.waiting) ∧ WorkKept s t ∧
        t.fld R.TIL_RTR_STAT_STALE (tix w.tile) = min (s.fld R.TIL_RTR_STAT_STALE (tix w.tile) + 1) (2 ^ R.TIL_RTR_STAT_STALE.w - 1)) ∧
    (∀ d < 4, ∀ r w, s.narrowOut' d < 4096 → s.waiting = [(r, w)] → s.narrowWait = [] → w.tile / 144 = d →
      ∃ t, exec (.narrowLimitRelease d) s = .next t ∧ t.waiting = [] ∧
        OnlyRegs [R.TIL_RTR_STAT_MAX_WAIT.at (tix w.tile)] { s with waiting := [], arbs := t.arbs } t) ∧
    ∀ (r r' : Arb) (weight : Nat → Nat) (hs : List ArbHead) (h : ArbHead) (b : Bool) (n : Nat), (∀ a ∈ hs, a.src < 4096) →
      r.grant weight hs = some (h, r', b, n) → h ∈ hs ∧
        ∀ a ∈ hs, a.src ≠ h.src → r.had a.src h.src < 2 ∧ r'.had a.src h.src = r.had a.src h.src + 1

/-- The mode-epoch commands, state by state. OPEN opens a staging from idle or abandoned, which the G writes that still waited for a work-item boundary join (log entry 122), and is EPOCH_BUSY in every other state. COMMIT of an open staging goes to drain while items of the epoch before are in flight, and to the barrier otherwise, with every participant's acknowledgement pending; with no participant it switches the epoch at once, and with no staging open it changes nothing (the model's choice, log entry 122). CANCEL empties an open staging, is EPOCH_BUSY in drain and barrier, and changes nothing in idle and abandoned. The drain's end goes to the barrier. A refusal, or a timeout naming the lowest unit that has not acknowledged, abandons the change: the staging is empty, EPO_CUR stays, ABANDONED and UNIT are set and EPOCH_ABANDONED is logged. Writing ABANDONED with 1 clears it and returns to idle. (R73, R74, R75, R76, R77, Table 3-15.) -/
def Obligations.EpochCommands : Prop :=
  ∀ s : State, s.canon = true → s.up = true →
    (s.fld R.EPO_STATUS_STATE = 0 ∨ s.fld R.EPO_STATUS_STATE = 4 →
      ∃ t, exec .epochOpen s = .next t ∧ t.fld R.EPO_STATUS_STATE = 1 ∧ t.fld R.EPO_STATUS_ABANDONED = s.fld R.EPO_STATUS_ABANDONED ∧
        t.atBoundary = [] ∧ t.train = { s.train with clearEval := false } ∧ (s.train.clearEval = false → t.staged = s.atBoundary) ∧
        (s.train.clearEval = true → ∃ m v, FMap.find? R.TRN_CTL.base t.staged = some (m, v) ∧ bit m.toNat 1 = true ∧ bit v.toNat 1 = true) ∧
        t.fld R.EPO_STATUS_PARTICIPANTS = t.participants.length % 65536 ∧
        OnlyRegs [R.EPO_STATUS.base] { s with staged := t.staged, atBoundary := [], train := t.train } t) ∧
    (s.fld R.EPO_STATUS_STATE = 1 ∨ s.fld R.EPO_STATUS_STATE = 2 ∨ s.fld R.EPO_STATUS_STATE = 3 →
      ∃ t, exec .epochOpen s = .next t ∧ t.fld R.EPO_STATUS_STATE = s.fld R.EPO_STATUS_STATE ∧ t.staged = s.staged ∧ LoggedAt s t Code.EPOCH_BUSY 0x0100) ∧
    (s.fld R.EPO_STATUS_STATE = 1 → s.oldItems ≠ 0 →
      ∃ t, exec .epochCommit s = .next t ∧ t.fld R.EPO_STATUS_STATE = 2 ∧ OnlyRegs [R.EPO_STATUS.base] s t) ∧
    (s.fld R.EPO_STATUS_STATE = 1 → s.oldItems = 0 → s.participants ≠ [] →
      ∃ t, exec .epochCommit s = .next t ∧ t.fld R.EPO_STATUS_STATE = 3 ∧ t.fld R.EPO_STATUS_ACK_PENDING = s.participants.length % 65536 ∧
        t.epo.acked = [] ∧ t.staged = s.staged ∧ WorkKept s t) ∧
    (s.fld R.EPO_STATUS_STATE = 1 → s.oldItems = 0 → s.participants = [] → s.epo.items = [] → (∀ e ∈ s.staged, e.1 / 0x1000000 ≠ 1 ∧ e.1 ≠ R.TRN_CTL.base) →
      ∃ t, exec .epochCommit s = .next t ∧ t.fld R.EPO_CUR_EPOCH = (s.fld R.EPO_CUR_EPOCH + 1) % 2 ^ 32 ∧ t.fld R.EPO_STATUS_STATE = 0 ∧
        t.fld R.EPO_STATUS_ACK_PENDING = 0 ∧ t.staged = [] ∧ WorkKept s t) ∧
    (s.fld R.EPO_STATUS_STATE ≠ 1 → exec .epochCommit s = .next s) ∧
    (s.fld R.EPO_STATUS_STATE = 0 ∨ s.fld R.EPO_STATUS_STATE = 4 → exec .epochCancel s = .next s) ∧
    (s.fld R.EPO_STATUS_STATE = 1 →
      ∃ t, exec .epochCancel s = .next t ∧ t.fld R.EPO_STATUS_STATE = 0 ∧ t.staged = [] ∧ t.fld R.EPO_CUR_EPOCH = s.fld R.EPO_CUR_EPOCH ∧ WorkKept s t) ∧
    (s.fld R.EPO_STATUS_STATE = 2 ∨ s.fld R.EPO_STATUS_STATE = 3 →
      ∃ t, exec .epochCancel s = .next t ∧ t.fld R.EPO_STATUS_STATE = s.fld R.EPO_STATUS_STATE ∧ t.staged = s.staged ∧ LoggedAt s t Code.EPOCH_BUSY 0x0100) ∧
    (s.fld R.EPO_STATUS_STATE = 2 → s.oldItems = 0 → s.participants ≠ [] →
      ∃ t, exec .epochDrainEnd s = .next t ∧ t.fld R.EPO_STATUS_STATE = 3 ∧ t.fld R.EPO_STATUS_ACK_PENDING = s.participants.length % 65536 ∧ t.staged = s.staged) ∧
    (∀ u, s.fld R.EPO_STATUS_STATE = 3 → s.participants.contains u = true → s.epo.acked.contains u = false → s.epo.items = [] →
      ∃ t, exec (.epochPrepareRefusal u) s = .next t ∧ t.fld R.EPO_STATUS_STATE = 4 ∧ t.flag R.EPO_STATUS_ABANDONED = true ∧
        t.fld R.EPO_STATUS_UNIT = u % 65536 ∧ t.staged = [] ∧ t.fld R.EPO_CUR_EPOCH = s.fld R.EPO_CUR_EPOCH ∧ LoggedAt s t Code.EPOCH_ABANDONED (u % 65536)) ∧
    (∀ u, s.fld R.EPO_STATUS_STATE = 3 → s.epo.items = [] → u ∈ s.participants → u ∉ s.epo.acked → (∀ v ∈ s.participants, v ∉ s.epo.acked → u ≤ v) →
      ∃ t, exec .epochAckTimeout s = .next t ∧ t.fld R.EPO_STATUS_STATE = 4 ∧ t.flag R.EPO_STATUS_ABANDONED = true ∧
        t.fld R.EPO_STATUS_UNIT = u % 65536 ∧ t.staged = [] ∧ t.fld R.EPO_CUR_EPOCH = s.fld R.EPO_CUR_EPOCH ∧ LoggedAt s t Code.EPOCH_ABANDONED (u % 65536)) ∧
    ∃ t, exec .epochAbandonClear s = .next t ∧ t.flag R.EPO_STATUS_ABANDONED = false ∧ OnlyRegs [R.EPO_STATUS.base] s t ∧
      t.fld R.EPO_STATUS_STATE = if s.fld R.EPO_STATUS_STATE = 4 then 0 else s.fld R.EPO_STATUS_STATE

/-- The last acknowledgement switches the epoch. EPOCH_PREPARE_ACK of a participant that others still follow lowers ACK_PENDING and leaves the barrier and EPO_CUR as they are. The last one increments EPO_CUR, ends the barrier with nothing staged and nothing pending, and every staged bit of every word outside the epoch block is live, the other bits of those words as they were. (R75, R76, R71.) -/
def Obligations.EpochSwitch : Prop :=
  ∀ (s : State) (u : Nat), s.canon = true → s.up = true → s.fld R.EPO_STATUS_STATE = 3 → s.participants.contains u = true → s.epo.acked.contains u = false →
    (s.epo.acked.length + 1 < s.participants.length → s.participants.length < 65536 →
      ∃ t, exec (.epochPrepareAck u) s = .next t ∧ t.fld R.EPO_STATUS_STATE = 3 ∧
        t.fld R.EPO_STATUS_ACK_PENDING = s.participants.length - s.epo.acked.length - 1 ∧ t.epo.acked = u :: s.epo.acked ∧
        t.staged = s.staged ∧ t.fld R.EPO_CUR_EPOCH = s.fld R.EPO_CUR_EPOCH ∧ WorkKept s t) ∧
    (s.participants.length ≤ s.epo.acked.length + 1 → s.epo.items = [] → FMap.sorted s.staged = true →
      (∀ e ∈ s.staged, e.1 / 0x1000000 ≠ 1 ∧ e.1 ≠ R.TRN_CTL.base) →
      ∃ t, exec (.epochPrepareAck u) s = .next t ∧ t.fld R.EPO_CUR_EPOCH = (s.fld R.EPO_CUR_EPOCH + 1) % 2 ^ 32 ∧ t.staged = [] ∧
        t.fld R.EPO_STATUS_STATE = 0 ∧ t.fld R.EPO_STATUS_ACK_PENDING = 0 ∧ WorkKept s t ∧
        ∀ off mask val, FMap.find? off s.staged = some (mask, val) →
          FMap.getD t.regs off (rstAt off) = (FMap.getD s.regs off (rstAt off) &&& ~~~mask) ||| (val &&& mask))

/-- Doorbells of work and completion queues. WQ_DOORBELL with a clean value v whose upper 32 bits are 0 becomes the new PI of a work queue when (v − PI) mod 2^32 < 2^31 and (v − CI) mod 2^32 ≤ 2^n; CQ_DOORBELL becomes the new CI of a completion queue when (v − CI) mod 2^32 ≤ (PI − CI) mod 2^32; any other clean value is discarded, logged as DOORBELL_BAD, and leaves PI, CI and the queue's STATE. A read of the doorbell answers the index. (R406.) -/
def Obligations.Doorbells : Prop :=
  ∀ (s : State) (q : Nat) (v : Word), s.canon = true → s.up = true → q < 262144 →
    let pi := s.fld R.WQS_W2_PI [q]
    let ci := s.fld R.WQS_W2_CI [q]
    let okW := v.toNat < 2 ^ 32 ∧ (v.toNat + 2 ^ 32 - pi) % 2 ^ 32 < 2 ^ 31 ∧ (v.toNat + 2 ^ 32 - ci) % 2 ^ 32 ≤ 2 ^ s.fld R.WQS_W0_LOG2_N [q]
    let okC := v.toNat < 2 ^ 32 ∧ (v.toNat + 2 ^ 32 - ci) % 2 ^ 32 ≤ (pi + 2 ^ 32 - ci) % 2 ^ 32
    (s.fld R.WQS_W0_KIND [q] = 0 →
      (okW → ∃ t, exec (.wqDoorbell q v false) s = .next t ∧ t.fld R.WQS_W2_PI [q] = v.toNat ∧ t.fld R.WQS_W2_CI [q] = ci ∧
        OnlyRegs [0x09000010 + 64 * q, 0x09000028 + 64 * q] s t ∧
        ∃ u, exec (.rcFieldRead (0x08000000 + 64 * q)) t = .next u ∧ u.out = t.out ++ [.regData (0x08000000 + 64 * q) v]) ∧
      (¬ okW → ∃ t, exec (.wqDoorbell q v false) s = .next t ∧ t.fld R.WQS_W2_PI [q] = pi ∧ t.fld R.WQS_W2_CI [q] = ci ∧
        t.fld R.WQS_W1_STATE [q] = s.fld R.WQS_W1_STATE [q] ∧ LoggedAt s t Code.DOORBELL_BAD qmcUnit)) ∧
    (s.fld R.WQS_W0_KIND [q] = 1 →
      (okC → ∃ t, exec (.cqDoorbell q v false) s = .next t ∧ t.fld R.WQS_W2_CI [q] = v.toNat ∧ t.fld R.WQS_W2_PI [q] = pi ∧
        OnlyRegs [0x09000010 + 64 * q] s t ∧
        ∃ u, exec (.rcFieldRead (0x08000000 + 64 * q)) t = .next u ∧ u.out = t.out ++ [.regData (0x08000000 + 64 * q) v]) ∧
      (¬ okC → ∃ t, exec (.cqDoorbell q v false) s = .next t ∧ t.fld R.WQS_W2_CI [q] = ci ∧ t.fld R.WQS_W2_PI [q] = pi ∧
        t.fld R.WQS_W1_STATE [q] = s.fld R.WQS_W1_STATE [q] ∧ LoggedAt s t Code.DOORBELL_BAD qmcUnit))

/-- Enabling, disabling and stopping a queue; contexts; the held head. QUEUE_ENABLE on a DISABLED queue whose ring lies in present memory makes it ENABLED, and on one whose ring does not records ADDR_UNMAPPED and leaves STATE. QUEUE_DISABLE makes a queue that is not FROZEN DISABLED and keeps its indices. A poisoned first word stops a served queue with POISON_CONSUMED, its CI unmoved. A poisoned doorbell stops a queue that is not FROZEN, leaves a FROZEN one FROZEN, and its value is not recorded. A clean first word with poison behind it takes the head, and the item completes: CI and DONE advance by one and nothing of it stays in flight. CONTEXT_HOLD and CONTEXT_ENABLE set their bits and nothing else. HELD_HEAD_ADMIT takes the held head of a die when the balance covers it and no other die presents a head before it: a barrier held on an otherwise idle block is taken and completes, and the die holds nothing. (R404, R411, R428, R429, R430, R431, R471.) -/
def Obligations.QueueStates : Prop :=
  ∀ (s : State) (q : Nat), s.canon = true → s.up = true → q < 262144 →
    (s.qState q = 0 → s.inTier (s.qBase q) (s.ringBytes q) = true →
      ∃ t, exec (.queueEnable q) s = .next t ∧ t.fld R.WQS_W1_STATE [q] = 1 ∧ OnlyRegs [0x09000008 + 64 * q] s t) ∧
    (s.qState q = 0 → s.inTier (s.qBase q) (s.ringBytes q) = false →
      ∃ t, exec (.queueEnable q) s = .next t ∧ t.fld R.WQS_W1_STATE [q] = 0 ∧ t.fld R.WQS_W1_STOP_STATUS [q] = Code.ADDR_UNMAPPED ∧
        OnlyRegs [0x09000008 + 64 * q] s t) ∧
    (s.qState q ≠ 3 → ∃ t, exec (.queueDisable q) s = .next t ∧ t.fld R.WQS_W1_STATE [q] = 0 ∧ OnlyRegs [0x09000008 + 64 * q] s t) ∧
    (s.served q = true → bit (s.headPoison q) 0 = true →
      ∃ t, exec (.queueHeadPoisoned q) s = .next t ∧ t.fld R.WQS_W1_STATE [q] = 2 ∧ t.fld R.WQS_W1_STOP_STATUS [q] = Code.POISON_CONSUMED ∧
        t.fld R.WQS_W2_CI [q] = s.fld R.WQS_W2_CI [q] ∧ t.fld R.WQS_W2_PI [q] = s.fld R.WQS_W2_PI [q] ∧ t.items = s.items) ∧
    (∀ v, s.fld R.WQS_W0_KIND [q] = 0 → s.qState q ≠ 3 →
      ∃ t, exec (.wqDoorbell q v true) s = .next t ∧ t.fld R.WQS_W1_STATE [q] = 2 ∧ t.fld R.WQS_W1_STOP_STATUS [q] = Code.POISON_CONSUMED ∧
        t.fld R.WQS_W2_PI [q] = s.fld R.WQS_W2_PI [q] ∧ t.fld R.WQS_W2_CI [q] = s.fld R.WQS_W2_CI [q]) ∧
    (∀ v, s.fld R.WQS_W0_KIND [q] = 0 → s.qState q = 3 →
      ∃ t, exec (.wqDoorbell q v true) s = .next t ∧ t.fld R.WQS_W1_STATE [q] = 3 ∧ t.fld R.WQS_W1_STOP_STATUS [q] = s.fld R.WQS_W1_STOP_STATUS [q] ∧
        t.fld R.WQS_W2_PI [q] = s.fld R.WQS_W2_PI [q] ∧ t.fld R.WQS_W2_CI [q] = s.fld R.WQS_W2_CI [q]) ∧
    (s.served q = true → s.headPoison q ≠ 0 → bit (s.headPoison q) 0 = false → s.slotRoom (s.homeOf q) = true → s.cqRoom (s.cqOf q) = true →
      Quiet s →
      ∃ t, exec (.descBodyPoisoned q) s = .next t ∧ t.fld R.WQS_W2_CI [q] = (s.fld R.WQS_W2_CI [q] + 1) % 2 ^ 32 ∧
        t.fld R.WQS_W4_DONE [q] = (s.fld R.WQS_W4_DONE [q] + 1) % 2 ^ 32 ∧ t.items = s.items ∧ t.nextItem = s.nextItem + 1) ∧
    (∀ c < 4096, ∀ b : Bool,
      (∃ t, exec (.contextHold c b) s = .next t ∧ t.flag R.QMC_CTX_W0_HOLD [c] = b ∧ t.flag R.QMC_CTX_W0_ENABLE [c] = s.flag R.QMC_CTX_W0_ENABLE [c] ∧
        OnlyRegs [0x0B010000 + 16 * c] s t) ∧
      ∃ t, exec (.contextEnable c b) s = .next t ∧ t.flag R.QMC_CTX_W0_ENABLE [c] = b ∧ t.flag R.QMC_CTX_W0_HOLD [c] = s.flag R.QMC_CTX_W0_HOLD [c] ∧
        OnlyRegs [0x0B010000 + 16 * c] s t) ∧
    (Quiet s → s.heldOf (s.homeOf q) = some q → hClass (s.headDesc q) = 0x0B → hStepCommit (s.headDesc q) = false → hGate (s.headDesc q) = false →
      s.headerCode q (s.headDesc q) = 0 → s.admits (s.headDesc q) false = true → s.outranked q = false → FMap.sorted s.nrg.held = true →
      ∃ t, exec (.heldHeadAdmit q) s = .next t ∧ t.items = [] ∧ t.nextItem = s.nextItem + 1 ∧ FMap.find? (s.homeOf q) t.nrg.held ≠ some q ∧
        t.fld R.WQS_W2_CI [q] = (s.fld R.WQS_W2_CI [q] + 1) % 2 ^ 32 ∧ t.fld R.WQS_W4_DONE [q] = (s.fld R.WQS_W4_DONE [q] + 1) % 2 ^ 32)

/-- Event counters written and added to. EVC_SET_WRITE gives counter k the value, EVC_ADD_WRITE adds it modulo 2^64, and no other register word or field of the state changes. (R421.) -/
def Obligations.EventCounters : Prop :=
  ∀ (s : State) (k : Nat) (v : Word), s.canon = true → s.up = true → k < 65536 →
    (∃ t, exec (.evcSetWrite k v) s = .next t ∧ t.fld R.EVC_VALUE [k] = v.toNat ∧ OnlyRegs [0x0A000000 + 8 * k] s t) ∧
    ∃ t, exec (.evcAddWrite k v) s = .next t ∧ t.fld R.EVC_VALUE [k] = (s.fld R.EVC_VALUE [k] + v.toNat) % 2 ^ 64 ∧ OnlyRegs [0x0A000000 + 8 * k] s t

/-- A FILL item writes its pattern and poison mark over its range and nothing else. FILL of a presented, admitted head whose lines this device holds takes the head and runs: every line of [ADDR, ADDR + LENGTH) holds the pattern in each of its words and carries the mark of POISON, clear where POISON is 0, and every byte outside the range reads as before. The form that marks poison under OPTSTEP stops by R302 and is outside this statement. (R305, R306, R409, Table 11-7.) -/
def Obligations.FillItem : Prop :=
  ∀ (s : State) (q : Nat), Starts s q → Clean s →
    let d := s.headDesc q
    hClass d = 5 → (hOptstep d = false ∨ fPoison d = false) → (∀ k < fLen d / 64, Storable s (fAddr d + 64 * k)) →
    ∃ t it, exec (.fill q) s = .next t ∧ Taken s t q it ∧ it.phase = .running ∧ it.status = 0 ∧
      (∀ i < fLen d, byteRead t (fAddr d + i) = (toBytes 8 (dsc d 0x40 0 64)).getD (i % 8) 0) ∧
      (∀ k < fLen d / 64, (t.lineView (fAddr d + 64 * k)).poison = if fPoison d then 255 else 0) ∧
      OnlyBytes [(fAddr d, fLen d)] s t

/-- COPY, GATHER and SCATTER items run at their dispatch and write only where they should. COPY, GATHER and SCATTER of a presented, admitted head without OPTSTEP whose source lines this device holds take the head and run. Every byte outside the destination of a COPY (its rows, its scale bytes and the byte of TSCALE), outside the dense rows of a GATHER, and outside the table rows that a SCATTER's indices name, or the region it adds into, reads as before. Where this device holds the destination too, a COPY, and a GATHER or SCATTER whose every row may move, has no status; otherwise it has the code of the first row that may not. (R305, R425, R426, R427, R409, R410.) -/
def Obligations.DmaItems : Prop :=
  ∀ (s : State) (q : Nat), Starts s q → Clean s →
    let d := s.headDesc q
    hOptstep d = false →
    (hClass d = 4 → AllNear s (copyReads d (s.newItem q d).srcRung) →
      ∃ t it, exec (.copy q) s = .next t ∧ Taken s t q it ∧ it.phase = .running ∧ OnlyBytes (copyWrites d) s t ∧
        (AllNear s (copyWrites d) → it.status = 0)) ∧
    (AllNear s (gsIdxRange d :: (List.range (s.gsRows d).1).map fun i => (s.gsFrom d i, gsRow d)) →
      (hClass d = 6 →
        ∃ t it, exec (.gather q) s = .next t ∧ Taken s t q it ∧ it.phase = .running ∧
          OnlyBytes [(gsDense d, gsCount d * gsRow d)] s t ∧
          (AllNear s [(gsDense d, gsCount d * gsRow d)] → it.status = (s.gsRows d).2)) ∧
      (hClass d = 7 →
        ∃ t it, exec (.scatter q) s = .next t ∧ Taken s t q it ∧ it.phase = .running ∧
          OnlyBytes ((List.range (s.gsRows d).1).flatMap fun i => s.scatterOut d (s.gsIdx d i).1) s t ∧
          (AllNear s ((List.range (s.gsRows d).1).flatMap fun i => s.scatterOut d (s.gsIdx d i).1) → it.status = (s.gsRows d).2)))

/-- What a COPY without conversion and a GATHER leave in memory. A COPY between equal formats of whole bytes, without scales, without TSCALE and without the ladder, leaves in every byte of every destination row the byte that its source row held. A GATHER all of whose rows may move leaves in dense row i the bytes of the table row that index i names. Destinations are lines this device holds; the item is without OPTSTEP. (R425, R426.) -/
def Obligations.DmaData : Prop :=
  ∀ (s : State) (q : Nat), Starts s q → Clean s →
    let d := s.headDesc q
    hOptstep d = false →
    (hClass d = 4 → hLadderSrc d = 0xFFFF → (copySrc d 0).fmt = (copyDst d).fmt → fmtBits (copyDst d).fmt % 8 = 0 → (copySrc d 0).scaled = false →
      (copyDst d).scaled = false → cpTscale d = false →
      (∀ r < cpRows d, AllNear s [(copySrc d 0).row d r]) →
      (∀ r < cpRows d, ∀ a ∈ rangeLines [(copyDst d).row d r], Storable s a) →
      ∃ t, exec (.copy q) s = .next t ∧ ∀ r < cpRows d, ∀ j < rowBytes (fmtBits (copyDst d).fmt) (cpCols d),
        byteRead t ((copyDst d).addr + r * (copyDst d).ld + j) = byteRead s ((copySrc d 0).addr + r * (copySrc d 0).ld + j)) ∧
    (hClass d = 6 → (s.gsRows d).2 = 0 →
      AllNear s (gsIdxRange d :: (List.range (gsCount d)).map fun i => (s.gsFrom d i, gsRow d)) →
      (∀ a ∈ rangeLines [(gsDense d, gsCount d * gsRow d)], Storable s a) →
      ∃ t, exec (.gather q) s = .next t ∧ ∀ i < gsCount d, ∀ j < gsRow d,
        byteRead t (gsDense d + i * gsRow d + j) = byteRead s (gsTable d + (s.gsIdx d i).1 * gsRow d + j))

/-- The five operations on reduction regions. For a presented, admitted REDUCE_REGION head without OPTSTEP. DECLARE makes an entry of the slice valid with the descriptor's offset, length, exponent, layer and rung shift, and all its elements 0. CLEAR sets the elements it names to 0 with no side flag. ADD adds to each element it names the exact value of its source element, for finite unpoisoned values no finer than the region's scale whose sum stays in range. OUT writes each element it names, read out in the format. RELEASE makes the entry free again and leaves no side flag. DECLARE, CLEAR and RELEASE change no byte but those of their elements (after a RELEASE they are undefined), OUT none but its array's and, with CLEAR_AFTER, its elements'. (R276, R277, R278, R280, R281, R282, Table 10-6.) -/
def Obligations.RegionItems : Prop :=
  ∀ (s : State) (q : Nat), Starts s q → Clean s →
    let d := s.headDesc q
    hClass d = 8 → hOptstep d = false →
    (gOp d = 0 →
      ∃ t it r, exec (.regionDeclare q) s = .next t ∧ Taken s t q it ∧ it.phase = .running ∧ it.status = 0 ∧ r ∈ t.regionsOf r.die r.slice ∧
        r.off = gOff d ∧ r.elements = gElements d ∧ r.lmt = false ∧ t.fld R.SCA_REGION_W0_EXP r.ix = dsc d 0x38 16 16 ∧
        t.fld R.SCA_REGION_W1_LAYER r.ix = dsc d 0x38 32 16 ∧ t.fld R.SCA_REGION_W1_RUNG_SHIFT r.ix = dsc d 0x38 48 6 ∧
        (∀ i < gElements d, t.rgnV r i = (0, false) ∧ t.rgnSide r i = RFlags.none) ∧
        OnlyBytes [(windowBase + gOff d, 16 * gElements d)] s t) ∧
    ∀ r, s.namedRegion d = some r →
      (gOp d = 1 →
        ∃ t it, exec (.regionClear q) s = .next t ∧ Taken s t q it ∧ it.phase = .running ∧ it.status = 0 ∧
          (∀ i < gCount d, t.rgnV r (gFirst d + i) = (0, false) ∧ t.rgnSide r (gFirst d + i) = RFlags.none) ∧
          OnlyBytes [(r.addr (gFirst d), 16 * gCount d)] s t) ∧
      (gOp d = 2 → AllNear s [(gAddr d, gCount d * (fmtBits (gFmt d) / 8))] →
        (∀ a ∈ rangeLines [(gAddr d, gCount d * (fmtBits (gFmt d) / 8))], s.hitsRegion a 64 = false) →
        (∀ i < gCount d, ∃ neg m e, (readElem (gFmt d) (s.peekNat (gAddr d + fmtBits (gFmt d) / 8 * i) (fmtBits (gFmt d) / 8)).1).1 = .fin neg m e ∧
          (s.peekNat (gAddr d + fmtBits (gFmt d) / 8 * i) (fmtBits (gFmt d) / 8)).2 = false ∧ s.rgnExp s.modeRegs r (gFirst d + i) ≤ e ∧
          (s.rgnSide r (gFirst d + i)).ovf = none ∧
          (neg = false → (s.rgnV r (gFirst d + i)).1 + (m * 2 ^ (e - s.rgnExp s.modeRegs r (gFirst d + i)).toNat : Nat) < (2 ^ 127 : Nat)) ∧
          (neg = true → -(2 ^ 127 : Nat) ≤ (s.rgnV r (gFirst d + i)).1 - (m * 2 ^ (e - s.rgnExp s.modeRegs r (gFirst d + i)).toNat : Nat))) →
        ∃ t it, exec (.regionAdd q) s = .next t ∧ Taken s t q it ∧ it.phase = .running ∧ it.status = 0 ∧
          (∀ i < gCount d, ∀ neg m e, (readElem (gFmt d) (s.peekNat (gAddr d + fmtBits (gFmt d) / 8 * i) (fmtBits (gFmt d) / 8)).1).1 = .fin neg m e →
            (t.rgnV r (gFirst d + i)).1 = (s.rgnV r (gFirst d + i)).1 +
              (if neg then -((m * 2 ^ (e - s.rgnExp s.modeRegs r (gFirst d + i)).toNat : Nat) : Int)
                else ((m * 2 ^ (e - s.rgnExp s.modeRegs r (gFirst d + i)).toNat : Nat) : Int))) ∧
          OnlyBytes [(r.addr (gFirst d), 16 * gCount d)] s t) ∧
      (gOp d = 3 → (∀ a ∈ rangeLines [(gAddr d, gCount d * (fmtBits (gFmt d) / 8))], Storable s a) →
        ∃ t it, exec (.regionOut q) s = .next t ∧ Taken s t q it ∧ it.phase = .running ∧ it.status = 0 ∧
          (∀ i < gCount d, (t.peekNat (gAddr d + fmtBits (gFmt d) / 8 * i) (fmtBits (gFmt d) / 8)).1 =
            (s.rgnOut s.modeRegs r (gFirst d + i) (gFmt d) (rndCtl (s.newItem q d) s.tileZero (gRnd d) (gOvf d) (gFirst d + i))).bits) ∧
          OnlyBytes ((gAddr d, gCount d * (fmtBits (gFmt d) / 8)) :: if gClearAfter d then [(r.addr (gFirst d), 16 * gCount d)] else []) s t) ∧
      (gOp d = 4 →
        ∃ t it, exec (.regionRelease q) s = .next t ∧ Taken s t q it ∧ it.phase = .running ∧ it.status = 0 ∧
          t.flag R.SCA_REGION_W0_VALID r.ix = false ∧
          (∀ i < r.elements, t.rgnSide r i = RFlags.none) ∧ OnlyBytes [(r.addr 0, 16 * r.elements)] s t)

/-- What ITEM_COMPLETE of the last item in flight leaves. ITEM_COMPLETE of an item whose work is done and that no gate withholds ends it: nothing is in flight, the queue's count of completed items goes up by one, and a completion record of Table 15-3 with its status, flags, epoch, tag, energy and phase stands at PI of its completion queue, which advances; with NO_CQE and status 0 no record is written. With status 0 each enabled signal counter goes up by one, otherwise only the enabled FAIL_SIG, and no other counter changes. No other byte of memory changes. (R412, R416, R418, R419, R433, R467, Table 15-3.) -/
def Obligations.CompletionRecord : Prop :=
  ∀ (s : State) (id m : Nat) (it : Item), s.canon = true → s.up = true → Clean s → s.items = [(id, it)] → s.gates = [] → s.atBoundary = [] →
    s.train.clearEval = false → s.canEnd id it = true → it.gate = none → it.evc = [] → it.bound = [] → it.queue < 262144 → it.die < 4 →
    let d := it.desc
    let c := s.cqOf it.queue
    let pi := s.fld R.WQS_W2_PI [c]
    let a := s.ringAddr c pi 32
    let sig := if it.status = 0 then signalsOf d else if hFlag d 11 then [dsc d 0x2C 0 16] else []
    (∃ sp, s.spot (a / 64 * 64) = some sp ∧ s.spotShut sp = false) →
    ∃ t, exec (.itemComplete id m) s = .next t ∧ t.items = [] ∧ t.fld R.WQS_W4_DONE [it.queue] = (s.fld R.WQS_W4_DONE [it.queue] + 1) % 2 ^ 32 ∧
      (∀ k < 65536, t.fld R.EVC_VALUE [k] = (s.fld R.EVC_VALUE [k] + sig.count k) % 2 ^ 64) ∧
      (hNoCqe d = true ∧ it.status = 0 → t.fld R.WQS_W2_PI [c] = pi ∧ OnlyBytes [] s t) ∧
      (hNoCqe d = false ∨ it.status ≠ 0 → t.fld R.WQS_W2_PI [c] = (pi + 1) % 2 ^ 32 ∧ OnlyBytes [(a, 32)] s t ∧
        (t.peek a 32).1 = recordBytes s.nowNs (hTag d) it.exc it.classWord it.epoch it.status it.flags it.frozenSkip
          (!bit pi (s.fld R.WQS_W0_LOG2_N [c])) (if it.admitted then m else 0) it.flush)

/-- EVENT, BARRIER, STEP_COMMIT and EPOCH items; clearing the evaluation rungs; the stop of items on tiles. For a presented, admitted head without signals and gate. EVENT_OP_ADD and EVENT_OP_SET of an EVENT head with that one operation add to, or set, its counter and complete it; an operation of an item in flight that is not its last takes effect and leaves the item in flight. BARRIER_ITEM completes the barrier. STEP_COMMIT of a step that touched no monitored layer records the step as committed, counts it, returns SNAP_DONE and every rung that is not sticky to 0 and clears every frozen mark. EPOCH_ITEM completes at once with no staging open; with one open and participants it starts the barrier and waits for the outcome. CLEAR_EVAL_RUNGS on an idle block with no staging sets every RUNG_E to 0 and leaves every RUNG_T; with an item in flight and no staging it waits for the next work-item boundary. JOB_FATAL_ITEM_STOP ends an item on tiles that no gate withholds while the job-fatal sequence runs: it is no longer in flight. (R67, R74, R247, R409, R422, R423, R424, R537, Table 21-3.) -/
def Obligations.EventBarrierEpoch : Prop :=
  ∀ (s : State) (q : Nat),
    (s.canon = true → s.up = true →
      (s.items = [] → s.fld R.EPO_STATUS_STATE = 0 →
        ∃ t, exec .clearEvalRungs s = .next t ∧ t = { s with regs := t.regs } ∧
          ∀ l < 4096, t.fld R.TRN_LAYER_RUNG_E [l] = 0 ∧ t.fld R.TRN_LAYER_RUNG_T [l] = s.fld R.TRN_LAYER_RUNG_T [l]) ∧
      (s.items ≠ [] → s.fld R.EPO_STATUS_STATE = 0 → exec .clearEvalRungs s = .next { s with train := { s.train with clearEval := true } }) ∧
      (∀ id it, FMap.find? id s.items = some it → s.job.running = true → usesTgroup (hClass it.desc) = true → it.phase ≠ .withheld → it.gate = none →
        ∃ t, exec (.jobFatalItemStop id) s = .next t ∧ FMap.find? id t.items = none)) ∧
    (∀ id it op, s.canon = true → s.up = true → s.job.running = false → s.items = [(id, it)] → it.queue = q → hClass it.desc = 0x0A → it.phase = .running →
      it.nextOp = some op → (evOps it.desc).getLast? ≠ some op →
      (evOp it.desc op = 1 →
        ∃ t it', exec (.eventOpAdd q op) s = .next t ∧ t.items = [(id, it')] ∧ it'.blocks.find? op = some 0 ∧ it'.desc = it.desc ∧
          t.fld R.EVC_VALUE [dsc it.desc (0x30 + 16 * op) 0 16] =
            (s.fld R.EVC_VALUE [dsc it.desc (0x30 + 16 * op) 0 16] + dsc it.desc (0x38 + 16 * op) 0 64) % 2 ^ 64) ∧
      (evOp it.desc op = 2 →
        ∃ t it', exec (.eventOpSet q op) s = .next t ∧ t.items = [(id, it')] ∧ it'.blocks.find? op = some 0 ∧ it'.desc = it.desc ∧
          t.fld R.EVC_VALUE [dsc it.desc (0x30 + 16 * op) 0 16] = dsc it.desc (0x38 + 16 * op) 0 64)) ∧
    (Starts s q →
      let d := s.headDesc q
      signalsOf d = [] → hGate d = false →
      (∀ op, hClass d = 0x0A → evOps d = [op] →
        (evOp d op = 1 →
          ∃ t, exec (.eventOpAdd q op) s = .next t ∧ TakenAndDone s t q ∧
            t.fld R.EVC_VALUE [dsc d (0x30 + 16 * op) 0 16] = (s.fld R.EVC_VALUE [dsc d (0x30 + 16 * op) 0 16] + dsc d (0x38 + 16 * op) 0 64) % 2 ^ 64) ∧
        (evOp d op = 2 →
          ∃ t, exec (.eventOpSet q op) s = .next t ∧ TakenAndDone s t q ∧
            t.fld R.EVC_VALUE [dsc d (0x30 + 16 * op) 0 16] = dsc d (0x38 + 16 * op) 0 64)) ∧
      (hClass d = 0x0B → hStepCommit d = false →
        ∃ t, exec (.barrierItem q) s = .next t ∧ TakenAndDone s t q ∧ t.fld R.TRN_STEP_COMMITTED = s.fld R.TRN_STEP_COMMITTED) ∧
      (hClass d = 0x0B → hStepCommit d = true → s.touchedIn (hStep d) = [] →
        ∃ t, exec (.stepCommit q) s = .next t ∧ TakenAndDone s t q ∧ t.fld R.TRN_STEP_COMMITTED = hStep d ∧
          t.fld R.TRN_STEP_COMMITS = (s.fld R.TRN_STEP_COMMITS + 1) % 2 ^ 32 ∧ t.fld R.TRN_SNAP_DONE = 0 ∧ t.train.frozenStep = [] ∧
          ∀ l < 4096, t.flag R.TRN_LAYER_FROZEN_T [l] = false ∧
            t.fld R.TRN_LAYER_RUNG_T [l] = (if s.flag R.TRN_LAYER_STICKY [l] then s.fld R.TRN_LAYER_RUNG_T [l] else 0)) ∧
      (hClass d = 0x0C → s.fld R.EPO_STATUS_STATE = 0 →
        ∃ t, exec (.epochItem q) s = .next t ∧ TakenAndDone s t q ∧ t.fld R.EPO_STATUS_STATE = 0) ∧
      (hClass d = 0x0C → s.fld R.EPO_STATUS_STATE = 1 → s.participants ≠ [] →
        ∃ t it, exec (.epochItem q) s = .next t ∧ Taken s t q it ∧ t.fld R.EPO_STATUS_STATE = 3 ∧ s.nextItem ∈ t.epo.items ∧
          t.fld R.EPO_STATUS_ACK_PENDING = s.participants.length % 65536 ∧ t.staged = s.staged))

/-- MATRIX items: dispatch, landing-buffer bindings, output blocks. MATRIX_PRODUCT and MATRIX_MERGE of a presented, admitted head whose auxiliary block and operands lie here and that reads no landing buffer take the head and run, with memory untouched. LB_SLOT_BIND of a waiting item whose A operand names a slot that holds its bucket, whole enough and not aborted, runs it and counts it as bound to that slot. LB_PIECE_READY with the last missing piece here ends the engine's wait. MATRIX_BLOCK_DONE computes one output block: the block is recorded as written, no other block is, and every byte outside the block's rows, their scale bytes and the max-abs target reads as before. (R140, R144, R147, R157, R158, R164, R549, Table 6-19.) -/
def Obligations.MatrixItems : Prop :=
  ∀ s : State, s.canon = true → s.up = true → Clean s →
    (∀ q, Starts s q → hClass (s.headDesc q) = 1 →
      let it0 := s.newItem q (s.headDesc q)
      it0.mat.lbOpds = [] → it0.aux.isSome = true → AllNear s (s.mReads it0.mat) →
      (mMerge (s.headDesc q) = false → ∃ t it, exec (.matrixProduct q) s = .next t ∧ Taken s t q it ∧ it.phase = .running ∧ it.status = 0 ∧ OnlyBytes [] s t) ∧
      (mMerge (s.headDesc q) = true → ∃ t it, exec (.matrixMerge q) s = .next t ∧ Taken s t q it ∧ it.phase = .running ∧ it.status = 0 ∧ OnlyBytes [] s t)) ∧
    (∀ id it, FMap.find? id s.items = some it → hClass it.desc = 1 → s.job.running = false →
      let v := seenBy s id it
      (it.phase = .waiting → it.status = 0 → it.mat.lbOpds = [false] → it.aux.isSome = true →
        AllNear s (v.mReads it.mat) → s.abortHere it.desc false = none →
        s.slotHere it.desc false = true → s.bindBad it.mat false = false →
        s.fld R.COL_SLOT_W0_STATE (slotIx (lbGroup it.desc false) (lbBucket it.desc false)) ≠ 3 →
        ∃ t it', exec (.lbSlotBind id) s = .next t ∧ FMap.find? id t.items = some it' ∧ it'.phase = .running ∧
          it'.bound = [slotKey (lbGroup it.desc false) (lbBucket it.desc false)] ∧
          t.fld R.COL_SLOT_W1_BOUND (slotIx (lbGroup it.desc false) (lbBucket it.desc false)) =
            (s.fld R.COL_SLOT_W1_BOUND (slotIx (lbGroup it.desc false) (lbBucket it.desc false)) + 1) % 65536 ∧ t.mem.cells = s.mem.cells) ∧
      (∀ x, it.waitPiece = some x → s.pieceHere it.mat (x % 2 == 1) (x / 2) = true → s.missingPiece it = none →
        ∃ t, exec (.lbPieceReady id (x / 2)) s = .next t ∧ t = { s with items := t.items } ∧
          FMap.find? id t.items = some { it with waitPiece := none }) ∧
      (∀ n < mBlocks it.desc, it.phase = .running → it.status = 0 → it.waitPiece = none → FMap.find? n it.blocks = none → s.job.tilesOff = false →
        hOptstep it.desc = false → mMaxabs it.desc ≠ 3 →
        let b := v.blockPlan it n
        let side := (if b.m.o.scaled then [(b.m.auxAddr 0x10 + b.i0 * mCols it.desc, (b.iN - 1) * mCols it.desc + n % mCols it.desc + 1)] else []) ++
          (if mMaxabs it.desc = 0 then [] else [(b.m.auxAddr 0x38, mMaxBytes it.desc)])
        let stores := b.writes ++ side
        AllNear s (b.reads ++ stores) → b.reads.all (fun r => s.mappedRange r.1 r.2) = true →
        stores.all (fun r => s.mappedRange r.1 r.2 && !s.hitsRegion r.1 r.2) = true →
        (∀ a ∈ rangeLines stores, a < 0x800000000000) →
        (mMerge it.desc = false ∨ (blockMerge b (v.fetchLines b.reads 0).1).malformed = false) →
        ∃ t it', exec (.matrixBlockDone id n) s = .next t ∧ FMap.find? id t.items = some it' ∧ it'.phase = .running ∧ it'.status = 0 ∧
          (FMap.find? n it'.blocks).isSome = true ∧ (∀ k ≠ n, FMap.find? k it'.blocks = FMap.find? k it.blocks) ∧ OnlyBytes stores s t))

/-- REED_LAUNCH and PLAIT items: taken, then started on their cores. REED_LAUNCH of a presented, admitted head takes it and the item waits for its cores, none of which is touched. PLAIT does the same and keeps the words of its stage-entry table. REED_LAUNCH_START and PLAIT_START of a waiting item whose cores are all idle start one instance on each core in order: its number, the count, the entry pc, the argument in a0, the stack top in sp, vl 0, every vector register zero; the item runs with these cores alive and every other core, memory and the summary slots are as they were. A plait's links are empty and its tiles show an active chain. (R174, R175, R176, R201, R202, R203, R204, Table 7-2.) -/
def Obligations.Launches : Prop :=
  ∀ s : State, s.canon = true → s.up = true →
    (∀ q, Starts s q → hClass (s.headDesc q) = 2 →
      ∃ t it, exec (.reedLaunch q) s = .next t ∧ Taken s t q it ∧ it.phase = .waiting ∧ it.status = 0 ∧ t.reeds = s.reeds) ∧
    (∀ q, Starts s q → Clean s → hClass (s.headDesc q) = 3 →
      AllNear s [(pTable (s.headDesc q), 8 * plaitStages (s.headDesc q))] →
      ∃ t it, exec (.plait q) s = .next t ∧ Taken s t q it ∧ it.phase = .waiting ∧ it.status = 0 ∧ t.reeds = s.reeds ∧
        ∀ k < plaitStages (s.headDesc q), FMap.find? k it.blocks = some (s.peekNat (pTable (s.headDesc q) + 8 * k) 8).1) ∧
    (∀ id it, FMap.find? id s.items = some it → s.job.running = false → it.phase = .waiting → it.status = 0 → s.coresFree it.desc = true →
      let d := it.desc
      let starts := fun (t : State) (pcOf : Nat → Nat) =>
        (∃ it', FMap.find? id t.items = some it' ∧ it'.phase = .running ∧ it'.live = s.allCores d ∧ it'.desc = d) ∧
        (∀ i c, (s.allCores d)[i]? = some c → (t.reed c).item = some id ∧ (t.reed c).inst = i ∧ (t.reed c).count = (s.allCores d).length ∧
          (t.reed c).pc = pcOf c ∧ (t.reed c).gx 10 = dsc d 0x38 0 64 ∧ (t.reed c).gx 2 = stackTopOf d c % 2 ^ 64 ∧ (t.reed c).vl = 0 ∧
          (∀ n, (t.reed c).gv n = 0) ∧ (t.reed c).blocked = .no) ∧
        (∀ c, c ∉ s.allCores d → t.reed c = s.reed c) ∧ t.mem = s.mem ∧ t.summ = s.summ
      (hClass d = 2 → ∃ t, exec (.reedLaunchStart id) s = .next t ∧ starts t (fun _ => dsc d 0x30 0 48)) ∧
      (hClass d = 3 → it.blocks.length = plaitStages d → plaitFirst d + plaitStages d ≤ 8 → FMap.sorted s.fifos = true →
        ∃ t, exec (.plaitStart id) s = .next t ∧ starts t (fun c => it.blocks.getD (coreNo c - plaitFirst d) 0) ∧
          ∀ p ∈ s.groupTiles (hTgroup d), t.flag R.TIL_PLAIT_STATUS_ACTIVE (tix p) = true ∧ ∀ k < 7, t.fifo p k = []))

/-- The six operations of a COLLECTIVE_STEP item at dispatch. For a presented, admitted COLLECTIVE_STEP head of a defined group of at least two members, each reached over a port, with no stream of the bucket here yet, the command of its operation takes the head: the item runs, the bucket's slot is OPEN for it with LOCAL set, the group holds its VC, and the step is in flight in round 1, its input awaited; the root of a broadcast without feed waits sends its chunks and has no step in flight any more. (R353, R355, R356, R359, R366, R380, R389, R390, Table 13-2.) -/
def Obligations.CollectiveSteps : Prop :=
  ∀ (s : State) (q : Nat) (gr : Group), Starts s q → Clean s →
    let d := s.headDesc q
    hClass d = 9 → FMap.find? (cGroup d) s.groups = some gr → GroupOk gr → Routed s gr → s.inStreams = [] →
    let runs := fun (i : Instr) => ∃ t it c, exec i s = .next t ∧ Taken s t q it ∧ it.phase = .running ∧ t.cols = [(s.nextItem, c)] ∧ c.round = 1 ∧ c.wait ≠ .fw6 ∧
      t.fld R.COL_SLOT_W0_STATE (slotIx (cGroup d) (cBucket d)) = 1 ∧ t.fld R.COL_SLOT_W0_BUCKET (slotIx (cGroup d) (cBucket d)) = cBucket d ∧
      t.fld R.COL_SLOT_W0_GEN (slotIx (cGroup d) (cBucket d)) = cGen d ∧ t.flag R.COL_SLOT_W0_LOCAL (slotIx (cGroup d) (cBucket d)) = true ∧
      FMap.find? gr.vc t.vcHeld = some (cGroup d)
    (cOp d = 0 → runs (.allReduce q)) ∧ (cOp d = 1 → runs (.reduceScatter q)) ∧ (cOp d = 2 → runs (.allGather q)) ∧ (cOp d = 3 → runs (.allToAll q)) ∧
    (cOp d = 4 → cRoot d ≠ gr.rank → runs (.broadcast q)) ∧
    (cOp d = 4 → cRoot d = gr.rank → cFeed d = 0 → AllNear s [(cSrc d, elemBytes (cFmt d) (cCount d)),
        (if cLbDst d then gr.lbBase + cBucket d % 32 * lbBytes gr else cDst d, elemBytes (cFmt d) (cCount d))] →
      ∃ t, exec (.broadcast q) s = .next t ∧ t.nextItem = s.nextItem + 1 ∧ t.cols = []) ∧
    (cOp d = 5 → runs (.collBarrier q))

/-- What happens to a collective step in flight. FEED_WAIT_END of an all-gather whose counter has been reached, and whose chunk lies here, reads the chunk and ends the wait. COLL_ROUND_COMPLETE of an all-gather's last round ends the step. COLL_ROUND_TIMEOUT with grace, shown slow and not yet extended, extends the round once and counts it; otherwise it aborts the step with cause 1. COLL_ABORT_RECEIVE of a message for the step aborts it with the message's record, and one for a bucket without a step is kept for it. COLL_CANCEL aborts the steps of its group with cause 8 and COLL_FW6_WAIT_TIMEOUT a step whose group stays undefined with cause 5. (R353, R359, R368, R370, R373, R374, R375, R377, R379, R384.) -/
def Obligations.CollectiveEvents : Prop :=
  ∀ (s : State) (id : Nat) (it : Item) (c : Col) (gr : Group), LoneStep s id it c gr →
    let d := it.desc
    let v : StepView := ⟨id, it, gr, c⟩
    (∀ ch, cOp d = 2 → c.pass = 0 → c.round = 1 → c.wait = .run → c.feedWait = some ch → ch = gr.rank → s.fedNow v ch = true → AllNear s [(cSrc d, elemBytes (cFmt d) (chunkLen (cCount d) gr.n ch))] → Routed s gr → s.inStreams = [] →
      ∃ t c', exec (.feedWaitEnd id) s = .next t ∧ t.cols = [(id, c')] ∧ c'.feedWait = none ∧ ch ∈ c'.fed) ∧
    (∀ i, cOp d = 2 → c.pass = 0 → c.round = gr.n - 1 → c.wait = .run → c.feedWait = none → it.pendingRemote = 0 → it.status = 0 →
      s.inStreams = [i] → s.roundInput v = some [i] →
      ∃ t, exec (.collRoundComplete id) s = .next t ∧ t.cols = [] ∧ t.items = [] ∧ t.inStreams = [] ∧
        t.fld R.WQS_W4_DONE [it.queue] = (s.fld R.WQS_W4_DONE [it.queue] + 1) % 2 ^ 32) ∧
    (c.wait = .run → v.k ≤ v.rounds → s.roundInput v = none →
      (gr.grace = true → c.graced = false → c.sawSlow = true →
        ∃ t, exec (.collRoundTimeout id) s = .next t ∧ t.cols = [(id, { c with graced := true, t0 := s.elapsedNs })] ∧ t.items = s.items ∧
          t.fld R.COL_SLOW_W1_GRACES [cGroup d] = min (s.fld R.COL_SLOW_W1_GRACES [cGroup d] + 1) (2 ^ R.COL_SLOW_W1_GRACES.w - 1)) ∧
      (gr.grace = false ∨ c.graced = true ∨ c.sawSlow = false →
        ∃ t, exec (.collRoundTimeout id) s = .next t ∧ Aborted t id it (abortRecord 1 gr.rank (s.awaitedRank v) 0))) ∧
    (∀ m rest, s.abortRx = m :: rest → fieldAt m 0 2 = 0x4341 → fieldAt m 2 1 = 1 → s.groupByHash (fieldAt m 28 4) = some (cGroup d) →
      (fieldAt m 6 2 = cBucket d → fieldAt m 8 2 = cGen d → c.wait ≠ .fw6 → c.wait ≠ .vc →
        ∃ t, exec .collAbortReceive s = .next t ∧ t.abortRx = rest ∧
          Aborted t id it (abortRecord (fieldAt m 3 1) (fieldAt m 10 2 % 4096) (fieldAt m 24 2 % 4096) (fieldAt m 14 2))) ∧
      (fieldAt m 6 2 % 32 ≠ cBucket d % 32 → s.holdsBucket (cGroup d) (fieldAt m 6 2) (fieldAt m 8 2) = false →
        s.abortLate (cGroup d) (fieldAt m 6 2) (fieldAt m 8 2) = false →
        ∃ t, exec .collAbortReceive s = .next t ∧ t.abortRx = rest ∧ t.items = s.items ∧ t.cols = s.cols ∧
          t.keptAbort (cGroup d) (fieldAt m 6 2) (fieldAt m 8 2) =
            some (abortRecord (fieldAt m 3 1) (fieldAt m 10 2 % 4096) (fieldAt m 24 2 % 4096) (fieldAt m 14 2)))) ∧
    (∃ t, exec (.collCancel (cGroup d)) s = .next t ∧ Aborted t id it (abortRecord 8 gr.rank gr.rank 0)) ∧
    (c.wait = .fw6 →
      ∃ t, exec (.collFw6WaitTimeout id) { s with groups := [] } = .next t ∧ Aborted t id it (abortRecord 5 0 0 0x0710))

/-- Bucket slots and collective VCs with no step in flight. COLL_VC_FREED of a VC that no active group holds and no step waits for leaves it free, and otherwise gives it to the group of the oldest waiting step. SLOT_CLAIM_RETRY of a slot that is not OPEN and that no stream open waits for opens it for the one step that waits for it. COL_SLOT_FREE of a DONE or ABORTED slot with nothing bound makes it FREE with no bucket, and with an item bound keeps its state and marks it for freeing; the record of an ABORTED slot outlives its freeing; SLOT_FREE_DEFERRED then frees it once nothing is bound. (R160, R353, R376, R389, R390, Table 14-3.) -/
def Obligations.SlotsAndVcs : Prop :=
  ∀ s : State, s.canon = true → s.up = true → s.cols = [] →
    (∀ vc, FMap.sorted s.vcHeld = true → s.vcWaiters vc = [] →
      ∃ t, exec (.collVcFreed vc) s = .next t ∧ t = { s with vcHeld := t.vcHeld } ∧ FMap.find? vc t.vcHeld = none ∧
        ∀ w, w ≠ vc → FMap.find? w t.vcHeld = FMap.find? w s.vcHeld) ∧
    (∀ vc, ∀ w ∈ s.vcWaiters vc, (∀ x ∈ s.vcWaiters vc, x = w ∨ olderStamp w.1 x.1 = true) →
      ∃ t, exec (.collVcFreed vc) s = .next t ∧ t = { s with vcHeld := t.vcHeld } ∧ FMap.find? vc t.vcHeld = some w.2) ∧
    (∀ g sl gr q, FMap.find? g s.groups = some gr → sl < 32 → g < 64 → s.fld R.COL_SLOT_W0_STATE [g, sl] ≠ 1 → s.inStreams = [] →
      s.slotHeads g sl = [q] → s.colVerdict (s.headDesc q) (s.fld R.COL_CFG_WIRE) = Verdict.run →
      (s.claim g (cBucket (s.headDesc q)) (cGen (s.headDesc q)) = .free ∨ s.claim g (cBucket (s.headDesc q)) (cGen (s.headDesc q)) = .reuse) →
      ∃ t, exec (.slotClaimRetry g sl) s = .next t ∧ t.fld R.COL_SLOT_W0_STATE [g, sl] = 1 ∧
        t.fld R.COL_SLOT_W0_BUCKET [g, sl] = cBucket (s.headDesc q) ∧ t.fld R.COL_SLOT_W0_GEN [g, sl] = cGen (s.headDesc q) ∧ t.items = s.items) ∧
    (∀ g < 64, ∀ sl < 32, 2 ≤ s.fld R.COL_SLOT_W0_STATE [g, sl] →
      (s.fld R.COL_SLOT_W1_BOUND [g, sl] = 0 →
        ∃ t, exec (.colSlotFree g sl) s = .next t ∧ t.fld R.COL_SLOT_W0_STATE [g, sl] = 0 ∧ t.fld R.COL_SLOT_W0_BUCKET [g, sl] = 0 ∧
          t.fld R.COL_SLOT_LEDGER_RETURNED = (s.fld R.COL_SLOT_LEDGER_RETURNED + 1) % 2 ^ R.COL_SLOT_LEDGER_RETURNED.w ∧ t.items = s.items ∧ t.mem = s.mem ∧
          (s.fld R.COL_SLOT_W0_STATE [g, sl] = 3 → t.keptAbort g (s.fld R.COL_SLOT_W0_BUCKET [g, sl]) (s.fld R.COL_SLOT_W0_GEN [g, sl]) = some (s.slot g sl).abort)) ∧
      (s.fld R.COL_SLOT_W1_BOUND [g, sl] ≠ 0 →
        ∃ t, exec (.colSlotFree g sl) s = .next t ∧ t = { s with slots := t.slots } ∧ (t.slot g sl).freeing = true)) ∧
    (∀ g < 64, ∀ sl < 32, (s.slot g sl).freeing = true → s.fld R.COL_SLOT_W1_BOUND [g, sl] = 0 →
      ∃ t, exec (.slotFreeDeferred g sl) s = .next t ∧ t.fld R.COL_SLOT_W0_STATE [g, sl] = 0 ∧ t.items = s.items ∧ t.mem = s.mem)

/-- Line requests of other members, and the answers to this device's own. TXN_REQUEST_RECEIVE of a line read of a written, unpoisoned line in reach queues one read response with the line's data toward its source, stamped at its creation; of a line write it writes the data, unmarked, and queues the acknowledgement. TXN_RESPONSE_RECEIVE of the read response to an item's line read completes the request and keeps the line for the item, which waits for one answer less. REQUEST_TIMEOUT completes an item's request with REMOTE_UNREACHABLE. A response without a request is dropped. Each takes its flit from the port's buffer. (R57, R327, R329, R341, R342, Table 12-4.) -/
def Obligations.RequestsAndResponses : Prop :=
  ∀ (s : State) (k : Nat) (f : Flit) (rest : List Flit), s.canon = true → s.up = true → Clean s → s.job.running = false → (s.port k).rxq = f :: rest → f.ftype = 7 →
    let a := txOff f
    (∀ p sp, s.route (txSrc f) = some p → s.fld R.NLK_STATUS_STATE [p] ≠ 4 → s.hasPort p = true → a % 64 = 0 → txLines f = 1 → Storable s a → s.spot a = some sp →
      (txOp f = 0 → s.mem.written a = true → s.mem.wordPoison (a / 8) = false →
        ∃ t, exec (.txnRequestReceive k) s = .next t ∧ (t.port k).rxq = rest ∧ (t.port p).txq = (s.port p).txq ++
          [{ Flit.mk' 7 f.vc (txSrc f) (txnPayload a (txTag f) s.node 2 1 0 0 0 (s.mem.bytesAt a 64)) with
            ttl := s.fld R.NLK_NODE_TTL_INIT, age := s.ageStamp }] ∧ OnlyBytes [] s t) ∧
      (txOp f = 1 → txPmark f = 0 →
        ∃ t, exec (.txnRequestReceive k) s = .next t ∧ (t.lineView a).data = padTo 64 ((txData f).take 64) ∧ (t.lineView a).poison = 0 ∧ OnlyBytes [(a, 64)] s t ∧
          (t.port p).txq = (s.port p).txq ++
            [{ Flit.mk' 7 f.vc (txSrc f) (txnPayload a (txTag f) s.node 3 0 0 0 0 []) with ttl := s.fld R.NLK_NODE_TTL_INIT, age := s.ageStamp }])) ∧
    (∀ id it r, s.items = [(id, it)] → s.cols = [] → it.phase = .waiting → hClass it.desc = 8 → 2 ≤ it.pendingRemote → FMap.sorted s.reqs = true →
      FMap.find? (txTag f) s.reqs = some r → r.waiter = .item id → FMap.find? (txTag f) s.outStreams = none →
      (txOp f = 2 → txStatus f = 0 → r.op = 0 → txPmark f = 0 →
        ∃ t it', exec (.txnResponseReceive k) s = .next t ∧ FMap.find? (txTag f) t.reqs = none ∧ t.items = [(id, it')] ∧ it'.pendingRemote = it.pendingRemote - 1 ∧
          FMap.find? (r.addr / 64) it'.remote = some (padTo 64 ((txData f).take 64), 0)) ∧
      (∃ t it', exec (.requestTimeout (txTag f)) s = .next t ∧ FMap.find? (txTag f) t.reqs = none ∧ t.items = [(id, it')] ∧
        it'.status = (if it.status = 0 then Code.REMOTE_UNREACHABLE else it.status) ∧ it'.pendingRemote = it.pendingRemote - 1)) ∧
    (txOp f = 3 → FMap.find? (txTag f) s.reqs = none →
      ∃ t, exec (.txnResponseReceive k) s = .next t ∧ t = { s with ports := t.ports } ∧ (t.port k).rxq = rest)

/-- Streams of collective steps, in and out, and STATUS flits. STREAM_OPEN_RECEIVE of a reducing stream for a FREE slot, with room for it in the landing buffer and no step in flight, opens the slot for its bucket and accepts the stream under the next number. STREAM_ACCEPT_RECEIVE with a number queues all flits of the waiting stream, in order, on the port toward its member. STREAM_FLIT_RECEIVE adds the flit's bytes to its stream; the last flit of a reducing stream completes it. STATUS_FLIT_RECEIVE with THROTTLE or SLOW marks every step in flight of a group that its node is a member of. (R327, R328, R329, R369, R370, R389, R391, R392, R393, R394.) -/
def Obligations.Streams : Prop :=
  ∀ (s : State) (k : Nat) (f : Flit) (rest : List Flit), s.canon = true → s.up = true → (s.port k).rxq = f :: rest →
    (isTxn 7 f = true → s.cols = [] → s.inStreams = [] →
      ∀ g gr, s.groupByHash (fieldAt (txData f) 0 4) = some g → g < 64 → FMap.find? g s.groups = some gr →
        s.claim g (fieldAt (txData f) 4 2) (fieldAt (txData f) 6 2) = .free → bits (fieldAt (txData f) 8 8) 0 4 ≤ 1 →
        (∀ i : InStream, i.params = fieldAt (txData f) 8 8 → i.chunk = fieldAt (txData f) 16 4 → i.round = fieldAt (txData f) 22 2 → openLen gr.n i ≤ lbBytes gr) →
        ∃ t i, exec (.streamOpenReceive k) s = .next t ∧ t.inStreams = [i] ∧ i.accepted = true ∧ i.number = s.nextStream ∧ i.src = txSrc f ∧ i.done = false ∧ i.bytes = [] ∧
          t.nextStream = (s.nextStream + 1) % 65536 ∧ t.fld R.COL_SLOT_W0_STATE (slotIx g (fieldAt (txData f) 4 2)) = 1 ∧
          t.fld R.COL_SLOT_W0_BUCKET (slotIx g (fieldAt (txData f) 4 2)) = fieldAt (txData f) 4 2) ∧
    (isTxn 8 f = true → bit (txArg f) 16 = false → bit (txArg f) 17 = false →
      ∀ o p, FMap.find? (txTag f) s.outStreams = some o → FMap.sorted s.outStreams = true → s.route o.dst = some p → s.fld R.NLK_STATUS_STATE [p] ≠ 4 → s.hasPort p = true →
        ∃ t, exec (.streamAcceptReceive k) s = .next t ∧ FMap.find? (txTag f) t.outStreams = none ∧ t.items = s.items ∧ t.cols = s.cols ∧
          (t.port p).txq = (s.port p).txq ++ (streamFlits o (txArg f % 65536) (s.fld R.NLK_NODE_TTL_INIT)).map fun g => { g with age := s.ageStamp }) ∧
    (f.ftype = 8 → ∀ i, s.inStreams = [i] → i.accepted = true → i.done = false → i.number = f.stream →
      (f.last = false ∨ s.cols = [] →
        ∃ t i', exec (.streamFlitReceive k) s = .next t ∧ t.inStreams = [i'] ∧ i'.bytes = (i.bytes ++ f.payload).take (64 * i.lines) ∧ i'.done = f.last ∧
          i'.src = i.src ∧ i'.chunk = i.chunk ∧ i'.round = i.round ∧ t.items = s.items ∧ t.mem = s.mem)) ∧
    (f.ftype = 6 → fieldAt f.payload 11 1 % 4 ≠ 0 →
      ∃ t, exec (.statusFlitReceive k) s = .next t ∧ t.items = s.items ∧ t.regs = s.regs ∧ (t.port k).rxq = rest ∧
        ∀ id c it gr, FMap.sorted s.cols = true → FMap.find? id s.cols = some c → FMap.find? id s.items = some it → cGroup it.desc < 64 →
          FMap.find? (cGroup it.desc) s.groups = some gr → fieldAt f.payload 8 2 % 4096 ∈ gr.members → fieldAt f.payload 8 2 % 4096 ≠ s.node → c.wait ≠ .fw6 → c.wait ≠ .vc →
          ∃ c', FMap.find? id t.cols = some c' ∧ c' = { c with sawSlow := true })

/-- Osier integer arithmetic, element by element. For a core that issues, with vl elements in the register and at least one: VADD, VSUB, VMUL, VMULH, VMULHU, VAND, VOR, VXOR, VSLL, VSRL, VSRA, VMIN, VMAX, VMINU, VMAXU, VSPLATX, VINDEX and VMV complete. Every active element of vd holds the result of its own sources as they stood before, wrapped to the width; every other element of vd, every other register, memory, the items and every other core stay; the pc advances by four. Source and destination may be one register. (R181, R182, R185, R186, R187, R193, Table 7-9.) -/
def Obligations.VectorInteger : Prop :=
  ∀ (s : State) (c : Nat) (f : VFields) (k : RC), s.canon = true → Issues s c k → 0 < k.r.vl → ewBits f.ew * k.r.vl ≤ 512 → f.ew < 4 →
    let w := ewBits f.ew
    let a := fun e => BitVec.ofNat w (k.r.el f.s1 w e)
    let b := fun e => BitVec.ofNat w (k.r.el f.s2 w e)
    let ends := fun (i : Instr) (val : Nat → BitVec w) => ∃ t, exec i s = .next t ∧ VectorResult s t c k f.vd w (k.on f) fun e => (val e).toNat
    ends (.vadd c f) (fun e => a e + b e) ∧
    ends (.vsub c f) (fun e => a e - b e) ∧
    ends (.vmul c f) (fun e => a e * b e) ∧
    ends (.vmulh c f) (fun e => BitVec.ofInt w ((a e).toInt * (b e).toInt / 2 ^ w)) ∧
    ends (.vmulhu c f) (fun e => BitVec.ofNat w ((a e).toNat * (b e).toNat / 2 ^ w)) ∧
    ends (.vand c f) (fun e => a e &&& b e) ∧
    ends (.vor c f) (fun e => a e ||| b e) ∧
    ends (.vxor c f) (fun e => a e ^^^ b e) ∧
    ends (.vsll c f) (fun e => a e <<< ((b e).toNat % w)) ∧
    ends (.vsrl c f) (fun e => a e >>> ((b e).toNat % w)) ∧
    ends (.vsra c f) (fun e => (a e).sshiftRight ((b e).toNat % w)) ∧
    ends (.vmin c f) (fun e => if (b e).slt (a e) then b e else a e) ∧
    ends (.vmax c f) (fun e => if (a e).slt (b e) then b e else a e) ∧
    ends (.vminu c f) (fun e => if b e < a e then b e else a e) ∧
    ends (.vmaxu c f) (fun e => if a e < b e then b e else a e) ∧
    (f.s2 = 0 → ends (.vsplatx c f) fun _ => BitVec.ofNat w (k.r.gx f.s1)) ∧
    (f.s1 = 0 → f.s2 = 0 → ends (.vindex c f) fun e => BitVec.ofNat w e) ∧
    (f.s2 = 0 → ends (.vmv c f) a)

/-- Osier integer comparisons and predicate logic. For a core that issues, with vl elements in the register and at least one, VCMPEQ, VCMPLT, VCMPLTU, PAND, POR, PXOR and PANDN with predicate numbers below 8 complete: the bit of pd for each active element is the comparison or the logic of its sources, the other bits of pd stay, a write of p0 is discarded, and the vector and scalar registers, the other predicates, memory and the other cores stay. (R182, R185, R186, Table 7-9, Table 7-11.) -/
def Obligations.VectorCompares : Prop :=
  ∀ (s : State) (c : Nat) (f : VFields) (k : RC), s.canon = true → Issues s c k → 0 < k.r.vl → ewBits f.ew * k.r.vl ≤ 512 → f.ew < 4 → f.vd < 8 →
    let w := ewBits f.ew
    let a := fun e => BitVec.ofNat w (k.r.el f.s1 w e)
    let b := fun e => BitVec.ofNat w (k.r.el f.s2 w e)
    let pa := fun e => bit (k.r.gp f.s1) e
    let pb := fun e => bit (k.r.gp f.s2) e
    let ends := fun (i : Instr) (val : Nat → Bool) => ∃ t, exec i s = .next t ∧ PredicateResult s t c k f.vd (k.on f) val
    ends (.vcmpeq c f) (fun e => a e == b e) ∧
    ends (.vcmplt c f) (fun e => (a e).slt (b e)) ∧
    ends (.vcmpltu c f) (fun e => (a e).ult (b e)) ∧
    (f.s1 < 8 → f.s2 < 8 →
      ends (.pand c f) (fun e => pa e && pb e) ∧ ends (.por c f) (fun e => pa e || pb e) ∧
      ends (.pxor c f) (fun e => xor (pa e) (pb e)) ∧ ends (.pandn c f) (fun e => pa e && !pb e))

/-- Osier saturating and rounding fixed-point arithmetic. For a core that issues, with vl elements in the register and at least one: VSADD, VSADDU, VSSUB and VSSUBU give the exact sum or difference brought into the range of the width, VAADD and VASUB half the exact sum or difference rounded by VFXRM, VFMULQ at 16 and 32 bits the product scaled down by the width less one, rounded and saturated, and VNSRA and VNSRL the wide source shifted right, rounded and saturated. FXSAT is set when an active element saturated and stays otherwise; everything outside vd and the sticky flag is as VectorInteger says. (R185, R186, R192, R193, Table 7-5.) -/
def Obligations.VectorFixedPoint : Prop :=
  ∀ (s : State) (c : Nat) (f : VFields) (k : RC), s.canon = true → Issues s c k → 0 < k.r.vl → f.ew < 4 →
    let w := ewBits f.ew
    let lo : Int := -(2 ^ (w - 1) : Nat)
    let hi : Int := (2 ^ (w - 1) : Nat) - 1
    let top : Int := (2 ^ w : Nat) - 1
    let a := fun e => sext w (k.r.el f.s1 w e)
    let b := fun e => sext w (k.r.el f.s2 w e)
    let ua := fun e => (k.r.el f.s1 w e : Int)
    let ub := fun e => (k.r.el f.s2 w e : Int)
    let wa := fun e => k.r.el f.s1 (2 * w) e
    let sh := fun e => k.r.el f.s2 w e % (2 * w)
    let ends := fun (i : Instr) (low high : Int) (val : Nat → Int) => ∃ t, exec i s = .next t ∧
      VectorResult s t c { k with r := { k.r with vflags := if ∃ e < k.r.vl, k.on f e = true ∧ (val e < low ∨ high < val e) then k.r.vflags ||| 256 else k.r.vflags } }
        f.vd w (k.on f) fun e => wrapInt w (max low (min high (val e)))
    (w * k.r.vl ≤ 512 →
      ends (.vsadd c f) lo hi (fun e => a e + b e) ∧ ends (.vsaddu c f) 0 top (fun e => ua e + ub e) ∧
      ends (.vssub c f) lo hi (fun e => a e - b e) ∧ ends (.vssubu c f) 0 top (fun e => ua e - ub e) ∧
      ends (.vaadd c f) lo hi (fun e => roundedShift k.r.vfxrm (a e + b e) 1) ∧
      (∃ t, exec (.vasub c f) s = .next t ∧ VectorResult s t c k f.vd w (k.on f) fun e => wrapInt w (roundedShift k.r.vfxrm (a e - b e) 1)) ∧
      (f.ew = 1 ∨ f.ew = 2 → ends (.vfmulq c f) lo hi fun e => roundedShift k.r.vfxrm (a e * b e) (w - 1))) ∧
    (2 * w * k.r.vl ≤ 512 → f.ew < 3 →
      ends (.vnsra c f) lo hi (fun e => roundedShift k.r.vfxrm (sext (2 * w) (wa e)) (sh e)) ∧
      ends (.vnsrl c f) 0 top (fun e => roundedShift k.r.vfxrm (wa e) (sh e)))

/-- Moves between register files, and permutes. For a core that issues: VSETL sets vl to the smaller of the requested length and 512 divided by the width, and gives it in rd; VMVX, PCOUNT, PFIRST and PMVX write rd alone, sign-extending element 0, counting or finding the active set bits, and copying all 64 predicate bits; PMXV writes pd alone; a write of x0 or p0 is discarded. VSLIDEDN, VSLIDEUP and VPERM give each active element its source element, or zero where the source lies outside the register; VCOMPRESS packs the active elements to the front and VEXPAND takes them from the front, in order, the rest of vd unchanged. (R182, R184, R211, R212, R213, Table 7-11.) -/
def Obligations.VectorPermutes : Prop :=
  ∀ (s : State) (c : Nat) (f : VFields) (k : RC), s.canon = true → Issues s c k → f.ew < 4 →
    let w := ewBits f.ew
    let n := 512 / w
    let el := fun e => k.r.el f.s1 w e
    (f.s2 = 0 → f.pg = 0 → k.r.gxp f.s1 = false →
      ∃ t, exec (.vsetl c f) s = .next t ∧ (t.reed c).vl = min (k.r.gx f.s1) n ∧
        ScalarResult s t c { k.r with vl := min (k.r.gx f.s1) n } f.vd (min (k.r.gx f.s1) n)) ∧
    (f.s2 = 0 → f.pg = 0 → f.s1 < 8 → ∃ t, exec (.pmvx c f) s = .next t ∧ ScalarResult s t c k.r f.vd (k.r.gp f.s1 % 2 ^ 64)) ∧
    (f.s2 = 0 → f.pg = 0 → f.vd < 8 →
      ∃ t, exec (.pmxv c f) s = .next t ∧ PredicateResult s t c k f.vd (fun _ => true) fun e => decide (e < 64) && bit (k.r.gx f.s1) e) ∧
    (0 < k.r.vl → w * k.r.vl ≤ 512 →
      (f.s2 = 0 → f.pg = 0 →
        ∃ t, exec (.vmvx c f) s = .next t ∧ ScalarResult s t c k.r f.vd (BitVec.ofInt 64 (BitVec.ofNat w (el 0)).toInt).toNat) ∧
      (f.s1 < 8 → f.s2 = 0 →
        (∃ t, exec (.pcount c f) s = .next t ∧
          ScalarResult s t c k.r f.vd ((List.range k.r.vl).filter fun e => bit (k.r.gp f.pg) e && bit (k.r.gp f.s1) e).length) ∧
        ∃ t, exec (.pfirst c f) s = .next t ∧
          ScalarResult s t c k.r f.vd ((((List.range k.r.vl).filter fun e => bit (k.r.gp f.pg) e && bit (k.r.gp f.s1) e).head?).getD (2 ^ 64 - 1))) ∧
      (∃ t, exec (.vslidedn c f) s = .next t ∧
        VectorResult s t c k f.vd w (k.on f) fun e => if e + k.r.gx f.s2 < n then el (e + k.r.gx f.s2) else 0) ∧
      (∃ t, exec (.vslideup c f) s = .next t ∧
        VectorResult s t c k f.vd w (k.on f) fun e => if k.r.gx f.s2 ≤ e then el (e - k.r.gx f.s2) else 0) ∧
      (∃ t, exec (.vperm c f) s = .next t ∧
        VectorResult s t c k f.vd w (k.on f) fun e => if k.r.el f.s2 w e < n then el (k.r.el f.s2 w e) else 0) ∧
      (f.s2 = 0 →
        (∃ t, exec (.vcompress c f) s = .next t ∧
          VectorResult s t c k f.vd w (fun e => decide (e < (k.actives f).length)) fun e => el ((k.actives f).getD e 0)) ∧
        ∃ t, exec (.vexpand c f) s = .next t ∧ VectorResult s t c k f.vd w (k.on f) fun e => el ((k.actives f).idxOf e)))

/-- Osier loads. For a core that issues, with unpoisoned operands and active elements that it may read here without error: VLD, VLDS, VLDG and VLDFF complete with each active element of vd holding the element of memory at its own address, aligned to its size: consecutive, at the signed stride, or at the unsigned offset; the rest of vd and every other register stay, and memory is as it was. A VLDFF whose first faulting active element m is not element 0 loads those below m and sets vl to m. VLDX of each of its formats reads packed elements at any byte, scales them by the scale byte where rs2 is given, and rounds each once into the destination format. (R167, R182, R186, R194, R195, R196, Table 7-8.) -/
def Obligations.VectorLoads : Prop :=
  ∀ (s : State) (c : Nat) (f : VFields) (k : RC), s.canon = true → Clean s → Issues s c k → 0 < k.r.vl → f.ew < 4 →
    k.r.gxp f.s1 = false → k.r.gpp f.pg = false →
    (let w := ewBits f.ew
     let n := w / 8
     let base : Int := k.r.gx f.s1
     let good := fun (at' : Nat → Nat) (on : Nat → Bool) => ∀ e, on e = true → at' e % n = 0 ∧ Loadable s k (at' e) n
     let loads := fun (i : Instr) (k' : RC) (at' : Nat → Nat) => ∃ t, exec i s = .next t ∧ OnlyReadCounts s t ∧
       VectorResult { s with regs := t.regs } t c k' f.vd w (k'.on f) fun e => numRead s (at' e) n
     let unit := fun e : Nat => wrapInt 64 (base + e * n)
     let strided := fun e : Nat => wrapInt 64 (base + e * sext 64 (k.r.gx f.s2))
     let offset := fun e : Nat => (k.r.gx f.s1 + k.r.el f.s2 w e) % 2 ^ 64
     w * k.r.vl ≤ 512 →
       (f.s2 = 0 → good unit (k.on f) → loads (.vld c f) k unit ∧ loads (.vldff c f) k unit) ∧
       (k.r.gxp f.s2 = false → good strided (k.on f) → loads (.vlds c f) k strided) ∧
       ((∀ e, k.on f e = true → k.r.elp f.s2 w e = false) → FMap.find? c s.waiting = none → good offset (k.on f) → loads (.vldg c f) k offset) ∧
       ∀ m, 0 < m → f.s2 = 0 → k.on f m = true → s.touchBad k (m, unit m, n) = true → good unit (fun e => decide (e < m) && k.on f e) →
         (∃ t, exec (.vldff c f) s = .next t ∧ OnlyReadCounts s t ∧
           VectorResult { s with regs := t.regs } t c { k with r := { k.r with vl := m } } f.vd w (fun e => decide (e < m) && k.on f e) fun e => numRead s (unit e) n)) ∧
    ∀ j < 6,
      let src := vldxFmt j
      let b := fmtBits src
      let w := fpEwBits f.ew
      let at' := fun e : Nat => (k.r.gx f.s1 + b * e / 8) % 2 ^ 64
      let n := fun e : Nat => (b * e % 8 + b + 7) / 8
      let read := fun e : Nat => readElem src (bits (numRead s (at' e) (n e)) (b * e % 8) b)
      let val := fun e : Nat => k.round (fpEwFmt f.ew) e (if f.s2 = 0 then (read e).1 else scaled (numRead s (k.r.gx f.s2) 1) (read e).1) (read e).2.1 (read e).2.2
      w * k.r.vl ≤ 512 → vldxBad src f.s2 = false → k.r.gxp f.s2 = false → (k.actives f ≠ [] → f.s2 ≠ 0 → Loadable s k (k.r.gx f.s2) 1) →
      (∀ e, k.on f e = true → Loadable s k (at' e) (n e)) →
      ∃ t, exec (.vldx c j f) s = .next t ∧ OnlyReadCounts s t ∧ FloatResult { s with regs := t.regs } t c k f w val

/-- Osier stores, and scatter-add into a region. For a core that issues, holds no far line and, for a scatter, waits at no narrow limit, with unpoisoned operands and active elements that it may store here: VST, VSTS and VSTG complete with the bytes at the address of each active element holding the element, where no later active element has the same address, and every other byte of memory reading as before; the core's registers, the items and the other cores stay. VSTRA with active elements of distinct region elements, all finite, unpoisoned, no finer than the region's scale and within its range, adds each exactly to its region element and changes no byte of memory outside them. (R167, R186, R194, R278, Table 7-8.) -/
def Obligations.VectorStores : Prop :=
  ∀ (s : State) (c : Nat) (f : VFields) (k : RC), s.canon = true → Clean s → Issues s c k → 0 < k.r.vl → f.ew < 4 → s.coreLines c = [] →
    k.r.gxp f.s1 = false → k.r.gpp f.pg = false →
    (let w := ewBits f.ew
     let n := w / 8
     let base : Int := k.r.gx f.s1
     let stores := fun (i : Instr) (at' : Nat → Nat) =>
       (∀ e, k.on f e = true → k.r.elp f.vd w e = false ∧ Writable s k (at' e) n) →
       ∃ t, exec i s = .next t ∧ StoreEnds s t c k.r ∧ OnlyBytes ((k.actives f).map fun e => (at' e, n)) s t ∧
         ∀ e, k.on f e = true → (∀ d, e < d → k.on f d = true → ∀ x < n, ∀ y < n, s.localAddr (at' d + x) ≠ s.localAddr (at' e + y)) → numRead t (at' e) n = k.r.el f.vd w e
     w * k.r.vl ≤ 512 →
       (f.s2 = 0 → stores (.vst c f) fun e => wrapInt 64 (base + e * n)) ∧
       (k.r.gxp f.s2 = false → stores (.vsts c f) fun e => wrapInt 64 (base + e * sext 64 (k.r.gx f.s2))) ∧
       ((∀ e, k.on f e = true → k.r.elp f.s2 w e = false) → FMap.find? c s.waiting = none → stores (.vstg c f) fun e => (k.r.gx f.s1 + k.r.el f.s2 w e) % 2 ^ 64)) ∧
    (let w := fpEwBits f.ew
     let at' := fun e : Nat => (k.r.gx f.s1 + k.r.el f.s2 w e) % 2 ^ 64
     ∀ (rg : Nat → Rgn) (ix : Nat → Nat) (neg : Nat → Bool) (m : Nat → Nat) (x : Nat → Int), 2 ≤ f.ew → w * k.r.vl ≤ 512 →
       (∀ e, k.on f e = true → k.r.elp f.s2 w e = false ∧ k.r.elp f.vd w e = false ∧ at' e % (w / 8) = 0 ∧
         (∀ i < w / 8, s.mayAccess k.it.desc k.tile 1 (at' e + i) = true) ∧ s.mapped (at' e / 64 * 64) = true ∧
         s.regionAt (at' e) = some (rg e, ix e) ∧ (readElem (fpEwFmt f.ew) (k.r.el f.vd w e)).1 = .fin (neg e) (m e) (x e) ∧
         s.rgnExp k.it.cfg (rg e) (ix e) ≤ x e ∧ (s.rgnSide (rg e) (ix e)).ovf = none ∧
         (neg e = false → (s.rgnV (rg e) (ix e)).1 + (m e * 2 ^ (x e - s.rgnExp k.it.cfg (rg e) (ix e)).toNat : Nat) < (2 ^ 127 : Nat)) ∧
         (neg e = true → -(2 ^ 127 : Nat) ≤ (s.rgnV (rg e) (ix e)).1 - (m e * 2 ^ (x e - s.rgnExp k.it.cfg (rg e) (ix e)).toNat : Nat)) ∧
         s.mapped ((rg e).addr (ix e) / 64 * 64) = true ∧ s.regionAt ((rg e).addr (ix e)) = some (rg e, ix e) ∧ (rg e).off % 16 = 0 ∧
         ∀ d, d ≠ e → k.on f d = true → (rg d).addr (ix d) ≠ (rg e).addr (ix e)) →
       ∃ t, exec (.vstra c f) s = .next t ∧ (t.reed c).pc = (k.r.pc + 4) % 2 ^ 64 ∧ (∀ d, d ≠ c → t.reed d = s.reed d) ∧
         OnlyBytes ((k.actives f).map fun e => ((rg e).addr (ix e), 16)) s t ∧
         ∀ e, k.on f e = true → (t.rgnV (rg e) (ix e)).1 = (s.rgnV (rg e) (ix e)).1 +
           (if neg e then -((m e * 2 ^ (x e - s.rgnExp k.it.cfg (rg e) (ix e)).toNat : Nat) : Int)
             else ((m e * 2 ^ (x e - s.rgnExp k.it.cfg (rg e) (ix e)).toNat : Nat) : Int)))

/-- Osier floating-point arithmetic and conversion. For a core that issues, with vl elements in the register and at least one: VFADD, VFSUB, VFMUL, VFDIV, VFMIN, VFMAX, VFSQRT, VFMADD, VFNMSUB and VCVT complete. Every active element of vd holds the exact result of its own sources, rounded once into the format under the rounding that VRM selects; VFLAGS collects the flags and VFLUSH the flushes of the active elements; every other element and register, memory, the items and the other cores stay. (R99, R108, R187, R188, R189, R190, R191, Table 7-10.) -/
def Obligations.VectorFloat : Prop :=
  ∀ (s : State) (c : Nat) (f : VFields) (k : RC), s.canon = true → Issues s c k → 0 < k.r.vl → f.ew < 4 →
    let fmt := fpEwFmt f.ew
    let w := fpEwBits f.ew
    let a := fun e => readElem fmt (k.r.el f.s1 w e)
    let b := fun e => readElem fmt (k.r.el f.s2 w e)
    let d := fun e => readElem fmt (k.r.el f.vd w e)
    let two := fun (op : Val → Val → Val × Nat) (e : Nat) =>
      k.round fmt e (op (a e).1 (b e).1).1 ((op (a e).1 (b e).1).2 ||| (a e).2.1 ||| (b e).2.1) ((a e).2.2 + (b e).2.2)
    let three := fun (op : Val → Val → Val → Val × Nat) (e : Nat) =>
      k.round fmt e (op (a e).1 (b e).1 (d e).1).1 ((op (a e).1 (b e).1 (d e).1).2 ||| (a e).2.1 ||| (b e).2.1 ||| (d e).2.1) ((a e).2.2 + (b e).2.2 + (d e).2.2)
    let ends := fun (i : Instr) (val : Nat → Res) => ∃ t, exec i s = .next t ∧ FloatResult s t c k f w val
    let marked := fun (x y : Val × Nat) => (y.1, x.2 ||| y.2)
    (w * k.r.vl ≤ 512 →
      ends (.vfadd c f) (two fun x y => addVal x y k.rdn) ∧
      ends (.vfsub c f) (two fun x y => addVal x y.negate k.rdn) ∧
      ends (.vfmul c f) (two mulVal) ∧
      ends (.vfdiv c f) (two divVal) ∧
      ends (.vfmin c f) (two fun x y => if x.isNan || y.isNan then (.nan false, 0) else if ordVal true x y = .lt then (x, 0) else (y, 0)) ∧
      ends (.vfmax c f) (two fun x y => if x.isNan || y.isNan then (.nan false, 0) else if ordVal true x y = .lt then (y, 0) else (x, 0)) ∧
      ends (.vfmadd c f) (three fun x y z => marked (mulVal x y) (addVal (mulVal x y).1 z k.rdn)) ∧
      ends (.vfnmsub c f) (three fun x y z => marked (mulVal x y) (addVal (mulVal x y).1.negate z k.rdn)) ∧
      (f.s2 = 0 → ends (.vfsqrt c f) fun e => k.round fmt e (sqrtVal (a e).1).1 ((a e).2.1 ||| (sqrtVal (a e).1).2) (a e).2.2)) ∧
    ∀ f5 < 4,
      let dst := f5 * 4 + f.ew
      let src := f.s2 / 2
      let x := fun e => readElem src (k.r.el f.s1 (fmtBits src) e)
      f.s2 % 2 = 0 → cvtFmtOk src = true → cvtFmtOk dst = true → max (fmtBits src) (fmtBits dst) * k.r.vl ≤ 512 →
      ∃ t, exec (.vcvt c f5 f) s = .next t ∧ FloatResult s t c k f (fmtBits dst) fun e =>
        let r := encodeReed dst (k.rnd e) (fpOf src).isSome (x e).1
        ⟨r.bits, r.flags ||| (x e).2.1, r.flush + (x e).2.2⟩

/-- Osier sign injection, floating-point comparison, and splat. For a core that issues, with vl elements in the register and at least one: VFSGNJ, VFSGNJN and VFSGNJX keep the magnitude bits of vs1 under the sign of vs2, its opposite, or the two signs' exclusive or, and raise no flag. VFCMPEQ, VFCMPLT and VFCMPLE write the bit of pd of each active element, false where a source is a NaN, with the flags of reading the sources alone. VFSPLAT writes the low bits of f[rs1] to every active element. (R94, R95, R96, R181, Table 7-10.) -/
def Obligations.VectorFloatBits : Prop :=
  ∀ (s : State) (c : Nat) (f : VFields) (k : RC), s.canon = true → Issues s c k → 0 < k.r.vl → f.ew < 4 →
    let fmt := fpEwFmt f.ew
    let w := fpEwBits f.ew
    w * k.r.vl ≤ 512 →
    let sign := fun (n e : Nat) => bit (k.r.el n w e) (w - 1)
    let under := fun (sg : Nat → Bool) (e : Nat) => k.r.el f.s1 w e % 2 ^ (w - 1) + b2n (sg e) * 2 ^ (w - 1)
    let ends := fun (i : Instr) (val : Nat → Nat) => ∃ t, exec i s = .next t ∧ VectorResult s t c k f.vd w (k.on f) val
    let x := fun (n e : Nat) => readElem fmt (k.r.el n w e)
    let compares := fun (i : Instr) (holds : Ordering → Bool) => ∃ t, exec i s = .next t ∧
      PredicateResult s t c (flagged k (orFlags ((k.actives f).map fun e => (x f.s1 e).2.1 ||| (x f.s2 e).2.1))
        ((k.actives f).map fun e => (x f.s1 e).2.2 + (x f.s2 e).2.2).sum) f.vd (k.on f)
        fun e => !(x f.s1 e).1.isNan && !(x f.s2 e).1.isNan && holds (ordVal false (x f.s1 e).1 (x f.s2 e).1)
    ends (.vfsgnj c f) (under (sign f.s2)) ∧
    ends (.vfsgnjn c f) (under fun e => !sign f.s2 e) ∧
    ends (.vfsgnjx c f) (under fun e => xor (sign f.s1 e) (sign f.s2 e)) ∧
    (f.vd < 8 → compares (.vfcmpeq c f) (· == .eq) ∧ compares (.vfcmplt c f) (· == .lt) ∧ compares (.vfcmple c f) (· != .gt)) ∧
    (f.s2 = 0 → ends (.vfsplat c f) fun _ => k.r.gv f.s1 % 2 ^ w)

/-- Tangent lanes: value and tangent of a register pair. For a core that issues, with vl elements in the register and at least one, and the pair bits of its register fields spelling the operation: VTADD, VTSUB, VTMUL, VTDIV and VTCHAIN complete. Each active element of the destination pair holds the operation on the values, and on the tangents the derivative Table 8-4 gives, each exact and rounded once; the tangent of a quotient uses the rounded quotient, and VTCHAIN copies the value. All sources are read before either register is written; every register outside the pair stays. (R227, R228, R229, Table 8-4.) -/
def Obligations.Tangents : Prop :=
  ∀ (s : State) (c : Nat) (f : VFields) (k : RC), s.canon = true → Issues s c k → 0 < k.r.vl → f.ew < 4 → fpEwBits f.ew * k.r.vl ≤ 512 →
    let w := fpEwBits f.ew
    let sub := f.vd % 2 * 4 + f.s1 % 2 * 2 + f.s2 % 2
    let a := fun e => k.r.el (pairOf f.s1) w e
    let a' := fun e => k.r.el (pairOf f.s1 + 1) w e
    let b := fun e => k.r.el (pairOf f.s2) w e
    let b' := fun e => k.r.el (pairOf f.s2 + 1) w e
    let add := fun l : List Val => addVal (nth l 0) (nth l 1) k.rdn
    let sub' := fun l : List Val => addVal (nth l 0) (nth l 1).negate k.rdn
    let mul := fun l : List Val => mulVal (nth l 0) (nth l 1)
    let quot := fun e => k.lane f e [a e, b e] fun l => divVal (nth l 0) (nth l 1)
    let ends := fun (i : Instr) (val tan : Nat → Res) => ∃ t, exec i s = .next t ∧ PairResult s t c k f val tan
    (sub = 0 → ends (.vtadd c f) (fun e => k.lane f e [a e, b e] add) fun e => k.lane f e [a' e, b' e] add) ∧
    (sub = 1 → ends (.vtsub c f) (fun e => k.lane f e [a e, b e] sub') fun e => k.lane f e [a' e, b' e] sub') ∧
    (sub = 2 → ends (.vtmul c f) (fun e => k.lane f e [a e, b e] mul) fun e => k.lane f e [a e, b e, a' e, b' e] (again := 2) fun l =>
      let x := mulVal (nth l 2) (nth l 1)
      let y := mulVal (nth l 0) (nth l 3)
      ((addVal x.1 y.1 k.rdn).1, x.2 ||| y.2 ||| (addVal x.1 y.1 k.rdn).2)) ∧
    (sub = 3 → ends (.vtdiv c f) quot fun e => k.lane f e [(quot e).bits, b e, a' e, b' e] (again := 2) fun l =>
      let x := mulVal (nth l 0) (nth l 3)
      let y := addVal (nth l 2) x.1.negate k.rdn
      ((divVal y.1 (nth l 1)).1, x.2 ||| y.2 ||| (divVal y.1 (nth l 1)).2)) ∧
    (sub = 4 → ends (.vtchain c f) (fun e => ⟨b e, 0, 0⟩) fun e => k.lane f e [b' e, a' e] mul)

/-- Osier reductions, and the tile register. For a core that issues, with at least one element: VRED.I, VRED.F, VRED.FMAX, VRED.FMIN, VRED.FARGMAX, VRED.FARGMIN, VRED.FPROD, VRED.FMEAN, VTRRD, VTRWR and VTRRED each complete where their fields are legal and the elements fit the register: the pc is four further, and memory, the items and every other core stay. VRED.I leaves in element 0 of vd the sum of the active elements of vs1 modulo the width and in element 1 their number; the seven floating-point VRED leave the value that Table 8-2 gives over the active elements, their number, and for FARGMAX and FARGMIN the index; with no active element EMPTY is marked. VTRRD and VTRWR move the active elements from and to the selected line of the tile register, and VTRRED reduces it; selectors past the tile register are illegal. (R122, R198, R217, R218, R219, R220, R221, R222, Table 8-2.) -/
def Obligations.Reductions : Prop :=
  ∀ (s : State) (c : Nat) (f : VFields) (k : RC), s.canon = true → Issues s c k → 0 < k.r.vl → f.ew < 4 →
    let w := fpEwBits f.ew
    let wi := ewBits f.ew
    let line := k.line f w
    let listed := fun (l : Line) (kind wk : Nat) => [(0, (k.reduce l kind f.ew).1), (1, min l.act.length (2 ^ wk - 1))] ++
      (match (k.reduce l kind f.ew).2.2 with
      | some i => [(2, i)]
      | none => [])
    let red := fun (i : Instr) (l : Line) (kind wk : Nat) => ∃ t, exec i s = .next t ∧ ListedResult s t c k f.vd wk (listed l kind wk) (k.reduce l kind f.ew).2.1
    let key := tregKey k.tile (k.r.gx f.s1)
    let ends := fun (i : Instr) => ∃ t, exec i s = .next t ∧ CoreOnly s t c k.r ∧ (t.reed c).vl = k.r.vl
    (f.s2 = 0 → wi * k.r.vl ≤ 512 → ends (.vredI c f)) ∧
    (f.s2 = 0 → w * k.r.vl ≤ 512 → ends (.vredF c f) ∧ ends (.vredFmax c f) ∧ ends (.vredFmin c f) ∧ ends (.vredFargmax c f) ∧
      ends (.vredFargmin c f) ∧ ends (.vredFprod c f) ∧ ends (.vredFmean c f)) ∧
    (f.s2 = 0 → wi * k.r.vl ≤ 512 → selFirst (k.r.gx f.s1) + k.r.vl ≤ 32 → ends (.vtrrd c f) ∧ ends (.vtrwr c f)) ∧
    (f.s2 < 8 → (if f.s2 = 0 then wi else w) * k.r.vl ≤ 512 → selFirst (k.r.gx f.s1) + k.r.vl ≤ 32 → ends (.vtrred c f)) ∧
    (f.s2 = 0 →
      (wi * k.r.vl ≤ 512 → ∃ t, exec (.vredI c f) s = .next t ∧
        ListedResult s t c k f.vd wi [(0, ((k.actives f).map fun e => k.r.el f.s1 wi e).sum), (1, min (k.actives f).length (2 ^ wi - 1))]
          ⟨if k.actives f = [] then fEmpty else 0, 0⟩) ∧
      (w * k.r.vl ≤ 512 →
        red (.vredF c f) line 1 w ∧ red (.vredFmax c f) line 2 w ∧ red (.vredFmin c f) line 3 w ∧ red (.vredFargmax c f) line 4 w ∧
        red (.vredFargmin c f) line 5 w ∧ red (.vredFprod c f) line 6 w ∧ red (.vredFmean c f) line 7 w)) ∧
    (selFirst (k.r.gx f.s1) + k.r.vl ≤ 32 →
      (f.s2 = 0 → wi * k.r.vl ≤ 512 →
        (∃ t, exec (.vtrrd c f) s = .next t ∧ t.treg = s.treg ∧ VectorResult s t c k f.vd wi (k.on f) fun e => s.treg.getD (key e) 0 % 2 ^ wi) ∧
        (FMap.sorted s.treg = true → ∃ t, exec (.vtrwr c f) s = .next t ∧ VectorResult s t c k 32 wi (fun _ => false) (fun _ => 0) ∧
          (∀ e, k.on f e = true → t.treg.getD (key e) 0 = k.r.el f.vd wi e) ∧
          ∀ x, (∀ e, k.on f e = true → key e ≠ x) → t.treg.getD x 0 = s.treg.getD x 0)) ∧
      (f.s2 < 8 →
        let wk := if f.s2 = 0 then wi else w
        let l : Line := { n := k.r.vl, act := (k.actives f).map fun e => (e, s.treg.getD (key e) 0 % 2 ^ wk, (s.tregC.find? (key e)).isNone), pz := k.r.gpp f.pg || k.r.gxp f.s1 }
        wk * k.r.vl ≤ 512 → red (.vtrred c f) l f.s2 wk)) ∧
    (32 < selFirst (k.r.gx f.s1) + k.r.vl →
      exec (.vtrrd c f) s = .next (s.finish k (.trap s 2 (vword f custom3 0x18))) ∧
      exec (.vtrwr c f) s = .next (s.finish k (.trap s 2 (vword f custom3 0x19))) ∧
      exec (.vtrred c f) s = .next (s.finish k (.trap s 2 (vword f custom3 0x1A))))

/-- Osier scans and precision-floor helpers. For a core that issues, with vl elements in the register and at least one: VSCAN.I, VSCAN.F and VSCAN.FMAX leave in each active element the sum, the sum in the accumulation format, or the maximum of the active elements of its segment before it, with or without itself. VH.SUMSQ adds the tree sum of the squares of the active inputs to element 0 of vd and their number to element 1; VH.MEANVAR and VH.SMAXSTAT write no element but the state elements 0 to 2 and 0 to 1, VH.MEANVAR the new count and VH.SMAXSTAT the new maximum among them, and with no active input the three change no element and mark EMPTY. VH.SMAXOUT leaves in each active element e to the input less the maximum, over the sum, rounded once to the format; VH.LSE writes element 0 with the maximum plus the logarithm of the sum. (R214, R215, R223, R224, R226, Table 8-3.) -/
def Obligations.ScansAndHelpers : Prop :=
  ∀ (s : State) (c : Nat) (f : VFields) (k : RC), s.canon = true → Issues s c k → 0 < k.r.vl → f.ew < 4 →
    let w := fpEwBits f.ew
    let wi := ewBits f.ew
    let fmt := fpEwFmt f.ew
    let line := k.line f w
    let F := k.floorFmt f
    let A := k.accIn F
    let fw := k.floorW f
    let n := (k.actives f).length
    (f.s2 < 16 →
      (wi * k.r.vl ≤ 512 → ∃ t, exec (.vscanI c f) s = .next t ∧
        VectorResult s t c k f.vd wi (k.on f) fun e => ((k.scanned f e).map fun j => k.r.el f.s1 wi j).sum % 2 ^ wi) ∧
      (w * k.r.vl ≤ 512 →
        (∃ t, exec (.vscanF c f) s = .next t ∧ VectorResult s t c { k with r := { k.r with vflags := (t.reed c).vflags, vflush := (t.reed c).vflush } } f.vd w (k.on f) fun e =>
          (encodeVal fmt (k.rnd e) true (k.scanSum f (k.scanned f e)).1.v).bits % 2 ^ w) ∧
        ∃ t, exec (.vscanFmax c f) s = .next t ∧ VectorResult s t c { k with r := { k.r with vflags := (t.reed c).vflags, vflush := (t.reed c).vflush } } f.vd w (k.on f) fun e =>
          (encodeVal fmt ⟨0, false, 0, 0⟩ true
            (Line.extreme { n := k.r.vl, act := (k.scanned f e).map fun j => (j, k.r.el f.s1 w j, false), pz := false } fmt true).1).bits % 2 ^ w)) ∧
    (w * k.r.vl ≤ 512 →
      let ends := fun (i : Instr) (P : Reed → Prop) (keeps : Nat → Prop) => ∃ t, exec i s = .next t ∧ CoreOnly s t c k.r ∧ P (t.reed c) ∧
        (∀ e < 512 / fw, keeps e → (t.reed c).el f.vd fw e = k.r.el f.vd fw e) ∧ (∀ x, x ≠ f.vd → (t.reed c).gv x = k.r.gv x) ∧
        (∀ x, (t.reed c).gx x = k.r.gx x) ∧ (∀ x, (t.reed c).gp x = k.r.gp x) ∧ (t.reed c).vl = k.r.vl
      let sq := accAdd A (k.state f f.vd 0) (k.treeSum f fun x => accMul A x x)
      let mx := (pickVal true (k.state f f.vd 0).v (line.extreme fmt true).1).1
      (n ≠ 0 →
        (f.s2 = 0 → ends (.vhSumsq c f)
          (fun r => r.el f.vd fw 0 = k.floorBits f sq % 2 ^ fw ∧ r.el f.vd fw 1 = min (k.r.el f.vd fw 1 + n) (2 ^ fw - 1)) fun e => 1 < e) ∧
        (f.s2 = 1 → ends (.vhMeanvar c f) (fun r => r.el f.vd fw 0 = min (k.r.el f.vd fw 0 + n) (2 ^ fw - 1)) fun e => 2 < e) ∧
        (f.s2 = 2 → ends (.vhSmaxstat c f)
          (fun r => r.el f.vd fw 0 = if mx = .inf true then k.r.el f.vd fw 0 else (encodeVal F ⟨0, false, 0, 0⟩ true mx).bits % 2 ^ fw) fun e => 1 < e)) ∧
      (n = 0 →
        (f.s2 = 0 → ends (.vhSumsq c f) (fun r => r.vflags = k.r.vflags ||| fEmpty) fun _ => True) ∧
        (f.s2 = 1 → ends (.vhMeanvar c f) (fun r => r.vflags = k.r.vflags ||| fEmpty) fun _ => True) ∧
        (f.s2 = 2 → ends (.vhSmaxstat c f) (fun r => r.vflags = k.r.vflags ||| fEmpty) fun _ => True)) ∧
      (f.s2 = 3 → ∃ t, exec (.vhSmaxout c f) s = .next t ∧
        VectorResult s t c { k with r := { k.r with vflags := (t.reed c).vflags, vflush := (t.reed c).vflush } } f.vd w (k.on f) fun e =>
          (encodeVal fmt (k.rnd e) true
            (accDiv A (accUn A expVal (accSub A (RedAcc.leaf (readElem fmt (k.r.el f.s1 w e)).1) (RedAcc.leaf (k.state f f.vd 0).v)))
              (RedAcc.leaf (k.state f f.vd 1).v)).v).bits % 2 ^ w) ∧
      (f.s2 = 4 → f.pg = 0 → ends (.vhLse c f)
        (fun r => r.el f.vd fw 0 = k.floorBits f (accAdd A (k.state f f.s1 0) (accUn A lnVal (k.state f f.s1 1))) % 2 ^ fw) fun e => 0 < e))

/-- Plait links between the stages of a chain. For a stage of a plait that issues: PLSEND with fewer than eight entries on its downstream link appends v[vs1] with its poison behind them, and with eight waits holding the value while the next stage lives, counting the stall; while stores of the item to other members are not acknowledged it waits (the model's reading of R208, log 55). PLRECV moves the oldest entry of the upstream link to vd, and waits on an empty link while the stage before lives. PLAIT_FIFO_ROOM and PLAIT_FIFO_DATA end those waits with the same effects once there is room or an entry. Either form in the wrong stage, or outside a plait, is illegal. (R205, R206, R207, R209, Table 8-5.) -/
def Obligations.PlaitLinks : Prop :=
  ∀ (s : State) (c : Nat) (f : VFields) (k : RC), s.canon = true → s.runningCore c = some k → k.r.blocked = .no ∨ (∃ v p, k.r.blocked = .send v p) ∨ (∃ d, k.r.blocked = .recv d) →
    FMap.sorted s.fifos = true →
    let down := s.fifo k.tile k.stage
    let up' := s.fifo k.tile (k.stage - 1)
    let isFifo := fun (t : State) (link : Nat) (l : List (Nat × Nat)) => t.fifo k.tile link = l ∧ ∀ p j, fifoKey p j ≠ fifoKey k.tile link → t.fifo p j = s.fifo p j
    let frame := fun (t : State) => t.mem.cells = s.mem.cells ∧ t.items = s.items ∧ (∀ d, d ≠ c → t.reed d = s.reed d) ∧ ∀ n, (t.reed c).gx n = k.r.gx n
    let sent := fun (i : Instr) (v p : Nat) => ∃ t, exec i s = .next t ∧ isFifo t k.stage (down ++ [(v, p)]) ∧ frame t ∧
      (t.reed c).pc = (k.r.pc + 4) % 2 ^ 64 ∧ (t.reed c).blocked = .no ∧ ∀ n, (t.reed c).gv n = k.r.gv n
    let received := fun (i : Instr) (vd v p : Nat) (rest : List (Nat × Nat)) => ∃ t, exec i s = .next t ∧ isFifo t (k.stage - 1) rest ∧ frame t ∧
      (t.reed c).pc = (k.r.pc + 4) % 2 ^ 64 ∧ (t.reed c).blocked = .no ∧ (t.reed c).gv vd = v % 2 ^ 512 ∧ (t.reed c).gvp vd = p % 256 ∧
      ∀ n, n ≠ vd → (t.reed c).gv n = k.r.gv n
    (Issues s c k → f.pg = 0 → f.ew = 0 → k.inPlait = true →
      (k.lastStage = false →
        (k.it.pendingRemote ≠ 0 → exec (.plsend c f) s = .next s) ∧
        (k.it.pendingRemote = 0 → down.length < 8 → sent (.plsend c f) (k.r.gv f.s1) (k.r.gvp f.s1)) ∧
        (k.it.pendingRemote = 0 → 8 ≤ down.length → k.it.live.contains (c + 1) = true →
          ∃ t, exec (.plsend c f) s = .next t ∧ t.reed c = { k.r with blocked := .send (k.r.gv f.s1) (k.r.gvp f.s1) } ∧ t.fifos = s.fifos ∧
            t.fld R.TIL_PLAIT_STALL_SEND_STALLS (tix k.tile) = min (s.fld R.TIL_PLAIT_STALL_SEND_STALLS (tix k.tile) + 1) (2 ^ R.TIL_PLAIT_STALL_SEND_STALLS.w - 1))) ∧
      (k.stage ≠ 0 →
        (∀ v p rest, up' = (v, p) :: rest → received (.plrecv c f) f.vd v p rest) ∧
        (up' = [] → k.it.live.contains (c - 1) = true →
          ∃ t, exec (.plrecv c f) s = .next t ∧ t.reed c = { k.r with blocked := .recv f.vd } ∧ t.fifos = s.fifos))) ∧
    (∀ v p, k.r.blocked = .send v p → down.length < 8 → sent (.plaitFifoRoom c) v p) ∧
    (∀ d v p rest, k.r.blocked = .recv d → up' = (v, p) :: rest → received (.plaitFifoData c) d v p rest) ∧
    (Issues s c k →
      (k.inPlait = false ∨ k.lastStage = true → exec (.plsend c f) s = .next (s.finish k (.trap s 2 (vword f custom3 0x1B)))) ∧
      (k.inPlait = false ∨ k.stage = 0 → exec (.plrecv c f) s = .next (s.finish k (.trap s 2 (vword f custom3 0x1C)))))

/-- The scalar-summary port of a launch with a control core. For a core of a launch with a control core that issues, with an EMPTY slot: VSUMM.ANY, VSUMM.ALL and VSUMM.CNT fill its slot with whether an active bit of ps1 is set, whether all are, and their number, and change no register; with a FULL slot the core waits with that value. SUMMRD and SUMMOR of the control core with every selected slot FULL give the OR of the selected values in rd and empty those slots alone; else the core waits. SUMMARY_SLOT_EMPTIED and SUMMARY_SLOT_FILLED end those waits with the same effects. (R199, R200.) -/
def Obligations.SummaryPort : Prop :=
  ∀ (s : State) (c : Nat) (f : VFields) (k : RC), s.canon = true → s.runningCore c = some k → k.port = true → FMap.sorted s.summ = true →
    let act := k.actives f
    let set := act.filter fun e => bit (k.r.gp f.s1) e
    let pz := k.r.gpp f.s1 || k.r.gpp f.pg
    let slot := fun (t : State) (d : Nat) => FMap.find? d t.summ
    let fills := fun (i : Instr) (v : Nat) (p : Bool) => ∃ t, exec i s = .next t ∧ slot t c = some (v, p) ∧ (∀ d, d ≠ c → slot t d = slot s d) ∧
      CoreOnly s t c k.r ∧ (t.reed c).blocked = .no ∧ (∀ n, (t.reed c).gx n = k.r.gx n) ∧ (∀ n, (t.reed c).gv n = k.r.gv n) ∧ ∀ n, (t.reed c).gp n = k.r.gp n
    let waits := fun (i : Instr) (b : Blocked) => ∃ t, exec i s = .next t ∧ t = s.setReed c { k.r with blocked := b }
    let takes := fun (i : Instr) (rd mask : Nat) => ∃ t, exec i s = .next t ∧
      ScalarResult s t c k.r rd (((maskCores k.tile mask).foldl (fun a d => a ||| ((slot s d).getD (0, false)).1) 0) % 2 ^ 64) ∧ (t.reed c).blocked = .no ∧
      (∀ d ∈ maskCores k.tile mask, slot t d = none) ∧ ∀ d, d ∉ maskCores k.tile mask → slot t d = slot s d
    let full := fun mask => ∀ d ∈ maskCores k.tile mask, (slot s d).isSome = true
    let one := 2 ^ bits (k.r.gx f.s1) 0 3
    let many := bits (k.r.gx f.s1) 0 8
    (Issues s c k →
      (0 < k.r.vl → f.ew < 4 → ewBits f.ew * k.r.vl ≤ 512 → f.s1 < 8 →
        (slot s c = none →
          (f.s2 = 0 → fills (.vsummAny c f) (if set = [] then 0 else 1) pz) ∧ (f.s2 = 1 → fills (.vsummAll c f) (if act.length = set.length then 1 else 0) pz) ∧
          (f.s2 = 2 → fills (.vsummCnt c f) set.length pz)) ∧
        ((slot s c).isSome = true →
          (f.s2 = 0 → waits (.vsummAny c f) (.summ (if set = [] then 0 else 1) pz)) ∧
          (f.s2 = 1 → waits (.vsummAll c f) (.summ (if act.length = set.length then 1 else 0) pz)) ∧
          (f.s2 = 2 → waits (.vsummCnt c f) (.summ set.length pz)))) ∧
      (k.control = true → f.pg = 0 →
        (f.s2 = 3 → full one → takes (.summrd c f) f.vd one) ∧
        (f.s2 = 3 → ¬ full one → waits (.summrd c f) (.summrd f.vd (bits (k.r.gx f.s1) 0 3) (k.r.gxp f.s1))) ∧
        (f.s2 = 4 → full many → takes (.summor c f) f.vd many) ∧
        (f.s2 = 4 → ¬ full many → waits (.summor c f) (.summor f.vd many (k.r.gxp f.s1))))) ∧
    (∀ v p, k.r.blocked = .summ v p → slot s c = none → fills (.summarySlotEmptied c) v p) ∧
    (k.r.vflush < 2 ^ 32 →
      (∀ rd i p, k.r.blocked = .summrd rd i p → full (2 ^ i) → takes (.summarySlotFilled c) rd (2 ^ i)) ∧
      ∀ rd m p, k.r.blocked = .summor rd m p → full m → takes (.summarySlotFilled c) rd m)

/-- Scalar integer, CSR and floating-point instructions of a reed core. For a core that issues: the register and immediate forms of RV64IM arithmetic write x[rd] with the value RISC-V gives, x0 discarding it, with every other register, memory, the items and the other cores as they were and the pc four further; division by zero gives all ones and the dividend; LUI and AUIPC write their immediate, the latter with the pc added; the W forms work on the low 32 bits and extend the sign. WFI and FENCE.I change nothing. A CSR instruction whose written source is not poisoned writes x[rd] with the CSR's value and, where it writes, leaves the CSR with the source, the bits of the source set or those cleared, a reserved value of a field of VRM leaving the field; a CSR that a kernel has not, and a write of a read-only one, are illegal. The F and D forms, with a valid rounding mode where they need one, write f[rd] with the exact result rounded once, a single NaN-boxed, or x[rd] with a comparison, a class, a conversion or the bits, and fflags collects their flags; a reserved rounding mode is illegal. (R167, R168, R169, R170, R181, R183, Table 7-1, Table 7-14.) -/
def Obligations.ScalarArithmetic : Prop :=
  ∀ (s : State) (c : Nat) (k : RC) (w : BitVec 32), s.canon = true → Issues s c k →
    let i : SW := ⟨w.toNat⟩
    let a := BitVec.ofNat 64 (k.r.gx i.rs1)
    let b := BitVec.ofNat 64 (k.r.gx i.rs2)
    let imm := BitVec.ofInt 64 i.immI
    let word := fun (x : BitVec 32) => x.signExtend 64
    let a32 := a.setWidth 32
    let b32 := b.setWidth 32
    let gives := fun (v : BitVec 64) => ∃ t, exec (.reedScalarInstruction c w) s = .next t ∧ ScalarResult s t c k.r i.rd v.toNat
    let op := fun (x y : BitVec 64) (f3 : Nat) (alt : Bool) => match f3 with
      | 0 => if alt then x - y else x + y
      | 1 => x <<< (y.toNat % 64)
      | 2 => if x.slt y then 1#64 else 0#64
      | 3 => if x.ult y then 1#64 else 0#64
      | 4 => x ^^^ y
      | 5 => if alt then x.sshiftRight (y.toNat % 64) else x >>> (y.toNat % 64)
      | 6 => x ||| y
      | _ => x &&& y
    (i.op = 0x33 → i.f7 = 0 → gives (op a b i.f3 false)) ∧
    (i.op = 0x33 → i.f7 = 0x20 → i.f3 = 0 ∨ i.f3 = 5 → gives (op a b i.f3 true)) ∧
    (i.op = 0x13 → i.f3 ≠ 1 → i.f3 ≠ 5 → gives (op a imm i.f3 false)) ∧
    (i.op = 0x13 → i.f3 = 1 ∨ i.f3 = 5 → bits w.toNat 26 6 = 0 → gives (op a imm i.f3 false)) ∧
    (i.op = 0x13 → i.f3 = 5 → bits w.toNat 26 6 = 0x10 → gives (op a imm 5 true)) ∧
    (i.op = 0x33 → i.f7 = 1 →
      (i.f3 = 0 → gives (a * b)) ∧
      (i.f3 = 1 → gives (BitVec.ofInt 64 (a.toInt * b.toInt / 2 ^ 64))) ∧
      (i.f3 = 2 → gives (BitVec.ofInt 64 (a.toInt * b.toNat / 2 ^ 64))) ∧
      (i.f3 = 3 → gives (BitVec.ofNat 64 (a.toNat * b.toNat / 2 ^ 64))) ∧
      (i.f3 = 4 → gives (if b = 0 then -1#64 else a.sdiv b)) ∧
      (i.f3 = 5 → gives (if b = 0 then -1#64 else a / b)) ∧
      (i.f3 = 6 → gives (if b = 0 then a else a.srem b)) ∧
      (i.f3 = 7 → gives (if b = 0 then a else a % b))) ∧
    (i.op = 0x3B → i.f7 = 0 → i.f3 = 0 → gives (word (a32 + b32))) ∧
    (i.op = 0x3B → i.f7 = 0x20 → i.f3 = 0 → gives (word (a32 - b32))) ∧
    (i.op = 0x3B → i.f7 = 1 → i.f3 = 0 → gives (word (a32 * b32))) ∧
    (i.op = 0x1B → i.f3 = 0 → gives (word (a32 + imm.setWidth 32))) ∧
    (i.op = 0x3B → i.f7 = 0 → (i.f3 = 1 → gives (word (a32 <<< (b32.toNat % 32)))) ∧ (i.f3 = 5 → gives (word (a32 >>> (b32.toNat % 32))))) ∧
    (i.op = 0x3B → i.f7 = 0x20 → i.f3 = 5 → gives (word (a32.sshiftRight (b32.toNat % 32)))) ∧
    (i.op = 0x1B → i.f7 = 0 → (i.f3 = 1 → gives (word (a32 <<< i.rs2))) ∧ (i.f3 = 5 → gives (word (a32 >>> i.rs2)))) ∧
    (i.op = 0x1B → i.f7 = 0x20 → i.f3 = 5 → gives (word (a32.sshiftRight i.rs2))) ∧
    (i.op = 0x3B → i.f7 = 1 →
      (i.f3 = 4 → gives (word (if b32 = 0 then -1#32 else a32.sdiv b32))) ∧
      (i.f3 = 5 → gives (word (if b32 = 0 then -1#32 else a32 / b32))) ∧
      (i.f3 = 6 → gives (word (if b32 = 0 then a32 else a32.srem b32))) ∧
      (i.f3 = 7 → gives (word (if b32 = 0 then a32 else a32 % b32)))) ∧
    (i.op = 0x37 → gives (word (w &&& 0xFFFFF000#32))) ∧
    (i.op = 0x17 → gives (BitVec.ofNat 64 k.r.pc + word (w &&& 0xFFFFF000#32))) ∧
    (w = 0x10500073#32 ∨ (i.op = 0x0F ∧ i.f3 = 1) → ∃ t, exec (.reedScalarInstruction c w) s = .next t ∧ ScalarResult s t c k.r 0 0) ∧
    (i.op = 0x73 → i.f3 % 4 ≠ 0 →
      let csr := bits w.toNat 20 12
      let value : Option Nat := match csr with
        | 0x001 => some (k.r.fcsr % 32)
        | 0x002 => some (k.r.fcsr / 32 % 8)
        | 0x003 => some (k.r.fcsr % 256)
        | 0xC00 => some (k.r.steps % 2 ^ 64)
        | 0xC01 => some s.nowNs
        | 0xC02 => some (k.r.steps % 2 ^ 64)
        | 0x800 => some (k.r.vflags % 512)
        | 0x801 => some (k.r.vrm % 2 ^ 11)
        | 0x802 => some (k.r.vfxrm % 4)
        | 0x803 => some (k.r.vtid % 2 ^ 32)
        | 0x804 => some (k.r.vstep % 2 ^ 32)
        | 0x805 => some (k.r.vsrbase % 2 ^ 48)
        | 0x806 => some k.r.vflush
        | 0xCC0 => some (k.r.vl % 128)
        | 0xCC1 => some 64
        | 0xCC2 => some (k.r.inst % 8192 + k.r.count % 8192 * 2 ^ 16)
        | 0xCC3 => some (k.tile + s.fld R.TIL_ID_LOGICAL (tix k.tile) % 1024 * 2 ^ 10 + coreNo c * 2 ^ 20)
        | _ => none
      let src := if i.f3 < 4 then k.r.gx i.rs1 else i.rs1
      let writes := i.f3 % 4 = 1 ∨ i.rs1 ≠ 0
      let r := k.r
      let taken := fun (v : Nat) => match csr with
        | 0x001 => { r with fcsr := putBits r.fcsr 0 5 v }
        | 0x002 => { r with fcsr := putBits r.fcsr 5 3 v }
        | 0x003 => { r with fcsr := v % 256 }
        | 0x800 => { r with vflags := v &&& 0x17F }
        | 0x801 => { r with vrm := (if rndOk (v % 8) then v % 8 else r.vrm % 8) + 8 * (if v / 8 % 4 = 3 then r.vrm / 8 % 4 else v / 8 % 4) +
            32 * (if srBitsOk (v / 32 % 32) then v / 32 % 32 else r.vrm / 32 % 32) + 1024 * (v / 1024 % 2) }
        | 0x802 => { r with vfxrm := v % 4 }
        | 0x803 => { r with vtid := v % 2 ^ 32 }
        | 0x804 => { r with vstep := v % 2 ^ 32 }
        | 0x805 => { r with vsrbase := v % 2 ^ 48 }
        | _ => { r with vflush := v % 2 ^ 32 }
      let trapped := exec (.reedScalarInstruction c w) s = .next (s.finish k (.trap s 2 w.toNat))
      (value = none → trapped) ∧ (0xC00 ≤ csr → writes → trapped) ∧
      (∀ old, value = some old → ¬ (0xC00 ≤ csr ∧ writes) → (i.f3 < 4 → writes → k.r.gxp i.rs1 = false) →
        ∃ t, exec (.reedScalarInstruction c w) s = .next t ∧
          ScalarResult s t c (if writes then taken (match i.f3 % 4 with
            | 1 => src
            | 2 => old ||| src
            | _ => old - (old &&& src)) else r) i.rd (old % 2 ^ 64))) ∧
    (i.f7 % 4 < 2 →
      let dbl := i.f7 % 4 == 1
      let fa := k.r.gf i.rs1
      let fb := k.r.gf i.rs2
      let fc := k.r.gf (bits w.toNat 27 5)
      let x := fRead dbl fa
      let y := fRead dbl fb
      let z := fRead dbl fc
      let m := if i.f3 = 7 then k.r.fcsr / 32 % 8 else i.f3
      let givesF := fun (v fl : Nat) => ∃ t, exec (.reedScalarInstruction c w) s = .next t ∧ FResult s t c { k.r with fcsr := k.r.fcsr ||| fl } i.rd v
      let givesX := fun (v : Int) (fl : Nat) => ∃ t, exec (.reedScalarInstruction c w) s = .next t ∧
        ScalarResult s t c { k.r with fcsr := k.r.fcsr ||| fl } i.rd (wrapInt 64 v)
      let rounded := fun (snan : Bool) (v : Val × Nat) => (m < 5 → givesF (fDone dbl m snan v).1 (fDone dbl m snan v).2) ∧
        (5 ≤ m → exec (.reedScalarInstruction c w) s = .next (s.finish k (.trap s 2 w.toNat)))
      let sgn := if dbl then 63 else 31
      let signed := fun (b : Bool) => givesF (box dbl (putBit (fBits dbl fa) sgn b)) 0
      let pick := fun (right : Bool) => givesF (box dbl (fBits dbl (if right then fb else fa))) (if x.isSnan || y.isSnan then nvF else 0)
      let compared := fun (quiet holds : Bool) =>
        givesX (b2n (!x.isNan && !y.isNan && holds)) (if x.isSnan || y.isSnan || (!quiet && (x.isNan || y.isNan)) then nvF else 0)
      (i.op = 0x53 →
        (i.f7 / 4 = 0 → rounded (x.isSnan || y.isSnan) (addVal x y (m == 2))) ∧
        (i.f7 / 4 = 1 → rounded (x.isSnan || y.isSnan) (addVal x y.negate (m == 2))) ∧
        (i.f7 / 4 = 2 → rounded (x.isSnan || y.isSnan) (mulVal x y)) ∧
        (i.f7 / 4 = 3 → rounded (x.isSnan || y.isSnan) (divVal x y)) ∧
        (i.f7 / 4 = 0x0B → i.rs2 = 0 → rounded x.isSnan (sqrtVal x)) ∧
        (i.f7 / 4 = 0x08 → i.rs2 = (if dbl then 0 else 1) → rounded (fRead (!dbl) fa).isSnan (fRead (!dbl) fa, 0)) ∧
        (i.f7 / 4 = 0x04 → (i.f3 = 0 → signed (bit (fBits dbl fb) sgn)) ∧ (i.f3 = 1 → signed (!bit (fBits dbl fb) sgn)) ∧
          (i.f3 = 2 → signed (xor (bit (fBits dbl fa) sgn) (bit (fBits dbl fb) sgn)))) ∧
        (i.f7 / 4 = 0x05 → i.f3 < 2 →
          (x.isNan = true → y.isNan = true → givesF (box dbl (canonNan (sfp dbl))) (if x.isSnan || y.isSnan then nvF else 0)) ∧
          (x.isNan = true → y.isNan = false → pick true) ∧ (x.isNan = false → y.isNan = true → pick false) ∧
          (x.isNan = false → y.isNan = false → pick ((ordVal true x y == .lt) == (i.f3 == 1)))) ∧
        (i.f7 / 4 = 0x14 → (i.f3 = 2 → compared true (ordVal false x y == .eq)) ∧ (i.f3 = 1 → compared false (ordVal false x y == .lt)) ∧
          (i.f3 = 0 → compared false (ordVal false x y != .gt))) ∧
        (i.f7 / 4 = 0x18 → i.rs2 < 4 → m < 5 →
          let v := fToInt dbl (if i.rs2 < 2 then 32 else 64) (i.rs2 % 2 == 0) m fa
          givesX (if i.rs2 < 2 then sext 32 (wrapInt 32 v.1) else v.1) v.2) ∧
        (i.f7 / 4 = 0x1A → i.rs2 < 4 → m < 5 →
          let n : Int := match i.rs2 with
            | 0 => a32.toInt
            | 1 => (a32.toNat : Int)
            | 2 => a.toInt
            | _ => (a.toNat : Int)
          givesF (fRound dbl m (.fin (decide (n < 0)) n.natAbs 0)).1 (fRound dbl m (.fin (decide (n < 0)) n.natAbs 0)).2) ∧
        (i.f7 / 4 = 0x1C → i.rs2 = 0 → (i.f3 = 0 → givesX (if dbl then (fa : Int) else sext 32 fa) 0) ∧ (i.f3 = 1 → givesX (fClass dbl fa) 0)) ∧
        (i.f7 / 4 = 0x1E → i.rs2 = 0 → i.f3 = 0 → givesF (box dbl (k.r.gx i.rs1)) 0)) ∧
      (∀ negP negC : Bool, i.op = (if negP then (if negC then 0x4F else 0x4B) else if negC then 0x47 else 0x43) →
        let p := mulVal x y
        let v := addVal (if negP then p.1.negate else p.1) (if negC then z.negate else z) (m == 2)
        rounded (x.isSnan || y.isSnan || z.isSnan) (v.1, p.2 ||| v.2)))

/-- Scalar jumps, branches, loads and stores of a reed core. For a core that issues, with unpoisoned operands where they are read: JAL and JALR link the next pc and go to their target, a branch goes to its target when its comparison holds and on otherwise, a target off four bytes traps with cause 0. A load of 1, 2, 4 or 8 bytes not held by the data cache writes x[rd] with the memory's bytes, sign-extended for the signed forms, keeping memory; a store writes its bytes and no other; FLW and FLD write f[rd] so, a single NaN-boxed, and FSW and FSD store the low bits of f[rs2]. A load or a store where the kernel has no right, or off its alignment, traps with the cause of its kind and the address. (R167, R171, R178, R183, Table 7-1.) -/
def Obligations.ScalarFlow : Prop :=
  ∀ (s : State) (c : Nat) (k : RC) (w : BitVec 32), s.canon = true → Clean s → Issues s c k → s.coreLines c = [] →
    let i : SW := ⟨w.toNat⟩
    let ins : Instr := .reedScalarInstruction c w
    let a := BitVec.ofNat 64 (k.r.gx i.rs1)
    let b := BitVec.ofNat 64 (k.r.gx i.rs2)
    let pc := BitVec.ofNat 64 k.r.pc
    let goes := fun (target : BitVec 64) (linked : Bool) =>
      (target.toNat % 4 = 0 → ∃ t, exec ins s = .next t ∧ (t.reed c).pc = target.toNat ∧ t.items = s.items ∧ t.mem.cells = s.mem.cells ∧
        (t.reed c).gx i.rd = (if i.rd = 0 then 0 else if linked then (k.r.pc + 4) % 2 ^ 64 else k.r.gx i.rd) ∧
        (∀ n, n ≠ i.rd → (t.reed c).gx n = k.r.gx n) ∧ ∀ d, d ≠ c → t.reed d = s.reed d) ∧
      (target.toNat % 4 ≠ 0 → exec ins s = .next (s.finish k (.trap s 0 target.toNat)))
    let branch := fun (holds : Bool) =>
      (holds = true → goes (pc + BitVec.ofInt 64 i.immB) false) ∧ (holds = false → ∃ t, exec ins s = .next t ∧ ScalarResult s t c k.r 0 0)
    let la := (a + BitVec.ofInt 64 i.immI).toNat
    let sa := (a + BitVec.ofInt 64 i.immS).toNat
    let size := 2 ^ (i.f3 % 4)
    (i.op = 0x6F → goes (pc + BitVec.ofInt 64 i.immJ) true) ∧
    (i.op = 0x67 → i.f3 = 0 → k.r.gxp i.rs1 = false → goes ((a + BitVec.ofInt 64 i.immI) &&& ~~~1#64) true) ∧
    (i.op = 0x63 → k.r.gxp i.rs1 = false → k.r.gxp i.rs2 = false →
      (i.f3 = 0 → branch (a == b)) ∧ (i.f3 = 1 → branch (a != b)) ∧ (i.f3 = 4 → branch (a.slt b)) ∧ (i.f3 = 5 → branch (!a.slt b)) ∧
      (i.f3 = 6 → branch (a.ult b)) ∧ (i.f3 = 7 → branch (!a.ult b))) ∧
    (i.op = 0x03 → i.f3 ≠ 7 → k.r.gxp i.rs1 = false → la % size = 0 → Loadable s k la size → (k.r.dcache.all fun e => e.1 != la / 64 * 64) = true →
      ∃ t, exec ins s = .next t ∧ OnlyReadCounts s t ∧
        ScalarResult { s with regs := t.regs } t c k.r i.rd
          (if i.f3 < 4 then (BitVec.ofInt 64 (BitVec.ofNat (8 * size) (numRead s la size)).toInt).toNat else numRead s la size)) ∧
    (i.op = 0x07 → i.f3 = 2 ∨ i.f3 = 3 → k.r.gxp i.rs1 = false → la % size = 0 → Loadable s k la size → (k.r.dcache.all fun e => e.1 != la / 64 * 64) = true →
      ∃ t, exec ins s = .next t ∧ OnlyReadCounts s t ∧
        FResult { s with regs := t.regs } t c k.r i.rd (numRead s la size + if i.f3 = 2 then (2 ^ 32 - 1) * 2 ^ 32 else 0)) ∧
    (i.op = 0x27 → i.f3 = 2 ∨ i.f3 = 3 → k.r.gxp i.rs1 = false → k.r.gfp i.rs2 = false → Writable s k sa size →
      ∃ t, exec ins s = .next t ∧ StoreEnds s t c k.r ∧ OnlyBytes [(sa, size)] s t ∧ numRead t sa size = k.r.gf i.rs2 % 2 ^ (8 * size)) ∧
    (i.op = 0x23 → i.f3 < 4 → k.r.gxp i.rs1 = false → k.r.gxp i.rs2 = false → Writable s k sa size →
      ∃ t, exec ins s = .next t ∧ StoreEnds s t c k.r ∧ OnlyBytes [(sa, size)] s t ∧ numRead t sa size = k.r.gx i.rs2 % 2 ^ (8 * size)) ∧
    (i.op = 0x03 → i.f3 ≠ 7 → k.r.gxp i.rs1 = false → la % size ≠ 0 → exec ins s = .next (s.finish k (.trap s 4 la))) ∧
    (i.op = 0x03 → i.f3 ≠ 7 → k.r.gxp i.rs1 = false → la % size = 0 → s.mayAccess k.it.desc k.tile 0 la = false → exec ins s = .next (s.finish k (.trap s 5 la))) ∧
    (i.op = 0x23 → i.f3 < 4 → k.r.gxp i.rs1 = false → sa % size ≠ 0 → exec ins s = .next (s.finish k (.trap s 6 sa))) ∧
    (i.op = 0x23 → i.f3 < 4 → k.r.gxp i.rs1 = false → sa % size = 0 → s.mayAccess k.it.desc k.tile 1 sa = false → exec ins s = .next (s.finish k (.trap s 7 sa)))

/-- How an instance exits, traps, and meets its limit, and what FENCE does. ECALL with a7 = 0 ends the instance with the low 16 bits of a0 as its exit code: its core is free, and the launch goes on with its other instances. EBREAK, an illegal instruction, and ECALL with another a7 record the pc, the cause and the value of a first trap in the registers of the tile (the value is the pc for EBREAK, 0 for ECALL and the word of an illegal instruction, log 54, the model's choice) and end the launch with REED_TRAP on every core. REED_LIMIT of a running launch with a limit ends it with REED_LIMIT. A FENCE whose successors include reads empties the core's data cache and changes no register. (R171, R177, R178, R179, R180, Table 7-16.) -/
def Obligations.ReedEnds : Prop :=
  ∀ (s : State) (c : Nat) (k : RC), s.canon = true → Issues s c k → hClass k.it.desc = 2 → k.it.queue < 262144 → k.it.die < 4 → k.it.evc = [] → k.it.bound = [] → (∀ d ∈ k.it.live, d < 4608) →
    let other := fun d => d ≠ c ∧ k.it.live.contains d = true
    let trapped := fun (i : Instr) (cause tval : Nat) =>
      s.flag R.TIL_REED_TRAP_VALID (tix k.tile) = false → s.items = [(k.id, k.it)] → s.gates = [] → s.atBoundary = [] → s.cols = [] → k.it.pendingRemote = 0 → k.it.gate = none → s.train.clearEval = false →
      ∃ t, exec i s = .next t ∧ t.items = [] ∧ (∀ d, k.it.live.contains d = true → (t.reed d).item = none) ∧
        t.flag R.TIL_REED_TRAP_VALID (tix k.tile) = true ∧ t.fld R.TIL_REED_TRAP_PC (tix k.tile) = k.r.pc % 2 ^ 48 ∧
        t.fld R.TIL_REED_TRAP_CAUSE (tix k.tile) = cause ∧ t.fld R.TIL_REED_TRAP_CORE (tix k.tile) = c % 8 ∧
        t.fld R.TIL_REED_TVAL_TVAL (tix k.tile) = tval % 2 ^ R.TIL_REED_TVAL_TVAL.w ∧ t.fld R.TIL_REED_STATUS_LAST_STATUS (tix k.tile) = Code.REED_TRAP
    (k.r.gx 17 = 0 → (∃ d, other d) → s.items = [(k.id, k.it)] →
      ∃ t it', exec (.reedEcall c) s = .next t ∧ (t.reed c).item = none ∧ (∀ d, d ≠ c → t.reed d = s.reed d) ∧ t.items = [(k.id, it')] ∧
        it'.live = k.it.live.filter (· != c) ∧ it'.phase = k.it.phase ∧ it'.desc = k.it.desc ∧
        (exitCode k.it.exits = 0 → k.r.gx 10 % 65536 ≠ 0 → exitCode it'.exits = k.r.gx 10 % 65536 ∧ exitInst it'.exits = k.r.inst)) ∧
    (k.r.gx 17 ≠ 0 → trapped (.reedEcall c) 8 0) ∧
    trapped (.reedEbreak c) 3 k.r.pc ∧
    trapped (.reedScalarInstruction c 0xFFFFFFFF#32) 2 0xFFFFFFFF ∧
    (limitOf k.it.desc ≠ 0 → s.job.running = false → s.items = [(k.id, k.it)] → s.gates = [] → s.atBoundary = [] → s.cols = [] → k.it.pendingRemote = 0 → k.it.gate = none →
      s.train.clearEval = false →
      ∃ t, exec (.reedLimit k.id) s = .next t ∧ t.items = [] ∧ (∀ d, k.it.live.contains d = true → (t.reed d).item = none) ∧
        t.fld R.TIL_REED_STATUS_LAST_STATUS (tix k.tile) = Code.REED_LIMIT) ∧
    ∀ w : BitVec 32, bits w.toNat 0 7 = 0x0F → bits w.toNat 12 3 = 0 →
      ∃ t, exec (.reedFence c w) s = .next t ∧ ScalarResult s t c k.r 0 0 ∧ (t.reed c).dcache = if w.getLsbD 21 then [] else k.r.dcache

/-- WINDOW_START: what a window of the energy account leaves and grants. WINDOW_START with no held head counts what is left of the general balance and the reserve as lapsed, takes over a pending budget, issues it, and sets the reserve to a tenth of it and the general balance to the rest, less any debt and less the base of the last window, which is its input energy less what the window attributed to items (a running item's share of it is a free value, log 18, the model's choice); nothing is attributed to the new window yet. The rails' meters grow by their readings. OVERSHOOT stands when the input exceeded the envelope by more than 15 %, or the envelope in each of ten windows. FW1's coefficients, where it runs, lie within their limits. Of the items only that share changes. (R461, R462, R464, R469, R477, R478, Table 17-3.) -/
def Obligations.EnergyWindow : Prop :=
  ∀ (s : State) (inputUj : Nat) (railMj : List Nat), s.canon = true → s.up = true → s.nrg.held = [] →
    let pend := s.fld R.NRG_BUDGET_PENDING_UJ
    let b := if pend = 0 then s.fld R.NRG_BUDGET_WINDOW_UJ else pend
    let base : Int := (inputUj : Int) - s.meterItems.nrg.attributed
    let env := s.fld R.GLB_CAPS_ENVELOPE_W * 1000
    let above := if env < inputUj then s.nrg.above + 1 else 0
    ∃ t, exec (.windowStart inputUj railMj) s = .next t ∧
      t.nrg.reserve = b / 10 ∧ t.nrg.general = min s.nrg.general 0 + ((b - b / 10 : Nat) : Int) - base ∧ t.nrg.attributed = 0 ∧ t.nrg.above = above ∧
      t.fld R.NRG_BUDGET_WINDOW_UJ = b ∧ t.fld R.NRG_BUDGET_PENDING_UJ = 0 ∧
      t.fld R.NRG_LEDGER_LAPSED_UJ = (s.fld R.NRG_LEDGER_LAPSED_UJ + s.nrg.general.toNat + s.nrg.reserve) % 2 ^ 64 ∧
      t.fld R.NRG_LEDGER_ISSUED_UJ = (s.fld R.NRG_LEDGER_ISSUED_UJ + b) % 2 ^ 64 ∧
      t.fld R.NRG_LEDGER_BASE_UJ = wrapInt 64 ((s.fld R.NRG_LEDGER_BASE_UJ : Int) + base) ∧
      t.fld R.NRG_WINDOW_INPUT_UJ = inputUj % 2 ^ 32 ∧ t.fld R.NRG_WINDOW_BASE_UJ = wrapInt 32 base ∧
      (∀ r < 11, t.fld R.NRG_RAIL_MJ [r] = (s.fld R.NRG_RAIL_MJ [r] + railMj.getD r 0) % 2 ^ 64) ∧
      t.flag R.NRG_THR_OVERSHOOT = (decide (115 * env < 100 * inputUj) || decide (10 ≤ above)) ∧
      (s.fwRuns 1 = true → ∀ c < 12, 0x40 ≤ t.fld R.NRG_COEF_COEF [c] ∧ t.fld R.NRG_COEF_COEF [c] ≤ 0x400) ∧
      (s.fwRuns 1 = false → ∀ c < 12, t.fld R.NRG_COEF_COEF [c] = s.fld R.NRG_COEF_COEF [c]) ∧ t.items = s.meterItems.items

/-- Throttles, ramps, the hotspot trip, and the stacks' temperatures. Entering the hotspot throttle at its temperature puts a die in stage 1 with its setpoint at most the capped one, stage 2 at 105 °C at most 600 mV, below 100 °C stage 1 again, and 5 °C below the throttle temperature none; HOT shows the die while a stage stands and HOTSPOT the reading. The input-current throttle caps every rail where it stands, and its first lowering is that of the first step (log 72, the model's choice); each step is 10 mV lower but not below 600, and its end lifts the caps. A ramp step raises a rail by at most 10 mV to its target. A hotspot trip drives THERM_TRIP_N low, starts the job-fatal sequence, shuts off the tiles and commands at most 600 mV. A stack's reading moves its state by Table 10-3; at 105 °C the stack trips and the job-fatal sequence runs. (R30, R265, R478, R480, R481, R482, Table 10-3, Table 17-3, Table 17-4.) -/
def Obligations.Throttles : Prop :=
  ∀ s : State, s.canon = true → s.up = true →
    (∀ die < 5, ∀ temp,
      let T := tempOf temp
      let limit : Int := s.fld R.NRG_ENVELOPE_THROTTLE_C
      let staged := fun (i : Instr) (k : Nat) => ∃ t, exec i s = .next t ∧ (t.rail die).stage = k ∧ t.fld R.NRG_DIE_W0_HOTSPOT [die] = temp % 65536 ∧
        bit (t.fld R.NRG_THR_HOT) die = (k != 0) ∧ (∀ d, d ≠ die → (t.rail d).stage = (s.rail d).stage) ∧ t.items = s.items ∧
        (k ≠ 0 → t.flag R.NRG_THR_THROTTLE = true) ∧ (k = 1 → t.fld R.NRG_DIE_W0_SETPOINT_MV [die] ≤ max 600 (s.fld R.NRG_THR_HOT_MV)) ∧
        (k = 2 → t.fld R.NRG_DIE_W0_SETPOINT_MV [die] ≤ 600)
      ((s.rail die).stage = 0 → 16 * limit ≤ T → staged (.hotThrottleEnter die temp) 1) ∧
      ((s.rail die).stage = 1 → 16 * 105 ≤ T → staged (.hotThrottleStage2 die temp) 2) ∧
      ((s.rail die).stage = 2 → T < 16 * 100 → staged (.hotThrottleStage2Exit die temp) 1) ∧
      ((s.rail die).stage ≠ 0 → T < 16 * (limit - 5) → staged (.hotThrottleExit die temp) 0)) ∧
    (s.flag R.NRG_THR_ICL = false →
      ∃ t, exec .iclThrottleEnter s = .next t ∧ t.flag R.NRG_THR_ICL = true ∧ t.flag R.NRG_THR_THROTTLE = true ∧ t.items = s.items ∧
        ∀ d < 5, (t.rail d).icl = some (s.fld R.NRG_DIE_W0_SETPOINT_MV [d])) ∧
    (s.flag R.NRG_THR_ICL = true →
      (∃ t, exec .iclThrottleStep s = .next t ∧ t.flag R.NRG_THR_ICL = true ∧ t.items = s.items ∧
        ∀ d < 5, (t.rail d).icl = ((s.rail d).icl.map fun v => max 600 (v - 10)) ∧
          ∀ v, (t.rail d).icl = some v → t.fld R.NRG_DIE_W0_SETPOINT_MV [d] ≤ max 600 v) ∧
      ∃ t, exec .iclThrottleExit s = .next t ∧ t.flag R.NRG_THR_ICL = false ∧ t.items = s.items ∧ ∀ d < 5, (t.rail d).icl = none) ∧
    (∀ die < 5, (s.rail die).ramp.isSome = true → s.fwRuns 1 = true →
      ∃ t, exec (.railRampStep die) s = .next t ∧ t.items = s.items ∧
        t.fld R.NRG_DIE_W0_SETPOINT_MV [die] = min (s.railTarget die) (s.fld R.NRG_DIE_W0_SETPOINT_MV [die] + 10) ∧
        ∀ d < 5, d ≠ die → t.fld R.NRG_DIE_W0_SETPOINT_MV [d] = s.fld R.NRG_DIE_W0_SETPOINT_MV [d]) ∧
    (∀ die < 5, s.sb.trip = false →
      ∃ t, exec (.hotTrip die) s = .next t ∧ t.sb.trip = true ∧ t.pins.thermTripN = false ∧ t.job.running = true ∧ t.job.tilesOff = true ∧
        bit t.sb.active 3 = true ∧ ∀ d < 5, t.fld R.NRG_DIE_W0_SETPOINT_MV [d] ≤ 600) ∧
    (∀ stack < 16, ∀ temp : Int,
      let ix := [stack / 4, stack % 4]
      let cur := s.fld R.STK_STATUS_STATE ix
      let new := if cur = 4 ∨ 16 * 105 ≤ temp then 4 else if 16 * 100 ≤ temp ∨ (cur = 3 ∧ 16 * 97 ≤ temp) then 3
        else if 16 * 95 ≤ temp ∨ (2 ≤ cur ∧ 16 * 92 ≤ temp) then 2 else if 16 * 85 ≤ temp ∨ (1 ≤ cur ∧ 16 * 82 ≤ temp) then 1 else 0
      ∃ t, exec (.stackTempSample stack temp) s = .next t ∧ t.fld R.STK_STATUS_TEMP ix = wrapInt 16 temp ∧ t.fld R.STK_STATUS_STATE ix = new ∧
        (new = 4 → cur ≠ 4 → stack ∉ s.mem.tripped → stack ∈ t.mem.tripped ∧ t.job.running = true) ∧ (new ≠ 4 → t.items = s.items))

/-- Line reads, line writes, merges and atomics at a home slice. MEMORY_LINE_READ of a line of this device answers with the data and poison that the line delivers after the errors that have come in, none of them in the flit that carries it. MEMORY_LINE_WRITE leaves the line with the new data and, on a tier, its poison as one mark; PARTIAL_LINE_MERGE leaves the new bytes in their places. An atomic of 4 or 8 bytes, aligned and where atomics are performed, answers with the old value and leaves the result of its operation; LR answers with the value and reserves the word; SC stores and answers 0 where the hart's reservation stands, and otherwise changes no byte and answers 1; either way the reservation ends. No other byte of memory changes. (R269, R274, R285, R288, R290, R295, R552, Table 10-5.) -/
def Obligations.MemoryAccesses : Prop :=
  ∀ s : State, s.canon = true → s.up = true → Clean s →
    (∀ a src flips, a % 64 = 0 → a < 0x800000000000 → s.mapped a = true → s.farLine a = false → (s.spot a).isSome = true → (∀ f ∈ flips, f.1 < 640) →
      ∃ t, exec (.memoryLineRead a src flips) s = .next t ∧
        t.out.getLast? = some (.line a ((s.lineErrs a flips).lineView a).data ((s.lineErrs a flips).lineView a).poison) ∧ t.items = s.items ∧ t.mem.cells = s.mem.cells) ∧
    (∀ a data p, Storable s a →
      ∃ t, exec (.memoryLineWrite a data p) s = .next t ∧ (t.lineView a).data = padTo 64 data ∧ OnlyBytes [(a, 64)] s t ∧ t.items = s.items ∧
        ((s.spot a).isSome = true → (t.lineView a).poison = if p % 256 = 0 then 0 else 255) ∧ (s.spot a = none → (t.lineView a).poison = p % 256)) ∧
    (∀ a data p src, 0 < data.length → a % 64 + data.length ≤ 64 → Storable s (a / 64 * 64) →
      ∃ t, exec (.partialLineMerge a data p src) s = .next t ∧ (∀ i < data.length, byteRead t (a + i) = data.getD i 0) ∧ OnlyBytes [(a, data.length)] s t ∧ t.items = s.items) ∧
    ∀ a size (x y : Word) (src : AtomicSource) h, (size = 4 ∨ size = 8) → a % size = 0 → s.atomicOk a size = true → Storable s (a / 64 * 64) →
      let old := numRead s a size
      let last := fun (t : State) => t.out.getLast?
      (∀ op < 10, ∃ t p, exec (.homeSliceAtomic a op size x y src) s = .next t ∧ last t = some (.oldValue (BitVec.ofNat 64 old) p) ∧
        numRead t a size = atomicResult op (8 * size) old x.toNat y.toNat ∧ OnlyBytes [(a, size)] s t ∧ t.items = s.items) ∧
      (∃ t p, exec (.homeSliceAtomic a 10 size x y ⟨true, h⟩) s = .next t ∧ last t = some (.oldValue (BitVec.ofNat 64 old) p) ∧
        FMap.find? h t.mem.reserved = some a ∧ OnlyBytes [] s t) ∧
      (FMap.sorted s.mem.reserved = true →
        (FMap.find? h s.mem.reserved = some a →
          ∃ t, exec (.homeSliceAtomic a 11 size x y ⟨true, h⟩) s = .next t ∧ last t = some (.oldValue 0 false) ∧ numRead t a size = x.toNat % 2 ^ (8 * size) ∧
            OnlyBytes [(a, size)] s t ∧ FMap.find? h t.mem.reserved = none) ∧
        (FMap.find? h s.mem.reserved ≠ some a →
          ∃ t, exec (.homeSliceAtomic a 11 size x y ⟨true, h⟩) s = .next t ∧ last t = some (.oldValue 1 false) ∧ OnlyBytes [] s t ∧ FMap.find? h t.mem.reserved = none))

/-- Scrub, the log's tail, fences, retirement, and injection. With FW7 running, SCRUB_LINE of a line its tier gives corrected counts a corrected error of the pass when it is written back (log 77, the model's choice), and the last line of a pass counts the pass and starts its counts again. ERL_TAIL_WRITE sets the tail and makes COUNT the distance to the head. PHY_RETRAIN_FAIL and RETIRE_CHANNEL fence an active channel, RETIRE_BANK a bank of one, and RETIRE_PAGE changes no memory; without PERSIST, and with FW7 running, they are DONE with status 0 at once, with it they are BUSY and wait, and BUSY stands until all that wait are persisted (log 79, the model's choice); RETIRE_PERSIST_DONE adds the oldest to the RAS record where there is room, or gives RETIRE_FULL, and is BUSY while others wait. The four injection commands arm their kind for a line, or disarm, and change nothing else. (R290, R308, R309, R310, R311, R316, R317, R318, R319, R320, Table 11-11, Table 16-4.) -/
def Obligations.RasCommands : Prop :=
  ∀ s : State, s.canon = true → s.up = true →
    (∀ a flips moved, a % 64 = 0 → a < 0x800000000000 → s.mapped a = true → s.fld R.ERL_SCRUB_PERIOD_H ≠ 0 → s.fwRuns 7 = true →
      (∀ sp, s.spot a = some sp → s.spotShut sp = false → ((s.upset a flips).tierView sp a).outcome = 1 → moved = false → s.mem.l3.getD (a / 64) none = none →
        ∃ t, exec (.scrubLine a flips moved false) s = .next t ∧ t.mem.scrubCe = s.mem.scrubCe + 1 ∧
          t.fld R.ERL_SCRUB_CNT_CE = min (s.fld R.ERL_SCRUB_CNT_CE + 1) (2 ^ 32 - 1) ∧ t.items = s.items) ∧
      ∃ t, exec (.scrubLine a flips moved true) s = .next t ∧ t.fld R.ERL_SCRUB_PASSES = (s.fld R.ERL_SCRUB_PASSES + 1) % 2 ^ 32 ∧
        t.mem.scrubCe = 0 ∧ t.mem.scrubUe = 0 ∧ t.items = s.items) ∧
    (∀ v : Word, ∃ t, exec (.erlTailWrite v) s = .next t ∧ t = { s with regs := t.regs } ∧ t.fld R.ERL_TAIL_INDEX = v.toNat % 4096 ∧
      t.fld R.ERL_HEAD_INDEX = s.fld R.ERL_HEAD_INDEX ∧
      (v.toNat % 4096 ≠ s.fld R.ERL_HEAD_INDEX → t.fld R.ERL_STATUS_COUNT = (s.fld R.ERL_HEAD_INDEX + 4096 - v.toNat % 4096) % 4096)) ∧
    (s.fwRuns 7 = true → ∀ rim c key, s.chanKey rim c = some key →
      (∃ t, exec (.phyRetrainFail rim c) s = .next t ∧ t.chanFenced key = true ∧ t.items = s.items) ∧
      ∀ target, bits target 0 10 = c →
        (∃ t, exec (.retireChannel rim false target) s = .next t ∧ t.chanFenced key = true ∧ t.flag R.ERL_RETIRE_STATUS_DONE = true ∧
          t.fld R.ERL_RETIRE_STATUS_STATUS = 0 ∧ t.flash = s.flash ∧ t.items = s.items) ∧
        (∃ t, exec (.retireChannel rim true target) s = .next t ∧ t.chanFenced key = true ∧ t.flag R.ERL_RETIRE_STATUS_BUSY = true ∧
          t.mem.persist = s.mem.persist ++ [{ kind := 3, rim := rim, target := target % 2 ^ 40 }] ∧ t.flash = s.flash ∧ t.items = s.items) ∧
        (∃ t, exec (.retireBank rim true target) s = .next t ∧ (key, (if rim then 0 else bits target 10 2), bits target 12 4) ∈ t.mem.fencedBanks ∧
          t.flag R.ERL_RETIRE_STATUS_BUSY = true ∧ t.mem.persist = s.mem.persist ++ [{ kind := 2, rim := rim, target := target % 2 ^ 40 }] ∧
          t.flash = s.flash ∧ t.items = s.items) ∧
        ∃ t, exec (.retireBank rim false target) s = .next t ∧ (key, (if rim then 0 else bits target 10 2), bits target 12 4) ∈ t.mem.fencedBanks ∧
          t.flag R.ERL_RETIRE_STATUS_DONE = true ∧ t.fld R.ERL_RETIRE_STATUS_STATUS = 0 ∧ t.flash = s.flash ∧ t.items = s.items) ∧
    (∀ target,
      (s.fwRuns 7 = true → ∃ t, exec (.retirePage false target) s = .next t ∧ t = { s with regs := t.regs } ∧ t.flag R.ERL_RETIRE_STATUS_DONE = true ∧ t.fld R.ERL_RETIRE_STATUS_STATUS = 0) ∧
      ∃ t, exec (.retirePage true target) s = .next t ∧ t.mem.persist = s.mem.persist ++ [{ kind := 1, rim := false, target := target % 2 ^ 40 }] ∧
        t.mem.cells = s.mem.cells ∧ t.flag R.ERL_RETIRE_STATUS_BUSY = true) ∧
    (∀ r rest, s.mem.persist = r :: rest → s.fwRuns 0 = true → s.fwRuns 7 = true →
      ∃ t, exec .retirePersistDone s = .next t ∧ t.mem.persist = rest ∧ t.flag R.ERL_RETIRE_STATUS_DONE = true ∧ t.flag R.ERL_RETIRE_STATUS_BUSY = !rest.isEmpty ∧
        t.mem.cells = s.mem.cells ∧
        (r ∈ s.flash.ras ∨ (s.flash.rasOf r.kind r.rim).length < rasLimit r → r ∈ t.flash.ras ∧ t.fld R.ERL_RETIRE_STATUS_STATUS = 0) ∧
        (r ∉ s.flash.ras ∧ rasLimit r ≤ (s.flash.rasOf r.kind r.rim).length → t.flash = s.flash ∧ t.fld R.ERL_RETIRE_STATUS_STATUS = Code.RETIRE_FULL)) ∧
    (∀ line,
      exec .injectDisarm s = .next { s with mem := { s.mem with inject := none } } ∧
      exec (.injectOneSymbol line) s = .next { s with mem := { s.mem with inject := some (line, 1) } } ∧
      exec (.injectThreeSymbols line) s = .next { s with mem := { s.mem with inject := some (line, 2) } } ∧
      exec (.injectTcBit line) s = .next { s with mem := { s.mem with inject := some (line, 3) } })

/-- A flit read back from the wire is the flit that was sent. The 256 bytes of a flit whose fields fit their widths and whose payload has 240 bytes parse, CRC included, to that flit as a flit of another port, with no stamp yet: no bit of the header is dropped or moved. (R325, R326, Table 12-2.) -/
def Obligations.FlitRoundTrip : Prop :=
  ∀ f : Flit, f.ftype < 16 → f.vc < 16 → f.seq < 4096 → f.ack < 4096 → f.crVc < 16 → f.crCount < 32 → f.dst < 4096 → f.stream < 65536 → f.offset < 65536 →
    f.pmask < 32 → f.ttl < 8 → f.payload.length = 240 → (flitBytes f).length = 256 ∧ parseFlit (flitBytes f) = some { f with src := 7, age := 0, stale := false, step := none }

/-- FLIT_TRANSMIT: what a slot of a port carries, and what sending leaves. On a port that runs: a due NAK goes first and is due no more; then the flits to be replayed, in order, those of VC0 to VC2 within their cap; then a waiting flit that has a credit, of VC0 to VC2 within their cap or of VC3 by its weight: it takes the next SEQ and a credit, enters the replay buffer, leaves the queue and is counted; a SYNC or DELAY_REQ (KIND 0 or 1) takes its stamp, at byte 8 of its payload, as it leaves (log 40, the model's choice); with nothing to send the slot is idle. Every slot acknowledges the SEQ expected next and returns owed credits of one pool, the lowest that is owed any (log 37, the model's choice). Items, memory and the other ports stay. (R331, R332, R333, R335, R339, R348.) -/
def Obligations.LinkSend : Prop :=
  ∀ (s : State) (k : Nat) (p : Port), s.canon = true → s.portRuns k = true → s.port k = p →
    let owed := (p.owed.head?).getD (0, 0)
    let wire := fun (f : Flit) => Out.flit k (flitBytes { f with ack := p.expSeq, crVc := if owed.1 = 16 then 0 else owed.1, crCount := min 31 owed.2, crSh := owed.1 == 16 })
    let leaves := fun (f : Flit) => if f.ftype = 5 ∧ fieldAt f.payload 0 1 % 4 ≤ 1 then { f with payload := splice f.payload 8 (toBytes 10 s.stamp) } else f
    let frame := fun (t : State) => t.items = s.items ∧ t.mem = s.mem ∧ (∀ j, j ≠ k → t.port j = s.port j) ∧ (t.port k).rxq = p.rxq ∧ (t.port k).expSeq = p.expSeq
    (p.nakDue = true →
      ∃ t, exec (.flitTransmit k) s = .next t ∧ t.out = s.out ++ [wire (Flit.mk' 1 0 0 (toBytes 2 p.expSeq))] ∧ frame t ∧ (t.port k).nakDue = false ∧
        (t.port k).txq = p.txq ∧ (t.port k).replay = p.replay ∧ (t.port k).nextSeq = p.nextSeq) ∧
    (p.nakDue = false → ∀ f rest, p.resend = f :: rest →
      (3 ≤ f.vc ∨ capRoom p = true → ∃ t, exec (.flitTransmit k) s = .next t ∧ t.out = s.out ++ [wire (leaves f)] ∧ frame t ∧ (t.port k).resend = rest ∧
        (t.port k).txq = p.txq ∧ (t.port k).replay = p.replay ∧ (t.port k).nextSeq = p.nextSeq) ∧
      (f.vc ≤ 2 → capRoom p = false → ∃ t, exec (.flitTransmit k) s = .next t ∧ t.out = s.out ++ [wire (Flit.mk' 0 0 0 [])] ∧ frame t ∧ (t.port k).resend = p.resend)) ∧
    (p.nakDue = false → p.resend = [] → p.replay.length < 2048 → p.hbFirst = false →
      (p.txq = [] → ∃ t, exec (.flitTransmit k) s = .next t ∧ t.out = s.out ++ [wire (Flit.mk' 0 0 0 [])] ∧ frame t ∧ (t.port k).replay = p.replay ∧
        (t.port k).nextSeq = p.nextSeq ∧ (t.port k).txq = []) ∧
      ∀ f pool, p.txq = [f] → f.src < 8 → creditPool p f.vc = some pool → s.fencedOk k f = true → FMap.sorted p.credits = true →
        (f.vc ≤ 2 ∧ capRoom p = true) ∨ (f.vc = 3 ∧ p.rr = 15 ∧ p.deficit = [] ∧ s.fld R.NLK_CFG_VC3_WEIGHT [k] ≠ 0) →
        let g := { leaves f with seq := p.nextSeq, sh := pool == 16 }
        ∃ t, exec (.flitTransmit k) s = .next t ∧ t.out = s.out ++ [wire g] ∧ frame t ∧ (t.port k).txq = [] ∧ (t.port k).replay = p.replay ++ [g] ∧
          (t.port k).nextSeq = (p.nextSeq + 1) % 4096 ∧ (t.port k).credits.getD pool 0 = p.credits.getD pool 0 - 1 ∧
          (∀ q, q ≠ pool → (t.port k).credits.getD q 0 = p.credits.getD q 0) ∧
          t.fld R.NLK_LEDGER_ISSUED [k, pool] = (s.fld R.NLK_LEDGER_ISSUED [k, pool] + 1) % 2 ^ 32 ∧
          t.fld R.NLK_FLITS_TX [k] = (s.fld R.NLK_FLITS_TX [k] + 1) % 2 ^ 32)

/-- What a received flit, a NAK and the replay timer do to a port. FLIT_RECEIVE of a good flit of the expected SEQ drops what it acknowledges, adds the credits it returns, counts it, moves the expected SEQ on and, where its pool has a buffer for it, puts it into the port's buffer with the age stamp of its entry when it ends here; a flit for another node goes on toward it with one hop less, or is dropped and counted where its hops end. A flit that fails its CRC or its FEC, and a good one out of sequence, is not accepted and makes a NAK due, the first time. NAK_RECEIVE and REPLAY_TIMER_EXPIRE have every flit from the named or the oldest SEQ sent again, count a replay, and on the second replay of one flit enter RETRAIN. (R58, R326, R331, R332, R333, R334, R335, R340, R341.) -/
def Obligations.LinkReceive : Prop :=
  ∀ (s : State) (k : Nat) (p : Port) (l : List Byte), s.canon = true → s.portRuns k = true → s.port k = p →
    let st := s.fld R.NLK_STATUS_STATE [k]
    (∀ f, parseFlit l = some f → 3 ≤ f.ftype → vcOk f.ftype f.vc = true → FMap.sorted p.credits = true →
      let pool := if f.crSh then 16 else f.crVc
      let linked := fun (t : State) => (t.port k).replay = p.replay.filter (fun g => decide ((g.seq + 4096 - f.ack % 4096) % 4096 < 2048)) ∧
        (t.port k).credits.getD pool 0 = p.credits.getD pool 0 + f.crCount ∧ (∀ q, q ≠ pool → (t.port k).credits.getD q 0 = p.credits.getD q 0) ∧ t.items = s.items
      let here := { f with age := s.ageStamp }
      (f.seq = p.expSeq → f.dst = s.node → f.ftype ≠ 8 ∨ st ≠ 5 → s.poolFree k f.pool ≠ 0 →
        ∃ t, exec (.flitReceive k l false) s = .next t ∧ linked t ∧ (t.port k).expSeq = (p.expSeq + 1) % 4096 ∧ (t.port k).rxq = p.rxq ++ [here] ∧
          t.fld R.NLK_FLITS_RX [k] = (s.fld R.NLK_FLITS_RX [k] + 1) % 2 ^ 32 ∧ t.mem = s.mem ∧ ∀ j, j ≠ k → t.port j = s.port j) ∧
      (f.seq = p.expSeq → f.dst ≠ s.node → f.ttl ≤ 1 → f.ftype ≠ 8 ∨ st ≠ 5 → s.poolFree k f.pool ≠ 0 →
        ∃ t, exec (.flitReceive k l false) s = .next t ∧ linked t ∧ (t.port k).expSeq = (p.expSeq + 1) % 4096 ∧ (t.port k).rxq = p.rxq ∧
          t.fld R.NLK_ROUTE_DROP_TTL = min (s.fld R.NLK_ROUTE_DROP_TTL + 1) (2 ^ R.NLK_ROUTE_DROP_TTL.w - 1)) ∧
      (∀ q, f.seq = p.expSeq → f.dst ≠ s.node → 2 ≤ f.ttl → f.ftype ≠ 8 ∨ st ≠ 5 → s.poolFree k f.pool ≠ 0 → s.route f.dst = some q → s.fld R.NLK_STATUS_STATE [q] ≠ 4 → s.hasPort q = true →
        ∃ t, exec (.flitReceive k l false) s = .next t ∧ linked t ∧ (t.port k).expSeq = (p.expSeq + 1) % 4096 ∧ (t.port k).rxq = p.rxq ∧
          (t.port q).txq = (s.port q).txq ++ [{ here with ttl := f.ttl - 1, sh := false }]) ∧
      (f.seq ≠ p.expSeq → p.nakSent = false →
        ∃ t, exec (.flitReceive k l false) s = .next t ∧ linked t ∧ (t.port k).expSeq = p.expSeq ∧ (t.port k).rxq = p.rxq ∧ (t.port k).nakDue = true ∧
          (t.port k).nakSent = true)) ∧
    (∀ bad, bad = true ∨ parseFlit l = none → p.nakSent = false →
      ∃ t, exec (.flitReceive k l bad) s = .next t ∧ t.port k = { p with nakDue := true, nakSent := true } ∧ t.items = s.items ∧
        t.fld R.NLK_RETRY_CRC_FAIL [k] = min (s.fld R.NLK_RETRY_CRC_FAIL [k] + 1) (2 ^ 32 - 1)) ∧
    (let replays := fun (i : Instr) (seq : Nat) (rx : List Flit) =>
       ∃ t, exec i s = .next t ∧ (t.port k).rxq = rx ∧ (t.port k).resend = p.replay.filter (fun g => decide ((g.seq + 4096 - seq % 4096) % 4096 < 2048)) ∧
         (t.port k).replay = (t.port k).resend ∧ t.fld R.NLK_RETRY_REPLAYS [k] = min (s.fld R.NLK_RETRY_REPLAYS [k] + 1) (2 ^ 16 - 1) ∧
         t.fld R.NLK_STATUS_STATE [k] = (if (t.port k).replay.any (fun g => decide (2 ≤ p.replayed.getD g.seq 0 + if p.resend.any (·.seq == g.seq) then 0 else 1))
           then 3 else st) ∧ t.items = s.items
     (p.replay.map (·.seq)).Nodup →
     (∀ n rest, p.rxq = n :: rest → n.ftype = 1 → replays (.nakReceive k) (fieldAt n.payload 0 2 % 4096) rest) ∧
     ∀ f rest, p.replay = f :: rest → replays (.replayTimerExpire k) f.seq p.rxq)

/-- Training, retraining, loss and test of a port. LINK_ENABLE of a DISABLED or DOWN port and FULL_TRAINING_RETRY of a DOWN one with ENABLE start full training; that of a DOWN port waits while FW6 does not run. With FW6 running, FULL_TRAINING_COMPLETE with lanes enough and the expected peer states this end's node, width, buffers and the SEQ 0 to the peer, and brings the port UP with the width reached, the peer's node and port, SEQs at 0 and the peer's free buffers as credits, and otherwise leaves it DOWN; a port that kept its adaptation through a re-weave keeps the width it had, its lane order and polarity (log 101, the model's choice). LINK_RETRAIN_CMD enters RETRAIN and counts it; RETRAIN_COMPLETE comes back UP with the credits the peer states less the flits to be replayed (log 38, the model's choice), a heartbeat first; RETRAIN_TIMEOUT goes DOWN with nothing held. LINK_DISABLE leaves the port DISABLED with its peer-loss timer stopped. LINK_TEST_MODE of a DISABLED port in TEST enters or leaves TEST, and elsewhere marks CFG_BUSY alone. (R321, R322, R323, R324, R336, R337, R345, R346, R349, Table 12-8.) -/
def Obligations.LinkTraining : Prop :=
  ∀ (s : State) (k : Nat) (p : Port), s.canon = true → s.up = true → s.hasPort k = true → s.port k = p →
    let st := s.fld R.NLK_STATUS_STATE [k]
    let state := fun (t : State) => t.fld R.NLK_STATUS_STATE [k]
    (st = 0 ∨ (st = 4 ∧ s.fwRuns 6 = true) → ∃ t, exec (.linkEnable k) s = .next t ∧ t = { s with regs := t.regs } ∧ state t = 1 ∧ t.flag R.NLK_CTL_ENABLE [k] = true) ∧
    (st = 4 → s.flag R.NLK_CTL_ENABLE [k] = true → s.fwRuns 6 = true → ∃ t, exec (.fullTrainingRetry k) s = .next t ∧ t = { s with regs := t.regs } ∧ state t = 1) ∧
    (st = 4 → s.fwRuns 6 = false → exec (.fullTrainingRetry k) s = .next s ∧ ∃ t, exec (.linkEnable k) s = .next t ∧ t = { s with regs := t.regs } ∧ state t = 4 ∧
      t.flag R.NLK_CTL_ENABLE [k] = true) ∧
    (∀ info : TrainInfo, st = 1 → s.fwRuns 6 = true →
      let w := trainWidth (s.fld R.NLK_CFG_WIDTH [k]) (s.flag R.NLK_CFG_DEGRADE [k]) info
      let peerOk := (s.fld R.NLK_CFG_EXPECT_NODE [k] = 0xFFF ∨ s.fld R.NLK_CFG_EXPECT_NODE [k] = info.peerNode) ∧
        (s.fld R.NLK_CFG_EXPECT_PORT [k] = 0xF ∨ s.fld R.NLK_CFG_EXPECT_PORT [k] = info.peerPort)
      (∀ v, FMap.find? k s.boot.adapted = some v → v / 8 % 4 ≠ 0 → peerOk →
        ∃ t, exec (.fullTrainingComplete k info) s = .next t ∧ state t = (if s.job.running then 5 else 2) ∧ t.fld R.NLK_STATUS_WIDTH_ACT [k] = v / 8 % 4 ∧
          t.flag R.NLK_STATUS_LANE_REV [k] = bit v 5 ∧ t.fld R.NLK_STATUS_POL_INV [k] = v / 64 % 256 ∧ (t.port k).nextSeq = 0 ∧ (t.port k).expSeq = 0 ∧
          (FMap.sorted s.boot.adapted = true → FMap.find? k t.boot.adapted = none) ∧ t.items = s.items) ∧
      (FMap.find? k s.boot.adapted = none → w ≠ 0 → peerOk → FMap.sorted p.credits = true →
        ∃ t, exec (.fullTrainingComplete k info) s = .next t ∧ state t = (if s.job.running then 5 else 2) ∧ t.fld R.NLK_STATUS_WIDTH_ACT [k] = w ∧
          t.fld R.NLK_STATUS_PEER_NODE [k] = info.peerNode % 4096 ∧ t.fld R.NLK_STATUS_PEER_PORT [k] = info.peerPort % 16 ∧ (t.port k).nextSeq = 0 ∧ (t.port k).expSeq = 0 ∧
          (t.port k).replay = [] ∧ (t.port k).rxq = [] ∧ (t.port k).lastHb = some s.elapsedNs ∧ (∀ v < 17, (t.port k).credits.getD v 0 = info.peerFree.getD v 0) ∧ t.items = s.items ∧
          .train k s.node (s.fld R.NLK_CFG_WIDTH [k]) (s.flag R.NLK_CFG_DEGRADE [k]) Config.nelaxVersion ((List.range 17).map (s.poolFree k)) 0 ∈ t.out) ∧
      (FMap.find? k s.boot.adapted = none → w = 0 ∨ ¬ peerOk → s.cols = [] → ∃ t, exec (.fullTrainingComplete k info) s = .next t ∧ state t = 4)) ∧
    (st = 2 ∨ st = 5 →
      ∃ t, exec (.linkRetrainCmd k) s = .next t ∧ state t = 3 ∧ t.fld R.NLK_RETRY_RETRAINS [k] = min (s.fld R.NLK_RETRY_RETRAINS [k] + 1) (2 ^ 16 - 1) ∧ t.items = s.items) ∧
    (st = 3 →
      (∀ free expect, FMap.sorted p.credits = true →
        let keep := p.replay.filter fun g => decide ((g.seq + 4096 - expect % 4096) % 4096 < 2048)
        ∃ t, exec (.retrainComplete k free expect) s = .next t ∧ state t = (if s.job.running then 5 else 2) ∧ (t.port k).replay = keep ∧ (t.port k).resend = keep ∧
          (t.port k).hbFirst = true ∧ (∀ v < 17, (t.port k).credits.getD v 0 = free.getD v 0 - (keep.filter fun g => g.pool == v).length) ∧ t.items = s.items) ∧
      (s.cols = [] → ∃ t, exec (.retrainTimeout k) s = .next t ∧ state t = 4 ∧ (t.port k).replay = [] ∧ (t.port k).txq = [] ∧ (t.port k).rxq = [])) ∧
    (s.cols = [] → ∃ t, exec (.linkDisable k) s = .next t ∧ state t = 0 ∧ t.flag R.NLK_CTL_ENABLE [k] = false ∧ (t.port k).lastHb = none ∧ (t.port k).replay = [] ∧ (t.port k).rxq = []) ∧
    ∀ mode,
      (st = 0 ∨ st = 6 → ∃ t, exec (.linkTestMode k mode) s = .next t ∧ t = { s with regs := t.regs } ∧ t.fld R.NLK_CTL_TEST [k] = mode % 4 ∧ state t = if mode % 4 = 0 then 0 else 6) ∧
      (st ≠ 0 → st ≠ 6 → ∃ t, exec (.linkTestMode k mode) s = .next t ∧ t = { s with regs := t.regs } ∧ t.flag R.NLK_STATUS_CFG_BUSY [k] = true ∧ state t = st)

/-- Heartbeats, notices, time flits and the roster poll. HEARTBEAT_SEND queues a heartbeat, stamped and with the hops of this device's flits, with the port's count, which moves on. HEARTBEAT_RECEIVE restarts the peer-loss timer, counts the heartbeat and keeps the peer's flags. PEER_LOSS_TIMEOUT marks the peer lost and takes the port DOWN. NOTICE_RECEIVE keeps the cause and marks the peer fenced. TIME_SYNC_SEND of a SOURCE port queues a SYNC, which takes the device time as it leaves; TIME_MESSAGE_RECEIVE answers a SYNC with a DELAY_REQ, that with a DELAY_RESP, and takes delay and offset from the four stamps of a DELAY_RESP; the codes 0, 1 and 2 of KIND, the place of each stamp and which KIND answers which are the model's choice (log 40). ROSTER_POLL of a manager, whose own STATE is as the roster has it, asks each other member for its status. (R57, R345, R346, R347, R348, R512, Table 12-7.) -/
def Obligations.LinkServices : Prop :=
  ∀ (s : State) (k : Nat) (p : Port), s.canon = true → s.up = true → s.hasPort k = true → s.port k = p →
    let st := s.fld R.NLK_STATUS_STATE [k]
    let peer := s.fld R.NLK_STATUS_PEER_NODE [k]
    let own := fun (f : Flit) => { f with ttl := s.fld R.NLK_NODE_TTL_INIT, age := s.ageStamp }
    (st = 2 ∨ st = 5 →
      (∃ t, exec (.heartbeatSend k) s = .next t ∧ t = { s with ports := t.ports } ∧ (t.port k).hbSeq = (p.hbSeq + 1) % 2 ^ 32 ∧ (t.port k).rxq = p.rxq ∧
        (t.port k).txq = p.txq ++ [own (Flit.mk' 4 1 peer (toBytes 8 s.nowNs ++ toBytes 2 s.node ++ toBytes 1 k ++
          toBytes 1 (b2n s.slowStands + 2 * b2n (s.flag R.NRG_THR_THROTTLE) + 4 * b2n (st == 5) + 8 * b2n s.time.locked) ++ toBytes 4 p.hbSeq))]) ∧
      (s.fld R.NLK_CFG_TIME_ROLE [k] = 1 →
        ∃ t, exec (.timeSyncSend k) s = .next t ∧ t = { s with ports := t.ports } ∧ (t.port k).rxq = p.rxq ∧
          (t.port k).txq = p.txq ++ [own (Flit.mk' 5 1 peer (toBytes 8 0 ++ toBytes 10 0 ++ toBytes 10 0))])) ∧
    (∀ f rest, p.rxq = f :: rest →
      (f.ftype = 4 → fieldAt f.payload 11 1 % 4 = 0 →
        ∃ t, exec (.heartbeatReceive k) s = .next t ∧ (t.port k).rxq = rest ∧ (t.port k).lastHb = some s.elapsedNs ∧ (t.port k).lost = false ∧ t.items = s.items ∧
          t.fld R.NLK_HB_HB_RX [k] = (s.fld R.NLK_HB_HB_RX [k] + 1) % 2 ^ 32 ∧ t.fld R.NLK_STATUS_PEER_FLAGS [k] = fieldAt f.payload 11 1) ∧
      (f.ftype = 3 → s.cols = [] → s.isManager = false →
        ∃ t, exec (.noticeReceive k) s = .next t ∧ (t.port k).rxq = rest ∧ (t.port k).cause = fieldAt f.payload 0 2 ∧ t.items = s.items ∧
          bit (t.fld R.NLK_STATUS_PEER_FLAGS [k]) 2 = true) ∧
      (f.ftype = 5 → st = 2 ∨ st = 5 → ∀ stamp,
        let kind := fieldAt f.payload 0 1 % 4
        let a := fieldAt f.payload 8 10
        let b := fieldAt f.payload 18 10
        let role := s.fld R.NLK_CFG_TIME_ROLE [k]
        (kind = 0 → role = 2 →
          ∃ t, exec (.timeMessageReceive k stamp) s = .next t ∧ (t.port k).rxq = rest ∧ (t.port k).stamps = [a, stamp] ∧
            (t.port k).txq = p.txq ++ [own (Flit.mk' 5 1 peer (toBytes 8 1 ++ toBytes 10 0 ++ toBytes 10 0))]) ∧
        (kind = 1 → role = 1 →
          ∃ t, exec (.timeMessageReceive k stamp) s = .next t ∧ (t.port k).rxq = rest ∧
            (t.port k).txq = p.txq ++ [own (Flit.mk' 5 1 peer (toBytes 8 2 ++ toBytes 10 a ++ toBytes 10 stamp))]) ∧
        (kind = 2 → role = 2 → ∀ t1 t2 t3, p.stamps = [t1, t2, t3] →
          let delay := (((t2 : Int) - t1) + ((b : Int) - t3)) / 2
          ∃ t, exec (.timeMessageReceive k stamp) s = .next t ∧ (t.port k).rxq = rest ∧ t.fld R.NLK_TIME_DELAY [k] = wrapInt 32 (delay / 4096) ∧
            t.fld R.NLK_TIME_OFFSET [k] = wrapInt 32 (((t2 : Int) - t1 - delay - sext 32 (s.fld R.NLK_TIME_ADJ_ASYM [k]) * 4096) / 4096)))) ∧
    (p.lastHb.isSome = true → p.lost = false → st ≠ 0 → st ≠ 6 → s.cols = [] →
      ∃ t, exec (.peerLossTimeout k) s = .next t ∧ (t.port k).lost = true ∧ t.flag R.NLK_STATUS_PEER_LOST [k] = true ∧ t.fld R.NLK_STATUS_STATE [k] = 4) ∧
    (∀ m q, s.isManager = true → s.fwRuns 0 = true →
      (s.flag R.NLK_MEMBER_VALID [s.fld R.GLB_WEAVE_MEMBER] = true →
        s.roster.state.find? (s.fld R.GLB_WEAVE_MEMBER) = some (s.rosterState (s.fld R.GLB_WEAVE_MEMBER))) →
      s.otherMembers = [m] → s.roster.state = s.roster.told → s.route (s.fld R.NLK_MEMBER_NODE [m]) = some q →
      s.fld R.NLK_STATUS_STATE [q] ≠ 4 → s.hasPort q = true → s.freeTag = some s.nextTag →
      ∃ t r, exec .rosterPoll s = .next t ∧ FMap.find? s.nextTag t.reqs = some r ∧ r.waiter = .roster m ∧ t.roster = s.roster ∧ t.items = s.items ∧
        (t.port q).txq = (s.port q).txq ++
          [{ Flit.mk' 7 2 (s.fld R.NLK_MEMBER_NODE [m]) (txnPayload 0x0F030000000 s.nextTag s.node 5 0 0 0 0xFF []) with
            ttl := s.fld R.NLK_NODE_TTL_INIT, age := s.ageStamp }])

/-- What the processors answer, and what groups and budgets become. A request that R436 refuses is answered with its code and an empty body. HELLO negotiates major 3 where both ranges hold it. PING echoes its body, CAMP_ROSTER gives the roster, each mode of ATTEST its body once the device key is there. BUDGET_SET in range sets the pending budget and replaces the fields of the envelope that are not 0; out of range it changes nothing. GROUP_DEFINE of a valid record adds its group, an invalid one is refused with COL_GROUP_INVALID and changes no group; GROUP_RELEASE removes a group without a slot in use. Each reply stands in the next OUT slot, and both mailboxes move on. MAILBOX_OUT_CI_WRITE sets OUT_CI. (R350, R351, R354, R434, R435, R436, R437, R441, R476, R504, R513, Table 15-6.) -/
def Obligations.MailboxRequests : Prop :=
  ∀ (s : State) (p : Nat) (m : Msg),
    let v := s.mbxVersion p
    (∀ i ∈ [Instr.hello p, .ping p, .campRoster p, .budgetSet p, .groupDefine p, .groupRelease p], s.canon = true → s.up = true → s.canServe p = true → s.inMsg p = m →
      s.refusal p m ≠ 0 → s.cols = [] → s.outRoom p = true → (s.fwp p).events = [] →
      ∃ t, exec i s = .next t ∧ Replied s t p m v (s.refusal p m) [] ∧ t.groups = s.groups ∧ t.items = s.items) ∧
    (Asked s p m 1 → fieldAt m.body 0 1 ≤ 3 → 3 ≤ m.major →
      ∃ t, exec (.hello p) s = .next t ∧ t.fld R.QMC_MBX_W2_MAJOR [p] = 3 ∧ t.fld R.QMC_MBX_W2_MINOR [p] = 1 ∧ t.items = s.items ∧
        Replied s t p m (3, 1) 0 (toBytes 1 3 ++ toBytes 1 1 ++ toBytes 2 0 ++ toBytes 4 (s.fld R.QMC_MBX_W2_FW_EPOCH [p]) ++ toBytes 8 (s.fld R.FWP_VERSION_VERSION [p]))) ∧
    (Asked s p m 2 → ∃ t, exec (.ping p) s = .next t ∧ Replied s t p m v 0 m.body ∧ t.items = s.items) ∧
    (Asked s p m 0x10 → ∃ t, exec (.campRoster p) s = .next t ∧ Replied s t p m v 0 s.rosterBody ∧ t.items = s.items) ∧
    (Asked s p m 0x400 → s.boot.keyReady = true → fieldAt m.body 1 7 = 0 →
      let gives := fun (i : Instr) (mode : Nat) => fieldAt m.body 0 1 = mode →
        ∃ t, exec i s = .next t ∧ Replied s t p m v 0 (s.attestBody mode ((m.body.drop 8).take 32)) ∧ t.flash = s.flash ∧ t.items = s.items
      gives (.attestReport p) 0 ∧ gives (.attestDeviceCert p) 1 ∧ gives (.attestOperatorCert p) 2 ∧ gives (.attestMfgRecord p) 3) ∧
    (Asked s p m 0x300 →
      let w := fieldAt m.body 0 4
      let kept := fun (f : Fld) (x : Nat) => if x = 0 then s.fld f else x % 2 ^ f.w
      (s.budgetRange m.body = false → s.budgetLocked m.body = false →
        ∃ t, exec (.budgetSet p) s = .next t ∧ Replied s t p m v 0 [] ∧ t.fld R.NRG_BUDGET_PENDING_UJ = (if w = 0 then s.fld R.GLB_CAPS_ENVELOPE_W * 1000 else w) ∧
          t.fld R.NRG_ENVELOPE_VMAX_MV = kept R.NRG_ENVELOPE_VMAX_MV (fieldAt m.body 4 2) ∧
          t.fld R.NRG_ENVELOPE_THROTTLE_C = kept R.NRG_ENVELOPE_THROTTLE_C (fieldAt m.body 6 1) ∧
          t.fld R.NRG_ENVELOPE_ICL_DA = kept R.NRG_ENVELOPE_ICL_DA (fieldAt m.body 8 2) ∧ t.fld R.NRG_BUDGET_WINDOW_UJ = s.fld R.NRG_BUDGET_WINDOW_UJ) ∧
      (s.budgetRange m.body = true →
        ∃ t, exec (.budgetSet p) s = .next t ∧ Replied s t p m v Code.BUDGET_RANGE [] ∧ t.fld R.NRG_BUDGET_PENDING_UJ = s.fld R.NRG_BUDGET_PENDING_UJ ∧
          t.fld R.NRG_ENVELOPE_VMAX_MV = s.fld R.NRG_ENVELOPE_VMAX_MV)) ∧
    (Asked s p m 0x100 → s.cols = [] →
      (∀ rec members, s.groupAt (fieldAt m.body 0 6) = some (rec, members) → s.groupOk rec members = true → FMap.find? (fieldAt rec 0 1) s.groups = none →
        ∃ t, exec (.groupDefine p) s = .next t ∧ Replied s t p m v 0 [] ∧ FMap.find? (fieldAt rec 0 1) t.groups = some (groupOf rec members) ∧
          ∀ g, g ≠ fieldAt rec 0 1 → FMap.find? g t.groups = FMap.find? g s.groups) ∧
      (s.groupAt (fieldAt m.body 0 6) = none →
        ∃ t, exec (.groupDefine p) s = .next t ∧ Replied s t p m v Code.COL_GROUP_INVALID [] ∧ t.groups = s.groups)) ∧
    (Asked s p m 0x101 → s.cols = [] → FMap.sorted s.groups = true →
      let g := fieldAt m.body 0 1 % 64
      (∀ k < 32, s.fld R.COL_SLOT_W0_STATE [g, k] = 0) →
      ∃ t, exec (.groupRelease p) s = .next t ∧ Replied s t p m v 0 [] ∧ FMap.find? g t.groups = none ∧ ∀ h, h ≠ g → FMap.find? h t.groups = FMap.find? h s.groups) ∧
    (∀ x, p < 8 → s.canon = true → s.up = true → (s.fwp p).heldReply = none → (s.fwp p).events = [] →
      ∃ t, exec (.mailboxOutCiWrite p x) s = .next t ∧ t = { s with regs := t.regs } ∧ t.fld R.QMC_MBX_W1_OUT_CI [p] = x % 2 ^ 32 ∧
        t.fld R.QMC_MBX_W1_OUT_PI [p] = s.fld R.QMC_MBX_W1_OUT_PI [p])

/-- Staging and activating firmware; crashes and restarts. FW_STAGE of a good image (its root key's hash is the mask ROM's, its signature verifies, it fits its slot, and its SVN is not below the counter) begins a staging, FW_STAGE_DONE ends it with the image in the staging slot and its reply; FW_ACTIVATE of a staged image that speaks every negotiated major makes it PENDING, FW_CANCEL takes that back or empties the slot, with NONE or STAGING replies status 0 and changes no update state, and in ACTIVATING is refused; in the wrong state they are refused with their codes. ACTIVATION_START of a PENDING activation in a stable envelope makes the staged image the running one and restarts FW1 first; ACTIVATION_COMPLETE ends it and raises the rollback counter. A watchdog, a fatal exception, an uncorrectable word of private SRAM and a restart request under a debug weave crash a running processor with their causes; a kick restarts the watchdog's count. FW_RESTART_DONE with a good copy, and no re-issue due, runs the processor again with its unanswered requests dropped; with a bad one it is held and the job-fatal sequence runs. (R444, R446, R447, R448, R449, R451, R453, R455, R457, R458, R459, Table 16-7.) -/
def Obligations.FirmwareUpdates : Prop :=
  ∀ (s : State) (p : Nat), s.canon = true → s.up = true → s.cols = [] → p < 8 →
    let st := s.fld R.FWP_UPDATE_STATE
    let v := s.mbxVersion 0
    let state := fun (t : State) => t.fld R.FWP_UPDATE_STATE
    (∀ m, Asked s 0 m 0x200 →
      let a := fieldAt m.body 0 6
      let n := fieldAt m.body 8 4
      let i := FwImage.parse (s.peek a n).1
      (st = 0 → n ≤ 2 ^ 24 → a % 64 = 0 → s.inTier a n = true → (s.peek a n).2 = false → i.vendorOk s.flash.romRoot = true → i.fits = true → s.flash.ctrFw ≤ i.svn →
        ∃ t, exec (.fwStage 0) s = .next t ∧ t.update.staging = some i ∧ state t = 1 ∧ t.fld R.QMC_MBX_W0_IN_CI [0] = s.fld R.QMC_MBX_W0_IN_CI [0]) ∧
      (st = 3 ∨ st = 4 → ∃ t, exec (.fwStage 0) s = .next t ∧ Replied s t 0 m v Code.FW_UPDATE_BUSY [] ∧ state t = st ∧ t.flash = s.flash)) ∧
    (∀ i, s.update.staging = some i → s.fwRuns 0 = true → (s.fwp 0).heldReply = none → (s.fwp 0).events = [] → s.outRoom 0 = true →
      ∃ t, exec .fwStageDone s = .next t ∧ state t = 2 ∧ t.update.staging = none ∧ t.flash.fwSlot s.flash.stagingSlot = some i ∧
        Replied s t 0 (s.inMsg 0) v 0 (toBytes 32 i.hash ++ toBytes 8 i.version ++ toBytes 4 i.svn)) ∧
    (∀ m, Asked s 0 m 0x201 →
      (∀ i, st = 2 → s.flash.staged = some i → s.speaks i = true →
        ∃ t, exec (.fwActivate 0) s = .next t ∧ state t = 3 ∧ t.flag R.FWP_UPDATE_AOB = (fieldAt m.body 0 1 % 2 == 1) ∧
          Replied s t 0 m v 0 (toBytes 1 (if s.envStable then 0 else 1))) ∧
      (st = 0 → ∃ t, exec (.fwActivate 0) s = .next t ∧ state t = 0 ∧ Replied s t 0 m v Code.FW_NOT_STAGED [])) ∧
    (∀ m, Asked s 0 m 0x202 →
      (st = 3 → fieldAt m.body 0 1 % 2 = 0 → ∃ t, exec (.fwCancel 0) s = .next t ∧ state t = 2 ∧ Replied s t 0 m v 0 []) ∧
      (st = 2 ∨ st = 3 → fieldAt m.body 0 1 % 2 = 1 →
        ∃ t, exec (.fwCancel 0) s = .next t ∧ state t = 0 ∧ t.flash.fwSlot s.flash.stagingSlot = none ∧ Replied s t 0 m v 0 []) ∧
      (st = 0 ∨ st = 1 → ∃ t, exec (.fwCancel 0) s = .next t ∧ state t = st ∧ t.flash = s.flash ∧ t.update = s.update ∧ Replied s t 0 m v 0 []) ∧
      (st = 4 → ∃ t, exec (.fwCancel 0) s = .next t ∧ state t = 4 ∧ t.flash = s.flash ∧ t.update = s.update ∧ Replied s t 0 m v Code.FW_UPDATE_BUSY [])) ∧
    (∀ i, st = 3 → s.envStable = true → s.fwRuns 0 = true → s.flash.staged = some i → i.hash = s.flash.manifest.stagedHash → s.fwRuns 1 = true →
      ∃ t, exec .activationStart s = .next t ∧ state t = 4 ∧ t.boot.fw = some i ∧ t.fld R.BSU_ROM_FW_SLOT = s.flash.stagingSlot ∧
        t.fld R.FWP_STATUS_STATE [1] = 1 ∧ t.fld R.FWP_CRASH_CAUSE [1] = 4) ∧
    (st = 4 → s.update.chain = [] → s.fwRuns 0 = true →
      ∃ t, exec .activationComplete s = .next t ∧ state t = 0 ∧ t.flash.ctrFw = max s.flash.ctrFw ((s.boot.fw.map (·.svn)).getD 0) ∧
        t.fld R.FWP_UPDATE_LAST_STATUS = Code.FW_ACTIVATED) ∧
    (s.fwRuns p = true →
      (∃ t, exec (.fwWatchdogExpire p) s = .next t ∧ Crashed s t p 1 ∧ t.fld R.FWP_WDOG_EXPIRIES [p] = min (s.fld R.FWP_WDOG_EXPIRIES [p] + 1) (2 ^ 16 - 1)) ∧
      (∃ t, exec (.fwWatchdogKick p) s = .next t ∧ t = { s with fw := t.fw } ∧ (t.fwp p).kicked = s.elapsedNs ∧ ∀ j, j ≠ p → t.fwp j = s.fwp j) ∧
      (∀ pc mcause, ∃ t, exec (.fwFatalException p pc mcause) s = .next t ∧ Crashed s t p 2 ∧ t.fld R.FWP_CRASH_PC [p] = pc % 2 ^ 32 ∧
        t.fld R.FWP_CRASH_MCAUSE [p] = mcause % 256) ∧
      (∃ t, exec (.fwSramUncorrectable p) s = .next t ∧ Crashed s t p 3 ∧ t.fld R.ERL_COUNTS_UE = min (s.fld R.ERL_COUNTS_UE + 1) (2 ^ 32 - 1)) ∧
      (s.flag R.GLB_WEAVE_DEBUG = true → ∃ t, exec (.fwRestartRequest p) s = .next t ∧ Crashed s t p 5)) ∧
    (s.fld R.FWP_STATUS_STATE [p] = 1 →
      (∀ i, s.update.chain = [] → s.boot.fw = some i → (s.fwp p).heldReply = none → (∀ e ∈ s.items, e.2.phase ≠ .reissued) →
        ∃ t, exec (.fwRestartDone p true) s = .next t ∧ t.fld R.FWP_STATUS_STATE [p] = 0 ∧ t.fld R.FWP_VERSION_VERSION [p] = i.version % 2 ^ 64 ∧
          t.fld R.QMC_MBX_W0_IN_CI [p] = s.fld R.QMC_MBX_W0_IN_PI [p] ∧ (t.fwp p).kicked = s.elapsedNs) ∧
      ∃ t, exec (.fwRestartDone p false) s = .next t ∧ t.fld R.FWP_STATUS_STATE [p] = 2 ∧ t.job.running = true)

/-- The re-weave, from GO to ready. REWEAVE_GO takes the image for verification unless a staging, an activation, a re-weave, work in flight without the job-fatal sequence, or a severity-4 fault stands against it: then, and while a re-weave resets or trains, the status is REWEAVE_BUSY and nothing but the three register words changes (LENGTH and PERSIST take what the same store carries and the refusal is not logged, the model's choice, log entry 100). REWEAVE_VERIFY_FAILED of an image that fails a check ends FAILED with the check's code, logged, and leaves the weave image, memory and the items as they were. REWEAVE_RESET of a good image pulls MOD_READY low, empties the items, steps, groups, queues and cores, shows every present port DOWN (what NOTICE leaves, and the STATE it shows, log entry 101), and keeps the time unit, the flash and the bytes of a tier whose channel map stays; the bytes of a tier whose map moves count as never written (which further state is kept, log entry 102). REWEAVE_READY with the maps unmoved, no access waiting, and no job-fatal sequence begun in the reset, brings the new image into force, raises MOD_READY and counts one re-weave; a channel that fails its training after a map has moved ends it FAILED with MEM_TRAIN_FAIL (log entry 103). (R261, R287, R496, R499, R500, R501, R502, R503, R535, Table 18-10, Table 18-12.) -/
def Obligations.Reweaves : Prop :=
  ∀ s : State, s.canon = true →
    let state := fun (t : State) => t.fld R.BSU_REWEAVE_STATUS_STATE
    let status := fun (t : State) => t.fld R.BSU_REWEAVE_STATUS_STATUS
    let ended := fun (t : State) (st code : Nat) => state t = st ∧ status t = code ∧ t.flag R.BSU_REWEAVE_STATUS_ACK = true ∧ t.boot.newWeave = none
    (∀ len persist, s.up = true →
      let busy := s.fld R.FWP_UPDATE_STATE = 1 ∨ s.fld R.FWP_UPDATE_STATE = 4 ∨ state s = 1 ∨
        (s.fld R.QMC_STATUS_INFLIGHT ≠ 0 ∧ s.job.running = false) ∨ s.job.sev4 = true
      (busy → ∃ t, exec (.reweaveGo len persist) s = .next t ∧ status t = Code.REWEAVE_BUSY ∧ state t = state s ∧
        OnlyRegs [R.BSU_REWEAVE_CTL_LENGTH.base, R.BSU_REWEAVE_STATUS_STATE.base, R.BSU_STATUS_LAST_CODE.base] s t) ∧
      (¬ busy → ∃ t, exec (.reweaveGo len persist) s = .next t ∧ state t = 1 ∧ t.fld R.BSU_REWEAVE_CTL_LENGTH = len % 2 ^ 21 ∧
        t.boot = { s.boot with newWeave := some (s.reweaveImage (s.fld R.BSU_REWEAVE_ADDR_ADDR / 64 * 64) (len % 2 ^ 21)), newPersist := persist, t0 := s.elapsedNs } ∧
        WorkKept s t)) ∧
    (∀ len persist, s.hubUp = true → state s = 2 ∨ state s = 3 →
      ∃ t, exec (.reweaveGo len persist) s = .next t ∧ status t = Code.REWEAVE_BUSY ∧ state t = state s ∧
        OnlyRegs [R.BSU_REWEAVE_CTL_LENGTH.base, R.BSU_REWEAVE_STATUS_STATE.base, R.BSU_STATUS_LAST_CODE.base] s t) ∧
    (∀ w, s.up = true → s.boot.newWeave = some w → state s = 1 →
      (w.verdict s.flash ≠ 0 → s.flag R.ERL_CTL_MIRROR_EN = false →
        ∃ t, exec .reweaveVerifyFailed s = .next t ∧ ended t 5 (w.verdict s.flash) ∧ t.boot.weave = s.boot.weave ∧ t.fld R.BSU_STATUS_LAST_CODE = w.verdict s.flash ∧
          LoggedAt s t (w.verdict s.flash) bsuUnit ∧ WorkKept s t ∧ t.pins = s.pins) ∧
      (w.verdict s.flash = 0 → s.flag R.ERL_CTL_MIRROR_EN = false → s.mem.l3 = [] →
        ∃ t, exec .reweaveReset s = .next t ∧ state t = 2 ∧ t.up = false ∧ t.pins.modReady = false ∧ t.boot.newWeave = some w ∧
          t.items = [] ∧ t.gates = [] ∧ t.cols = [] ∧ t.reeds = [] ∧ t.groups = [] ∧ t.ports = [] ∧ t.time = s.time ∧ t.flash = s.flash ∧
          LoggedAt s t Code.REWEAVE bsuUnit ∧ (∀ k < 12, s.hasPort k = true → t.fld R.NLK_STATUS_STATE [k] = 4) ∧
          (∀ q < 262144, t.fld R.WQS_W1_STATE [q] = 0 ∧ t.fld R.WQS_W2_CI [q] = 0) ∧
          (let same := w.stkMask s.flash = s.boot.stkMask ∧ w.localU = s.boot.localU
           ∀ a < 0x09000000000, (same → t.mem.written a = s.mem.written a ∧ t.mem.byteAt a = s.mem.byteAt a) ∧ (¬ same → t.mem.written a = false)) ∧
          ∀ a, 0x10000000000 ≤ a → a < 0x20000000000 →
            (w.rimMask s.flash = s.boot.rimMask → t.mem.written a = s.mem.written a ∧ t.mem.byteAt a = s.mem.byteAt a) ∧
            (w.rimMask s.flash ≠ s.boot.rimMask → t.mem.written a = false))) ∧
    (∀ w fs fr, s.boot.newWeave = some w → state s = 2 → s.job.running = false →
      (s.mapsMove w = false → s.held = [] →
        ∃ t, exec (.reweaveReady fs fr) s = .next t ∧ ended t 4 0 ∧ t.boot.weave = some w ∧ t.boot.stage = 10 ∧ t.pins.modReady = true ∧
          t.flag R.BSU_STATUS_READY = true ∧ t.boot.stkMask = s.boot.stkMask ∧ t.boot.rimMask = s.boot.rimMask ∧ (s.hubUp = true → t.up = true) ∧
          ((∀ e ∈ w.routes, e.1 < 4096) → (s.flash.rasOf 1 false).length ≤ 1024 → (s.flash.rasOf 2 false).length ≤ 64 →
            t.fld R.BSU_BOOTS_REWEAVES = (s.fld R.BSU_BOOTS_REWEAVES + 1) % 2 ^ 32)) ∧
      (s.mapsMove w = true → failedIn (w.stkMask s.flash) fs ≠ [] ∨ failedIn (w.rimMask s.flash) fr ≠ [] →
        ∃ t, exec (.reweaveReady fs fr) s = .next t ∧ ended t 5 Code.MEM_TRAIN_FAIL ∧ t.boot.failed = true ∧ t.pins.modReady = s.pins.modReady))

/-- Loads, stores and FENCE of the hearth cores. For a released hart and an access of 1, 2, 4 or 8 bytes: a load of readable memory of this device is answered with its bytes and changes no byte, no item and no register word but counts; a store there leaves its bytes in their places and no other byte changed. An 8-byte aligned access to a register, unpoisoned where it is read, acts as the command that reads or writes it does. A place that does not exist answers with an access fault, and a misaligned access to another member or to the PCIe window with a misaligned exception (the model's choice, log entry 109). While a re-weave resets and trains the device, an access to stack memory or to a register block that does not answer waits. A load from the PCIe window sends a read and waits, a store sends a posted write. An access to another member that has a way out leaves one request outstanding, and a store counts for FENCE. FENCE ends at once when no remote write of the hart is outstanding, and waits otherwise. (R301, R341, R506, R507, R508, R510, R511, R517.) -/
def Obligations.HearthAccesses : Prop :=
  ∀ (s : State) (h a n : Nat), s.canon = true → s.hartRuns h n = true →
    (s.up = true → Clean s → a < 0x800000000000 → s.mappedRange a n = true →
      (∀ l ∈ rangeLines [(a, n)], s.farLine l = false ∧ (s.lineView l).outcome = 0 ∧ (s.lineView l).poison = 0) →
      ∃ t, exec (.hearthLoad h a n) s = .next t ∧ t.out = s.out ++ [.hearthData h (BitVec.ofNat 64 (numRead s a n))] ∧ OnlyReadCounts s t ∧
        t.mem.cells = s.mem.cells ∧ t.mem.poison = s.mem.poison ∧ t.items = s.items ∧ t.reeds = s.reeds) ∧
    (∀ (val : Word) p, s.up = true → Clean s → (∀ l ∈ rangeLines [(a, n)], Storable s l) →
      ∃ t, exec (.hearthStore h a n val p) s = .next t ∧ (∀ i < n, byteRead t (a + i) = BitVec.ofNat 8 (val.toNat / 2 ^ (8 * i))) ∧
        OnlyBytes [(a, n)] s t ∧ t.items = s.items ∧ t.reeds = s.reeds ∧
        (p = true → n = 8 → a % 8 = 0 → bit (t.lineView (a / 64 * 64)).poison (a % 64 / 8) = true)) ∧
    (∀ off (val : Word), s.regionOf a = .regs off → s.regUp off = true → off % 8 = 0 → n = 8 →
      (s.regPoison off = false → ∃ t u, exec (.hearthLoad h a n) s = .next t ∧ exec (.rcFieldRead off) s = .next u ∧ t.out = s.out ++ [.hearthData h (s.regValue off)] ∧
        t = { u with out := t.out }) ∧
      exec (.hearthStore h a n val false) s = exec (.registerWrite off val) s) ∧
    (s.up = false → ∀ (val : Word) p,
      let holds := fun x : HubAccess => { s with held := s.held ++ [x] }
      (∃ o, s.regionOf a = .stack o) ∨ (∃ off, s.regionOf a = .regs off ∧ s.regUp off = false) →
        exec (.hearthLoad h a n) s = .next (holds (.load h (s.localAddr a) n)) ∧
        ∃ v : Word, v.toNat % 2 ^ (8 * n) = val.toNat % 2 ^ (8 * n) ∧ exec (.hearthStore h a n val p) s = .next (holds (.store h (s.localAddr a) n v p))) ∧
    (∀ (val : Word) p, s.regionOf a = .hole →
      exec (.hearthLoad h a n) s = .next (s.emit (.hearthFault h (s.localAddr a))) ∧
      exec (.hearthStore h a n val p) s = .next (s.emit (.hearthFault h (s.localAddr a)))) ∧
    (∀ (val : Word) p, s.farLine a = true → s.localAddr a % n ≠ 0 →
      exec (.hearthLoad h a n) s = .next (s.emit (.hearthMisaligned h (s.localAddr a))) ∧
      exec (.hearthStore h a n val p) s = .next (s.emit (.hearthMisaligned h (s.localAddr a)))) ∧
    (∀ off (val : Word), s.regionOf a = .pcie off → a < 0x800000000000 → a % n = 0 →
      (s.mapped a = true →
        let tag := s.freePcieTag
        exec (.hearthLoad h a n) s = .next { s with
          pcieReqs := FMap.put tag { waiter := .hearth h true, dst := 0, vc := 0, op := 0, addr := a, len := n, age := s.ageStamp, narrow := none } s.pcieReqs
          out := s.out ++ [.pcieReq tag false (s.busAddr off) [] false] } ∧
        exec (.hearthStore h a n val false) s = .next (s.emit (.pcieReq 0 true (s.busAddr off) (toBytes n val.toNat) false))) ∧
      (s.mapped a = false → exec (.hearthLoad h a n) s = .next (s.emit (.hearthFault h a)))) ∧
    (∀ m off k (val : Word), s.regionOf a = .remote m off → a % n = 0 → s.route (s.fld R.NLK_MEMBER_NODE [m]) = some k → s.fld R.NLK_STATUS_STATE [k] ≠ 4 →
      s.hasPort k = true → s.freeTag = some s.nextTag →
      (∃ t r, exec (.hearthLoad h a n) s = .next t ∧ FMap.find? s.nextTag t.reqs = some r ∧ r.waiter = .hearth h true ∧ r.addr = a ∧ r.len = n ∧ r.op = 5 ∧
        t.hart h = s.hart h ∧ t.regs = s.regs ∧ t.mem = s.mem ∧ t.out = s.out) ∧
      ∃ t r, exec (.hearthStore h a n val false) s = .next t ∧ FMap.find? s.nextTag t.reqs = some r ∧ r.waiter = .hearth h false ∧ r.op = 6 ∧
        (t.hart h).remote = (s.hart h).remote + 1 ∧ t.regs = s.regs ∧ t.mem.cells = s.mem.cells ∧ t.out = s.out) ∧
    ((s.hart h).remote = 0 → exec (.hearthFence h) s = .next (s.emit (.hearthFenceDone h))) ∧
    ((s.hart h).remote ≠ 0 → ∃ t, exec (.hearthFence h) s = .next t ∧ t = { s with harts := t.harts } ∧ t.hart h = { s.hart h with fencing := true } ∧
      ∀ g, g ≠ h → t.hart g = s.hart g)

/-- The PCIe root port. A successful completion gives the data to the hart or the item that waits, and takes the request off the list; one that fails, or a timeout, gives the hart an access fault. The link's fields show what it came up with; when it goes down they are 0 and a waiting hart gets its fault (log entry 108). An inbound write of 4 bytes in the interrupt window sets the identity in the file of its page and sends one interrupt. Another inbound write to memory leaves its bytes, an inbound read is answered with the bytes read, and one that reaches no memory is answered with Unsupported Request and PCI_INBOUND_UR, which no status register takes. A configuration request goes out with DONE cleared; its end sets DONE and UR, with the data of a read even where UR is set (log entry 108). One to bus 0, device 0, function 0 goes nowhere: the root port's own header answers it at once, and keeps the bytes written of its bus numbers, bases and limits (which bytes those are, log entry 108). RETRAIN sends its order, PERST drives its pin, and an AER event is logged. (R299, R508, R517, R518, R519, Table 19-8.) -/
def Obligations.PciePort : Prop :=
  ∀ s : State, s.canon = true →
    let waits := fun (tag : Nat) (r : Req) => tag < 1024 ∧ FMap.find? tag s.pcieReqs = some r
    let taken := fun (tag : Nat) (o : List Out) => { s with pcieReqs := FMap.del tag s.pcieReqs, out := s.out ++ o }
    (∀ tag r h b data, waits tag r → r.waiter = .hearth h b →
      (s.hubUp = true → exec (.pcieOutboundCompletion tag 0 data) s = .next (taken tag [.hearthData h (BitVec.ofNat 64 (ofBytes (data.take r.len)))]) ∧
        ∀ st, st ≠ 0 → exec (.pcieOutboundCompletion tag st data) s = .next (taken tag [.hearthFault h r.addr])) ∧
      (s.hubUp = true → exec (.pcieOutboundTimeout tag) s = .next (taken tag [.hearthFault h r.addr]))) ∧
    (∀ tag r id it data, s.up = true → waits tag r → r.waiter = .item id → FMap.find? id s.items = some it → 2 ≤ it.pendingRemote →
      ∃ t, exec (.pcieOutboundCompletion tag 0 data) s = .next t ∧ t.out = s.out ∧ t.regs = s.regs ∧ t.mem = s.mem ∧
        FMap.find? id t.items = some { it with remote := FMap.put (r.addr / 64) (padTo 64 data, 0) it.remote, pendingRemote := it.pendingRemote - 1 }) ∧
    (s.pciUp = true →
      (∀ speed width flit, ∃ t, exec (.pcieLinkUp speed width flit) s = .next t ∧ OnlyRegs [R.PCI_STATUS_LINK_UP.base] s t ∧ t.flag R.PCI_STATUS_LINK_UP = true ∧
        t.fld R.PCI_STATUS_SPEED = speed % 8 ∧ t.fld R.PCI_STATUS_WIDTH = width % 32 ∧ t.flag R.PCI_STATUS_FLIT = flit) ∧
      (∀ tag r h b, s.pcieReqs = [(tag, r)] → tag < 1024 → r.waiter = .hearth h b →
        ∃ t, exec .pcieLinkDown s = .next t ∧ t.flag R.PCI_STATUS_LINK_UP = false ∧ t.fld R.PCI_STATUS_SPEED = 0 ∧ t.pcieReqs = [] ∧
          t.out = s.out ++ [.hearthFault h r.addr] ∧ t.mem = s.mem ∧ t.items = s.items) ∧
      (s.pcieReqs = [] → ∃ t, exec .pcieLinkDown s = .next t ∧ OnlyRegs [R.PCI_STATUS_LINK_UP.base] s t ∧ t.flag R.PCI_STATUS_LINK_UP = false) ∧
      exec .pcieRetrain s = .next (s.emit .pcieRetrain) ∧
      (∀ drive, ∃ t, exec (.pciePerst drive) s = .next t ∧ t.pins = { s.pins with perstN := !drive } ∧ t.flag R.PCI_CTL_PERST = drive ∧ WorkKept s t ∧ t.out = s.out) ∧
      (∀ u st, s.flag R.ERL_CTL_MIRROR_EN = false →
        ∃ t, exec (.pcieAer u st) s = .next t ∧ LoggedAt s t Code.PCI_AER pciUnit ∧ t.fld R.PCI_STATUS_LAST_STATUS = s.fld R.PCI_STATUS_LAST_STATUS ∧ WorkKept s t) ∧
      (∀ val : Word, bit val.toNat 63 = true → bits val.toNat 0 16 ≠ 0 →
        ∃ t, exec (.pciCfgRequest val) s = .next t ∧ t.flag R.PCI_CFG_DATA_DONE = false ∧ t.fld R.PCI_CFG_ADDR_BUS = bits val.toNat 0 8 ∧
          t.fld R.PCI_CFG_ADDR_DEV = bits val.toNat 8 5 ∧ t.fld R.PCI_CFG_ADDR_FN = bits val.toNat 13 3 ∧ t.fld R.PCI_CFG_ADDR_REG = bits val.toNat 16 12 ∧
          (FMap.find? cfgTag t.pcieReqs).map (·.op) = some (bits val.toNat 32 1) ∧ t.out = s.out ++ [.pcieCfg val (s.fld R.PCI_CFG_DATA_DATA)] ∧ WorkKept s t) ∧
      (∀ val : Word, bit val.toNat 63 = true → bits val.toNat 0 16 = 0 → FMap.sorted s.pcieHdr = true →
        let reg := bits val.toNat 16 12 / 4 * 4
        ∃ t, exec (.pciCfgRequest val) s = .next t ∧ t.flag R.PCI_CFG_DATA_DONE = true ∧ t.flag R.PCI_CFG_DATA_UR = false ∧ t.out = s.out ∧
          t.pcieReqs = s.pcieReqs ∧ WorkKept s t ∧
          (bit val.toNat 32 = true → ∀ i < 4, bit val.toNat (28 + i) = true → hdrKept (reg + i) = true →
            FMap.getD t.pcieHdr (reg + i) 0 = bits (s.fld R.PCI_CFG_DATA_DATA) (8 * i) 8) ∧
          (bit val.toNat 32 = false → t.pcieHdr = s.pcieHdr ∧ ∀ i < 4, hdrKept (reg + i) = true → FMap.getD s.pcieHdr (reg + i) 0 < 256 →
            bits (t.fld R.PCI_CFG_DATA_DATA) (8 * i) 8 = FMap.getD s.pcieHdr (reg + i) 0)) ∧
      (∀ r data ur, FMap.sorted s.pcieReqs = true → FMap.find? cfgTag s.pcieReqs = some r →
        ∃ t, exec (.pciCfgDone data ur) s = .next t ∧ t.flag R.PCI_CFG_DATA_DONE = true ∧ t.flag R.PCI_CFG_DATA_UR = ur ∧
          t.fld R.PCI_CFG_DATA_DATA = (if r.op = 0 then data % 2 ^ 32 else s.fld R.PCI_CFG_DATA_DATA) ∧ FMap.find? cfgTag t.pcieReqs = none ∧ WorkKept s t)) ∧
    (s.up = true → s.pciUp = true → s.flag R.PCI_STATUS_LINK_UP = true → ∀ a n data ep,
      let base := s.fld R.PCI_MSI_BUS_BASE / 2 ^ 17 * 2 ^ 17
      let page := (a - base) / 4096
      (∀ id, 0 < id → id < 64 → base ≤ a → a < base + 2 ^ 17 → ofBytes (data.take 4) = id →
        ∃ t, exec (.pcieInboundRequest true a 4 data ep) s = .next t ∧ t = { s with harts := t.harts, out := s.out ++ [.irq (page % 2 * 64 + page / 2 * 128 + id)] } ∧
          bit (if page % 2 = 0 then (t.hart (page / 2)).imsicM else (t.hart (page / 2)).imsicS) id = true) ∧
      (Clean s → s.inboundOk a n = true →
        (s.msiVector a n data = none → (∀ l ∈ rangeLines [(a, n)], Storable s l) →
          ∃ t, exec (.pcieInboundRequest true a n data ep) s = .next t ∧ (∀ i < n, byteRead t (a + i) = data.getD i 0) ∧ OnlyBytes [(a, n)] s t ∧ t.items = s.items) ∧
        ((∀ l ∈ rangeLines [(a, n)], (s.lineView l).outcome = 0 ∧ (s.lineView l).poison = 0) →
          ∃ t, exec (.pcieInboundRequest false a n data ep) s = .next t ∧ t.out = s.out ++ [.pcieCpl 0 ((List.range n).map fun i => byteRead s (a + i)) false] ∧
            OnlyReadCounts s t ∧ t.mem.cells = s.mem.cells ∧ t.items = s.items)) ∧
      (s.inboundOk a n = false → s.flag R.ERL_CTL_MIRROR_EN = false →
        ∃ t, exec (.pcieInboundRequest false a n data ep) s = .next t ∧ t.out.getLast? = some (.pcieCpl 1 [] false) ∧
          t.fld R.PCI_STATUS_LAST_STATUS = s.fld R.PCI_STATUS_LAST_STATUS ∧ LoggedAt s t Code.PCI_INBOUND_UR pciUnit ∧ WorkKept s t))

/-- Management frames, PTP, the time sources, holdover, and PPS. A management frame with a bad FCS is counted; one that passes the filter of R514 is counted as received and kept for PTP, or with its age stamp for the mailboxes; another is dropped and counted (what waits and what is too long, the model's choice, log entry 107). While nothing waits in the OUT mailboxes, the oldest mailbox frame goes to the next IN slot of its mailbox where the relay is enabled and there is room. PTP messages have the layout of IEEE 1588 (log entry 106): the first Announce chooses its sender as the master; a two-step Sync of the master waits for its Follow_Up, which gives its sample and sends a Delay_Req; the master's Delay_Resp to that request gives the path delay; one of another sender changes nothing. A sample of the source in use sets OFFSET, counts, and moves the runs of good and bad samples: 16 good ones lock, 4 bad ones unlock; the counter steps once, in step 9, when the first offset exceeds 10 µs, and its rate stays within 250 ppm. PRIMARY takes over from BACKUP after 16 samples; the loss of one source passes to the other where that has not been lost, and the loss of the last is holdover at the mean rate of the last 64 s, logged. What SWITCHES counts, how holdover ends and the servo's law are the model's choice (log entry 105). A PPS edge captures the time. The PPS output pulse rises at a whole second while OUT_EN is 1, and ends WIDTH_US later. (R435, R514, R515, R520, R521, R523, R524, R525, R526, R527.) -/
def Obligations.ManagementAndTime : Prop :=
  ∀ s : State, s.canon = true →
    let sat := fun (f : Fld) (t : State) => t.fld f = min (s.fld f + 1) (2 ^ f.w - 1)
    (∀ frame ok, s.hubUp = true → s.flag R.MGT_CTL_ENABLE = true →
      ∃ t, exec (.mgtFrameReceive frame ok) s = .next t ∧ t.flag R.MGT_STATUS_LINK_UP = true ∧ t = { s with regs := t.regs, mgt := t.mgt } ∧
        (ok = false → sat R.MGT_COUNTS_FCS_ERR t ∧ t.mgt = s.mgt) ∧
        (ok = true → s.frameOk frame = false → sat R.MGT_COUNTS_DROPPED t ∧ t.mgt = s.mgt) ∧
        (ok = true → s.frameOk frame = true → sat R.MGT_COUNTS_RX_GOOD t ∧
          t.mgt = (if bigAt frame 12 2 = 0x88F7 then { s.mgt with ptp := s.mgt.ptp ++ [frame] }
            else if fieldAt frame 14 1 = 0 then { s.mgt with rx := s.mgt.rx ++ [(s.ageStamp, frame)] } else s.mgt))) ∧
    (∀ age frame rest, s.up = true → s.mgt.rx = (age, frame) :: rest →
      let p := fieldAt frame 15 1
      let relays := p < 8 ∧ bit (s.fld R.MGT_CTL_MBX_EN) p = true ∧ frame.length ≤ 4118
      (relays → s.inRoom p = true →
        (∀ q < 8, (s.fwp q).heldReply = none ∧ (s.fwp q).events = [] ∧ s.fld R.QMC_MBX_W1_OUT_PI [q] = s.fld R.QMC_MBX_W1_OUT_CI [q]) →
        ∃ t, exec .mgtMailboxRequest s = .next t ∧ t.slotBytes p 0 (s.fld R.QMC_MBX_W0_IN_PI [p]) (frame.length - 22) = frame.drop 22 ∧
          t.fld R.QMC_MBX_W0_IN_PI [p] = (s.fld R.QMC_MBX_W0_IN_PI [p] + 1) % 2 ^ 32 ∧ t.mgt.rx = rest ∧ t.mgt.from? = some (bigAt frame 6 6) ∧ WorkKept s t) ∧
      (relays → s.inRoom p = false → exec .mgtMailboxRequest s = .next s) ∧
      (¬ relays → ∃ t, exec .mgtMailboxRequest s = .next t ∧ t.mgt = { s.mgt with rx := rest } ∧ OnlyRegs [R.MGT_COUNTS_RX_GOOD.base] { s with mgt := t.mgt } t ∧
        sat R.MGT_COUNTS_DROPPED t)) ∧
    (∀ frame rest rx, s.up = true → s.mgt.ptp = frame :: rest →
      let msg := frame.drop 14
      let mine := s.ptpUsed = true ∧ 34 ≤ msg.length ∧ fieldAt msg 4 1 = s.fld R.TIM_CFG_PTP_DOMAIN
      let kind := fieldAt msg 0 1 % 16
      (¬ mine → exec (.ptpMessageReceive rx) s = .next { s with mgt := { s.mgt with ptp := rest } }) ∧
      (mine → kind = 11 → s.time.master = none → 64 ≤ msg.length → bigAt msg 61 2 < 255 →
        ∃ t, exec (.ptpMessageReceive rx) s = .next t ∧ t = { s with mgt := t.mgt, time := t.time } ∧ t.time = { s.time with master := some (ptpSender msg, announceRank msg) }) ∧
      (mine → kind = 0 ∨ kind = 8 ∨ kind = 9 → s.fromMaster msg = false →
        exec (.ptpMessageReceive rx) s = .next { s with mgt := { s.mgt with ptp := rest } }) ∧
      (mine → kind = 0 → s.fromMaster msg = true → bit (fieldAt msg 6 1) 1 = true →
        ∃ t, exec (.ptpMessageReceive rx) s = .next t ∧ t = { s with mgt := t.mgt, time := t.time } ∧ t.ptpAt 4 = bigAt msg 30 2 ∧ t.ptpAt 2 = rx ∧
          t.ptpAt 0 = s.ptpAt 0 ∧ t.ptpAt 1 = ptpCorrection msg) ∧
      (mine → kind = 8 → s.fromMaster msg = true → s.ptpAt 4 = bigAt msg 30 2 → s.time.active = 1 → 9 ≤ s.boot.stage →
        let t1 := ptpTime msg 34 + ptpCorrection msg + s.ptpAt 1
        ∃ t, exec (.ptpMessageReceive rx) s = .next t ∧ t.out.getLast? = some .ptpDelayReq ∧ t.ptpAt 1 = t1 ∧ t.ptpAt 4 = -1 ∧
          t.fld R.TIM_STATUS_OFFSET = wrapInt 32 (s.ptpAt 2 - t1 - s.ptpAt 0)) ∧
      (mine → kind = 9 → s.answersDelay msg = true →
        ∃ t, exec (.ptpMessageReceive rx) s = .next t ∧ t = { s with mgt := t.mgt, time := t.time } ∧
          t.ptpAt 0 = ((s.ptpAt 2 - s.ptpAt 1) + (ptpTime msg 34 - ptpCorrection msg - s.ptpAt 3)) / 2)) ∧
    (∀ src (off : Int), s.up = true → 9 ≤ s.boot.stage → src ≠ 0 → (src = 2 → s.receiver.isSome = true) → (src = s.fld R.TIM_CFG_PRIMARY ∨ src = s.fld R.TIM_CFG_BACKUP) →
      let sampled := fun (t : State) (good bad : Nat) =>
        t.time.good = (if off.natAbs ≤ s.lockNs then min 16 (good + 1) else 0) ∧ t.time.bad = (if 4 * s.lockNs < off.natAbs then min 4 (bad + 1) else 0) ∧
        t.time.locked = (if t.time.bad = 4 then false else if t.time.good = 16 then true else s.time.locked) ∧ t.flag R.TIM_STATUS_LOCKED = t.time.locked ∧
        t.time.active = src ∧ t.fld R.TIM_STATUS_ACTIVE = src ∧ t.fld R.TIM_STATUS_OFFSET = wrapInt 32 off ∧
        t.fld R.TIM_COUNTS_SAMPLES = (s.fld R.TIM_COUNTS_SAMPLES + 1) % 2 ^ 32 ∧ -250000 ≤ t.time.ppb ∧ t.time.ppb ≤ 250000 ∧
        t.time.now = (if 10000 < off.natAbs ∧ s.boot.stage = 9 ∧ s.boot.stepped = false then
          (((s.time.now : Int) - off * 10000000000) % ((2 ^ 64 * 10000000000 : Nat) : Int)).toNat else s.time.now) ∧
        t.boot.stepped = true ∧ t.items = s.items ∧ t.time.elapsed = s.time.elapsed
      let moved := fun (t : State) => sampled t 0 0 ∧ sat R.TIM_COUNTS_SWITCHES t ∧ t.time.holdover = false
      let other := s.time.active ≠ 0 ∧ s.time.active ≠ src ∧ src = s.fld R.TIM_CFG_PRIMARY
      (s.time.active = src → ∃ t, exec (.timeSample src off) s = .next t ∧ sampled t s.time.good s.time.bad) ∧
      (s.time.active = 0 → src = s.fld R.TIM_CFG_PRIMARY ∨ s.time.holdover = true → ∃ t, exec (.timeSample src off) s = .next t ∧ moved t) ∧
      (other → s.time.primaryBack + 1 < 16 → exec (.timeSample src off) s =
        .next { s with time := { s.time with primaryBack := s.time.primaryBack + 1, gone := s.time.gone.filter (· != src) } }) ∧
      (other → 16 ≤ s.time.primaryBack + 1 → ∃ t, exec (.timeSample src off) s = .next t ∧ moved t)) ∧
    (∀ src, s.up = true → src ≠ 0 → s.time.active = src →
      let primary := s.fld R.TIM_CFG_PRIMARY
      let backup := s.fld R.TIM_CFG_BACKUP
      let other := if src = primary then backup else primary
      let usable := other ≠ 0 ∧ other ≠ src ∧ s.time.gone.contains other = false
      src = primary ∨ src = backup →
      (usable →
        ∃ t, exec (.timeSourceLost src) s = .next t ∧ t.time.active = other ∧ t.time.gone.contains src = true ∧ t.time.locked = false ∧ t.time.holdover = false ∧
          sat R.TIM_COUNTS_SWITCHES t ∧ (s.time.locked = true → sat R.TIM_COUNTS_UNLOCKS t)) ∧
      (¬ usable →
        ∃ t, exec (.timeSourceLost src) s = .next t ∧ t.time.active = 0 ∧ t.time.locked = false ∧ t.time.holdover = true ∧
          t.flag R.TIM_STATUS_HOLDOVER = true ∧ t.time.ppb = max (-250000) (min 250000 s.time.meanRate) ∧
          (s.time.locked = false ∨ s.flag R.HRT_FWD_FORWARD = false → LoggedAt s t Code.TIME_HOLDOVER timUnit))) ∧
    (s.up = true → s.fld R.TIM_CFG_PRIMARY ≠ 3 → s.fld R.TIM_CFG_BACKUP ≠ 3 →
      ∃ t, exec .ppsInEdge s = .next t ∧ t = { s with regs := t.regs, pins := { s.pins with ppsIn := true } } ∧ t.fld R.TIM_PPS_IN_NS = s.nowNs) ∧
    (s.up = true → s.fld R.TIM_CFG_PRIMARY = 3 → s.time.active = 3 → 9 ≤ s.boot.stage →
      ∃ t, exec .ppsInEdge s = .next t ∧ t.fld R.TIM_PPS_IN_NS = s.nowNs ∧ t.fld R.TIM_STATUS_OFFSET = wrapInt 32 (ppsOffset s.nowNs)) ∧
    (s.up = true → s.flag R.TIM_PPS_CTL_OUT_EN = true → s.atSecond = true →
      exec .ppsOutPulse s = .next { s with pins := { s.pins with ppsOut := true }, time := { s.time with ppsAt := s.time.ns } }) ∧
    (s.time.ppsAt + 1000 * s.fld R.TIM_PPS_CTL_WIDTH_US ≤ s.time.ns → exec .ppsOutEnd s = .next { s with pins := { s.pins with ppsOut := false } }) ∧
    (s.time.ns < s.time.ppsAt + 1000 * s.fld R.TIM_PPS_CTL_WIDTH_US → exec .ppsOutEnd s = .next s)

/-- A step runs the command at the front of the queue; on an empty queue one period passes. For every command c and state s, a step of s with c at the front of its queue is exec c on s with the queue's rest. On an empty queue (the model's choice, log entry 6) the block runs for one period of the reference oscillator: a powered and released device advances its device time and its elapsed count alike by 6.4 ns with the servo's correction. Before start-up step 5, and inside a microsecond, nothing else changes while no item waits to run again; at each microsecond of a running device with no request waiting for a TAG, the pace registers take the window's readings, RATE, the least since the last read, and the core voltage (free values, but that no die at or below 110 °C runs slower than Table 2-1 gives its voltage), and nothing else changes. A held device stays as it is. (R38, R41, R520, R522, Table 2-2, Table 18-2.) -/
def Obligations.StepRunsFront : Prop :=
  (∀ (c : Instr) (s : State), step { s with pending := c :: s.pending } = exec c s) ∧
    ∀ s : State, s.pending = [] →
      let d := (64000000000 + 64 * s.time.ppb).toNat
      let aged := { s with time := { s.time with now := (s.time.now + d) % (2 ^ 64 * 10000000000), elapsed := s.time.elapsed + d } }
      let crosses := s.time.elapsed / 10000000000000 < (s.time.elapsed + d) / 10000000000000
      (s.pins.modPwrgd = true → s.pins.released = true →
        (s.up = false → step s = .next aged) ∧
        (s.up = true → (∀ e ∈ s.items, e.2.phase ≠ .reissued) →
          (¬ crosses → step s = .next aged) ∧
          (crosses → s.tagWait = [] →
            ∃ t, step s = .next t ∧ t = { aged with regs := t.regs, fresh := t.fresh } ∧
              (∀ d < 4, t.fld R.GLB_PACE_CD_MIN_RATE [d] = min (t.fld R.GLB_PACE_CD_RATE [d]) (s.fld R.GLB_PACE_CD_MIN_RATE [d])) ∧
              t.fld R.GLB_PACE_HUB_MIN_RATE = min (t.fld R.GLB_PACE_HUB_RATE) (s.fld R.GLB_PACE_HUB_MIN_RATE) ∧
              (∀ d < 4, t.leastRate d (t.fld R.GLB_PACE_CD_VCORE_MV [d]) ≤ t.fld R.GLB_PACE_CD_RATE [d]) ∧
              t.leastRate 4 (t.fld R.GLB_PACE_HUB_VCORE_MV) ≤ t.fld R.GLB_PACE_HUB_RATE ∧
              ∀ o, o ∉ [0, 1, 2, 3].map (fun d => R.GLB_PACE_CD_RATE.at [d]) ++ [R.GLB_PACE_HUB_RATE.base] → FMap.find? o t.regs = FMap.find? o s.regs))) ∧
      (s.pins.modPwrgd = false ∨ s.pins.released = false → step s = .next s)

/-- What reset leaves. After reset every register field reads its Reset column, a stochastic rounding width of 16 bits, queues of 16 entries, a scrub period of 24 hours, a trip limit of 110 degrees and the twelve ports, rim and 2,000 W envelope of an EV7-F among them (that the module is one is the model's choice, log 2); no byte of memory has been written, and every word, off-chip ones with them, counts as poisoned with bytes 0 until it is (log 11, the model's choice for what the tiers hold); no item, step, request or command is in flight; both time counts are 0; MOD_READY is low, the alert and trip pins are high; and the state has its canonical form. (The unit is unpowered: a register without a Reset column reads 0 until start-up, which is the model's choice, log entry 1.) (R287, R304, R405, R520, R522, Table 0-2, Table 1-2, Table 4-10, Table 11-11, Table 17-6.) -/
def Obligations.ResetState : Prop :=
  let s := State.reset
  s.canon = true ∧ s.up = false ∧ s.pending = [] ∧ s.items = [] ∧ s.cols = [] ∧ s.reqs = [] ∧ s.out = [] ∧
    (∀ f ix, s.fld f ix = bits f.rst.toNat f.lo f.w) ∧
    (∀ die l, s.fld R.TIL_NUM_CTL_SR_BITS [die, l] = 16 ∧ s.fld R.TIL_NUM_CTL_RND [die, l] = 0) ∧ (∀ q, s.fld R.WQS_W0_LOG2_N [q] = 4 ∧ s.fld R.WQS_W2_PI [q] = 0) ∧
    s.fld R.GLB_CAPS_NLK_PORTS = 0xFFF ∧ s.fld R.GLB_CAPS_RIM_PRESENT = 1 ∧ s.fld R.GLB_CAPS_ENVELOPE_W = 2000 ∧ s.fld R.GLB_CAPS_VARIANT = 1 ∧
    s.fld R.ERL_SCRUB_PERIOD_H = 24 ∧ s.fld R.NRG_ENVELOPE_TRIP_C = 110 ∧ s.fld R.TIM_PPS_CTL_WIDTH_US = 100000 ∧
    (∀ a, s.mem.written a = false ∧ s.mem.byteAt a = 0) ∧ (∀ w, s.mem.wordPoison w = true) ∧ s.nowNs = 0 ∧ s.elapsedNs = 0 ∧
    s.pins.modReady = false ∧ s.pins.thermAlertN = true ∧ s.pins.thermTripN = true

/-- Every step keeps the canonical form of the state. From every state in canonical form, whatever command stands at the front of the queue, a step leaves a state in canonical form: register words, written bytes, poison marks, items and the registers of every reed core each stand once, by strictly rising number, so that what a read delivers is what the last write left. (R269, R287, R295, R403, R412.) -/
def Obligations.CanonKept : Prop :=
  ∀ s t : State, s.canon = true → step s = .next t → t.canon = true
end

