-- ==== Sys2Proof/Laws/Bits.lean ====
section
/-! SUPPORT. Bit fields of words: a field written is read back, and the fields beside it stay. -/

namespace Sys2Proof.Machine

/-- A field read is below its size. -/
theorem bits_lt (n lo w : Nat) : bits n lo w < 2 ^ w := Nat.mod_lt _ (Nat.two_pow_pos w)

/-- What is put in a field is read back. -/
theorem bits_putBits_self (n lo w v : Nat) : bits (putBits n lo w v) lo w = v % 2 ^ w := by
  unfold bits putBits
  have hp : 0 < 2 ^ lo := Nat.two_pow_pos lo
  have e : n % 2 ^ lo + v % 2 ^ w * 2 ^ lo + n / 2 ^ (lo + w) * 2 ^ (lo + w)
      = n % 2 ^ lo + 2 ^ lo * (v % 2 ^ w + 2 ^ w * (n / 2 ^ (lo + w))) := by
    rw [Nat.pow_add]; ring
  rw [e, Nat.add_mul_div_left _ _ hp, Nat.div_eq_of_lt (Nat.mod_lt _ hp), Nat.zero_add, Nat.add_mul_mod_self_left, Nat.mod_mod]

/-- A field below the one written stays. -/
theorem bits_putBits_below {n lo w v lo' w' : Nat} (h : lo' + w' ≤ lo) : bits (putBits n lo w v) lo' w' = bits n lo' w' := by
  unfold bits putBits
  obtain ⟨k, rfl⟩ : ∃ k, lo = lo' + w' + k := ⟨lo - (lo' + w'), by omega⟩
  have hp : 0 < 2 ^ lo' := Nat.two_pow_pos lo'
  have e : n % 2 ^ (lo' + w' + k) + v % 2 ^ w * 2 ^ (lo' + w' + k) + n / 2 ^ (lo' + w' + k + w) * 2 ^ (lo' + w' + k + w)
      = n % 2 ^ (lo' + w' + k) + 2 ^ lo' * (2 ^ w' * (2 ^ k * (v % 2 ^ w + n / 2 ^ (lo' + w' + k + w) * 2 ^ w))) := by
    simp only [Nat.pow_add]; ring
  rw [e, Nat.add_mul_div_left _ _ hp, Nat.add_mul_mod_self_left]
  rw [show lo' + w' + k = lo' + (w' + k) by omega, Nat.pow_add, Nat.mod_mul_right_div_self, Nat.pow_add]
  exact Nat.mod_mul_right_mod _ _ _

/-- A field above the one written stays. -/
theorem bits_putBits_above {n lo w v lo' w' : Nat} (h : lo + w ≤ lo') : bits (putBits n lo w v) lo' w' = bits n lo' w' := by
  unfold bits putBits
  obtain ⟨k, rfl⟩ : ∃ k, lo' = lo + w + k := ⟨lo' - (lo + w), by omega⟩
  have hlt : n % 2 ^ lo + v % 2 ^ w * 2 ^ lo < 2 ^ (lo + w) := by
    have h1 := Nat.mod_lt n (Nat.two_pow_pos lo)
    have h2 := Nat.mod_lt v (Nat.two_pow_pos w)
    rw [Nat.pow_add]
    have : (v % 2 ^ w + 1) * 2 ^ lo ≤ 2 ^ w * 2 ^ lo := Nat.mul_le_mul_right _ h2
    nlinarith
  rw [Nat.pow_add 2 (lo + w) k, ← Nat.div_div_eq_div_mul, ← Nat.div_div_eq_div_mul,
    Nat.mul_comm (n / 2 ^ (lo + w)), Nat.add_mul_div_left _ _ (Nat.two_pow_pos _), Nat.div_eq_of_lt hlt, Nat.zero_add]

/-- A word with a field replaced is still a word. -/
theorem putBits_lt {n lo w v k : Nat} (hn : n < 2 ^ k) (h : lo + w ≤ k) : putBits n lo w v < 2 ^ k := by
  unfold putBits
  obtain ⟨j, rfl⟩ : ∃ j, k = lo + w + j := ⟨k - (lo + w), by omega⟩
  have hq : n / 2 ^ (lo + w) < 2 ^ j := by
    rw [Nat.div_lt_iff_lt_mul (Nat.two_pow_pos _), Nat.mul_comm, ← Nat.pow_add]; exact hn
  have h1 := Nat.mod_lt n (Nat.two_pow_pos lo)
  have h2 := Nat.mod_lt v (Nat.two_pow_pos w)
  have h3 : (v % 2 ^ w + 1) * 2 ^ lo ≤ 2 ^ w * 2 ^ lo := Nat.mul_le_mul_right _ h2
  have h4 : (n / 2 ^ (lo + w) + 1) * 2 ^ (lo + w) ≤ 2 ^ j * 2 ^ (lo + w) := Nat.mul_le_mul_right _ hq
  have e1 : 2 ^ (lo + w) = 2 ^ w * 2 ^ lo := by rw [Nat.pow_add, Nat.mul_comm]
  have e2 : 2 ^ (lo + w + j) = 2 ^ j * 2 ^ (lo + w) := by rw [Nat.pow_add, Nat.mul_comm]
  rw [e2]
  nlinarith

@[simp] theorem b2n_true : b2n true = 1 := rfl
@[simp] theorem b2n_false : b2n false = 0 := rfl
theorem b2n_lt (b : Bool) : b2n b < 2 := by cases b <;> decide
@[simp] theorem b2n_beq_one (b : Bool) : (b2n b == 1) = b := by cases b <;> rfl

end Sys2Proof.Machine
end

