-- ==== Sys2Proof/Laws/Map.lean ====
section
/-! SUPPORT. Finite maps: what a read gives after a write or a removal, and that the keys stay strictly rising. -/

namespace Sys2Proof.Machine

variable {α : Type}

@[simp] theorem FMap.find?_nil (k : Nat) : FMap.find? k ([] : FMap α) = none := rfl

/-- What is written is read back. -/
@[simp] theorem FMap.find?_put_self (k : Nat) (v : α) (m : FMap α) : FMap.find? k (FMap.put k v m) = some v := by
  induction m with
  | nil => simp [FMap.put, FMap.find?]
  | cons e t ih =>
    obtain ⟨k', v'⟩ := e
    unfold FMap.put
    split
    · have : k' ≠ k := by omega
      have h2 : ¬ k < k' := by omega
      simp [FMap.find?, this, h2, ih]
    · split <;> simp [FMap.find?]

/-- A write leaves every other key as it was. -/
theorem FMap.find?_put_ne {k j : Nat} (h : j ≠ k) (v : α) (m : FMap α) : FMap.find? j (FMap.put k v m) = FMap.find? j m := by
  induction m with
  | nil => simp [FMap.put, FMap.find?]; omega
  | cons e t ih =>
    obtain ⟨k', v'⟩ := e
    unfold FMap.put
    split
    · simp only [FMap.find?]; split <;> [rfl; (split <;> [rfl; exact ih])]
    · split
      · subst k'; simp only [FMap.find?]
        have : k ≠ j := fun h' => h h'.symm
        simp [this]
      · simp only [FMap.find?]
        have : k ≠ j := fun h' => h h'.symm
        simp only [this, if_false]
        by_cases hj : j < k
        · have : k' ≠ j := by omega
          have : j < k' := by omega
          simp [*]
        · simp [hj]

theorem FMap.find?_put (k j : Nat) (v : α) (m : FMap α) :
    FMap.find? j (FMap.put k v m) = if j = k then some v else FMap.find? j m := by
  split
  · subst j; simp
  · exact FMap.find?_put_ne ‹_› v m

/-- Every key of the map is above `lo`. -/
theorem FMap.sortedFrom_tail {lo : Option Nat} {e : Nat × α} {t : FMap α} (h : FMap.sortedFrom lo (e :: t) = true) :
    FMap.sortedFrom (some e.1) t = true := by
  cases lo <;> simp_all [FMap.sortedFrom]

theorem FMap.sortedFrom_weaken {lo hi : Nat} (hl : lo ≤ hi) {m : FMap α} (h : FMap.sortedFrom (some hi) m = true) :
    FMap.sortedFrom (some lo) m = true := by
  cases m with
  | nil => rfl
  | cons e t =>
    simp only [FMap.sortedFrom, Bool.and_eq_true, decide_eq_true_eq] at *
    exact ⟨by omega, h.2⟩

theorem FMap.sorted_of_from {lo : Nat} {m : FMap α} (h : FMap.sortedFrom (some lo) m = true) : FMap.sorted m = true := by
  cases m with
  | nil => rfl
  | cons e t => simp_all [FMap.sorted, FMap.sortedFrom]

/-- No key at or below the bound is listed. -/
theorem FMap.find?_le {lo k : Nat} {m : FMap α} (h : FMap.sortedFrom (some lo) m = true) (hk : k ≤ lo) : FMap.find? k m = none := by
  cases m with
  | nil => rfl
  | cons e t =>
    obtain ⟨k', v'⟩ := e
    simp only [FMap.sortedFrom, Bool.and_eq_true, decide_eq_true_eq] at h
    have : k' ≠ k := by omega
    have h2 : k < k' := by omega
    simp [FMap.find?, this, h2]

theorem FMap.sortedFrom_put {lo k : Nat} (hk : lo < k) (v : α) {m : FMap α} (h : FMap.sortedFrom (some lo) m = true) :
    FMap.sortedFrom (some lo) (FMap.put k v m) = true := by
  induction m generalizing lo with
  | nil => simp [FMap.put, FMap.sortedFrom, hk]
  | cons e t ih =>
    obtain ⟨k', v'⟩ := e
    simp only [FMap.sortedFrom, Bool.and_eq_true, decide_eq_true_eq] at h
    unfold FMap.put
    split
    · simp only [FMap.sortedFrom, Bool.and_eq_true, decide_eq_true_eq]
      exact ⟨h.1, ih (by assumption) h.2⟩
    · split
      · subst k'; simp [FMap.sortedFrom, h]
      · have hlt : k < k' := by omega
        simp [FMap.sortedFrom, hk, hlt, h.2]

/-- A write keeps the keys strictly rising. -/
theorem FMap.sorted_put (k : Nat) (v : α) {m : FMap α} (h : FMap.sorted m = true) : FMap.sorted (FMap.put k v m) = true := by
  cases m with
  | nil => rfl
  | cons e t =>
    obtain ⟨k', v'⟩ := e
    have ht : FMap.sortedFrom (some k') t = true := h
    unfold FMap.put
    split
    · exact FMap.sortedFrom_put (by assumption) v ht
    · split
      · subst k'; exact ht
      · simp only [FMap.sorted, FMap.sortedFrom, Bool.and_eq_true, decide_eq_true_eq]
        exact ⟨by omega, ht⟩

theorem FMap.sortedFrom_del (k : Nat) {lo : Nat} {m : FMap α} (h : FMap.sortedFrom (some lo) m = true) :
    FMap.sortedFrom (some lo) (FMap.del k m) = true := by
  induction m generalizing lo with
  | nil => rfl
  | cons e t ih =>
    obtain ⟨k', v'⟩ := e
    simp only [FMap.sortedFrom, Bool.and_eq_true, decide_eq_true_eq] at h
    unfold FMap.del
    split
    · simp only [FMap.sortedFrom, Bool.and_eq_true, decide_eq_true_eq]; exact ⟨h.1, ih h.2⟩
    · split
      · exact FMap.sortedFrom_weaken (by omega) h.2
      · simp [FMap.sortedFrom, h]

/-- A removal keeps the keys strictly rising. -/
theorem FMap.sorted_del (k : Nat) {m : FMap α} (h : FMap.sorted m = true) : FMap.sorted (FMap.del k m) = true := by
  cases m with
  | nil => rfl
  | cons e t =>
    obtain ⟨k', v'⟩ := e
    have ht : FMap.sortedFrom (some k') t = true := h
    unfold FMap.del
    split
    · exact FMap.sortedFrom_del k ht
    · split
      · exact FMap.sorted_of_from ht
      · exact h

/-- A removed key is not listed. -/
theorem FMap.find?_del_self (k : Nat) {m : FMap α} (h : FMap.sorted m = true) : FMap.find? k (FMap.del k m) = none := by
  suffices H : ∀ (m : FMap α) (lo : Option Nat), FMap.sortedFrom lo m = true → FMap.find? k (FMap.del k m) = none from H m none h
  intro m
  induction m with
  | nil => intros; rfl
  | cons e t ih =>
    intro lo h
    obtain ⟨k', v'⟩ := e
    have ht := FMap.sortedFrom_tail h
    unfold FMap.del
    split
    · have h1 : k' ≠ k := by omega
      have h2 : ¬ k < k' := by omega
      simp [FMap.find?, h1, h2, ih _ ht]
    · split
      · subst k'; exact FMap.find?_le ht (Nat.le_refl k)
      · have h1 : k' ≠ k := by assumption
        have h2 : k < k' := by omega
        simp [FMap.find?, h1, h2]

/-- A removal leaves every other key as it was. -/
theorem FMap.find?_del_ne {k j : Nat} (h : j ≠ k) {m : FMap α} (hs : FMap.sorted m = true) : FMap.find? j (FMap.del k m) = FMap.find? j m := by
  suffices H : ∀ (m : FMap α) (lo : Option Nat), FMap.sortedFrom lo m = true → FMap.find? j (FMap.del k m) = FMap.find? j m from H m none hs
  intro m
  induction m with
  | nil => intros; rfl
  | cons e t ih =>
    intro lo hs
    obtain ⟨k', v'⟩ := e
    have ht := FMap.sortedFrom_tail hs
    unfold FMap.del
    split
    · simp only [FMap.find?]; rw [ih _ ht]
    · split
      · subst k'
        have h1 : k ≠ j := fun h' => h h'.symm
        simp only [FMap.find?, h1, if_false]
        split
        · exact FMap.find?_le ht (by omega)
        · rfl
      · rfl

/-- A filter keeps the keys strictly rising. -/
theorem FMap.sortedFrom_filter (p : Nat × α → Bool) {lo : Nat} {m : FMap α} (h : FMap.sortedFrom (some lo) m = true) :
    FMap.sortedFrom (some lo) (List.filter p m) = true := by
  induction m generalizing lo with
  | nil => rfl
  | cons e t ih =>
    obtain ⟨k', v'⟩ := e
    simp only [FMap.sortedFrom, Bool.and_eq_true, decide_eq_true_eq] at h
    simp only [List.filter]
    split
    · simp only [FMap.sortedFrom, Bool.and_eq_true, decide_eq_true_eq]; exact ⟨h.1, ih h.2⟩
    · exact ih (FMap.sortedFrom_weaken (by omega) h.2)

theorem FMap.sorted_filter (p : Nat × α → Bool) {m : FMap α} (h : FMap.sorted m = true) : FMap.sorted (List.filter p m) = true := by
  cases m with
  | nil => rfl
  | cons e t =>
    obtain ⟨k', v'⟩ := e
    have ht : FMap.sortedFrom (some k') t = true := h
    simp only [List.filter]
    split
    · exact FMap.sortedFrom_filter p ht
    · exact FMap.sorted_of_from (FMap.sortedFrom_filter p ht)

/-- Changed values keep the keys strictly rising. -/
theorem FMap.sortedFrom_mapVals {β : Type} (f : Nat → α → β) {lo : Option Nat} {m : FMap α} (h : FMap.sortedFrom lo m = true) :
    FMap.sortedFrom lo (FMap.mapVals f m) = true := by
  induction m generalizing lo with
  | nil => cases lo <;> rfl
  | cons e t ih =>
    have ht := ih (FMap.sortedFrom_tail h)
    cases lo <;> simp_all [FMap.sortedFrom, FMap.mapVals]

section
variable [DecidableEq α]

/-- A value set is read back, the default included. -/
theorem FMap.getD_setD_self {m : FMap α} (hs : FMap.sorted m = true) (k : Nat) (d v : α) : FMap.getD (FMap.setD m k d v) k d = v := by
  unfold FMap.setD FMap.getD
  split
  · rw [FMap.find?_del_self k hs]; simp_all
  · simp

/-- Setting a value leaves every other key as it was. -/
theorem FMap.getD_setD_ne {m : FMap α} (hs : FMap.sorted m = true) {k j : Nat} (h : j ≠ k) (d v d' : α) :
    FMap.getD (FMap.setD m k d v) j d' = FMap.getD m j d' := by
  unfold FMap.setD FMap.getD
  split
  · rw [FMap.find?_del_ne h hs]
  · rw [FMap.find?_put_ne h]

theorem FMap.find?_setD_ne {m : FMap α} (hs : FMap.sorted m = true) {k j : Nat} (h : j ≠ k) (d v : α) :
    FMap.find? j (FMap.setD m k d v) = FMap.find? j m := by
  unfold FMap.setD
  split
  · exact FMap.find?_del_ne h hs
  · exact FMap.find?_put_ne h v m

/-- Setting a value keeps the keys strictly rising. -/
theorem FMap.sorted_setD {m : FMap α} (hs : FMap.sorted m = true) (k : Nat) (d v : α) : FMap.sorted (FMap.setD m k d v) = true := by
  unfold FMap.setD
  split
  · exact FMap.sorted_del k hs
  · exact FMap.sorted_put k v hs

end

end Sys2Proof.Machine
end

