-- ==== Sys2Proof/Laws/Regs.lean ====
section
/-! SUPPORT. Register fields: a field written is read back, and every other field stays. -/

namespace Sys2Proof.Machine
open Sys2Proof

/-- A field lies within a 64-bit word. -/
abbrev Fld.fits (f : Fld) : Prop := f.lo + f.w ≤ 64

/-- A field set is read back, cut to its width. -/
theorem State.fld_setFld_self {s : State} (hs : FMap.sorted s.regs = true) (f : Fld) (hf : f.fits) (v : Nat) (ix : List Nat) :
    (s.setFld f v ix).fld f ix = v % 2 ^ f.w := by
  unfold State.fld State.setFld
  simp only [FMap.getD_setD_self hs]
  rw [BitVec.toNat_ofNat, Nat.mod_eq_of_lt (putBits_lt (BitVec.isLt _) hf), bits_putBits_self]

/-- Setting a field leaves the fields of every other register. -/
theorem State.fld_setFld_ne {s : State} (hs : FMap.sorted s.regs = true) {f g : Fld} {ix jx : List Nat} (h : g.at jx ≠ f.at ix) (v : Nat) :
    (s.setFld f v ix).fld g jx = s.fld g jx := by
  unfold State.fld State.setFld
  simp only [FMap.getD_setD_ne hs h]

/-- Setting a field leaves the other fields of its register. -/
theorem State.fld_setFld_beside {s : State} (hs : FMap.sorted s.regs = true) {f g : Fld} (hf : f.fits) {ix jx : List Nat}
    (ha : g.at jx = f.at ix) (hr : g.rst = f.rst) (h : g.lo + g.w ≤ f.lo ∨ f.lo + f.w ≤ g.lo) (v : Nat) :
    (s.setFld f v ix).fld g jx = s.fld g jx := by
  unfold State.fld State.setFld
  rw [ha, hr]
  simp only [FMap.getD_setD_self hs]
  rw [BitVec.toNat_ofNat, Nat.mod_eq_of_lt (putBits_lt (BitVec.isLt _) hf)]
  rcases h with h | h
  · exact bits_putBits_below h
  · exact bits_putBits_above h

/-- Setting a field keeps the register words in canonical order. -/
theorem State.setFld_sorted {s : State} (hs : FMap.sorted s.regs = true) (f : Fld) (v : Nat) (ix : List Nat) :
    FMap.sorted (s.setFld f v ix).regs = true := FMap.sorted_setD hs _ _ _

/-- Setting a field leaves every other register word as it was. -/
theorem State.setFld_find? {s : State} (hs : FMap.sorted s.regs = true) (f : Fld) (v : Nat) (ix : List Nat) {o : Nat} (h : o ≠ f.at ix) :
    FMap.find? o (s.setFld f v ix).regs = FMap.find? o s.regs := FMap.find?_setD_ne hs h _ _

/-- A field is below its size. -/
theorem State.fld_lt (s : State) (f : Fld) (ix : List Nat) : s.fld f ix < 2 ^ f.w := bits_lt _ _ _

theorem State.setFlag_eq (s : State) (f : Fld) (b : Bool) (ix : List Nat) : s.setFlag f b ix = s.setFld f (b2n b) ix := rfl
theorem State.bump_eq (s : State) (f : Fld) (ix : List Nat) (d : Nat) : s.bump f ix d = s.setFld f (s.fld f ix + d) ix := rfl
theorem State.bumpSat_eq (s : State) (f : Fld) (ix : List Nat) (d : Nat) : s.bumpSat f ix d = s.setFld f (satInc f.w (s.fld f ix) d) ix := rfl

/-- A flag set is read back. -/
theorem State.flag_setFlag_self {s : State} (hs : FMap.sorted s.regs = true) (f : Fld) (hf : f.fits) (hw : 0 < f.w) (b : Bool) (ix : List Nat) :
    (s.setFlag f b ix).flag f ix = b := by
  unfold State.flag
  rw [State.setFlag_eq, State.fld_setFld_self hs f hf]
  have : (2:Nat) ^ 1 ≤ 2 ^ f.w := Nat.pow_le_pow_right (by omega) hw
  rw [Nat.mod_eq_of_lt (Nat.lt_of_lt_of_le (b2n_lt b) this), b2n_beq_one]

end Sys2Proof.Machine
end

