-- ==== Sys2Proof/Laws/Canon.lean ====
section
/-! SUPPORT. What keeps the canonical form of a state: one lemma for each update of a field it speaks of, and for the shared operations built on them. -/

namespace Sys2Proof.Machine
open Sys2Proof

/-- The four parts of the canonical form. -/
theorem State.canon_iff (s : State) : s.canon = true ↔
    FMap.sorted s.regs = true ∧ s.mem.wf = true ∧ FMap.sorted s.items = true ∧ s.reeds.all (fun e => e.2.canon) = true := by
  simp only [State.canon, Bool.and_eq_true, and_assoc]

/-- A canonical state lists its register words by rising offset. -/
theorem State.canon_regs {s : State} (h : s.canon = true) : FMap.sorted s.regs = true := ((State.canon_iff s).1 h).1

/-- A canonical state's memory is in canonical form. -/
theorem State.canon_mem {s : State} (h : s.canon = true) : s.mem.wf = true := ((State.canon_iff s).1 h).2.1

/-- A canonical state lists its items by rising number. -/
theorem State.canon_items {s : State} (h : s.canon = true) : FMap.sorted s.items = true := ((State.canon_iff s).1 h).2.2.1

/-- Only the register words, the written bytes, the poison marks, the items and the cores matter. -/
theorem State.canon_congr {s t : State} (hr : t.regs = s.regs) (hc : t.mem.cells = s.mem.cells) (hp : t.mem.poison = s.mem.poison)
    (hi : t.items = s.items) (hd : t.reeds = s.reeds) : t.canon = s.canon := by
  simp only [State.canon, Mem.wf, hr, hc, hp, hi, hd]

/-- New register words in rising order keep the form. -/
theorem State.canon_regs_set {s : State} (h : s.canon = true) {m : FMap Word} (hm : FMap.sorted m = true) : { s with regs := m }.canon = true := by
  rw [State.canon_iff] at *
  exact ⟨hm, h.2⟩

/-- A new memory in canonical form keeps the form. -/
theorem State.canon_mem_set {s : State} (h : s.canon = true) {m : Mem} (hm : m.wf = true) : { s with mem := m }.canon = true := by
  rw [State.canon_iff] at *
  exact ⟨h.1, hm, h.2.2⟩

/-- New items in rising order keep the form. -/
theorem State.canon_items_set {s : State} (h : s.canon = true) {m : FMap Item} (hm : FMap.sorted m = true) : { s with items := m }.canon = true := by
  rw [State.canon_iff] at *
  exact ⟨h.1, h.2.1, hm, h.2.2.2⟩

/-- A field set by hardware keeps the form. -/
theorem State.canon_setFld {s : State} (h : s.canon = true) (f : Fld) (v : Nat) (ix : List Nat) : (s.setFld f v ix).canon = true :=
  State.canon_regs_set h (State.setFld_sorted (State.canon_regs h) f v ix)

theorem State.canon_setFlag {s : State} (h : s.canon = true) (f : Fld) (b : Bool) (ix : List Nat) : (s.setFlag f b ix).canon = true :=
  State.canon_setFld h f _ ix

theorem State.canon_bump {s : State} (h : s.canon = true) (f : Fld) (ix : List Nat) (d : Nat) : (s.bump f ix d).canon = true := State.canon_setFld h f _ ix

theorem State.canon_bumpSat {s : State} (h : s.canon = true) (f : Fld) (ix : List Nat) (d : Nat) : (s.bumpSat f ix d).canon = true := State.canon_setFld h f _ ix

theorem State.canon_setFldBit {s : State} (h : s.canon = true) (f : Fld) (i : Nat) (b : Bool) (ix : List Nat) : (s.setFldBit f i b ix).canon = true :=
  State.canon_setFld h f _ ix

theorem State.canon_maxFld {s : State} (h : s.canon = true) (f : Fld) (v : Nat) (ix : List Nat) : (s.maxFld f v ix).canon = true := State.canon_setFld h f _ ix

theorem State.canon_mergeReg {s : State} (h : s.canon = true) (off : Nat) (mask val : Word) : (s.mergeReg off mask val).canon = true :=
  State.canon_regs_set h (FMap.sorted_setD (State.canon_regs h) _ _ _)

theorem State.canon_putReg {s : State} (h : s.canon = true) (f : Fld) (v : Nat) (ix : List Nat) : (s.putReg f v ix).canon = true :=
  State.canon_regs_set h (FMap.sorted_setD (State.canon_regs h) _ _ _)

/-- What is sent, what is free, the ports and the harts are no part of the form. -/
@[simp] theorem State.canon_emit (s : State) (o : Out) : (s.emit o).canon = s.canon := rfl
@[simp] theorem State.canon_free (s : State) : s.free.2.canon = s.canon := rfl
@[simp] theorem State.canon_setHart (s : State) (h : Nat) (v : Hart) : (s.setHart h v).canon = s.canon := rfl
@[simp] theorem State.canon_setPort (s : State) (k : Nat) (p : Port) : (s.setPort k p).canon = s.canon := rfl
@[simp] theorem State.canon_modPort (s : State) (k : Nat) (f : Port → Port) : (s.modPort k f).canon = s.canon := rfl
@[simp] theorem State.canon_pending (s : State) (l : List Instr) : { s with pending := l }.canon = s.canon := rfl

/-- A fold of operations that keep the form keeps it. -/
theorem State.canon_foldl {α : Type} {f : State → α → State} (hf : ∀ s a, s.canon = true → (f s a).canon = true) (l : List α) {s : State}
    (h : s.canon = true) : (l.foldl f s).canon = true := by
  induction l generalizing s with
  | nil => exact h
  | cons a t ih => exact ih (hf s a h)

theorem State.canon_each {f : State → Nat → State} (hf : ∀ s a, s.canon = true → (f s a).canon = true) (n : Nat) {s : State} (h : s.canon = true) :
    (s.each n f).canon = true := State.canon_foldl hf _ h

/-- Sending, delivering and logging keep the form. -/
theorem State.canon_sendRaw {s : State} (h : s.canon = true) (f : Flit) : (s.sendRaw f).1.canon = true := by
  unfold State.sendRaw
  split
  · exact State.canon_bumpSat h _ _ _
  · split
    · exact State.canon_bumpSat h _ _ _
    · exact h

theorem State.canon_deliver {s : State} (h : s.canon = true) (v : Nat) : (s.deliver v).canon = true := by
  unfold State.deliver
  simp only
  split
  · exact h
  · exact h

@[simp] theorem State.canon_markReg (s : State) (off : Nat) (b : Bool) : (s.markReg off b).canon = s.canon := rfl
@[simp] theorem State.canon_takeTag (s : State) (tag : Nat) : (s.takeTag tag).canon = s.canon := rfl

theorem State.canon_logEntry {s : State} (h : s.canon = true) (code unit sev epoch addr detail : Nat) (m : Bool) :
    (s.logEntry code unit sev epoch addr detail m).canon = true := by
  unfold State.logEntry
  extract_lets i full bytes s1 s2 s3 s4
  have h1 : s1.canon = true := State.canon_foldl (fun u k hu => State.canon_setFld (s := u.markReg _ _) hu _ _ _) _ h
  have h4 : s4.canon = true := State.canon_setFld (State.canon_bump (State.canon_setFld h1 _ _ _) _ _ _) _ _ _
  clear_value s4
  split
  · exact State.canon_bumpSat (State.canon_setFld h4 _ _ _) _ _ _
  · exact State.canon_bump h4 _ _ _

theorem State.canon_interruptRaw {s : State} (h : s.canon = true) (src v : Nat) : (s.interruptRaw src v).1.canon = true := by
  unfold State.interruptRaw
  split
  · split
    · exact h
    · extract_lets a b c d f
      have ha : a.canon = true := State.canon_setFldBit h _ _ _ _
      clear_value a
      split
      · exact ha
      · next tag _ =>
        have hz := State.canon_sendRaw (s := a.takeTag tag) ha { d tag with age := f.age }
        generalize (a.takeTag tag).sendRaw { d tag with age := f.age } = z at hz
        obtain ⟨z1, z2⟩ := z
        simp only
        split <;> exact hz
  · exact State.canon_deliver h v

/-- Bytes written keep memory's canonical form. -/
theorem Mem.wf_putBytes {m : Mem} (h : m.wf = true) (a : Nat) (l : List Byte) : (m.putBytes a l).wf = true := by
  induction l generalizing m a with
  | nil => exact h
  | cons b t ih =>
    unfold Mem.putBytes
    refine ih ?_ _
    simp only [Mem.wf, Bool.and_eq_true] at *
    exact ⟨FMap.sorted_put _ _ h.1, h.2⟩

/-- A poison mark keeps memory's canonical form. -/
theorem Mem.wf_mark {m : Mem} (h : m.wf = true) (w : Nat) (p : Bool) : (m.mark w p).wf = true := by
  simp only [Mem.wf, Mem.mark, Bool.and_eq_true] at *
  refine ⟨h.1, ?_⟩
  split
  · exact FMap.sorted_put _ _ h.2
  · exact FMap.sorted_del _ h.2

@[simp] theorem Mem.wf_dropReservations (m : Mem) (a n : Nat) : (m.dropReservations a n).wf = m.wf := rfl

/-- Words written with their marks keep memory's canonical form. -/
theorem Mem.wf_foldl {α : Type} {f : Mem → α → Mem} (hf : ∀ m a, m.wf = true → (f m a).wf = true) (l : List α) {m : Mem} (h : m.wf = true) :
    (l.foldl f m).wf = true := by
  induction l generalizing m with
  | nil => exact h
  | cons a t ih => exact ih (hf m a h)

theorem FMap.sortedFrom_append {α : Type} {lo : Option Nat} {a b : FMap α} (ha : FMap.sortedFrom lo a = true)
    (hb : FMap.sortedFrom lo b = true) (h : ∀ x ∈ a, ∀ y ∈ b, x.1 < y.1) : FMap.sortedFrom lo (a ++ b) = true := by
  induction a generalizing lo with
  | nil => exact hb
  | cons e t ih =>
    obtain ⟨k, v⟩ := e
    have hb' : FMap.sortedFrom (some k) b = true := by
      cases b with
      | nil => rfl
      | cons y u =>
        obtain ⟨j, w⟩ := y
        have hk : k < j := h (k, v) (List.mem_cons_self ..) (j, w) (List.mem_cons_self ..)
        cases lo <;> simp_all [FMap.sortedFrom]
    have ih' := ih (lo := some k) (FMap.sortedFrom_tail ha) hb' fun x hx y hy => h x (List.mem_cons_of_mem _ hx) y hy
    cases lo <;> simp_all [FMap.sortedFrom]

theorem FMap.sortedFrom_run {α : Type} (v : α) (n : Nat) : ∀ (a : Nat) (lo : Option Nat), (∀ k, lo = some k → k < a) →
    FMap.sortedFrom lo ((List.range' a n).map fun i => (i, v)) = true := by
  induction n with
  | zero => intro a lo _; cases lo <;> rfl
  | succ n ih =>
    intro a lo hlo
    have := ih (a + 1) (some a) (fun k hk => by cases hk; omega)
    cases lo with
    | none => simpa [List.range'_succ, FMap.sortedFrom] using this
    | some k => simpa [List.range'_succ, FMap.sortedFrom, hlo k rfl] using this

/-- A zeroed range keeps memory's canonical form (R276). -/
theorem Mem.wf_zeroRange {m : Mem} (h : m.wf = true) (a n : Nat) : (m.zeroRange a n).wf = true := by
  simp only [Mem.wf, Mem.zeroRange, Bool.and_eq_true] at *
  refine ⟨?_, FMap.sorted_filter _ h.2⟩
  have hr : (List.range n).map (fun i => (a + i, (0 : Byte))) = (List.range' a n).map fun i => (i, (0 : Byte)) := by
    rw [List.range'_eq_map_range, List.map_map]; rfl
  rw [hr]
  refine FMap.sortedFrom_append (FMap.sortedFrom_append (FMap.sorted_filter _ h.1) ?_ ?_) (FMap.sorted_filter _ h.1) ?_
  · exact FMap.sortedFrom_run 0 n a none (fun k hk => by cases hk)
  · intro x hx y hy
    simp only [FMap.keep, List.mem_filter, decide_eq_true_eq] at hx
    simp only [List.mem_map, List.mem_range'_1] at hy
    obtain ⟨i, hi, rfl⟩ := hy
    simp only
    omega
  · intro x hx y hy
    simp only [FMap.keep, List.mem_filter, decide_eq_true_eq] at hy
    simp only [FMap.keep, List.mem_append, List.mem_filter, List.mem_map, List.mem_range'_1, decide_eq_true_eq] at hx
    rcases hx with hx | ⟨i, hi, rfl⟩
    · omega
    · simp only; omega

/-- The warm reset keeps memory's canonical form (R502). -/
theorem Mem.wf_warm {m : Mem} (h : m.wf = true) (stk rim : Bool) : (m.warm stk rim).wf = true := by
  simp only [Mem.wf, Mem.warm, Bool.and_eq_true] at *
  exact ⟨FMap.sorted_filter _ h.1, FMap.sorted_filter _ h.2⟩

/-- An armed injection spent is no part of the form. -/
theorem State.canon_injected {s : State} (h : s.canon = true) (l : Nat) : (s.injected l).2.canon = true := by
  unfold State.injected
  split
  · split
    · exact State.canon_mem_set (s := s.free.2) ((State.canon_free s).trans h) (State.canon_mem h)
    · exact h
  · exact h

/-- A choice of two states that have the form has it. -/
theorem State.canon_ite {p : Prop} [Decidable p] {t u : State} (ht : t.canon = true) (hu : u.canon = true) : (if p then t else u).canon = true := by
  split
  · exact ht
  · exact hu

/-- A line's bytes and marks put in place keep memory's canonical form. -/
theorem Mem.wf_putLine {m : Mem} (h : m.wf = true) (a w : Nat) (l : List Byte) (g : Nat → Bool) :
    ((List.range 8).foldl (fun m i => m.mark (w + i) (g i)) ((m.putBytes a l).dropReservations a 64)).wf = true :=
  Mem.wf_foldl (fun _ _ hm => Mem.wf_mark hm _ _) _ (Mem.wf_putBytes h a l)

theorem State.canon_tierAccess {s : State} (h : s.canon = true) (sp : Spot) : (s.tierAccess sp).canon = true := by
  unfold State.tierAccess
  extract_lets ix u
  have hu : u.canon = true := State.canon_bump h _ _ _
  clear_value u
  have hf : u.free.2.canon = true := (State.canon_free u).trans hu
  refine State.canon_ite (State.canon_ite (State.canon_ite ?_ hf) hu) h
  exact State.canon_bumpSat hf _ _ _

/-- Only the bytes and the marks matter to memory's canonical form. -/
theorem Mem.wf_congr {m n : Mem} (hc : n.cells = m.cells) (hp : n.poison = m.poison) : n.wf = m.wf := by
  simp only [Mem.wf, hc, hp]

/-- A line written at its home keeps the form. -/
theorem State.canon_storeHome {s : State} (h : s.canon = true) (a : Nat) (data : List Byte) (p : Nat) : (s.storeHome a data p).canon = true := by
  unfold State.storeHome
  extract_lets b m1 m2
  split
  · have hm : m2.wf = true := Mem.wf_putLine (State.canon_mem h) _ _ _ fun i => bit p i
    clear_value m2
    exact State.canon_mem_set h ((Mem.wf_congr rfl rfl).trans hm)
  · next sp _ =>
    refine State.canon_ite h ?_
    extract_lets u inj v errs m3 m4
    have hv : v.canon = true := State.canon_injected (State.canon_tierAccess h sp) (b / 64)
    clear_value v errs
    have hm : m4.wf = true := Mem.wf_putLine (State.canon_mem hv) b (b / 8) (padTo 64 data) fun _ => p % 256 != 0
    clear_value m4
    exact State.canon_mem_set hv ((Mem.wf_congr rfl rfl).trans hm)

/-- An entry of the error log, with its mirror and its interrupt, keeps the form. -/
theorem State.canon_logMirrored {s : State} (h : s.canon = true) (code unit sev epoch addr detail : Nat) :
    (s.logMirrored code unit sev epoch addr detail).canon = true := by
  unfold State.logMirrored
  extract_lets base i ma mir u
  have he : u.canon = true := State.canon_logEntry h _ _ _ _ _ _ _
  exact State.canon_ite (State.canon_storeHome he _ _ _) he

theorem State.canon_interruptOnce {s : State} (h : s.canon = true) (src v : Nat) : (s.interruptOnce src v).1.canon = true := by
  unfold State.interruptOnce
  have hz := State.canon_interruptRaw h src v
  generalize s.interruptRaw src v = z at hz
  obtain ⟨z1, z2⟩ := z
  exact State.canon_ite (State.canon_logMirrored hz _ _ _ _ _ _) hz

theorem State.canon_logInterrupt {s : State} (h : s.canon = true) (sev : Nat) : (s.logInterrupt sev).canon = true :=
  State.canon_ite (State.canon_interruptOnce h _ _) h

theorem State.canon_interrupt {s : State} (h : s.canon = true) (src v : Nat) : (s.interrupt src v).canon = true := by
  unfold State.interrupt
  have hz := State.canon_interruptOnce h src v
  generalize s.interruptOnce src v = z at hz
  obtain ⟨z1, z2⟩ := z
  exact State.canon_ite (State.canon_logInterrupt hz _) hz

theorem State.canon_interruptRoute {s : State} (h : s.canon = true) (src : Nat) : (s.interruptRoute src).canon = true :=
  State.canon_ite (State.canon_interrupt h _ _) h

theorem State.canon_logFull {s : State} (h : s.canon = true) (code unit sev epoch addr detail : Nat) :
    (s.logFull code unit sev epoch addr detail).canon = true := State.canon_logInterrupt (State.canon_logMirrored h _ _ _ _ _ _) _

theorem State.canon_logAt {s : State} (h : s.canon = true) (code unit epoch addr detail : Nat) : (s.logAt code unit epoch addr detail).canon = true := by
  unfold State.logAt
  split
  · split
    · simp only
      split
      · exact State.canon_setFld h _ _ _
      · exact State.canon_logFull h _ _ _ _ _ _
    · exact h
  · exact State.canon_logFull h _ _ _ _ _ _

theorem State.canon_log {s : State} (h : s.canon = true) (code unit addr detail : Nat) : (s.log code unit addr detail).canon = true :=
  State.canon_logAt h _ _ _ _ _

/-- Fences and lane marks keep the form. -/
theorem State.canon_fenceChannel {s : State} (h : s.canon = true) (key cause : Nat) : (s.fenceChannel key cause).canon = true := by
  unfold State.fenceChannel
  split
  · exact h
  · refine State.canon_log ?_ _ _ _ _
    split
    · exact State.canon_setFldBit h _ _ _ _
    · exact State.canon_setFldBit h _ _ _ _

theorem State.canon_putLane {s : State} (h : s.canon = true) (key lane : Nat) : (s.putLane key lane).canon = true := by
  unfold State.putLane
  refine State.canon_log (State.canon_setFld (State.canon_setFld (State.canon_setFld (State.canon_setFld ?_ _ _ _) _ _ _) _ _ _) _ _ _) _ _ _ _
  exact h

theorem State.canon_markLane {s : State} (h : s.canon = true) (key lane : Nat) (f : Bool) : (s.markLane key lane f).canon = true := by
  unfold State.markLane
  simp only
  split
  · exact h
  · split
    · exact State.canon_ite (State.canon_fenceChannel h _ _) h
    · split
      · exact State.canon_putLane h _ _
      · exact h

theorem State.canon_countCe {s : State} (h : s.canon = true) (key : Nat) (l : List Nat) (f : Bool) : (s.countCe key l f).canon = true := by
  unfold State.countCe
  simp only
  split
  · exact State.canon_ite (State.canon_markLane (by exact h) _ _ _) (by exact h)
  · exact h

theorem State.canon_countUe {s : State} (h : s.canon = true) (key src : Nat) : (s.countUe key src).canon = true := by
  unfold State.countUe
  split
  · simp only
    split
    · exact State.canon_fenceChannel (by exact h) _ _
    · exact h
  · exact h

/-- Reading a line keeps the form. -/
theorem State.canon_noteRead {s : State} (h : s.canon = true) (a : Nat) (v : LineView) (src : Nat) : (s.noteRead a v src).canon = true := by
  unfold State.noteRead
  split
  · exact h
  · next sp _ =>
    extract_lets u er d w
    have h1 : u.canon = true := State.canon_bumpSat (State.canon_tierAccess h sp) _ _ _
    clear_value u
    split
    · exact State.canon_countCe (State.canon_log (State.canon_bumpSat h1 _ _ _) _ _ _ _) _ _ _
    · exact State.canon_countUe (State.canon_log (State.canon_bumpSat h1 _ _ _) _ _ _ _) _ _
    · exact State.canon_log (State.canon_bumpSat h1 _ _ _) _ _ _ _
    · exact State.canon_countUe (State.canon_log (State.canon_bumpSat h1 _ _ _) _ _ _ _) _ _
    · exact h1

theorem State.canon_recall {s : State} (h : s.canon = true) (a : Nat) (b : Bool) : (s.recall a b).canon = true := by
  unfold State.recall
  simp only
  split
  · exact h
  · next held _ =>
    have : (match held with | none => s | some (d, p) => s.storeHome (a / 64 * 64) d p).canon = true := by
      split
      · exact h
      · exact State.canon_storeHome h _ _ _
    exact this

theorem State.canon_noteChip {s : State} (h : s.canon = true) (a : Nat) (v : LineView) : (s.noteChip a v).canon = true :=
  State.canon_ite (State.canon_log (State.canon_bumpSat h _ _ _) _ _ _ _) h

theorem State.canon_keepLine {s : State} (h : s.canon = true) (sp : Spot) (a : Nat) (v : LineView) : (s.keepLine sp a v).canon = true := by
  unfold State.keepLine
  extract_lets ls ways u
  have hu : u.canon = true := State.canon_ite h (by exact h)
  exact hu

theorem State.canon_readLine {s : State} (h : s.canon = true) (a src : Nat) : (s.readLine a src).2.canon = true := by
  unfold State.readLine
  extract_lets b u v
  have hu : u.canon = true := State.canon_recall h _ _
  clear_value u
  split
  · exact State.canon_noteChip hu _ _
  · next sp _ =>
    split
    · exact hu
    · split
      · exact State.canon_noteChip (State.canon_bumpSat hu _ _ _) _ _
      · have hn := State.canon_noteRead hu b v src
        exact State.canon_ite (State.canon_keepLine hn _ _ _) hn

theorem State.canon_writeLine {s : State} (h : s.canon = true) (a : Nat) (data : List Byte) (p : Nat) : (s.writeLine a data p).canon = true := by
  unfold State.writeLine
  extract_lets b u v
  have hu : u.canon = true := State.canon_recall h _ _
  refine State.canon_storeHome ?_ _ _ _
  dsimp only [v]
  split
  · exact State.canon_ite (State.canon_bumpSat hu _ _ _) hu
  · exact hu

theorem State.canon_settleLine {s : State} (h : s.canon = true) (a : Nat) : (s.settleLine a).canon = true := by
  unfold State.settleLine
  extract_lets v u m
  have hu : u.canon = true := State.canon_noteChip h _ _
  refine State.canon_mem_set hu ?_
  show m.wf = true
  dsimp only [m]
  split
  · exact Mem.wf_foldl (fun m i hm => Mem.wf_mark hm _ _) _ (State.canon_mem hu)
  · exact State.canon_mem hu

theorem State.canon_touchLines {s : State} (h : s.canon = true) (a n src : Nat) : (s.touchLines a n src).canon = true := by
  unfold State.touchLines
  split
  · exact h
  · exact State.canon_foldl (fun s i hs => State.canon_readLine hs _ _) _ h

/-- A change of one item keeps the form. -/
theorem State.canon_modItem {s : State} (h : s.canon = true) (id : Nat) (f : Item → Item) : (s.modItem id f).canon = true := by
  unfold State.modItem
  split
  · exact State.canon_items_set h (FMap.sorted_put _ _ (State.canon_items h))
  · exact h

theorem State.canon_failItem {s : State} (h : s.canon = true) (id code : Nat) : (s.failItem id code).canon = true := State.canon_modItem h _ _

/-- A request to another member keeps the form, whether it leaves or fails. -/
theorem State.canon_failRequest {s : State} (h : s.canon = true) (r : Req) : (s.failRequest r).canon = true := by
  have done : ∀ {u : State}, u.canon = true → ∀ g, (u.remoteDone g).canon = true := by
    intro u hu g
    unfold State.remoteDone
    simp only
    split <;> exact hu
  unfold State.failRequest
  split
  · split
    · exact h
    · next id _ it _ =>
      extract_lets u
      have hu : u.canon = true := by
        dsimp only [u]
        split <;> exact h
      exact State.canon_items_set hu (FMap.sorted_put _ _ (State.canon_items hu))
  · simp only
    rw [State.canon_emit]
    split
    · exact h
    · exact done h _
  · exact h
  · exact h
  · exact h

theorem State.canon_sendReq {s : State} (h : s.canon = true) (f : Flit) (r : Req) (tag : Nat) : (s.sendReq f r tag).canon = true := by
  unfold State.sendReq
  have hz := State.canon_sendRaw (s := s.takeTag tag) h { f with age := r.age }
  generalize (s.takeTag tag).sendRaw { f with age := r.age } = z at hz
  obtain ⟨z1, z2⟩ := z
  exact State.canon_ite (State.canon_failRequest (State.canon_log hz _ _ _ _) _) hz

theorem State.canon_sendAny {s : State} (h : s.canon = true) (f : Nat → Flit) (r : Req) : (s.sendAny f r).canon = true := by
  unfold State.sendAny
  split
  · exact State.canon_sendReq h _ _ _
  · exact h

theorem State.canon_askRemote {s : State} (h : s.canon = true) (w : Waiter) (m off op lines pmark arg : Nat) (data : List Byte) (addr len : Nat) :
    (s.askRemote w m off op lines pmark arg data addr len).canon = true := by
  unfold State.askRemote
  extract_lets vc dst u req f
  have hu : u.canon = true := by
    dsimp only [u]
    split
    · split
      · exact State.canon_items_set h (FMap.sorted_put _ _ (State.canon_items h))
      · exact h
    · exact h
  exact State.canon_ite (State.canon_bumpSat (by exact hu) _ _ _) (State.canon_sendAny hu _ _)

theorem State.canon_logPoison {s : State} (h : s.canon = true) (a b c d e : Nat) : (s.logPoison a b c d e).canon = true := State.canon_log h _ _ _ _

theorem State.canon_pcieOut {s : State} (h : s.canon = true) (off a : Nat) (data : List Byte) (p : Bool) : (s.pcieOut off a data p).canon = true := by
  unfold State.pcieOut
  rw [State.canon_emit]
  split
  · exact State.canon_logPoison h _ _ _ _ _
  · exact h

/-- A full line written wherever it lies keeps the form. -/
theorem State.canon_storeLine {s : State} (h : s.canon = true) (a : Nat) (data : List Byte) (p : Nat) : (s.storeLine a data p).canon = true := by
  unfold State.storeLine
  split
  · split
    · exact State.canon_askRemote h _ _ _ _ _ _ _ _ _ _
    · exact State.canon_askRemote (State.canon_logPoison h _ _ _ _ _) _ _ _ _ _ _ _ _ _ _
  · exact State.canon_pcieOut h _ _ _ _
  · exact State.canon_writeLine h _ _ _

theorem State.canon_narrowOut {s : State} (h : s.canon = true) (m off a : Nat) (data : List Byte) (p : Bool) : (s.narrowOut m off a data p).canon = true := by
  unfold State.narrowOut
  refine State.canon_foldl (fun s i hs => ?_) _ h
  simp only
  split
  · exact State.canon_askRemote (State.canon_logPoison hs _ _ _ _ _) _ _ _ _ _ _ _ _ _ _
  · exact State.canon_askRemote hs _ _ _ _ _ _ _ _ _ _

/-- A write of part of a line keeps the form. -/
theorem State.canon_storePart {s : State} (h : s.canon = true) (a : Nat) (data : List Byte) (p : Bool) (src : Nat) : (s.storePart a data p src).canon = true := by
  unfold State.storePart
  simp only
  split
  · exact h
  · split
    · split
      · exact State.canon_storeLine h _ _ _
      · exact State.canon_narrowOut h _ _ _ _ _
    · exact State.canon_pcieOut h _ _ _ _
    · split
      · exact State.canon_writeLine h _ _ _
      · split
        · exact State.canon_storeHome (State.canon_readLine (State.canon_recall h _ _) _ _) _ _ _
        · refine State.canon_mem_set (State.canon_settleLine (State.canon_recall h _ _) _) ?_
          rw [Mem.wf_dropReservations]
          exact Mem.wf_foldl (fun m i hm => Mem.wf_mark (Mem.wf_putBytes hm _ _) _ _) _ (State.canon_mem (State.canon_settleLine (State.canon_recall h _ _) _))

theorem State.canon_storeBytes {s : State} (h : s.canon = true) (a : Nat) (data : List Byte) (p : Bool) (src : Nat) : (s.storeBytes a data p src).canon = true := by
  have aux : ∀ (n : Nat) (s : State) (a : Nat) (data : List Byte), s.canon = true → (State.storeBytesAux src p n s a data).canon = true := by
    intro n
    induction n with
    | zero => intro s a data h; exact h
    | succ n ih =>
      intro s a data h
      unfold State.storeBytesAux
      split
      · exact h
      · exact ih _ _ _ (State.canon_storePart h _ _ _ _)
  exact aux _ _ _ _ h

/-- A core's registers set one by one keep its canonical form. -/
theorem Reed.canon_iff (r : Reed) : r.canon = true ↔ FMap.sorted r.x = true ∧ FMap.sorted r.xp = true ∧ FMap.sorted r.v = true ∧ FMap.sorted r.vp = true ∧
    FMap.sorted r.p = true ∧ FMap.sorted r.pp = true := by
  simp only [Reed.canon, Bool.and_eq_true, and_assoc]

theorem Reed.canon_sx {r : Reed} (h : r.canon = true) (n v : Nat) (p : Bool) : (r.sx n v p).canon = true := by
  unfold Reed.sx
  split
  · exact h
  · rw [Reed.canon_iff] at *
    refine ⟨FMap.sorted_setD h.1 _ _ _, ?_, h.2.2⟩
    dsimp only
    split
    · exact FMap.sorted_put _ _ h.2.1
    · exact FMap.sorted_del _ h.2.1

theorem Reed.canon_sv {r : Reed} (h : r.canon = true) (n v vp : Nat) : (r.sv n v vp).canon = true := by
  rw [Reed.canon_iff] at *
  exact ⟨h.1, h.2.1, FMap.sorted_setD h.2.2.1 _ _ _, FMap.sorted_setD h.2.2.2.1 _ _ _, h.2.2.2.2⟩

theorem Reed.canon_sf {r : Reed} (h : r.canon = true) (n v : Nat) (p : Bool) : (r.sf n v p).canon = true := Reed.canon_sv h _ _ _

theorem Reed.canon_sp {r : Reed} (h : r.canon = true) (n v : Nat) (p : Bool) : (r.sp n v p).canon = true := by
  unfold Reed.sp
  split
  · exact h
  · rw [Reed.canon_iff] at *
    refine ⟨h.1, h.2.1, h.2.2.1, h.2.2.2.1, FMap.sorted_setD h.2.2.2.2.1 _ _ _, ?_⟩
    dsimp only
    split
    · exact FMap.sorted_put _ _ h.2.2.2.2.2
    · exact FMap.sorted_del _ h.2.2.2.2.2

theorem Reed.canon_setEls {r : Reed} (h : r.canon = true) (n w : Nat) (l : List (Nat × Nat × Bool)) : (r.setEls n w l).canon = true := Reed.canon_sv h _ _ _

theorem Reed.canon_setPreds {r : Reed} (h : r.canon = true) (n : Nat) (l : List (Nat × Bool)) (p : Bool) : (r.setPreds n l p).canon = true := by
  unfold Reed.setPreds
  split
  · exact h
  · exact Reed.canon_sp h _ _ _

/-- The record of a core of a canonical state is canonical. -/
theorem State.canon_reed {s : State} (h : s.canon = true) (c : Nat) : (s.reed c).canon = true := by
  have hall := ((State.canon_iff s).1 h).2.2.2
  rw [List.all_eq_true] at hall
  have find : ∀ (m : FMap Reed) (r : Reed), FMap.find? c m = some r → ∃ e ∈ m, e.2 = r := by
    intro m
    induction m with
    | nil => intro r hr; cases hr
    | cons e t ih =>
      obtain ⟨k, v⟩ := e
      intro r hr
      unfold FMap.find? at hr
      split at hr
      · cases hr; exact ⟨(k, v), List.mem_cons_self .., rfl⟩
      · split at hr
        · cases hr
        · obtain ⟨e, he, hv⟩ := ih r hr
          exact ⟨e, List.mem_cons_of_mem _ he, hv⟩
  unfold State.reed FMap.getD
  cases hf : FMap.find? c s.reeds with
  | none => rfl
  | some r =>
    obtain ⟨e, he, rfl⟩ := find _ _ hf
    exact hall e he

/-- A canonical record put back keeps the form. -/
theorem State.canon_setReed {s : State} (h : s.canon = true) (c : Nat) {r : Reed} (hr : r.canon = true) : (s.setReed c r).canon = true := by
  have hall := ((State.canon_iff s).1 h).2.2.2
  have put : ∀ m : FMap Reed, (m.all fun e => e.2.canon) = true → ((FMap.put c r m).all fun e => e.2.canon) = true := by
    intro m
    induction m with
    | nil => intro _; simp [FMap.put, hr]
    | cons e t ih =>
      obtain ⟨k, v⟩ := e
      intro hm
      simp only [List.all_cons, Bool.and_eq_true] at hm
      unfold FMap.put
      split
      · simp only [List.all_cons, Bool.and_eq_true]; exact ⟨hm.1, ih hm.2⟩
      · split
        · simp only [List.all_cons, Bool.and_eq_true]; exact ⟨hr, hm.2⟩
        · simp only [List.all_cons, Bool.and_eq_true]; exact ⟨hr, hm⟩
  rw [State.canon_iff] at *
  exact ⟨h.1, h.2.1, h.2.2.1, put _ hall⟩

end Sys2Proof.Machine
end

