-- ==== Sys2Proof/Laws/Log.lean ====
section
/-! SUPPORT. What sending, delivering and logging can change: everything else of the state stays. -/

namespace Sys2Proof.Machine
open Sys2Proof

/-- Only register words and their marks, the ports, the requests with their TAGs, the harts and what is sent may differ. For a field that stays, `congrArg State.mem h` says so. -/
def State.Logged (s t : State) : Prop :=
  t = { s with regs := t.regs, hubPoison := t.hubPoison, ports := t.ports, reqs := t.reqs, nextTag := t.nextTag, tagUsed := t.tagUsed,
               tagWait := t.tagWait, harts := t.harts, out := t.out }

theorem State.Logged.refl (s : State) : s.Logged s := rfl

theorem State.Logged.trans {s t u : State} (h : s.Logged t) (g : t.Logged u) : s.Logged u := by
  unfold State.Logged at *
  exact g.trans (by rw [h])

/-- A fold of steps that change no more changes no more. -/
theorem State.Logged.foldl {α : Type} {f : State → α → State} (hf : ∀ (s : State) (a : α), s.Logged (f s a)) (l : List α) (s : State) : s.Logged (l.foldl f s) := by
  induction l generalizing s with
  | nil => exact .refl s
  | cons a t ih => exact (hf s a).trans (ih _)

theorem State.Logged.setFld {s t : State} (h : s.Logged t) (f : Fld) (v : Nat) (ix : List Nat) : s.Logged (t.setFld f v ix) :=
  h.trans (u := t.setFld f v ix) rfl

theorem State.Logged.bump {s t : State} (h : s.Logged t) (f : Fld) (ix : List Nat) (d : Nat) : s.Logged (t.bump f ix d) := h.setFld f _ ix

theorem State.Logged.bumpSat {s t : State} (h : s.Logged t) (f : Fld) (ix : List Nat) (d : Nat) : s.Logged (t.bumpSat f ix d) := h.setFld f _ ix

theorem State.Logged.setFldBit {s t : State} (h : s.Logged t) (f : Fld) (i : Nat) (b : Bool) (ix : List Nat) : s.Logged (t.setFldBit f i b ix) := h.setFld f _ ix

theorem State.Logged.markReg {s t : State} (h : s.Logged t) (off : Nat) (b : Bool) : s.Logged (t.markReg off b) := h.trans (u := t.markReg off b) rfl

theorem State.Logged.takeTag {s t : State} (h : s.Logged t) (tag : Nat) : s.Logged (t.takeTag tag) := h.trans (u := t.takeTag tag) rfl

theorem State.Logged.withReqs {s t : State} (h : s.Logged t) (r : FMap Req) : s.Logged { t with reqs := r } := h.trans (u := { t with reqs := r }) rfl

theorem State.Logged.modPort {s t : State} (h : s.Logged t) (k : Nat) (f : Port → Port) : s.Logged (t.modPort k f) := h.trans (u := t.modPort k f) rfl

/-- A log entry (R310, R311). -/
theorem State.logEntry_logged (s : State) (code unit sev epoch addr detail : Nat) (m : Bool) : s.Logged (s.logEntry code unit sev epoch addr detail m) := by
  unfold State.logEntry
  extract_lets i full bytes s1 s2 s3 s4
  have h1 : s.Logged s1 := State.Logged.foldl (fun u _ => ((State.Logged.refl u).markReg _ _).setFld _ _ _) _ _
  have h4 : s.Logged s4 := ((h1.setFld _ _ _).bump _ _ _).setFld _ _ _
  clear_value s4
  split
  · exact (h4.setFld _ _ _).bumpSat _ _ _
  · exact h4.bump _ _ _

/-- A flit put on its way, or dropped and counted (R340, R341). -/
theorem State.sendRaw_logged (s : State) (f : Flit) : s.Logged (s.sendRaw f).1 := by
  unfold State.sendRaw
  split
  · exact (State.Logged.refl s).bumpSat _ _ _
  · split
    · exact (State.Logged.refl s).bumpSat _ _ _
    · dsimp only
      exact (State.Logged.refl s).modPort _ _

/-- A flit that has a way out changes no register word. -/
theorem State.sendRaw_sent (s : State) (f : Flit) (h : (s.sendRaw f).2 = false) : (s.sendRaw f).1.regs = s.regs := by
  unfold State.sendRaw at *
  split at h
  · cases h
  · split at h
    · cases h
    · next hc => rw [if_neg hc]; rfl

/-- A delivered identity (R508). -/
theorem State.deliver_logged (s : State) (v : Nat) : s.Logged (s.deliver v) := by
  unfold State.deliver
  simp only
  split <;> rfl

/-- An interrupt before the entry of a dropped forwarding write (R508, R509). -/
theorem State.interruptRaw_logged (s : State) (src v : Nat) : s.Logged (s.interruptRaw src v).1 := by
  unfold State.interruptRaw
  split
  · split
    · exact .refl s
    · extract_lets a b c d f
      have ha : s.Logged a := (State.Logged.refl s).setFldBit _ _ _ _
      clear_value a
      split
      · exact ha.trans (u := { a with tagWait := _ }) rfl
      · next tag _ =>
        have h := State.sendRaw_logged (a.takeTag tag) { d tag with age := f.age }
        generalize (a.takeTag tag).sendRaw { d tag with age := f.age } = z at h
        obtain ⟨z1, z2⟩ := z
        have hz : s.Logged z1 := (ha.takeTag tag).trans h
        simp only
        split
        · exact hz
        · exact hz.withReqs _
  · exact State.deliver_logged s v

/-- An entry where nothing is mirrored (R310, R311, R313). -/
theorem State.logMirrored_logged (s : State) (code unit sev epoch addr detail : Nat) (hm : s.flag R.ERL_CTL_MIRROR_EN = false) :
    s.Logged (s.logMirrored code unit sev epoch addr detail) := by
  unfold State.logMirrored
  simp only [hm, Bool.false_and, Bool.false_eq_true, if_false]
  exact State.logEntry_logged s _ _ _ _ _ _ _

/-- Where nothing is mirrored, an entry of the log leaves every register word outside the error-log block (R310, R311). -/
def State.OutsideErl (s t : State) : Prop := FMap.sorted t.regs = true ∧ ∀ o, o / 0x1000000 ≠ 6 → FMap.find? o t.regs = FMap.find? o s.regs

theorem State.OutsideErl.refl {s : State} (h : FMap.sorted s.regs = true) : s.OutsideErl s := ⟨h, fun _ _ => rfl⟩

theorem State.OutsideErl.setFld {s t : State} (h : s.OutsideErl t) (f : Fld) (v : Nat) (ix : List Nat) (hf : f.at ix / 0x1000000 = 6) :
    s.OutsideErl (t.setFld f v ix) :=
  ⟨State.setFld_sorted h.1 f v ix, fun o ho => (State.setFld_find? h.1 f v ix (fun e => ho (by rw [e]; exact hf))).trans (h.2 o ho)⟩

theorem State.OutsideErl.bump {s t : State} (h : s.OutsideErl t) (f : Fld) (ix : List Nat) (d : Nat) (hf : f.at ix / 0x1000000 = 6) :
    s.OutsideErl (t.bump f ix d) := h.setFld f _ ix hf

theorem State.OutsideErl.bumpSat {s t : State} (h : s.OutsideErl t) (f : Fld) (ix : List Nat) (d : Nat) (hf : f.at ix / 0x1000000 = 6) :
    s.OutsideErl (t.bumpSat f ix d) := h.setFld f _ ix hf

/-- A field of another block reads as before. -/
theorem State.OutsideErl.fld {s t : State} (h : s.OutsideErl t) (f : Fld) (ix : List Nat) (hf : f.at ix / 0x1000000 ≠ 6) : t.fld f ix = s.fld f ix := by
  unfold State.fld FMap.getD
  rw [h.2 _ hf]

theorem State.OutsideErl.flag {s t : State} (h : s.OutsideErl t) (f : Fld) (ix : List Nat) (hf : f.at ix / 0x1000000 ≠ 6) : t.flag f ix = s.flag f ix := by
  unfold State.flag
  rw [h.fld f ix hf]

theorem State.logEntry_outsideErl {s : State} (hs : FMap.sorted s.regs = true) (code unit sev epoch addr detail : Nat) (m : Bool) :
    s.OutsideErl (s.logEntry code unit sev epoch addr detail m) := by
  unfold State.logEntry
  extract_lets i full bytes s1 s2 s3 s4
  have hi : i < 4096 := State.fld_lt s R.ERL_HEAD_INDEX []
  have h1 : s.OutsideErl s1 := by
    have step : ∀ (l : List Nat) (u : State), (∀ k ∈ l, k < 8) → s.OutsideErl u → s.OutsideErl (l.foldl (fun s k =>
        (s.markReg (R.ERL_ENTRY_WORD.at [i, k]) false).setFld R.ERL_ENTRY_WORD (fieldAt bytes (8 * k) 8) [i, k]) u) := by
      intro l
      induction l with
      | nil => intro u _ hu; exact hu
      | cons k t ih =>
        intro u hk hu
        refine ih _ (fun j hj => hk j (List.mem_cons_of_mem _ hj)) ?_
        refine State.OutsideErl.setFld (t := u.markReg _ _) hu _ _ _ ?_
        have := hk k (List.mem_cons_self ..)
        simp only [Fld.at, R.ERL_ENTRY_WORD, dotOff]
        omega
    exact step _ s (fun k hk => List.mem_range.1 hk) (.refl hs)
  have h4 : s.OutsideErl s4 := ((h1.setFld R.ERL_HEAD_INDEX _ [] (by decide)).bump R.ERL_HEAD_SEQ [] _ (by decide)).setFld R.ERL_STATUS_LAST_CODE _ [] (by decide)
  clear_value s4
  split
  · exact (h4.setFld R.ERL_TAIL_INDEX _ [] (by decide)).bumpSat R.ERL_STATUS_LOST [] _ (by decide)
  · exact h4.bump R.ERL_STATUS_COUNT [] _ (by decide)

theorem State.logMirrored_outsideErl {s : State} (hs : FMap.sorted s.regs = true) (code unit sev epoch addr detail : Nat)
    (hm : s.flag R.ERL_CTL_MIRROR_EN = false) : s.OutsideErl (s.logMirrored code unit sev epoch addr detail) := by
  unfold State.logMirrored
  simp only [hm, Bool.false_and, Bool.false_eq_true, if_false]
  exact State.logEntry_outsideErl hs _ _ _ _ _ _ _

/-- An interrupt delivered locally (R508). -/
theorem State.interruptOnce_local (s : State) (src v : Nat) (hf : s.flag R.HRT_FWD_FORWARD = false) : s.interruptOnce src v = (s.deliver v, false) := by
  unfold State.interruptOnce State.interruptRaw
  simp [hf]

theorem State.interrupt_local (s : State) (src v : Nat) (hf : s.flag R.HRT_FWD_FORWARD = false) : s.interrupt src v = s.deliver v := by
  unfold State.interrupt
  rw [State.interruptOnce_local s src v hf]
  simp

/-- An entry with its interrupt, where nothing is mirrored and interrupts are delivered here (R310 to R314). -/
theorem State.logFull_logged {s : State} (hs : FMap.sorted s.regs = true) (code unit sev epoch addr detail : Nat)
    (hm : s.flag R.ERL_CTL_MIRROR_EN = false) (hf : s.flag R.HRT_FWD_FORWARD = false) : s.Logged (s.logFull code unit sev epoch addr detail) := by
  have h := State.logMirrored_logged s code unit sev epoch addr detail hm
  have g : (s.logMirrored code unit sev epoch addr detail).flag R.HRT_FWD_FORWARD = false :=
    ((State.logMirrored_outsideErl hs code unit sev epoch addr detail hm).flag R.HRT_FWD_FORWARD [] (by decide)).trans hf
  unfold State.logFull State.logInterrupt
  split
  · rw [State.interruptOnce_local _ _ _ g]
    exact h.trans (State.deliver_logged _ _)
  · exact h

/-- A logged code changes no more. -/
theorem State.logAt_logged {s : State} (hs : FMap.sorted s.regs = true) (code unit epoch addr detail : Nat)
    (hm : s.flag R.ERL_CTL_MIRROR_EN = false) (hf : s.flag R.HRT_FWD_FORWARD = false) : s.Logged (s.logAt code unit epoch addr detail) := by
  unfold State.logAt
  split
  · split
    · extract_lets n w1 same
      split
      · exact (State.Logged.refl s).setFld _ _ _
      · exact State.logFull_logged hs _ _ _ _ _ _ hm hf
    · exact .refl s
  · exact State.logFull_logged hs _ _ _ _ _ _ hm hf

theorem State.log_logged {s : State} (hs : FMap.sorted s.regs = true) (code unit addr detail : Nat)
    (hm : s.flag R.ERL_CTL_MIRROR_EN = false) (hf : s.flag R.HRT_FWD_FORWARD = false) : s.Logged (s.log code unit addr detail) :=
  State.logAt_logged hs _ _ _ _ _ hm hf

end Sys2Proof.Machine
end

