-- ==== Sys2Proof/Laws/Mem.lean ====
section
/-! SUPPORT. Memory's cells: what is written is read back, and every other place stays. -/

namespace Sys2Proof.Machine
open Sys2Proof

/-- Bytes written lie in their places, and every other byte stays. -/
theorem Mem.find?_putBytes (l : List Byte) : ∀ (m : Mem) (a x : Nat),
    FMap.find? x (m.putBytes a l).cells = if a ≤ x ∧ x < a + l.length then l[x - a]? else FMap.find? x m.cells := by
  induction l with
  | nil => intro m a x; simp [Mem.putBytes]
  | cons b t ih =>
    intro m a x
    unfold Mem.putBytes
    rw [ih]
    simp only [List.length_cons]
    by_cases h1 : x = a
    · subst h1
      simp
    · rw [FMap.find?_put_ne h1]
      by_cases h2 : a + 1 ≤ x ∧ x < a + 1 + t.length
      · have h3 : a ≤ x ∧ x < a + (t.length + 1) := by omega
        rw [if_pos h2, if_pos h3, show x - a = (x - (a + 1)) + 1 by omega, List.getElem?_cons_succ]
      · have h3 : ¬ (a ≤ x ∧ x < a + (t.length + 1)) := by omega
        rw [if_neg h2, if_neg h3]

/-- A byte written is read back. -/
theorem Mem.byteAt_putBytes (m : Mem) (a : Nat) (l : List Byte) (x : Nat) :
    (m.putBytes a l).byteAt x = if a ≤ x ∧ x < a + l.length then l.getD (x - a) 0 else m.byteAt x := by
  unfold Mem.byteAt FMap.getD
  rw [Mem.find?_putBytes]
  split <;> rfl

/-- A byte written counts as written, and no other becomes so. -/
theorem Mem.written_putBytes (m : Mem) (a : Nat) (l : List Byte) (x : Nat) :
    (m.putBytes a l).written x = (decide (a ≤ x ∧ x < a + l.length) || m.written x) := by
  unfold Mem.written
  rw [Mem.find?_putBytes]
  by_cases h : a ≤ x ∧ x < a + l.length
  · have : x - a < l.length := by omega
    simp [h, this]
  · simp [h]

/-- Bytes written change nothing but the cells. -/
theorem Mem.putBytes_frame (l : List Byte) : ∀ (m : Mem) (a : Nat), m.putBytes a l = { m with cells := (m.putBytes a l).cells } := by
  induction l with
  | nil => intro m a; rfl
  | cons b t ih => intro m a; unfold Mem.putBytes; rw [ih]

/-- A mark changes nothing but the poison. -/
theorem Mem.mark_frame (m : Mem) (w : Nat) (p : Bool) : m.mark w p = { m with poison := (m.mark w p).poison } := rfl

@[simp] theorem Mem.byteAt_mark (m : Mem) (w : Nat) (p : Bool) (a : Nat) : (m.mark w p).byteAt a = m.byteAt a := rfl
@[simp] theorem Mem.written_mark (m : Mem) (w : Nat) (p : Bool) (a : Nat) : (m.mark w p).written a = m.written a := rfl
@[simp] theorem Mem.byteAt_dropReservations (m : Mem) (x n a : Nat) : (m.dropReservations x n).byteAt a = m.byteAt a := rfl
@[simp] theorem Mem.written_dropReservations (m : Mem) (x n a : Nat) : (m.dropReservations x n).written a = m.written a := rfl

/-- The mark of a written word is what was set. -/
theorem Mem.wordPoison_mark_self {m : Mem} (h : FMap.sorted m.poison = true) (w : Nat) (p : Bool) (hw : m.written (8 * w) = true) :
    (m.mark w p).wordPoison w = p := by
  unfold Mem.wordPoison Mem.mark
  cases p
  · simp [FMap.find?_del_self w h, Mem.written] at *
    exact hw
  · simp

/-- Every other word's mark stays. -/
theorem Mem.wordPoison_mark_ne {m : Mem} (h : FMap.sorted m.poison = true) {w v : Nat} (hv : v ≠ w) (p : Bool) :
    (m.mark w p).wordPoison v = m.wordPoison v := by
  unfold Mem.wordPoison Mem.mark
  cases p
  · simp [FMap.find?_del_ne hv h, Mem.written]
  · simp [FMap.find?_put_ne hv, Mem.written]

end Sys2Proof.Machine
end

