-- ==== Sys2Proof/Laws/State.lean ====
section
/-! SUPPORT. Each small update of the state changes one field: one lemma for each field it leaves. -/

namespace Sys2Proof.Machine
open Sys2Proof

/-! setFld changes `regs` alone. -/
@[simp] theorem State.setFld_pins (s : State) (f : Fld) (v : Nat) (ix : List Nat) : (s.setFld f v ix).pins = s.pins := rfl
@[simp] theorem State.setFld_sb (s : State) (f : Fld) (v : Nat) (ix : List Nat) : (s.setFld f v ix).sb = s.sb := rfl
@[simp] theorem State.setFld_hubPoison (s : State) (f : Fld) (v : Nat) (ix : List Nat) : (s.setFld f v ix).hubPoison = s.hubPoison := rfl
@[simp] theorem State.setFld_staged (s : State) (f : Fld) (v : Nat) (ix : List Nat) : (s.setFld f v ix).staged = s.staged := rfl
@[simp] theorem State.setFld_atBoundary (s : State) (f : Fld) (v : Nat) (ix : List Nat) : (s.setFld f v ix).atBoundary = s.atBoundary := rfl
@[simp] theorem State.setFld_time (s : State) (f : Fld) (v : Nat) (ix : List Nat) : (s.setFld f v ix).time = s.time := rfl
@[simp] theorem State.setFld_mem (s : State) (f : Fld) (v : Nat) (ix : List Nat) : (s.setFld f v ix).mem = s.mem := rfl
@[simp] theorem State.setFld_boot (s : State) (f : Fld) (v : Nat) (ix : List Nat) : (s.setFld f v ix).boot = s.boot := rfl
@[simp] theorem State.setFld_flash (s : State) (f : Fld) (v : Nat) (ix : List Nat) : (s.setFld f v ix).flash = s.flash := rfl
@[simp] theorem State.setFld_held (s : State) (f : Fld) (v : Nat) (ix : List Nat) : (s.setFld f v ix).held = s.held := rfl
@[simp] theorem State.setFld_pcieHdr (s : State) (f : Fld) (v : Nat) (ix : List Nat) : (s.setFld f v ix).pcieHdr = s.pcieHdr := rfl
@[simp] theorem State.setFld_ports (s : State) (f : Fld) (v : Nat) (ix : List Nat) : (s.setFld f v ix).ports = s.ports := rfl
@[simp] theorem State.setFld_reqs (s : State) (f : Fld) (v : Nat) (ix : List Nat) : (s.setFld f v ix).reqs = s.reqs := rfl
@[simp] theorem State.setFld_nextTag (s : State) (f : Fld) (v : Nat) (ix : List Nat) : (s.setFld f v ix).nextTag = s.nextTag := rfl
@[simp] theorem State.setFld_tagUsed (s : State) (f : Fld) (v : Nat) (ix : List Nat) : (s.setFld f v ix).tagUsed = s.tagUsed := rfl
@[simp] theorem State.setFld_tagWait (s : State) (f : Fld) (v : Nat) (ix : List Nat) : (s.setFld f v ix).tagWait = s.tagWait := rfl
@[simp] theorem State.setFld_narrowWait (s : State) (f : Fld) (v : Nat) (ix : List Nat) : (s.setFld f v ix).narrowWait = s.narrowWait := rfl
@[simp] theorem State.setFld_abortRx (s : State) (f : Fld) (v : Nat) (ix : List Nat) : (s.setFld f v ix).abortRx = s.abortRx := rfl
@[simp] theorem State.setFld_harts (s : State) (f : Fld) (v : Nat) (ix : List Nat) : (s.setFld f v ix).harts = s.harts := rfl
@[simp] theorem State.setFld_pcieReqs (s : State) (f : Fld) (v : Nat) (ix : List Nat) : (s.setFld f v ix).pcieReqs = s.pcieReqs := rfl
@[simp] theorem State.setFld_mgt (s : State) (f : Fld) (v : Nat) (ix : List Nat) : (s.setFld f v ix).mgt = s.mgt := rfl
@[simp] theorem State.setFld_job (s : State) (f : Fld) (v : Nat) (ix : List Nat) : (s.setFld f v ix).job = s.job := rfl
@[simp] theorem State.setFld_items (s : State) (f : Fld) (v : Nat) (ix : List Nat) : (s.setFld f v ix).items = s.items := rfl
@[simp] theorem State.setFld_nextItem (s : State) (f : Fld) (v : Nat) (ix : List Nat) : (s.setFld f v ix).nextItem = s.nextItem := rfl
@[simp] theorem State.setFld_gates (s : State) (f : Fld) (v : Nat) (ix : List Nat) : (s.setFld f v ix).gates = s.gates := rfl
@[simp] theorem State.setFld_nrg (s : State) (f : Fld) (v : Nat) (ix : List Nat) : (s.setFld f v ix).nrg = s.nrg := rfl
@[simp] theorem State.setFld_rails (s : State) (f : Fld) (v : Nat) (ix : List Nat) : (s.setFld f v ix).rails = s.rails := rfl
@[simp] theorem State.setFld_epo (s : State) (f : Fld) (v : Nat) (ix : List Nat) : (s.setFld f v ix).epo = s.epo := rfl
@[simp] theorem State.setFld_fw (s : State) (f : Fld) (v : Nat) (ix : List Nat) : (s.setFld f v ix).fw = s.fw := rfl
@[simp] theorem State.setFld_update (s : State) (f : Fld) (v : Nat) (ix : List Nat) : (s.setFld f v ix).update = s.update := rfl
@[simp] theorem State.setFld_waiting (s : State) (f : Fld) (v : Nat) (ix : List Nat) : (s.setFld f v ix).waiting = s.waiting := rfl
@[simp] theorem State.setFld_arbs (s : State) (f : Fld) (v : Nat) (ix : List Nat) : (s.setFld f v ix).arbs = s.arbs := rfl
@[simp] theorem State.setFld_train (s : State) (f : Fld) (v : Nat) (ix : List Nat) : (s.setFld f v ix).train = s.train := rfl
@[simp] theorem State.setFld_reeds (s : State) (f : Fld) (v : Nat) (ix : List Nat) : (s.setFld f v ix).reeds = s.reeds := rfl
@[simp] theorem State.setFld_summ (s : State) (f : Fld) (v : Nat) (ix : List Nat) : (s.setFld f v ix).summ = s.summ := rfl
@[simp] theorem State.setFld_fifos (s : State) (f : Fld) (v : Nat) (ix : List Nat) : (s.setFld f v ix).fifos = s.fifos := rfl
@[simp] theorem State.setFld_treg (s : State) (f : Fld) (v : Nat) (ix : List Nat) : (s.setFld f v ix).treg = s.treg := rfl
@[simp] theorem State.setFld_tregC (s : State) (f : Fld) (v : Nat) (ix : List Nat) : (s.setFld f v ix).tregC = s.tregC := rfl
@[simp] theorem State.setFld_groups (s : State) (f : Fld) (v : Nat) (ix : List Nat) : (s.setFld f v ix).groups = s.groups := rfl
@[simp] theorem State.setFld_cols (s : State) (f : Fld) (v : Nat) (ix : List Nat) : (s.setFld f v ix).cols = s.cols := rfl
@[simp] theorem State.setFld_inStreams (s : State) (f : Fld) (v : Nat) (ix : List Nat) : (s.setFld f v ix).inStreams = s.inStreams := rfl
@[simp] theorem State.setFld_nextStream (s : State) (f : Fld) (v : Nat) (ix : List Nat) : (s.setFld f v ix).nextStream = s.nextStream := rfl
@[simp] theorem State.setFld_outStreams (s : State) (f : Fld) (v : Nat) (ix : List Nat) : (s.setFld f v ix).outStreams = s.outStreams := rfl
@[simp] theorem State.setFld_slots (s : State) (f : Fld) (v : Nat) (ix : List Nat) : (s.setFld f v ix).slots = s.slots := rfl
@[simp] theorem State.setFld_keptAborts (s : State) (f : Fld) (v : Nat) (ix : List Nat) : (s.setFld f v ix).keptAborts = s.keptAborts := rfl
@[simp] theorem State.setFld_ended (s : State) (f : Fld) (v : Nat) (ix : List Nat) : (s.setFld f v ix).ended = s.ended := rfl
@[simp] theorem State.setFld_vcHeld (s : State) (f : Fld) (v : Nat) (ix : List Nat) : (s.setFld f v ix).vcHeld = s.vcHeld := rfl
@[simp] theorem State.setFld_forwarded (s : State) (f : Fld) (v : Nat) (ix : List Nat) : (s.setFld f v ix).forwarded = s.forwarded := rfl
@[simp] theorem State.setFld_roster (s : State) (f : Fld) (v : Nat) (ix : List Nat) : (s.setFld f v ix).roster = s.roster := rfl
@[simp] theorem State.setFld_cqMarks (s : State) (f : Fld) (v : Nat) (ix : List Nat) : (s.setFld f v ix).cqMarks = s.cqMarks := rfl
@[simp] theorem State.setFld_out (s : State) (f : Fld) (v : Nat) (ix : List Nat) : (s.setFld f v ix).out = s.out := rfl
@[simp] theorem State.setFld_fresh (s : State) (f : Fld) (v : Nat) (ix : List Nat) : (s.setFld f v ix).fresh = s.fresh := rfl
@[simp] theorem State.setFld_pending (s : State) (f : Fld) (v : Nat) (ix : List Nat) : (s.setFld f v ix).pending = s.pending := rfl
/-! setFlag changes `regs` alone. -/
@[simp] theorem State.setFlag_pins (s : State) (f : Fld) (b : Bool) (ix : List Nat) : (s.setFlag f b ix).pins = s.pins := rfl
@[simp] theorem State.setFlag_sb (s : State) (f : Fld) (b : Bool) (ix : List Nat) : (s.setFlag f b ix).sb = s.sb := rfl
@[simp] theorem State.setFlag_hubPoison (s : State) (f : Fld) (b : Bool) (ix : List Nat) : (s.setFlag f b ix).hubPoison = s.hubPoison := rfl
@[simp] theorem State.setFlag_staged (s : State) (f : Fld) (b : Bool) (ix : List Nat) : (s.setFlag f b ix).staged = s.staged := rfl
@[simp] theorem State.setFlag_atBoundary (s : State) (f : Fld) (b : Bool) (ix : List Nat) : (s.setFlag f b ix).atBoundary = s.atBoundary := rfl
@[simp] theorem State.setFlag_time (s : State) (f : Fld) (b : Bool) (ix : List Nat) : (s.setFlag f b ix).time = s.time := rfl
@[simp] theorem State.setFlag_mem (s : State) (f : Fld) (b : Bool) (ix : List Nat) : (s.setFlag f b ix).mem = s.mem := rfl
@[simp] theorem State.setFlag_boot (s : State) (f : Fld) (b : Bool) (ix : List Nat) : (s.setFlag f b ix).boot = s.boot := rfl
@[simp] theorem State.setFlag_flash (s : State) (f : Fld) (b : Bool) (ix : List Nat) : (s.setFlag f b ix).flash = s.flash := rfl
@[simp] theorem State.setFlag_held (s : State) (f : Fld) (b : Bool) (ix : List Nat) : (s.setFlag f b ix).held = s.held := rfl
@[simp] theorem State.setFlag_pcieHdr (s : State) (f : Fld) (b : Bool) (ix : List Nat) : (s.setFlag f b ix).pcieHdr = s.pcieHdr := rfl
@[simp] theorem State.setFlag_ports (s : State) (f : Fld) (b : Bool) (ix : List Nat) : (s.setFlag f b ix).ports = s.ports := rfl
@[simp] theorem State.setFlag_reqs (s : State) (f : Fld) (b : Bool) (ix : List Nat) : (s.setFlag f b ix).reqs = s.reqs := rfl
@[simp] theorem State.setFlag_nextTag (s : State) (f : Fld) (b : Bool) (ix : List Nat) : (s.setFlag f b ix).nextTag = s.nextTag := rfl
@[simp] theorem State.setFlag_tagUsed (s : State) (f : Fld) (b : Bool) (ix : List Nat) : (s.setFlag f b ix).tagUsed = s.tagUsed := rfl
@[simp] theorem State.setFlag_tagWait (s : State) (f : Fld) (b : Bool) (ix : List Nat) : (s.setFlag f b ix).tagWait = s.tagWait := rfl
@[simp] theorem State.setFlag_narrowWait (s : State) (f : Fld) (b : Bool) (ix : List Nat) : (s.setFlag f b ix).narrowWait = s.narrowWait := rfl
@[simp] theorem State.setFlag_abortRx (s : State) (f : Fld) (b : Bool) (ix : List Nat) : (s.setFlag f b ix).abortRx = s.abortRx := rfl
@[simp] theorem State.setFlag_harts (s : State) (f : Fld) (b : Bool) (ix : List Nat) : (s.setFlag f b ix).harts = s.harts := rfl
@[simp] theorem State.setFlag_pcieReqs (s : State) (f : Fld) (b : Bool) (ix : List Nat) : (s.setFlag f b ix).pcieReqs = s.pcieReqs := rfl
@[simp] theorem State.setFlag_mgt (s : State) (f : Fld) (b : Bool) (ix : List Nat) : (s.setFlag f b ix).mgt = s.mgt := rfl
@[simp] theorem State.setFlag_job (s : State) (f : Fld) (b : Bool) (ix : List Nat) : (s.setFlag f b ix).job = s.job := rfl
@[simp] theorem State.setFlag_items (s : State) (f : Fld) (b : Bool) (ix : List Nat) : (s.setFlag f b ix).items = s.items := rfl
@[simp] theorem State.setFlag_nextItem (s : State) (f : Fld) (b : Bool) (ix : List Nat) : (s.setFlag f b ix).nextItem = s.nextItem := rfl
@[simp] theorem State.setFlag_gates (s : State) (f : Fld) (b : Bool) (ix : List Nat) : (s.setFlag f b ix).gates = s.gates := rfl
@[simp] theorem State.setFlag_nrg (s : State) (f : Fld) (b : Bool) (ix : List Nat) : (s.setFlag f b ix).nrg = s.nrg := rfl
@[simp] theorem State.setFlag_rails (s : State) (f : Fld) (b : Bool) (ix : List Nat) : (s.setFlag f b ix).rails = s.rails := rfl
@[simp] theorem State.setFlag_epo (s : State) (f : Fld) (b : Bool) (ix : List Nat) : (s.setFlag f b ix).epo = s.epo := rfl
@[simp] theorem State.setFlag_fw (s : State) (f : Fld) (b : Bool) (ix : List Nat) : (s.setFlag f b ix).fw = s.fw := rfl
@[simp] theorem State.setFlag_update (s : State) (f : Fld) (b : Bool) (ix : List Nat) : (s.setFlag f b ix).update = s.update := rfl
@[simp] theorem State.setFlag_waiting (s : State) (f : Fld) (b : Bool) (ix : List Nat) : (s.setFlag f b ix).waiting = s.waiting := rfl
@[simp] theorem State.setFlag_arbs (s : State) (f : Fld) (b : Bool) (ix : List Nat) : (s.setFlag f b ix).arbs = s.arbs := rfl
@[simp] theorem State.setFlag_train (s : State) (f : Fld) (b : Bool) (ix : List Nat) : (s.setFlag f b ix).train = s.train := rfl
@[simp] theorem State.setFlag_reeds (s : State) (f : Fld) (b : Bool) (ix : List Nat) : (s.setFlag f b ix).reeds = s.reeds := rfl
@[simp] theorem State.setFlag_summ (s : State) (f : Fld) (b : Bool) (ix : List Nat) : (s.setFlag f b ix).summ = s.summ := rfl
@[simp] theorem State.setFlag_fifos (s : State) (f : Fld) (b : Bool) (ix : List Nat) : (s.setFlag f b ix).fifos = s.fifos := rfl
@[simp] theorem State.setFlag_treg (s : State) (f : Fld) (b : Bool) (ix : List Nat) : (s.setFlag f b ix).treg = s.treg := rfl
@[simp] theorem State.setFlag_tregC (s : State) (f : Fld) (b : Bool) (ix : List Nat) : (s.setFlag f b ix).tregC = s.tregC := rfl
@[simp] theorem State.setFlag_groups (s : State) (f : Fld) (b : Bool) (ix : List Nat) : (s.setFlag f b ix).groups = s.groups := rfl
@[simp] theorem State.setFlag_cols (s : State) (f : Fld) (b : Bool) (ix : List Nat) : (s.setFlag f b ix).cols = s.cols := rfl
@[simp] theorem State.setFlag_inStreams (s : State) (f : Fld) (b : Bool) (ix : List Nat) : (s.setFlag f b ix).inStreams = s.inStreams := rfl
@[simp] theorem State.setFlag_nextStream (s : State) (f : Fld) (b : Bool) (ix : List Nat) : (s.setFlag f b ix).nextStream = s.nextStream := rfl
@[simp] theorem State.setFlag_outStreams (s : State) (f : Fld) (b : Bool) (ix : List Nat) : (s.setFlag f b ix).outStreams = s.outStreams := rfl
@[simp] theorem State.setFlag_slots (s : State) (f : Fld) (b : Bool) (ix : List Nat) : (s.setFlag f b ix).slots = s.slots := rfl
@[simp] theorem State.setFlag_keptAborts (s : State) (f : Fld) (b : Bool) (ix : List Nat) : (s.setFlag f b ix).keptAborts = s.keptAborts := rfl
@[simp] theorem State.setFlag_ended (s : State) (f : Fld) (b : Bool) (ix : List Nat) : (s.setFlag f b ix).ended = s.ended := rfl
@[simp] theorem State.setFlag_vcHeld (s : State) (f : Fld) (b : Bool) (ix : List Nat) : (s.setFlag f b ix).vcHeld = s.vcHeld := rfl
@[simp] theorem State.setFlag_forwarded (s : State) (f : Fld) (b : Bool) (ix : List Nat) : (s.setFlag f b ix).forwarded = s.forwarded := rfl
@[simp] theorem State.setFlag_roster (s : State) (f : Fld) (b : Bool) (ix : List Nat) : (s.setFlag f b ix).roster = s.roster := rfl
@[simp] theorem State.setFlag_cqMarks (s : State) (f : Fld) (b : Bool) (ix : List Nat) : (s.setFlag f b ix).cqMarks = s.cqMarks := rfl
@[simp] theorem State.setFlag_out (s : State) (f : Fld) (b : Bool) (ix : List Nat) : (s.setFlag f b ix).out = s.out := rfl
@[simp] theorem State.setFlag_fresh (s : State) (f : Fld) (b : Bool) (ix : List Nat) : (s.setFlag f b ix).fresh = s.fresh := rfl
@[simp] theorem State.setFlag_pending (s : State) (f : Fld) (b : Bool) (ix : List Nat) : (s.setFlag f b ix).pending = s.pending := rfl
/-! bump changes `regs` alone. -/
@[simp] theorem State.bump_pins (s : State) (f : Fld) (ix : List Nat) (d : Nat) : (s.bump f ix d).pins = s.pins := rfl
@[simp] theorem State.bump_sb (s : State) (f : Fld) (ix : List Nat) (d : Nat) : (s.bump f ix d).sb = s.sb := rfl
@[simp] theorem State.bump_hubPoison (s : State) (f : Fld) (ix : List Nat) (d : Nat) : (s.bump f ix d).hubPoison = s.hubPoison := rfl
@[simp] theorem State.bump_staged (s : State) (f : Fld) (ix : List Nat) (d : Nat) : (s.bump f ix d).staged = s.staged := rfl
@[simp] theorem State.bump_atBoundary (s : State) (f : Fld) (ix : List Nat) (d : Nat) : (s.bump f ix d).atBoundary = s.atBoundary := rfl
@[simp] theorem State.bump_time (s : State) (f : Fld) (ix : List Nat) (d : Nat) : (s.bump f ix d).time = s.time := rfl
@[simp] theorem State.bump_mem (s : State) (f : Fld) (ix : List Nat) (d : Nat) : (s.bump f ix d).mem = s.mem := rfl
@[simp] theorem State.bump_boot (s : State) (f : Fld) (ix : List Nat) (d : Nat) : (s.bump f ix d).boot = s.boot := rfl
@[simp] theorem State.bump_flash (s : State) (f : Fld) (ix : List Nat) (d : Nat) : (s.bump f ix d).flash = s.flash := rfl
@[simp] theorem State.bump_held (s : State) (f : Fld) (ix : List Nat) (d : Nat) : (s.bump f ix d).held = s.held := rfl
@[simp] theorem State.bump_pcieHdr (s : State) (f : Fld) (ix : List Nat) (d : Nat) : (s.bump f ix d).pcieHdr = s.pcieHdr := rfl
@[simp] theorem State.bump_ports (s : State) (f : Fld) (ix : List Nat) (d : Nat) : (s.bump f ix d).ports = s.ports := rfl
@[simp] theorem State.bump_reqs (s : State) (f : Fld) (ix : List Nat) (d : Nat) : (s.bump f ix d).reqs = s.reqs := rfl
@[simp] theorem State.bump_nextTag (s : State) (f : Fld) (ix : List Nat) (d : Nat) : (s.bump f ix d).nextTag = s.nextTag := rfl
@[simp] theorem State.bump_tagUsed (s : State) (f : Fld) (ix : List Nat) (d : Nat) : (s.bump f ix d).tagUsed = s.tagUsed := rfl
@[simp] theorem State.bump_tagWait (s : State) (f : Fld) (ix : List Nat) (d : Nat) : (s.bump f ix d).tagWait = s.tagWait := rfl
@[simp] theorem State.bump_narrowWait (s : State) (f : Fld) (ix : List Nat) (d : Nat) : (s.bump f ix d).narrowWait = s.narrowWait := rfl
@[simp] theorem State.bump_abortRx (s : State) (f : Fld) (ix : List Nat) (d : Nat) : (s.bump f ix d).abortRx = s.abortRx := rfl
@[simp] theorem State.bump_harts (s : State) (f : Fld) (ix : List Nat) (d : Nat) : (s.bump f ix d).harts = s.harts := rfl
@[simp] theorem State.bump_pcieReqs (s : State) (f : Fld) (ix : List Nat) (d : Nat) : (s.bump f ix d).pcieReqs = s.pcieReqs := rfl
@[simp] theorem State.bump_mgt (s : State) (f : Fld) (ix : List Nat) (d : Nat) : (s.bump f ix d).mgt = s.mgt := rfl
@[simp] theorem State.bump_job (s : State) (f : Fld) (ix : List Nat) (d : Nat) : (s.bump f ix d).job = s.job := rfl
@[simp] theorem State.bump_items (s : State) (f : Fld) (ix : List Nat) (d : Nat) : (s.bump f ix d).items = s.items := rfl
@[simp] theorem State.bump_nextItem (s : State) (f : Fld) (ix : List Nat) (d : Nat) : (s.bump f ix d).nextItem = s.nextItem := rfl
@[simp] theorem State.bump_gates (s : State) (f : Fld) (ix : List Nat) (d : Nat) : (s.bump f ix d).gates = s.gates := rfl
@[simp] theorem State.bump_nrg (s : State) (f : Fld) (ix : List Nat) (d : Nat) : (s.bump f ix d).nrg = s.nrg := rfl
@[simp] theorem State.bump_rails (s : State) (f : Fld) (ix : List Nat) (d : Nat) : (s.bump f ix d).rails = s.rails := rfl
@[simp] theorem State.bump_epo (s : State) (f : Fld) (ix : List Nat) (d : Nat) : (s.bump f ix d).epo = s.epo := rfl
@[simp] theorem State.bump_fw (s : State) (f : Fld) (ix : List Nat) (d : Nat) : (s.bump f ix d).fw = s.fw := rfl
@[simp] theorem State.bump_update (s : State) (f : Fld) (ix : List Nat) (d : Nat) : (s.bump f ix d).update = s.update := rfl
@[simp] theorem State.bump_waiting (s : State) (f : Fld) (ix : List Nat) (d : Nat) : (s.bump f ix d).waiting = s.waiting := rfl
@[simp] theorem State.bump_arbs (s : State) (f : Fld) (ix : List Nat) (d : Nat) : (s.bump f ix d).arbs = s.arbs := rfl
@[simp] theorem State.bump_train (s : State) (f : Fld) (ix : List Nat) (d : Nat) : (s.bump f ix d).train = s.train := rfl
@[simp] theorem State.bump_reeds (s : State) (f : Fld) (ix : List Nat) (d : Nat) : (s.bump f ix d).reeds = s.reeds := rfl
@[simp] theorem State.bump_summ (s : State) (f : Fld) (ix : List Nat) (d : Nat) : (s.bump f ix d).summ = s.summ := rfl
@[simp] theorem State.bump_fifos (s : State) (f : Fld) (ix : List Nat) (d : Nat) : (s.bump f ix d).fifos = s.fifos := rfl
@[simp] theorem State.bump_treg (s : State) (f : Fld) (ix : List Nat) (d : Nat) : (s.bump f ix d).treg = s.treg := rfl
@[simp] theorem State.bump_tregC (s : State) (f : Fld) (ix : List Nat) (d : Nat) : (s.bump f ix d).tregC = s.tregC := rfl
@[simp] theorem State.bump_groups (s : State) (f : Fld) (ix : List Nat) (d : Nat) : (s.bump f ix d).groups = s.groups := rfl
@[simp] theorem State.bump_cols (s : State) (f : Fld) (ix : List Nat) (d : Nat) : (s.bump f ix d).cols = s.cols := rfl
@[simp] theorem State.bump_inStreams (s : State) (f : Fld) (ix : List Nat) (d : Nat) : (s.bump f ix d).inStreams = s.inStreams := rfl
@[simp] theorem State.bump_nextStream (s : State) (f : Fld) (ix : List Nat) (d : Nat) : (s.bump f ix d).nextStream = s.nextStream := rfl
@[simp] theorem State.bump_outStreams (s : State) (f : Fld) (ix : List Nat) (d : Nat) : (s.bump f ix d).outStreams = s.outStreams := rfl
@[simp] theorem State.bump_slots (s : State) (f : Fld) (ix : List Nat) (d : Nat) : (s.bump f ix d).slots = s.slots := rfl
@[simp] theorem State.bump_keptAborts (s : State) (f : Fld) (ix : List Nat) (d : Nat) : (s.bump f ix d).keptAborts = s.keptAborts := rfl
@[simp] theorem State.bump_ended (s : State) (f : Fld) (ix : List Nat) (d : Nat) : (s.bump f ix d).ended = s.ended := rfl
@[simp] theorem State.bump_vcHeld (s : State) (f : Fld) (ix : List Nat) (d : Nat) : (s.bump f ix d).vcHeld = s.vcHeld := rfl
@[simp] theorem State.bump_forwarded (s : State) (f : Fld) (ix : List Nat) (d : Nat) : (s.bump f ix d).forwarded = s.forwarded := rfl
@[simp] theorem State.bump_roster (s : State) (f : Fld) (ix : List Nat) (d : Nat) : (s.bump f ix d).roster = s.roster := rfl
@[simp] theorem State.bump_cqMarks (s : State) (f : Fld) (ix : List Nat) (d : Nat) : (s.bump f ix d).cqMarks = s.cqMarks := rfl
@[simp] theorem State.bump_out (s : State) (f : Fld) (ix : List Nat) (d : Nat) : (s.bump f ix d).out = s.out := rfl
@[simp] theorem State.bump_fresh (s : State) (f : Fld) (ix : List Nat) (d : Nat) : (s.bump f ix d).fresh = s.fresh := rfl
@[simp] theorem State.bump_pending (s : State) (f : Fld) (ix : List Nat) (d : Nat) : (s.bump f ix d).pending = s.pending := rfl
/-! bumpSat changes `regs` alone. -/
@[simp] theorem State.bumpSat_pins (s : State) (f : Fld) (ix : List Nat) (d : Nat) : (s.bumpSat f ix d).pins = s.pins := rfl
@[simp] theorem State.bumpSat_sb (s : State) (f : Fld) (ix : List Nat) (d : Nat) : (s.bumpSat f ix d).sb = s.sb := rfl
@[simp] theorem State.bumpSat_hubPoison (s : State) (f : Fld) (ix : List Nat) (d : Nat) : (s.bumpSat f ix d).hubPoison = s.hubPoison := rfl
@[simp] theorem State.bumpSat_staged (s : State) (f : Fld) (ix : List Nat) (d : Nat) : (s.bumpSat f ix d).staged = s.staged := rfl
@[simp] theorem State.bumpSat_atBoundary (s : State) (f : Fld) (ix : List Nat) (d : Nat) : (s.bumpSat f ix d).atBoundary = s.atBoundary := rfl
@[simp] theorem State.bumpSat_time (s : State) (f : Fld) (ix : List Nat) (d : Nat) : (s.bumpSat f ix d).time = s.time := rfl
@[simp] theorem State.bumpSat_mem (s : State) (f : Fld) (ix : List Nat) (d : Nat) : (s.bumpSat f ix d).mem = s.mem := rfl
@[simp] theorem State.bumpSat_boot (s : State) (f : Fld) (ix : List Nat) (d : Nat) : (s.bumpSat f ix d).boot = s.boot := rfl
@[simp] theorem State.bumpSat_flash (s : State) (f : Fld) (ix : List Nat) (d : Nat) : (s.bumpSat f ix d).flash = s.flash := rfl
@[simp] theorem State.bumpSat_held (s : State) (f : Fld) (ix : List Nat) (d : Nat) : (s.bumpSat f ix d).held = s.held := rfl
@[simp] theorem State.bumpSat_pcieHdr (s : State) (f : Fld) (ix : List Nat) (d : Nat) : (s.bumpSat f ix d).pcieHdr = s.pcieHdr := rfl
@[simp] theorem State.bumpSat_ports (s : State) (f : Fld) (ix : List Nat) (d : Nat) : (s.bumpSat f ix d).ports = s.ports := rfl
@[simp] theorem State.bumpSat_reqs (s : State) (f : Fld) (ix : List Nat) (d : Nat) : (s.bumpSat f ix d).reqs = s.reqs := rfl
@[simp] theorem State.bumpSat_nextTag (s : State) (f : Fld) (ix : List Nat) (d : Nat) : (s.bumpSat f ix d).nextTag = s.nextTag := rfl
@[simp] theorem State.bumpSat_tagUsed (s : State) (f : Fld) (ix : List Nat) (d : Nat) : (s.bumpSat f ix d).tagUsed = s.tagUsed := rfl
@[simp] theorem State.bumpSat_tagWait (s : State) (f : Fld) (ix : List Nat) (d : Nat) : (s.bumpSat f ix d).tagWait = s.tagWait := rfl
@[simp] theorem State.bumpSat_narrowWait (s : State) (f : Fld) (ix : List Nat) (d : Nat) : (s.bumpSat f ix d).narrowWait = s.narrowWait := rfl
@[simp] theorem State.bumpSat_abortRx (s : State) (f : Fld) (ix : List Nat) (d : Nat) : (s.bumpSat f ix d).abortRx = s.abortRx := rfl
@[simp] theorem State.bumpSat_harts (s : State) (f : Fld) (ix : List Nat) (d : Nat) : (s.bumpSat f ix d).harts = s.harts := rfl
@[simp] theorem State.bumpSat_pcieReqs (s : State) (f : Fld) (ix : List Nat) (d : Nat) : (s.bumpSat f ix d).pcieReqs = s.pcieReqs := rfl
@[simp] theorem State.bumpSat_mgt (s : State) (f : Fld) (ix : List Nat) (d : Nat) : (s.bumpSat f ix d).mgt = s.mgt := rfl
@[simp] theorem State.bumpSat_job (s : State) (f : Fld) (ix : List Nat) (d : Nat) : (s.bumpSat f ix d).job = s.job := rfl
@[simp] theorem State.bumpSat_items (s : State) (f : Fld) (ix : List Nat) (d : Nat) : (s.bumpSat f ix d).items = s.items := rfl
@[simp] theorem State.bumpSat_nextItem (s : State) (f : Fld) (ix : List Nat) (d : Nat) : (s.bumpSat f ix d).nextItem = s.nextItem := rfl
@[simp] theorem State.bumpSat_gates (s : State) (f : Fld) (ix : List Nat) (d : Nat) : (s.bumpSat f ix d).gates = s.gates := rfl
@[simp] theorem State.bumpSat_nrg (s : State) (f : Fld) (ix : List Nat) (d : Nat) : (s.bumpSat f ix d).nrg = s.nrg := rfl
@[simp] theorem State.bumpSat_rails (s : State) (f : Fld) (ix : List Nat) (d : Nat) : (s.bumpSat f ix d).rails = s.rails := rfl
@[simp] theorem State.bumpSat_epo (s : State) (f : Fld) (ix : List Nat) (d : Nat) : (s.bumpSat f ix d).epo = s.epo := rfl
@[simp] theorem State.bumpSat_fw (s : State) (f : Fld) (ix : List Nat) (d : Nat) : (s.bumpSat f ix d).fw = s.fw := rfl
@[simp] theorem State.bumpSat_update (s : State) (f : Fld) (ix : List Nat) (d : Nat) : (s.bumpSat f ix d).update = s.update := rfl
@[simp] theorem State.bumpSat_waiting (s : State) (f : Fld) (ix : List Nat) (d : Nat) : (s.bumpSat f ix d).waiting = s.waiting := rfl
@[simp] theorem State.bumpSat_arbs (s : State) (f : Fld) (ix : List Nat) (d : Nat) : (s.bumpSat f ix d).arbs = s.arbs := rfl
@[simp] theorem State.bumpSat_train (s : State) (f : Fld) (ix : List Nat) (d : Nat) : (s.bumpSat f ix d).train = s.train := rfl
@[simp] theorem State.bumpSat_reeds (s : State) (f : Fld) (ix : List Nat) (d : Nat) : (s.bumpSat f ix d).reeds = s.reeds := rfl
@[simp] theorem State.bumpSat_summ (s : State) (f : Fld) (ix : List Nat) (d : Nat) : (s.bumpSat f ix d).summ = s.summ := rfl
@[simp] theorem State.bumpSat_fifos (s : State) (f : Fld) (ix : List Nat) (d : Nat) : (s.bumpSat f ix d).fifos = s.fifos := rfl
@[simp] theorem State.bumpSat_treg (s : State) (f : Fld) (ix : List Nat) (d : Nat) : (s.bumpSat f ix d).treg = s.treg := rfl
@[simp] theorem State.bumpSat_tregC (s : State) (f : Fld) (ix : List Nat) (d : Nat) : (s.bumpSat f ix d).tregC = s.tregC := rfl
@[simp] theorem State.bumpSat_groups (s : State) (f : Fld) (ix : List Nat) (d : Nat) : (s.bumpSat f ix d).groups = s.groups := rfl
@[simp] theorem State.bumpSat_cols (s : State) (f : Fld) (ix : List Nat) (d : Nat) : (s.bumpSat f ix d).cols = s.cols := rfl
@[simp] theorem State.bumpSat_inStreams (s : State) (f : Fld) (ix : List Nat) (d : Nat) : (s.bumpSat f ix d).inStreams = s.inStreams := rfl
@[simp] theorem State.bumpSat_nextStream (s : State) (f : Fld) (ix : List Nat) (d : Nat) : (s.bumpSat f ix d).nextStream = s.nextStream := rfl
@[simp] theorem State.bumpSat_outStreams (s : State) (f : Fld) (ix : List Nat) (d : Nat) : (s.bumpSat f ix d).outStreams = s.outStreams := rfl
@[simp] theorem State.bumpSat_slots (s : State) (f : Fld) (ix : List Nat) (d : Nat) : (s.bumpSat f ix d).slots = s.slots := rfl
@[simp] theorem State.bumpSat_keptAborts (s : State) (f : Fld) (ix : List Nat) (d : Nat) : (s.bumpSat f ix d).keptAborts = s.keptAborts := rfl
@[simp] theorem State.bumpSat_ended (s : State) (f : Fld) (ix : List Nat) (d : Nat) : (s.bumpSat f ix d).ended = s.ended := rfl
@[simp] theorem State.bumpSat_vcHeld (s : State) (f : Fld) (ix : List Nat) (d : Nat) : (s.bumpSat f ix d).vcHeld = s.vcHeld := rfl
@[simp] theorem State.bumpSat_forwarded (s : State) (f : Fld) (ix : List Nat) (d : Nat) : (s.bumpSat f ix d).forwarded = s.forwarded := rfl
@[simp] theorem State.bumpSat_roster (s : State) (f : Fld) (ix : List Nat) (d : Nat) : (s.bumpSat f ix d).roster = s.roster := rfl
@[simp] theorem State.bumpSat_cqMarks (s : State) (f : Fld) (ix : List Nat) (d : Nat) : (s.bumpSat f ix d).cqMarks = s.cqMarks := rfl
@[simp] theorem State.bumpSat_out (s : State) (f : Fld) (ix : List Nat) (d : Nat) : (s.bumpSat f ix d).out = s.out := rfl
@[simp] theorem State.bumpSat_fresh (s : State) (f : Fld) (ix : List Nat) (d : Nat) : (s.bumpSat f ix d).fresh = s.fresh := rfl
@[simp] theorem State.bumpSat_pending (s : State) (f : Fld) (ix : List Nat) (d : Nat) : (s.bumpSat f ix d).pending = s.pending := rfl
/-! setFldBit changes `regs` alone. -/
@[simp] theorem State.setFldBit_pins (s : State) (f : Fld) (i : Nat) (b : Bool) (ix : List Nat) : (s.setFldBit f i b ix).pins = s.pins := rfl
@[simp] theorem State.setFldBit_sb (s : State) (f : Fld) (i : Nat) (b : Bool) (ix : List Nat) : (s.setFldBit f i b ix).sb = s.sb := rfl
@[simp] theorem State.setFldBit_hubPoison (s : State) (f : Fld) (i : Nat) (b : Bool) (ix : List Nat) : (s.setFldBit f i b ix).hubPoison = s.hubPoison := rfl
@[simp] theorem State.setFldBit_staged (s : State) (f : Fld) (i : Nat) (b : Bool) (ix : List Nat) : (s.setFldBit f i b ix).staged = s.staged := rfl
@[simp] theorem State.setFldBit_atBoundary (s : State) (f : Fld) (i : Nat) (b : Bool) (ix : List Nat) : (s.setFldBit f i b ix).atBoundary = s.atBoundary := rfl
@[simp] theorem State.setFldBit_time (s : State) (f : Fld) (i : Nat) (b : Bool) (ix : List Nat) : (s.setFldBit f i b ix).time = s.time := rfl
@[simp] theorem State.setFldBit_mem (s : State) (f : Fld) (i : Nat) (b : Bool) (ix : List Nat) : (s.setFldBit f i b ix).mem = s.mem := rfl
@[simp] theorem State.setFldBit_boot (s : State) (f : Fld) (i : Nat) (b : Bool) (ix : List Nat) : (s.setFldBit f i b ix).boot = s.boot := rfl
@[simp] theorem State.setFldBit_flash (s : State) (f : Fld) (i : Nat) (b : Bool) (ix : List Nat) : (s.setFldBit f i b ix).flash = s.flash := rfl
@[simp] theorem State.setFldBit_held (s : State) (f : Fld) (i : Nat) (b : Bool) (ix : List Nat) : (s.setFldBit f i b ix).held = s.held := rfl
@[simp] theorem State.setFldBit_pcieHdr (s : State) (f : Fld) (i : Nat) (b : Bool) (ix : List Nat) : (s.setFldBit f i b ix).pcieHdr = s.pcieHdr := rfl
@[simp] theorem State.setFldBit_ports (s : State) (f : Fld) (i : Nat) (b : Bool) (ix : List Nat) : (s.setFldBit f i b ix).ports = s.ports := rfl
@[simp] theorem State.setFldBit_reqs (s : State) (f : Fld) (i : Nat) (b : Bool) (ix : List Nat) : (s.setFldBit f i b ix).reqs = s.reqs := rfl
@[simp] theorem State.setFldBit_nextTag (s : State) (f : Fld) (i : Nat) (b : Bool) (ix : List Nat) : (s.setFldBit f i b ix).nextTag = s.nextTag := rfl
@[simp] theorem State.setFldBit_tagUsed (s : State) (f : Fld) (i : Nat) (b : Bool) (ix : List Nat) : (s.setFldBit f i b ix).tagUsed = s.tagUsed := rfl
@[simp] theorem State.setFldBit_tagWait (s : State) (f : Fld) (i : Nat) (b : Bool) (ix : List Nat) : (s.setFldBit f i b ix).tagWait = s.tagWait := rfl
@[simp] theorem State.setFldBit_narrowWait (s : State) (f : Fld) (i : Nat) (b : Bool) (ix : List Nat) : (s.setFldBit f i b ix).narrowWait = s.narrowWait := rfl
@[simp] theorem State.setFldBit_abortRx (s : State) (f : Fld) (i : Nat) (b : Bool) (ix : List Nat) : (s.setFldBit f i b ix).abortRx = s.abortRx := rfl
@[simp] theorem State.setFldBit_harts (s : State) (f : Fld) (i : Nat) (b : Bool) (ix : List Nat) : (s.setFldBit f i b ix).harts = s.harts := rfl
@[simp] theorem State.setFldBit_pcieReqs (s : State) (f : Fld) (i : Nat) (b : Bool) (ix : List Nat) : (s.setFldBit f i b ix).pcieReqs = s.pcieReqs := rfl
@[simp] theorem State.setFldBit_mgt (s : State) (f : Fld) (i : Nat) (b : Bool) (ix : List Nat) : (s.setFldBit f i b ix).mgt = s.mgt := rfl
@[simp] theorem State.setFldBit_job (s : State) (f : Fld) (i : Nat) (b : Bool) (ix : List Nat) : (s.setFldBit f i b ix).job = s.job := rfl
@[simp] theorem State.setFldBit_items (s : State) (f : Fld) (i : Nat) (b : Bool) (ix : List Nat) : (s.setFldBit f i b ix).items = s.items := rfl
@[simp] theorem State.setFldBit_nextItem (s : State) (f : Fld) (i : Nat) (b : Bool) (ix : List Nat) : (s.setFldBit f i b ix).nextItem = s.nextItem := rfl
@[simp] theorem State.setFldBit_gates (s : State) (f : Fld) (i : Nat) (b : Bool) (ix : List Nat) : (s.setFldBit f i b ix).gates = s.gates := rfl
@[simp] theorem State.setFldBit_nrg (s : State) (f : Fld) (i : Nat) (b : Bool) (ix : List Nat) : (s.setFldBit f i b ix).nrg = s.nrg := rfl
@[simp] theorem State.setFldBit_rails (s : State) (f : Fld) (i : Nat) (b : Bool) (ix : List Nat) : (s.setFldBit f i b ix).rails = s.rails := rfl
@[simp] theorem State.setFldBit_epo (s : State) (f : Fld) (i : Nat) (b : Bool) (ix : List Nat) : (s.setFldBit f i b ix).epo = s.epo := rfl
@[simp] theorem State.setFldBit_fw (s : State) (f : Fld) (i : Nat) (b : Bool) (ix : List Nat) : (s.setFldBit f i b ix).fw = s.fw := rfl
@[simp] theorem State.setFldBit_update (s : State) (f : Fld) (i : Nat) (b : Bool) (ix : List Nat) : (s.setFldBit f i b ix).update = s.update := rfl
@[simp] theorem State.setFldBit_waiting (s : State) (f : Fld) (i : Nat) (b : Bool) (ix : List Nat) : (s.setFldBit f i b ix).waiting = s.waiting := rfl
@[simp] theorem State.setFldBit_arbs (s : State) (f : Fld) (i : Nat) (b : Bool) (ix : List Nat) : (s.setFldBit f i b ix).arbs = s.arbs := rfl
@[simp] theorem State.setFldBit_train (s : State) (f : Fld) (i : Nat) (b : Bool) (ix : List Nat) : (s.setFldBit f i b ix).train = s.train := rfl
@[simp] theorem State.setFldBit_reeds (s : State) (f : Fld) (i : Nat) (b : Bool) (ix : List Nat) : (s.setFldBit f i b ix).reeds = s.reeds := rfl
@[simp] theorem State.setFldBit_summ (s : State) (f : Fld) (i : Nat) (b : Bool) (ix : List Nat) : (s.setFldBit f i b ix).summ = s.summ := rfl
@[simp] theorem State.setFldBit_fifos (s : State) (f : Fld) (i : Nat) (b : Bool) (ix : List Nat) : (s.setFldBit f i b ix).fifos = s.fifos := rfl
@[simp] theorem State.setFldBit_treg (s : State) (f : Fld) (i : Nat) (b : Bool) (ix : List Nat) : (s.setFldBit f i b ix).treg = s.treg := rfl
@[simp] theorem State.setFldBit_tregC (s : State) (f : Fld) (i : Nat) (b : Bool) (ix : List Nat) : (s.setFldBit f i b ix).tregC = s.tregC := rfl
@[simp] theorem State.setFldBit_groups (s : State) (f : Fld) (i : Nat) (b : Bool) (ix : List Nat) : (s.setFldBit f i b ix).groups = s.groups := rfl
@[simp] theorem State.setFldBit_cols (s : State) (f : Fld) (i : Nat) (b : Bool) (ix : List Nat) : (s.setFldBit f i b ix).cols = s.cols := rfl
@[simp] theorem State.setFldBit_inStreams (s : State) (f : Fld) (i : Nat) (b : Bool) (ix : List Nat) : (s.setFldBit f i b ix).inStreams = s.inStreams := rfl
@[simp] theorem State.setFldBit_nextStream (s : State) (f : Fld) (i : Nat) (b : Bool) (ix : List Nat) : (s.setFldBit f i b ix).nextStream = s.nextStream := rfl
@[simp] theorem State.setFldBit_outStreams (s : State) (f : Fld) (i : Nat) (b : Bool) (ix : List Nat) : (s.setFldBit f i b ix).outStreams = s.outStreams := rfl
@[simp] theorem State.setFldBit_slots (s : State) (f : Fld) (i : Nat) (b : Bool) (ix : List Nat) : (s.setFldBit f i b ix).slots = s.slots := rfl
@[simp] theorem State.setFldBit_keptAborts (s : State) (f : Fld) (i : Nat) (b : Bool) (ix : List Nat) : (s.setFldBit f i b ix).keptAborts = s.keptAborts := rfl
@[simp] theorem State.setFldBit_ended (s : State) (f : Fld) (i : Nat) (b : Bool) (ix : List Nat) : (s.setFldBit f i b ix).ended = s.ended := rfl
@[simp] theorem State.setFldBit_vcHeld (s : State) (f : Fld) (i : Nat) (b : Bool) (ix : List Nat) : (s.setFldBit f i b ix).vcHeld = s.vcHeld := rfl
@[simp] theorem State.setFldBit_forwarded (s : State) (f : Fld) (i : Nat) (b : Bool) (ix : List Nat) : (s.setFldBit f i b ix).forwarded = s.forwarded := rfl
@[simp] theorem State.setFldBit_roster (s : State) (f : Fld) (i : Nat) (b : Bool) (ix : List Nat) : (s.setFldBit f i b ix).roster = s.roster := rfl
@[simp] theorem State.setFldBit_cqMarks (s : State) (f : Fld) (i : Nat) (b : Bool) (ix : List Nat) : (s.setFldBit f i b ix).cqMarks = s.cqMarks := rfl
@[simp] theorem State.setFldBit_out (s : State) (f : Fld) (i : Nat) (b : Bool) (ix : List Nat) : (s.setFldBit f i b ix).out = s.out := rfl
@[simp] theorem State.setFldBit_fresh (s : State) (f : Fld) (i : Nat) (b : Bool) (ix : List Nat) : (s.setFldBit f i b ix).fresh = s.fresh := rfl
@[simp] theorem State.setFldBit_pending (s : State) (f : Fld) (i : Nat) (b : Bool) (ix : List Nat) : (s.setFldBit f i b ix).pending = s.pending := rfl
/-! maxFld changes `regs` alone. -/
@[simp] theorem State.maxFld_pins (s : State) (f : Fld) (v : Nat) (ix : List Nat) : (s.maxFld f v ix).pins = s.pins := rfl
@[simp] theorem State.maxFld_sb (s : State) (f : Fld) (v : Nat) (ix : List Nat) : (s.maxFld f v ix).sb = s.sb := rfl
@[simp] theorem State.maxFld_hubPoison (s : State) (f : Fld) (v : Nat) (ix : List Nat) : (s.maxFld f v ix).hubPoison = s.hubPoison := rfl
@[simp] theorem State.maxFld_staged (s : State) (f : Fld) (v : Nat) (ix : List Nat) : (s.maxFld f v ix).staged = s.staged := rfl
@[simp] theorem State.maxFld_atBoundary (s : State) (f : Fld) (v : Nat) (ix : List Nat) : (s.maxFld f v ix).atBoundary = s.atBoundary := rfl
@[simp] theorem State.maxFld_time (s : State) (f : Fld) (v : Nat) (ix : List Nat) : (s.maxFld f v ix).time = s.time := rfl
@[simp] theorem State.maxFld_mem (s : State) (f : Fld) (v : Nat) (ix : List Nat) : (s.maxFld f v ix).mem = s.mem := rfl
@[simp] theorem State.maxFld_boot (s : State) (f : Fld) (v : Nat) (ix : List Nat) : (s.maxFld f v ix).boot = s.boot := rfl
@[simp] theorem State.maxFld_flash (s : State) (f : Fld) (v : Nat) (ix : List Nat) : (s.maxFld f v ix).flash = s.flash := rfl
@[simp] theorem State.maxFld_held (s : State) (f : Fld) (v : Nat) (ix : List Nat) : (s.maxFld f v ix).held = s.held := rfl
@[simp] theorem State.maxFld_pcieHdr (s : State) (f : Fld) (v : Nat) (ix : List Nat) : (s.maxFld f v ix).pcieHdr = s.pcieHdr := rfl
@[simp] theorem State.maxFld_ports (s : State) (f : Fld) (v : Nat) (ix : List Nat) : (s.maxFld f v ix).ports = s.ports := rfl
@[simp] theorem State.maxFld_reqs (s : State) (f : Fld) (v : Nat) (ix : List Nat) : (s.maxFld f v ix).reqs = s.reqs := rfl
@[simp] theorem State.maxFld_nextTag (s : State) (f : Fld) (v : Nat) (ix : List Nat) : (s.maxFld f v ix).nextTag = s.nextTag := rfl
@[simp] theorem State.maxFld_tagUsed (s : State) (f : Fld) (v : Nat) (ix : List Nat) : (s.maxFld f v ix).tagUsed = s.tagUsed := rfl
@[simp] theorem State.maxFld_tagWait (s : State) (f : Fld) (v : Nat) (ix : List Nat) : (s.maxFld f v ix).tagWait = s.tagWait := rfl
@[simp] theorem State.maxFld_narrowWait (s : State) (f : Fld) (v : Nat) (ix : List Nat) : (s.maxFld f v ix).narrowWait = s.narrowWait := rfl
@[simp] theorem State.maxFld_abortRx (s : State) (f : Fld) (v : Nat) (ix : List Nat) : (s.maxFld f v ix).abortRx = s.abortRx := rfl
@[simp] theorem State.maxFld_harts (s : State) (f : Fld) (v : Nat) (ix : List Nat) : (s.maxFld f v ix).harts = s.harts := rfl
@[simp] theorem State.maxFld_pcieReqs (s : State) (f : Fld) (v : Nat) (ix : List Nat) : (s.maxFld f v ix).pcieReqs = s.pcieReqs := rfl
@[simp] theorem State.maxFld_mgt (s : State) (f : Fld) (v : Nat) (ix : List Nat) : (s.maxFld f v ix).mgt = s.mgt := rfl
@[simp] theorem State.maxFld_job (s : State) (f : Fld) (v : Nat) (ix : List Nat) : (s.maxFld f v ix).job = s.job := rfl
@[simp] theorem State.maxFld_items (s : State) (f : Fld) (v : Nat) (ix : List Nat) : (s.maxFld f v ix).items = s.items := rfl
@[simp] theorem State.maxFld_nextItem (s : State) (f : Fld) (v : Nat) (ix : List Nat) : (s.maxFld f v ix).nextItem = s.nextItem := rfl
@[simp] theorem State.maxFld_gates (s : State) (f : Fld) (v : Nat) (ix : List Nat) : (s.maxFld f v ix).gates = s.gates := rfl
@[simp] theorem State.maxFld_nrg (s : State) (f : Fld) (v : Nat) (ix : List Nat) : (s.maxFld f v ix).nrg = s.nrg := rfl
@[simp] theorem State.maxFld_rails (s : State) (f : Fld) (v : Nat) (ix : List Nat) : (s.maxFld f v ix).rails = s.rails := rfl
@[simp] theorem State.maxFld_epo (s : State) (f : Fld) (v : Nat) (ix : List Nat) : (s.maxFld f v ix).epo = s.epo := rfl
@[simp] theorem State.maxFld_fw (s : State) (f : Fld) (v : Nat) (ix : List Nat) : (s.maxFld f v ix).fw = s.fw := rfl
@[simp] theorem State.maxFld_update (s : State) (f : Fld) (v : Nat) (ix : List Nat) : (s.maxFld f v ix).update = s.update := rfl
@[simp] theorem State.maxFld_waiting (s : State) (f : Fld) (v : Nat) (ix : List Nat) : (s.maxFld f v ix).waiting = s.waiting := rfl
@[simp] theorem State.maxFld_arbs (s : State) (f : Fld) (v : Nat) (ix : List Nat) : (s.maxFld f v ix).arbs = s.arbs := rfl
@[simp] theorem State.maxFld_train (s : State) (f : Fld) (v : Nat) (ix : List Nat) : (s.maxFld f v ix).train = s.train := rfl
@[simp] theorem State.maxFld_reeds (s : State) (f : Fld) (v : Nat) (ix : List Nat) : (s.maxFld f v ix).reeds = s.reeds := rfl
@[simp] theorem State.maxFld_summ (s : State) (f : Fld) (v : Nat) (ix : List Nat) : (s.maxFld f v ix).summ = s.summ := rfl
@[simp] theorem State.maxFld_fifos (s : State) (f : Fld) (v : Nat) (ix : List Nat) : (s.maxFld f v ix).fifos = s.fifos := rfl
@[simp] theorem State.maxFld_treg (s : State) (f : Fld) (v : Nat) (ix : List Nat) : (s.maxFld f v ix).treg = s.treg := rfl
@[simp] theorem State.maxFld_tregC (s : State) (f : Fld) (v : Nat) (ix : List Nat) : (s.maxFld f v ix).tregC = s.tregC := rfl
@[simp] theorem State.maxFld_groups (s : State) (f : Fld) (v : Nat) (ix : List Nat) : (s.maxFld f v ix).groups = s.groups := rfl
@[simp] theorem State.maxFld_cols (s : State) (f : Fld) (v : Nat) (ix : List Nat) : (s.maxFld f v ix).cols = s.cols := rfl
@[simp] theorem State.maxFld_inStreams (s : State) (f : Fld) (v : Nat) (ix : List Nat) : (s.maxFld f v ix).inStreams = s.inStreams := rfl
@[simp] theorem State.maxFld_nextStream (s : State) (f : Fld) (v : Nat) (ix : List Nat) : (s.maxFld f v ix).nextStream = s.nextStream := rfl
@[simp] theorem State.maxFld_outStreams (s : State) (f : Fld) (v : Nat) (ix : List Nat) : (s.maxFld f v ix).outStreams = s.outStreams := rfl
@[simp] theorem State.maxFld_slots (s : State) (f : Fld) (v : Nat) (ix : List Nat) : (s.maxFld f v ix).slots = s.slots := rfl
@[simp] theorem State.maxFld_keptAborts (s : State) (f : Fld) (v : Nat) (ix : List Nat) : (s.maxFld f v ix).keptAborts = s.keptAborts := rfl
@[simp] theorem State.maxFld_ended (s : State) (f : Fld) (v : Nat) (ix : List Nat) : (s.maxFld f v ix).ended = s.ended := rfl
@[simp] theorem State.maxFld_vcHeld (s : State) (f : Fld) (v : Nat) (ix : List Nat) : (s.maxFld f v ix).vcHeld = s.vcHeld := rfl
@[simp] theorem State.maxFld_forwarded (s : State) (f : Fld) (v : Nat) (ix : List Nat) : (s.maxFld f v ix).forwarded = s.forwarded := rfl
@[simp] theorem State.maxFld_roster (s : State) (f : Fld) (v : Nat) (ix : List Nat) : (s.maxFld f v ix).roster = s.roster := rfl
@[simp] theorem State.maxFld_cqMarks (s : State) (f : Fld) (v : Nat) (ix : List Nat) : (s.maxFld f v ix).cqMarks = s.cqMarks := rfl
@[simp] theorem State.maxFld_out (s : State) (f : Fld) (v : Nat) (ix : List Nat) : (s.maxFld f v ix).out = s.out := rfl
@[simp] theorem State.maxFld_fresh (s : State) (f : Fld) (v : Nat) (ix : List Nat) : (s.maxFld f v ix).fresh = s.fresh := rfl
@[simp] theorem State.maxFld_pending (s : State) (f : Fld) (v : Nat) (ix : List Nat) : (s.maxFld f v ix).pending = s.pending := rfl
/-! mergeReg changes `regs` alone. -/
@[simp] theorem State.mergeReg_pins (s : State) (off : Nat) (mask val : Word) : (s.mergeReg off mask val).pins = s.pins := rfl
@[simp] theorem State.mergeReg_sb (s : State) (off : Nat) (mask val : Word) : (s.mergeReg off mask val).sb = s.sb := rfl
@[simp] theorem State.mergeReg_hubPoison (s : State) (off : Nat) (mask val : Word) : (s.mergeReg off mask val).hubPoison = s.hubPoison := rfl
@[simp] theorem State.mergeReg_staged (s : State) (off : Nat) (mask val : Word) : (s.mergeReg off mask val).staged = s.staged := rfl
@[simp] theorem State.mergeReg_atBoundary (s : State) (off : Nat) (mask val : Word) : (s.mergeReg off mask val).atBoundary = s.atBoundary := rfl
@[simp] theorem State.mergeReg_time (s : State) (off : Nat) (mask val : Word) : (s.mergeReg off mask val).time = s.time := rfl
@[simp] theorem State.mergeReg_mem (s : State) (off : Nat) (mask val : Word) : (s.mergeReg off mask val).mem = s.mem := rfl
@[simp] theorem State.mergeReg_boot (s : State) (off : Nat) (mask val : Word) : (s.mergeReg off mask val).boot = s.boot := rfl
@[simp] theorem State.mergeReg_flash (s : State) (off : Nat) (mask val : Word) : (s.mergeReg off mask val).flash = s.flash := rfl
@[simp] theorem State.mergeReg_held (s : State) (off : Nat) (mask val : Word) : (s.mergeReg off mask val).held = s.held := rfl
@[simp] theorem State.mergeReg_pcieHdr (s : State) (off : Nat) (mask val : Word) : (s.mergeReg off mask val).pcieHdr = s.pcieHdr := rfl
@[simp] theorem State.mergeReg_ports (s : State) (off : Nat) (mask val : Word) : (s.mergeReg off mask val).ports = s.ports := rfl
@[simp] theorem State.mergeReg_reqs (s : State) (off : Nat) (mask val : Word) : (s.mergeReg off mask val).reqs = s.reqs := rfl
@[simp] theorem State.mergeReg_nextTag (s : State) (off : Nat) (mask val : Word) : (s.mergeReg off mask val).nextTag = s.nextTag := rfl
@[simp] theorem State.mergeReg_tagUsed (s : State) (off : Nat) (mask val : Word) : (s.mergeReg off mask val).tagUsed = s.tagUsed := rfl
@[simp] theorem State.mergeReg_tagWait (s : State) (off : Nat) (mask val : Word) : (s.mergeReg off mask val).tagWait = s.tagWait := rfl
@[simp] theorem State.mergeReg_narrowWait (s : State) (off : Nat) (mask val : Word) : (s.mergeReg off mask val).narrowWait = s.narrowWait := rfl
@[simp] theorem State.mergeReg_abortRx (s : State) (off : Nat) (mask val : Word) : (s.mergeReg off mask val).abortRx = s.abortRx := rfl
@[simp] theorem State.mergeReg_harts (s : State) (off : Nat) (mask val : Word) : (s.mergeReg off mask val).harts = s.harts := rfl
@[simp] theorem State.mergeReg_pcieReqs (s : State) (off : Nat) (mask val : Word) : (s.mergeReg off mask val).pcieReqs = s.pcieReqs := rfl
@[simp] theorem State.mergeReg_mgt (s : State) (off : Nat) (mask val : Word) : (s.mergeReg off mask val).mgt = s.mgt := rfl
@[simp] theorem State.mergeReg_job (s : State) (off : Nat) (mask val : Word) : (s.mergeReg off mask val).job = s.job := rfl
@[simp] theorem State.mergeReg_items (s : State) (off : Nat) (mask val : Word) : (s.mergeReg off mask val).items = s.items := rfl
@[simp] theorem State.mergeReg_nextItem (s : State) (off : Nat) (mask val : Word) : (s.mergeReg off mask val).nextItem = s.nextItem := rfl
@[simp] theorem State.mergeReg_gates (s : State) (off : Nat) (mask val : Word) : (s.mergeReg off mask val).gates = s.gates := rfl
@[simp] theorem State.mergeReg_nrg (s : State) (off : Nat) (mask val : Word) : (s.mergeReg off mask val).nrg = s.nrg := rfl
@[simp] theorem State.mergeReg_rails (s : State) (off : Nat) (mask val : Word) : (s.mergeReg off mask val).rails = s.rails := rfl
@[simp] theorem State.mergeReg_epo (s : State) (off : Nat) (mask val : Word) : (s.mergeReg off mask val).epo = s.epo := rfl
@[simp] theorem State.mergeReg_fw (s : State) (off : Nat) (mask val : Word) : (s.mergeReg off mask val).fw = s.fw := rfl
@[simp] theorem State.mergeReg_update (s : State) (off : Nat) (mask val : Word) : (s.mergeReg off mask val).update = s.update := rfl
@[simp] theorem State.mergeReg_waiting (s : State) (off : Nat) (mask val : Word) : (s.mergeReg off mask val).waiting = s.waiting := rfl
@[simp] theorem State.mergeReg_arbs (s : State) (off : Nat) (mask val : Word) : (s.mergeReg off mask val).arbs = s.arbs := rfl
@[simp] theorem State.mergeReg_train (s : State) (off : Nat) (mask val : Word) : (s.mergeReg off mask val).train = s.train := rfl
@[simp] theorem State.mergeReg_reeds (s : State) (off : Nat) (mask val : Word) : (s.mergeReg off mask val).reeds = s.reeds := rfl
@[simp] theorem State.mergeReg_summ (s : State) (off : Nat) (mask val : Word) : (s.mergeReg off mask val).summ = s.summ := rfl
@[simp] theorem State.mergeReg_fifos (s : State) (off : Nat) (mask val : Word) : (s.mergeReg off mask val).fifos = s.fifos := rfl
@[simp] theorem State.mergeReg_treg (s : State) (off : Nat) (mask val : Word) : (s.mergeReg off mask val).treg = s.treg := rfl
@[simp] theorem State.mergeReg_tregC (s : State) (off : Nat) (mask val : Word) : (s.mergeReg off mask val).tregC = s.tregC := rfl
@[simp] theorem State.mergeReg_groups (s : State) (off : Nat) (mask val : Word) : (s.mergeReg off mask val).groups = s.groups := rfl
@[simp] theorem State.mergeReg_cols (s : State) (off : Nat) (mask val : Word) : (s.mergeReg off mask val).cols = s.cols := rfl
@[simp] theorem State.mergeReg_inStreams (s : State) (off : Nat) (mask val : Word) : (s.mergeReg off mask val).inStreams = s.inStreams := rfl
@[simp] theorem State.mergeReg_nextStream (s : State) (off : Nat) (mask val : Word) : (s.mergeReg off mask val).nextStream = s.nextStream := rfl
@[simp] theorem State.mergeReg_outStreams (s : State) (off : Nat) (mask val : Word) : (s.mergeReg off mask val).outStreams = s.outStreams := rfl
@[simp] theorem State.mergeReg_slots (s : State) (off : Nat) (mask val : Word) : (s.mergeReg off mask val).slots = s.slots := rfl
@[simp] theorem State.mergeReg_keptAborts (s : State) (off : Nat) (mask val : Word) : (s.mergeReg off mask val).keptAborts = s.keptAborts := rfl
@[simp] theorem State.mergeReg_ended (s : State) (off : Nat) (mask val : Word) : (s.mergeReg off mask val).ended = s.ended := rfl
@[simp] theorem State.mergeReg_vcHeld (s : State) (off : Nat) (mask val : Word) : (s.mergeReg off mask val).vcHeld = s.vcHeld := rfl
@[simp] theorem State.mergeReg_forwarded (s : State) (off : Nat) (mask val : Word) : (s.mergeReg off mask val).forwarded = s.forwarded := rfl
@[simp] theorem State.mergeReg_roster (s : State) (off : Nat) (mask val : Word) : (s.mergeReg off mask val).roster = s.roster := rfl
@[simp] theorem State.mergeReg_cqMarks (s : State) (off : Nat) (mask val : Word) : (s.mergeReg off mask val).cqMarks = s.cqMarks := rfl
@[simp] theorem State.mergeReg_out (s : State) (off : Nat) (mask val : Word) : (s.mergeReg off mask val).out = s.out := rfl
@[simp] theorem State.mergeReg_fresh (s : State) (off : Nat) (mask val : Word) : (s.mergeReg off mask val).fresh = s.fresh := rfl
@[simp] theorem State.mergeReg_pending (s : State) (off : Nat) (mask val : Word) : (s.mergeReg off mask val).pending = s.pending := rfl
/-! markReg changes `hubPoison` alone. -/
@[simp] theorem State.markReg_pins (s : State) (off : Nat) (b : Bool) : (s.markReg off b).pins = s.pins := rfl
@[simp] theorem State.markReg_sb (s : State) (off : Nat) (b : Bool) : (s.markReg off b).sb = s.sb := rfl
@[simp] theorem State.markReg_regs (s : State) (off : Nat) (b : Bool) : (s.markReg off b).regs = s.regs := rfl
@[simp] theorem State.markReg_staged (s : State) (off : Nat) (b : Bool) : (s.markReg off b).staged = s.staged := rfl
@[simp] theorem State.markReg_atBoundary (s : State) (off : Nat) (b : Bool) : (s.markReg off b).atBoundary = s.atBoundary := rfl
@[simp] theorem State.markReg_time (s : State) (off : Nat) (b : Bool) : (s.markReg off b).time = s.time := rfl
@[simp] theorem State.markReg_mem (s : State) (off : Nat) (b : Bool) : (s.markReg off b).mem = s.mem := rfl
@[simp] theorem State.markReg_boot (s : State) (off : Nat) (b : Bool) : (s.markReg off b).boot = s.boot := rfl
@[simp] theorem State.markReg_flash (s : State) (off : Nat) (b : Bool) : (s.markReg off b).flash = s.flash := rfl
@[simp] theorem State.markReg_held (s : State) (off : Nat) (b : Bool) : (s.markReg off b).held = s.held := rfl
@[simp] theorem State.markReg_pcieHdr (s : State) (off : Nat) (b : Bool) : (s.markReg off b).pcieHdr = s.pcieHdr := rfl
@[simp] theorem State.markReg_ports (s : State) (off : Nat) (b : Bool) : (s.markReg off b).ports = s.ports := rfl
@[simp] theorem State.markReg_reqs (s : State) (off : Nat) (b : Bool) : (s.markReg off b).reqs = s.reqs := rfl
@[simp] theorem State.markReg_nextTag (s : State) (off : Nat) (b : Bool) : (s.markReg off b).nextTag = s.nextTag := rfl
@[simp] theorem State.markReg_tagUsed (s : State) (off : Nat) (b : Bool) : (s.markReg off b).tagUsed = s.tagUsed := rfl
@[simp] theorem State.markReg_tagWait (s : State) (off : Nat) (b : Bool) : (s.markReg off b).tagWait = s.tagWait := rfl
@[simp] theorem State.markReg_narrowWait (s : State) (off : Nat) (b : Bool) : (s.markReg off b).narrowWait = s.narrowWait := rfl
@[simp] theorem State.markReg_abortRx (s : State) (off : Nat) (b : Bool) : (s.markReg off b).abortRx = s.abortRx := rfl
@[simp] theorem State.markReg_harts (s : State) (off : Nat) (b : Bool) : (s.markReg off b).harts = s.harts := rfl
@[simp] theorem State.markReg_pcieReqs (s : State) (off : Nat) (b : Bool) : (s.markReg off b).pcieReqs = s.pcieReqs := rfl
@[simp] theorem State.markReg_mgt (s : State) (off : Nat) (b : Bool) : (s.markReg off b).mgt = s.mgt := rfl
@[simp] theorem State.markReg_job (s : State) (off : Nat) (b : Bool) : (s.markReg off b).job = s.job := rfl
@[simp] theorem State.markReg_items (s : State) (off : Nat) (b : Bool) : (s.markReg off b).items = s.items := rfl
@[simp] theorem State.markReg_nextItem (s : State) (off : Nat) (b : Bool) : (s.markReg off b).nextItem = s.nextItem := rfl
@[simp] theorem State.markReg_gates (s : State) (off : Nat) (b : Bool) : (s.markReg off b).gates = s.gates := rfl
@[simp] theorem State.markReg_nrg (s : State) (off : Nat) (b : Bool) : (s.markReg off b).nrg = s.nrg := rfl
@[simp] theorem State.markReg_rails (s : State) (off : Nat) (b : Bool) : (s.markReg off b).rails = s.rails := rfl
@[simp] theorem State.markReg_epo (s : State) (off : Nat) (b : Bool) : (s.markReg off b).epo = s.epo := rfl
@[simp] theorem State.markReg_fw (s : State) (off : Nat) (b : Bool) : (s.markReg off b).fw = s.fw := rfl
@[simp] theorem State.markReg_update (s : State) (off : Nat) (b : Bool) : (s.markReg off b).update = s.update := rfl
@[simp] theorem State.markReg_waiting (s : State) (off : Nat) (b : Bool) : (s.markReg off b).waiting = s.waiting := rfl
@[simp] theorem State.markReg_arbs (s : State) (off : Nat) (b : Bool) : (s.markReg off b).arbs = s.arbs := rfl
@[simp] theorem State.markReg_train (s : State) (off : Nat) (b : Bool) : (s.markReg off b).train = s.train := rfl
@[simp] theorem State.markReg_reeds (s : State) (off : Nat) (b : Bool) : (s.markReg off b).reeds = s.reeds := rfl
@[simp] theorem State.markReg_summ (s : State) (off : Nat) (b : Bool) : (s.markReg off b).summ = s.summ := rfl
@[simp] theorem State.markReg_fifos (s : State) (off : Nat) (b : Bool) : (s.markReg off b).fifos = s.fifos := rfl
@[simp] theorem State.markReg_treg (s : State) (off : Nat) (b : Bool) : (s.markReg off b).treg = s.treg := rfl
@[simp] theorem State.markReg_tregC (s : State) (off : Nat) (b : Bool) : (s.markReg off b).tregC = s.tregC := rfl
@[simp] theorem State.markReg_groups (s : State) (off : Nat) (b : Bool) : (s.markReg off b).groups = s.groups := rfl
@[simp] theorem State.markReg_cols (s : State) (off : Nat) (b : Bool) : (s.markReg off b).cols = s.cols := rfl
@[simp] theorem State.markReg_inStreams (s : State) (off : Nat) (b : Bool) : (s.markReg off b).inStreams = s.inStreams := rfl
@[simp] theorem State.markReg_nextStream (s : State) (off : Nat) (b : Bool) : (s.markReg off b).nextStream = s.nextStream := rfl
@[simp] theorem State.markReg_outStreams (s : State) (off : Nat) (b : Bool) : (s.markReg off b).outStreams = s.outStreams := rfl
@[simp] theorem State.markReg_slots (s : State) (off : Nat) (b : Bool) : (s.markReg off b).slots = s.slots := rfl
@[simp] theorem State.markReg_keptAborts (s : State) (off : Nat) (b : Bool) : (s.markReg off b).keptAborts = s.keptAborts := rfl
@[simp] theorem State.markReg_ended (s : State) (off : Nat) (b : Bool) : (s.markReg off b).ended = s.ended := rfl
@[simp] theorem State.markReg_vcHeld (s : State) (off : Nat) (b : Bool) : (s.markReg off b).vcHeld = s.vcHeld := rfl
@[simp] theorem State.markReg_forwarded (s : State) (off : Nat) (b : Bool) : (s.markReg off b).forwarded = s.forwarded := rfl
@[simp] theorem State.markReg_roster (s : State) (off : Nat) (b : Bool) : (s.markReg off b).roster = s.roster := rfl
@[simp] theorem State.markReg_cqMarks (s : State) (off : Nat) (b : Bool) : (s.markReg off b).cqMarks = s.cqMarks := rfl
@[simp] theorem State.markReg_out (s : State) (off : Nat) (b : Bool) : (s.markReg off b).out = s.out := rfl
@[simp] theorem State.markReg_fresh (s : State) (off : Nat) (b : Bool) : (s.markReg off b).fresh = s.fresh := rfl
@[simp] theorem State.markReg_pending (s : State) (off : Nat) (b : Bool) : (s.markReg off b).pending = s.pending := rfl
/-! emit changes `out` alone. -/
@[simp] theorem State.emit_pins (s : State) (o : Out) : (s.emit o).pins = s.pins := rfl
@[simp] theorem State.emit_sb (s : State) (o : Out) : (s.emit o).sb = s.sb := rfl
@[simp] theorem State.emit_regs (s : State) (o : Out) : (s.emit o).regs = s.regs := rfl
@[simp] theorem State.emit_hubPoison (s : State) (o : Out) : (s.emit o).hubPoison = s.hubPoison := rfl
@[simp] theorem State.emit_staged (s : State) (o : Out) : (s.emit o).staged = s.staged := rfl
@[simp] theorem State.emit_atBoundary (s : State) (o : Out) : (s.emit o).atBoundary = s.atBoundary := rfl
@[simp] theorem State.emit_time (s : State) (o : Out) : (s.emit o).time = s.time := rfl
@[simp] theorem State.emit_mem (s : State) (o : Out) : (s.emit o).mem = s.mem := rfl
@[simp] theorem State.emit_boot (s : State) (o : Out) : (s.emit o).boot = s.boot := rfl
@[simp] theorem State.emit_flash (s : State) (o : Out) : (s.emit o).flash = s.flash := rfl
@[simp] theorem State.emit_held (s : State) (o : Out) : (s.emit o).held = s.held := rfl
@[simp] theorem State.emit_pcieHdr (s : State) (o : Out) : (s.emit o).pcieHdr = s.pcieHdr := rfl
@[simp] theorem State.emit_ports (s : State) (o : Out) : (s.emit o).ports = s.ports := rfl
@[simp] theorem State.emit_reqs (s : State) (o : Out) : (s.emit o).reqs = s.reqs := rfl
@[simp] theorem State.emit_nextTag (s : State) (o : Out) : (s.emit o).nextTag = s.nextTag := rfl
@[simp] theorem State.emit_tagUsed (s : State) (o : Out) : (s.emit o).tagUsed = s.tagUsed := rfl
@[simp] theorem State.emit_tagWait (s : State) (o : Out) : (s.emit o).tagWait = s.tagWait := rfl
@[simp] theorem State.emit_narrowWait (s : State) (o : Out) : (s.emit o).narrowWait = s.narrowWait := rfl
@[simp] theorem State.emit_abortRx (s : State) (o : Out) : (s.emit o).abortRx = s.abortRx := rfl
@[simp] theorem State.emit_harts (s : State) (o : Out) : (s.emit o).harts = s.harts := rfl
@[simp] theorem State.emit_pcieReqs (s : State) (o : Out) : (s.emit o).pcieReqs = s.pcieReqs := rfl
@[simp] theorem State.emit_mgt (s : State) (o : Out) : (s.emit o).mgt = s.mgt := rfl
@[simp] theorem State.emit_job (s : State) (o : Out) : (s.emit o).job = s.job := rfl
@[simp] theorem State.emit_items (s : State) (o : Out) : (s.emit o).items = s.items := rfl
@[simp] theorem State.emit_nextItem (s : State) (o : Out) : (s.emit o).nextItem = s.nextItem := rfl
@[simp] theorem State.emit_gates (s : State) (o : Out) : (s.emit o).gates = s.gates := rfl
@[simp] theorem State.emit_nrg (s : State) (o : Out) : (s.emit o).nrg = s.nrg := rfl
@[simp] theorem State.emit_rails (s : State) (o : Out) : (s.emit o).rails = s.rails := rfl
@[simp] theorem State.emit_epo (s : State) (o : Out) : (s.emit o).epo = s.epo := rfl
@[simp] theorem State.emit_fw (s : State) (o : Out) : (s.emit o).fw = s.fw := rfl
@[simp] theorem State.emit_update (s : State) (o : Out) : (s.emit o).update = s.update := rfl
@[simp] theorem State.emit_waiting (s : State) (o : Out) : (s.emit o).waiting = s.waiting := rfl
@[simp] theorem State.emit_arbs (s : State) (o : Out) : (s.emit o).arbs = s.arbs := rfl
@[simp] theorem State.emit_train (s : State) (o : Out) : (s.emit o).train = s.train := rfl
@[simp] theorem State.emit_reeds (s : State) (o : Out) : (s.emit o).reeds = s.reeds := rfl
@[simp] theorem State.emit_summ (s : State) (o : Out) : (s.emit o).summ = s.summ := rfl
@[simp] theorem State.emit_fifos (s : State) (o : Out) : (s.emit o).fifos = s.fifos := rfl
@[simp] theorem State.emit_treg (s : State) (o : Out) : (s.emit o).treg = s.treg := rfl
@[simp] theorem State.emit_tregC (s : State) (o : Out) : (s.emit o).tregC = s.tregC := rfl
@[simp] theorem State.emit_groups (s : State) (o : Out) : (s.emit o).groups = s.groups := rfl
@[simp] theorem State.emit_cols (s : State) (o : Out) : (s.emit o).cols = s.cols := rfl
@[simp] theorem State.emit_inStreams (s : State) (o : Out) : (s.emit o).inStreams = s.inStreams := rfl
@[simp] theorem State.emit_nextStream (s : State) (o : Out) : (s.emit o).nextStream = s.nextStream := rfl
@[simp] theorem State.emit_outStreams (s : State) (o : Out) : (s.emit o).outStreams = s.outStreams := rfl
@[simp] theorem State.emit_slots (s : State) (o : Out) : (s.emit o).slots = s.slots := rfl
@[simp] theorem State.emit_keptAborts (s : State) (o : Out) : (s.emit o).keptAborts = s.keptAborts := rfl
@[simp] theorem State.emit_ended (s : State) (o : Out) : (s.emit o).ended = s.ended := rfl
@[simp] theorem State.emit_vcHeld (s : State) (o : Out) : (s.emit o).vcHeld = s.vcHeld := rfl
@[simp] theorem State.emit_forwarded (s : State) (o : Out) : (s.emit o).forwarded = s.forwarded := rfl
@[simp] theorem State.emit_roster (s : State) (o : Out) : (s.emit o).roster = s.roster := rfl
@[simp] theorem State.emit_cqMarks (s : State) (o : Out) : (s.emit o).cqMarks = s.cqMarks := rfl
@[simp] theorem State.emit_fresh (s : State) (o : Out) : (s.emit o).fresh = s.fresh := rfl
@[simp] theorem State.emit_pending (s : State) (o : Out) : (s.emit o).pending = s.pending := rfl
/-! setHart changes `harts` alone. -/
@[simp] theorem State.setHart_pins (s : State) (h : Nat) (v : Hart) : (s.setHart h v).pins = s.pins := rfl
@[simp] theorem State.setHart_sb (s : State) (h : Nat) (v : Hart) : (s.setHart h v).sb = s.sb := rfl
@[simp] theorem State.setHart_regs (s : State) (h : Nat) (v : Hart) : (s.setHart h v).regs = s.regs := rfl
@[simp] theorem State.setHart_hubPoison (s : State) (h : Nat) (v : Hart) : (s.setHart h v).hubPoison = s.hubPoison := rfl
@[simp] theorem State.setHart_staged (s : State) (h : Nat) (v : Hart) : (s.setHart h v).staged = s.staged := rfl
@[simp] theorem State.setHart_atBoundary (s : State) (h : Nat) (v : Hart) : (s.setHart h v).atBoundary = s.atBoundary := rfl
@[simp] theorem State.setHart_time (s : State) (h : Nat) (v : Hart) : (s.setHart h v).time = s.time := rfl
@[simp] theorem State.setHart_mem (s : State) (h : Nat) (v : Hart) : (s.setHart h v).mem = s.mem := rfl
@[simp] theorem State.setHart_boot (s : State) (h : Nat) (v : Hart) : (s.setHart h v).boot = s.boot := rfl
@[simp] theorem State.setHart_flash (s : State) (h : Nat) (v : Hart) : (s.setHart h v).flash = s.flash := rfl
@[simp] theorem State.setHart_held (s : State) (h : Nat) (v : Hart) : (s.setHart h v).held = s.held := rfl
@[simp] theorem State.setHart_pcieHdr (s : State) (h : Nat) (v : Hart) : (s.setHart h v).pcieHdr = s.pcieHdr := rfl
@[simp] theorem State.setHart_ports (s : State) (h : Nat) (v : Hart) : (s.setHart h v).ports = s.ports := rfl
@[simp] theorem State.setHart_reqs (s : State) (h : Nat) (v : Hart) : (s.setHart h v).reqs = s.reqs := rfl
@[simp] theorem State.setHart_nextTag (s : State) (h : Nat) (v : Hart) : (s.setHart h v).nextTag = s.nextTag := rfl
@[simp] theorem State.setHart_tagUsed (s : State) (h : Nat) (v : Hart) : (s.setHart h v).tagUsed = s.tagUsed := rfl
@[simp] theorem State.setHart_tagWait (s : State) (h : Nat) (v : Hart) : (s.setHart h v).tagWait = s.tagWait := rfl
@[simp] theorem State.setHart_narrowWait (s : State) (h : Nat) (v : Hart) : (s.setHart h v).narrowWait = s.narrowWait := rfl
@[simp] theorem State.setHart_abortRx (s : State) (h : Nat) (v : Hart) : (s.setHart h v).abortRx = s.abortRx := rfl
@[simp] theorem State.setHart_pcieReqs (s : State) (h : Nat) (v : Hart) : (s.setHart h v).pcieReqs = s.pcieReqs := rfl
@[simp] theorem State.setHart_mgt (s : State) (h : Nat) (v : Hart) : (s.setHart h v).mgt = s.mgt := rfl
@[simp] theorem State.setHart_job (s : State) (h : Nat) (v : Hart) : (s.setHart h v).job = s.job := rfl
@[simp] theorem State.setHart_items (s : State) (h : Nat) (v : Hart) : (s.setHart h v).items = s.items := rfl
@[simp] theorem State.setHart_nextItem (s : State) (h : Nat) (v : Hart) : (s.setHart h v).nextItem = s.nextItem := rfl
@[simp] theorem State.setHart_gates (s : State) (h : Nat) (v : Hart) : (s.setHart h v).gates = s.gates := rfl
@[simp] theorem State.setHart_nrg (s : State) (h : Nat) (v : Hart) : (s.setHart h v).nrg = s.nrg := rfl
@[simp] theorem State.setHart_rails (s : State) (h : Nat) (v : Hart) : (s.setHart h v).rails = s.rails := rfl
@[simp] theorem State.setHart_epo (s : State) (h : Nat) (v : Hart) : (s.setHart h v).epo = s.epo := rfl
@[simp] theorem State.setHart_fw (s : State) (h : Nat) (v : Hart) : (s.setHart h v).fw = s.fw := rfl
@[simp] theorem State.setHart_update (s : State) (h : Nat) (v : Hart) : (s.setHart h v).update = s.update := rfl
@[simp] theorem State.setHart_waiting (s : State) (h : Nat) (v : Hart) : (s.setHart h v).waiting = s.waiting := rfl
@[simp] theorem State.setHart_arbs (s : State) (h : Nat) (v : Hart) : (s.setHart h v).arbs = s.arbs := rfl
@[simp] theorem State.setHart_train (s : State) (h : Nat) (v : Hart) : (s.setHart h v).train = s.train := rfl
@[simp] theorem State.setHart_reeds (s : State) (h : Nat) (v : Hart) : (s.setHart h v).reeds = s.reeds := rfl
@[simp] theorem State.setHart_summ (s : State) (h : Nat) (v : Hart) : (s.setHart h v).summ = s.summ := rfl
@[simp] theorem State.setHart_fifos (s : State) (h : Nat) (v : Hart) : (s.setHart h v).fifos = s.fifos := rfl
@[simp] theorem State.setHart_treg (s : State) (h : Nat) (v : Hart) : (s.setHart h v).treg = s.treg := rfl
@[simp] theorem State.setHart_tregC (s : State) (h : Nat) (v : Hart) : (s.setHart h v).tregC = s.tregC := rfl
@[simp] theorem State.setHart_groups (s : State) (h : Nat) (v : Hart) : (s.setHart h v).groups = s.groups := rfl
@[simp] theorem State.setHart_cols (s : State) (h : Nat) (v : Hart) : (s.setHart h v).cols = s.cols := rfl
@[simp] theorem State.setHart_inStreams (s : State) (h : Nat) (v : Hart) : (s.setHart h v).inStreams = s.inStreams := rfl
@[simp] theorem State.setHart_nextStream (s : State) (h : Nat) (v : Hart) : (s.setHart h v).nextStream = s.nextStream := rfl
@[simp] theorem State.setHart_outStreams (s : State) (h : Nat) (v : Hart) : (s.setHart h v).outStreams = s.outStreams := rfl
@[simp] theorem State.setHart_slots (s : State) (h : Nat) (v : Hart) : (s.setHart h v).slots = s.slots := rfl
@[simp] theorem State.setHart_keptAborts (s : State) (h : Nat) (v : Hart) : (s.setHart h v).keptAborts = s.keptAborts := rfl
@[simp] theorem State.setHart_ended (s : State) (h : Nat) (v : Hart) : (s.setHart h v).ended = s.ended := rfl
@[simp] theorem State.setHart_vcHeld (s : State) (h : Nat) (v : Hart) : (s.setHart h v).vcHeld = s.vcHeld := rfl
@[simp] theorem State.setHart_forwarded (s : State) (h : Nat) (v : Hart) : (s.setHart h v).forwarded = s.forwarded := rfl
@[simp] theorem State.setHart_roster (s : State) (h : Nat) (v : Hart) : (s.setHart h v).roster = s.roster := rfl
@[simp] theorem State.setHart_cqMarks (s : State) (h : Nat) (v : Hart) : (s.setHart h v).cqMarks = s.cqMarks := rfl
@[simp] theorem State.setHart_out (s : State) (h : Nat) (v : Hart) : (s.setHart h v).out = s.out := rfl
@[simp] theorem State.setHart_fresh (s : State) (h : Nat) (v : Hart) : (s.setHart h v).fresh = s.fresh := rfl
@[simp] theorem State.setHart_pending (s : State) (h : Nat) (v : Hart) : (s.setHart h v).pending = s.pending := rfl
/-! setPort changes `ports` alone. -/
@[simp] theorem State.setPort_pins (s : State) (k : Nat) (p : Port) : (s.setPort k p).pins = s.pins := rfl
@[simp] theorem State.setPort_sb (s : State) (k : Nat) (p : Port) : (s.setPort k p).sb = s.sb := rfl
@[simp] theorem State.setPort_regs (s : State) (k : Nat) (p : Port) : (s.setPort k p).regs = s.regs := rfl
@[simp] theorem State.setPort_hubPoison (s : State) (k : Nat) (p : Port) : (s.setPort k p).hubPoison = s.hubPoison := rfl
@[simp] theorem State.setPort_staged (s : State) (k : Nat) (p : Port) : (s.setPort k p).staged = s.staged := rfl
@[simp] theorem State.setPort_atBoundary (s : State) (k : Nat) (p : Port) : (s.setPort k p).atBoundary = s.atBoundary := rfl
@[simp] theorem State.setPort_time (s : State) (k : Nat) (p : Port) : (s.setPort k p).time = s.time := rfl
@[simp] theorem State.setPort_mem (s : State) (k : Nat) (p : Port) : (s.setPort k p).mem = s.mem := rfl
@[simp] theorem State.setPort_boot (s : State) (k : Nat) (p : Port) : (s.setPort k p).boot = s.boot := rfl
@[simp] theorem State.setPort_flash (s : State) (k : Nat) (p : Port) : (s.setPort k p).flash = s.flash := rfl
@[simp] theorem State.setPort_held (s : State) (k : Nat) (p : Port) : (s.setPort k p).held = s.held := rfl
@[simp] theorem State.setPort_pcieHdr (s : State) (k : Nat) (p : Port) : (s.setPort k p).pcieHdr = s.pcieHdr := rfl
@[simp] theorem State.setPort_reqs (s : State) (k : Nat) (p : Port) : (s.setPort k p).reqs = s.reqs := rfl
@[simp] theorem State.setPort_nextTag (s : State) (k : Nat) (p : Port) : (s.setPort k p).nextTag = s.nextTag := rfl
@[simp] theorem State.setPort_tagUsed (s : State) (k : Nat) (p : Port) : (s.setPort k p).tagUsed = s.tagUsed := rfl
@[simp] theorem State.setPort_tagWait (s : State) (k : Nat) (p : Port) : (s.setPort k p).tagWait = s.tagWait := rfl
@[simp] theorem State.setPort_narrowWait (s : State) (k : Nat) (p : Port) : (s.setPort k p).narrowWait = s.narrowWait := rfl
@[simp] theorem State.setPort_abortRx (s : State) (k : Nat) (p : Port) : (s.setPort k p).abortRx = s.abortRx := rfl
@[simp] theorem State.setPort_harts (s : State) (k : Nat) (p : Port) : (s.setPort k p).harts = s.harts := rfl
@[simp] theorem State.setPort_pcieReqs (s : State) (k : Nat) (p : Port) : (s.setPort k p).pcieReqs = s.pcieReqs := rfl
@[simp] theorem State.setPort_mgt (s : State) (k : Nat) (p : Port) : (s.setPort k p).mgt = s.mgt := rfl
@[simp] theorem State.setPort_job (s : State) (k : Nat) (p : Port) : (s.setPort k p).job = s.job := rfl
@[simp] theorem State.setPort_items (s : State) (k : Nat) (p : Port) : (s.setPort k p).items = s.items := rfl
@[simp] theorem State.setPort_nextItem (s : State) (k : Nat) (p : Port) : (s.setPort k p).nextItem = s.nextItem := rfl
@[simp] theorem State.setPort_gates (s : State) (k : Nat) (p : Port) : (s.setPort k p).gates = s.gates := rfl
@[simp] theorem State.setPort_nrg (s : State) (k : Nat) (p : Port) : (s.setPort k p).nrg = s.nrg := rfl
@[simp] theorem State.setPort_rails (s : State) (k : Nat) (p : Port) : (s.setPort k p).rails = s.rails := rfl
@[simp] theorem State.setPort_epo (s : State) (k : Nat) (p : Port) : (s.setPort k p).epo = s.epo := rfl
@[simp] theorem State.setPort_fw (s : State) (k : Nat) (p : Port) : (s.setPort k p).fw = s.fw := rfl
@[simp] theorem State.setPort_update (s : State) (k : Nat) (p : Port) : (s.setPort k p).update = s.update := rfl
@[simp] theorem State.setPort_waiting (s : State) (k : Nat) (p : Port) : (s.setPort k p).waiting = s.waiting := rfl
@[simp] theorem State.setPort_arbs (s : State) (k : Nat) (p : Port) : (s.setPort k p).arbs = s.arbs := rfl
@[simp] theorem State.setPort_train (s : State) (k : Nat) (p : Port) : (s.setPort k p).train = s.train := rfl
@[simp] theorem State.setPort_reeds (s : State) (k : Nat) (p : Port) : (s.setPort k p).reeds = s.reeds := rfl
@[simp] theorem State.setPort_summ (s : State) (k : Nat) (p : Port) : (s.setPort k p).summ = s.summ := rfl
@[simp] theorem State.setPort_fifos (s : State) (k : Nat) (p : Port) : (s.setPort k p).fifos = s.fifos := rfl
@[simp] theorem State.setPort_treg (s : State) (k : Nat) (p : Port) : (s.setPort k p).treg = s.treg := rfl
@[simp] theorem State.setPort_tregC (s : State) (k : Nat) (p : Port) : (s.setPort k p).tregC = s.tregC := rfl
@[simp] theorem State.setPort_groups (s : State) (k : Nat) (p : Port) : (s.setPort k p).groups = s.groups := rfl
@[simp] theorem State.setPort_cols (s : State) (k : Nat) (p : Port) : (s.setPort k p).cols = s.cols := rfl
@[simp] theorem State.setPort_inStreams (s : State) (k : Nat) (p : Port) : (s.setPort k p).inStreams = s.inStreams := rfl
@[simp] theorem State.setPort_nextStream (s : State) (k : Nat) (p : Port) : (s.setPort k p).nextStream = s.nextStream := rfl
@[simp] theorem State.setPort_outStreams (s : State) (k : Nat) (p : Port) : (s.setPort k p).outStreams = s.outStreams := rfl
@[simp] theorem State.setPort_slots (s : State) (k : Nat) (p : Port) : (s.setPort k p).slots = s.slots := rfl
@[simp] theorem State.setPort_keptAborts (s : State) (k : Nat) (p : Port) : (s.setPort k p).keptAborts = s.keptAborts := rfl
@[simp] theorem State.setPort_ended (s : State) (k : Nat) (p : Port) : (s.setPort k p).ended = s.ended := rfl
@[simp] theorem State.setPort_vcHeld (s : State) (k : Nat) (p : Port) : (s.setPort k p).vcHeld = s.vcHeld := rfl
@[simp] theorem State.setPort_forwarded (s : State) (k : Nat) (p : Port) : (s.setPort k p).forwarded = s.forwarded := rfl
@[simp] theorem State.setPort_roster (s : State) (k : Nat) (p : Port) : (s.setPort k p).roster = s.roster := rfl
@[simp] theorem State.setPort_cqMarks (s : State) (k : Nat) (p : Port) : (s.setPort k p).cqMarks = s.cqMarks := rfl
@[simp] theorem State.setPort_out (s : State) (k : Nat) (p : Port) : (s.setPort k p).out = s.out := rfl
@[simp] theorem State.setPort_fresh (s : State) (k : Nat) (p : Port) : (s.setPort k p).fresh = s.fresh := rfl
@[simp] theorem State.setPort_pending (s : State) (k : Nat) (p : Port) : (s.setPort k p).pending = s.pending := rfl
/-! modPort changes `ports` alone. -/
@[simp] theorem State.modPort_pins (s : State) (k : Nat) (f : Port → Port) : (s.modPort k f).pins = s.pins := rfl
@[simp] theorem State.modPort_sb (s : State) (k : Nat) (f : Port → Port) : (s.modPort k f).sb = s.sb := rfl
@[simp] theorem State.modPort_regs (s : State) (k : Nat) (f : Port → Port) : (s.modPort k f).regs = s.regs := rfl
@[simp] theorem State.modPort_hubPoison (s : State) (k : Nat) (f : Port → Port) : (s.modPort k f).hubPoison = s.hubPoison := rfl
@[simp] theorem State.modPort_staged (s : State) (k : Nat) (f : Port → Port) : (s.modPort k f).staged = s.staged := rfl
@[simp] theorem State.modPort_atBoundary (s : State) (k : Nat) (f : Port → Port) : (s.modPort k f).atBoundary = s.atBoundary := rfl
@[simp] theorem State.modPort_time (s : State) (k : Nat) (f : Port → Port) : (s.modPort k f).time = s.time := rfl
@[simp] theorem State.modPort_mem (s : State) (k : Nat) (f : Port → Port) : (s.modPort k f).mem = s.mem := rfl
@[simp] theorem State.modPort_boot (s : State) (k : Nat) (f : Port → Port) : (s.modPort k f).boot = s.boot := rfl
@[simp] theorem State.modPort_flash (s : State) (k : Nat) (f : Port → Port) : (s.modPort k f).flash = s.flash := rfl
@[simp] theorem State.modPort_held (s : State) (k : Nat) (f : Port → Port) : (s.modPort k f).held = s.held := rfl
@[simp] theorem State.modPort_pcieHdr (s : State) (k : Nat) (f : Port → Port) : (s.modPort k f).pcieHdr = s.pcieHdr := rfl
@[simp] theorem State.modPort_reqs (s : State) (k : Nat) (f : Port → Port) : (s.modPort k f).reqs = s.reqs := rfl
@[simp] theorem State.modPort_nextTag (s : State) (k : Nat) (f : Port → Port) : (s.modPort k f).nextTag = s.nextTag := rfl
@[simp] theorem State.modPort_tagUsed (s : State) (k : Nat) (f : Port → Port) : (s.modPort k f).tagUsed = s.tagUsed := rfl
@[simp] theorem State.modPort_tagWait (s : State) (k : Nat) (f : Port → Port) : (s.modPort k f).tagWait = s.tagWait := rfl
@[simp] theorem State.modPort_narrowWait (s : State) (k : Nat) (f : Port → Port) : (s.modPort k f).narrowWait = s.narrowWait := rfl
@[simp] theorem State.modPort_abortRx (s : State) (k : Nat) (f : Port → Port) : (s.modPort k f).abortRx = s.abortRx := rfl
@[simp] theorem State.modPort_harts (s : State) (k : Nat) (f : Port → Port) : (s.modPort k f).harts = s.harts := rfl
@[simp] theorem State.modPort_pcieReqs (s : State) (k : Nat) (f : Port → Port) : (s.modPort k f).pcieReqs = s.pcieReqs := rfl
@[simp] theorem State.modPort_mgt (s : State) (k : Nat) (f : Port → Port) : (s.modPort k f).mgt = s.mgt := rfl
@[simp] theorem State.modPort_job (s : State) (k : Nat) (f : Port → Port) : (s.modPort k f).job = s.job := rfl
@[simp] theorem State.modPort_items (s : State) (k : Nat) (f : Port → Port) : (s.modPort k f).items = s.items := rfl
@[simp] theorem State.modPort_nextItem (s : State) (k : Nat) (f : Port → Port) : (s.modPort k f).nextItem = s.nextItem := rfl
@[simp] theorem State.modPort_gates (s : State) (k : Nat) (f : Port → Port) : (s.modPort k f).gates = s.gates := rfl
@[simp] theorem State.modPort_nrg (s : State) (k : Nat) (f : Port → Port) : (s.modPort k f).nrg = s.nrg := rfl
@[simp] theorem State.modPort_rails (s : State) (k : Nat) (f : Port → Port) : (s.modPort k f).rails = s.rails := rfl
@[simp] theorem State.modPort_epo (s : State) (k : Nat) (f : Port → Port) : (s.modPort k f).epo = s.epo := rfl
@[simp] theorem State.modPort_fw (s : State) (k : Nat) (f : Port → Port) : (s.modPort k f).fw = s.fw := rfl
@[simp] theorem State.modPort_update (s : State) (k : Nat) (f : Port → Port) : (s.modPort k f).update = s.update := rfl
@[simp] theorem State.modPort_waiting (s : State) (k : Nat) (f : Port → Port) : (s.modPort k f).waiting = s.waiting := rfl
@[simp] theorem State.modPort_arbs (s : State) (k : Nat) (f : Port → Port) : (s.modPort k f).arbs = s.arbs := rfl
@[simp] theorem State.modPort_train (s : State) (k : Nat) (f : Port → Port) : (s.modPort k f).train = s.train := rfl
@[simp] theorem State.modPort_reeds (s : State) (k : Nat) (f : Port → Port) : (s.modPort k f).reeds = s.reeds := rfl
@[simp] theorem State.modPort_summ (s : State) (k : Nat) (f : Port → Port) : (s.modPort k f).summ = s.summ := rfl
@[simp] theorem State.modPort_fifos (s : State) (k : Nat) (f : Port → Port) : (s.modPort k f).fifos = s.fifos := rfl
@[simp] theorem State.modPort_treg (s : State) (k : Nat) (f : Port → Port) : (s.modPort k f).treg = s.treg := rfl
@[simp] theorem State.modPort_tregC (s : State) (k : Nat) (f : Port → Port) : (s.modPort k f).tregC = s.tregC := rfl
@[simp] theorem State.modPort_groups (s : State) (k : Nat) (f : Port → Port) : (s.modPort k f).groups = s.groups := rfl
@[simp] theorem State.modPort_cols (s : State) (k : Nat) (f : Port → Port) : (s.modPort k f).cols = s.cols := rfl
@[simp] theorem State.modPort_inStreams (s : State) (k : Nat) (f : Port → Port) : (s.modPort k f).inStreams = s.inStreams := rfl
@[simp] theorem State.modPort_nextStream (s : State) (k : Nat) (f : Port → Port) : (s.modPort k f).nextStream = s.nextStream := rfl
@[simp] theorem State.modPort_outStreams (s : State) (k : Nat) (f : Port → Port) : (s.modPort k f).outStreams = s.outStreams := rfl
@[simp] theorem State.modPort_slots (s : State) (k : Nat) (f : Port → Port) : (s.modPort k f).slots = s.slots := rfl
@[simp] theorem State.modPort_keptAborts (s : State) (k : Nat) (f : Port → Port) : (s.modPort k f).keptAborts = s.keptAborts := rfl
@[simp] theorem State.modPort_ended (s : State) (k : Nat) (f : Port → Port) : (s.modPort k f).ended = s.ended := rfl
@[simp] theorem State.modPort_vcHeld (s : State) (k : Nat) (f : Port → Port) : (s.modPort k f).vcHeld = s.vcHeld := rfl
@[simp] theorem State.modPort_forwarded (s : State) (k : Nat) (f : Port → Port) : (s.modPort k f).forwarded = s.forwarded := rfl
@[simp] theorem State.modPort_roster (s : State) (k : Nat) (f : Port → Port) : (s.modPort k f).roster = s.roster := rfl
@[simp] theorem State.modPort_cqMarks (s : State) (k : Nat) (f : Port → Port) : (s.modPort k f).cqMarks = s.cqMarks := rfl
@[simp] theorem State.modPort_out (s : State) (k : Nat) (f : Port → Port) : (s.modPort k f).out = s.out := rfl
@[simp] theorem State.modPort_fresh (s : State) (k : Nat) (f : Port → Port) : (s.modPort k f).fresh = s.fresh := rfl
@[simp] theorem State.modPort_pending (s : State) (k : Nat) (f : Port → Port) : (s.modPort k f).pending = s.pending := rfl
@[simp] theorem State.emit_out (s : State) (o : Out) : (s.emit o).out = s.out ++ [o] := rfl
/-! A free value moves the counter `fresh` alone. -/
@[simp] theorem State.free_pins (s : State) : s.free.2.pins = s.pins := rfl
@[simp] theorem State.free_sb (s : State) : s.free.2.sb = s.sb := rfl
@[simp] theorem State.free_regs (s : State) : s.free.2.regs = s.regs := rfl
@[simp] theorem State.free_staged (s : State) : s.free.2.staged = s.staged := rfl
@[simp] theorem State.free_atBoundary (s : State) : s.free.2.atBoundary = s.atBoundary := rfl
@[simp] theorem State.free_time (s : State) : s.free.2.time = s.time := rfl
@[simp] theorem State.free_mem (s : State) : s.free.2.mem = s.mem := rfl
@[simp] theorem State.free_boot (s : State) : s.free.2.boot = s.boot := rfl
@[simp] theorem State.free_flash (s : State) : s.free.2.flash = s.flash := rfl
@[simp] theorem State.free_held (s : State) : s.free.2.held = s.held := rfl
@[simp] theorem State.free_pcieHdr (s : State) : s.free.2.pcieHdr = s.pcieHdr := rfl
@[simp] theorem State.free_ports (s : State) : s.free.2.ports = s.ports := rfl
@[simp] theorem State.free_reqs (s : State) : s.free.2.reqs = s.reqs := rfl
@[simp] theorem State.free_nextTag (s : State) : s.free.2.nextTag = s.nextTag := rfl
@[simp] theorem State.free_abortRx (s : State) : s.free.2.abortRx = s.abortRx := rfl
@[simp] theorem State.free_harts (s : State) : s.free.2.harts = s.harts := rfl
@[simp] theorem State.free_pcieReqs (s : State) : s.free.2.pcieReqs = s.pcieReqs := rfl
@[simp] theorem State.free_mgt (s : State) : s.free.2.mgt = s.mgt := rfl
@[simp] theorem State.free_job (s : State) : s.free.2.job = s.job := rfl
@[simp] theorem State.free_items (s : State) : s.free.2.items = s.items := rfl
@[simp] theorem State.free_nextItem (s : State) : s.free.2.nextItem = s.nextItem := rfl
@[simp] theorem State.free_gates (s : State) : s.free.2.gates = s.gates := rfl
@[simp] theorem State.free_nrg (s : State) : s.free.2.nrg = s.nrg := rfl
@[simp] theorem State.free_rails (s : State) : s.free.2.rails = s.rails := rfl
@[simp] theorem State.free_epo (s : State) : s.free.2.epo = s.epo := rfl
@[simp] theorem State.free_fw (s : State) : s.free.2.fw = s.fw := rfl
@[simp] theorem State.free_update (s : State) : s.free.2.update = s.update := rfl
@[simp] theorem State.free_waiting (s : State) : s.free.2.waiting = s.waiting := rfl
@[simp] theorem State.free_train (s : State) : s.free.2.train = s.train := rfl
@[simp] theorem State.free_reeds (s : State) : s.free.2.reeds = s.reeds := rfl
@[simp] theorem State.free_summ (s : State) : s.free.2.summ = s.summ := rfl
@[simp] theorem State.free_fifos (s : State) : s.free.2.fifos = s.fifos := rfl
@[simp] theorem State.free_treg (s : State) : s.free.2.treg = s.treg := rfl
@[simp] theorem State.free_tregC (s : State) : s.free.2.tregC = s.tregC := rfl
@[simp] theorem State.free_groups (s : State) : s.free.2.groups = s.groups := rfl
@[simp] theorem State.free_cols (s : State) : s.free.2.cols = s.cols := rfl
@[simp] theorem State.free_inStreams (s : State) : s.free.2.inStreams = s.inStreams := rfl
@[simp] theorem State.free_nextStream (s : State) : s.free.2.nextStream = s.nextStream := rfl
@[simp] theorem State.free_outStreams (s : State) : s.free.2.outStreams = s.outStreams := rfl
@[simp] theorem State.free_slots (s : State) : s.free.2.slots = s.slots := rfl
@[simp] theorem State.free_keptAborts (s : State) : s.free.2.keptAborts = s.keptAborts := rfl
@[simp] theorem State.free_ended (s : State) : s.free.2.ended = s.ended := rfl
@[simp] theorem State.free_vcHeld (s : State) : s.free.2.vcHeld = s.vcHeld := rfl
@[simp] theorem State.free_forwarded (s : State) : s.free.2.forwarded = s.forwarded := rfl
@[simp] theorem State.free_roster (s : State) : s.free.2.roster = s.roster := rfl
@[simp] theorem State.free_cqMarks (s : State) : s.free.2.cqMarks = s.cqMarks := rfl
@[simp] theorem State.free_out (s : State) : s.free.2.out = s.out := rfl
@[simp] theorem State.free_fresh (s : State) : s.free.2.fresh = s.fresh + 1 := rfl
@[simp] theorem State.free_pending (s : State) : s.free.2.pending = s.pending := rfl
@[simp] theorem State.free_hubPoison (s : State) : s.free.2.hubPoison = s.hubPoison := rfl
@[simp] theorem State.free_tagUsed (s : State) : s.free.2.tagUsed = s.tagUsed := rfl
@[simp] theorem State.free_tagWait (s : State) : s.free.2.tagWait = s.tagWait := rfl
@[simp] theorem State.free_narrowWait (s : State) : s.free.2.narrowWait = s.narrowWait := rfl
@[simp] theorem State.free_arbs (s : State) : s.free.2.arbs = s.arbs := rfl
@[simp] theorem State.free_fst (s : State) : s.free.1 = Config.freeWord s.fresh := rfl

end Sys2Proof.Machine
end

