-- ==== Sys2Proof/Tests/Slice0.lean ====
section
/-! SUPPORT. Tests: small states, the smoke test of well-formedness, and single steps with results that the spec states. -/

namespace Sys2Proof.Tests
set_option Elab.async false
open Machine

/-! Small states. -/

/-- A powered, released device past start-up with one stack pseudo-channel in use, not fenced, and no fencing by count. -/
def on : State := { State.reset with
  pins := { State.reset.pins with modEn := true, modRstN := true, modPwrgd := true, released := true }
  boot := { State.reset.boot with stage := 10, stkMask := 1 }
  regs := [(0x6000038, 0x10), (0x12100000, 0x100000001)] }

/-- `on` with other register words, listed by rising offset. -/
def onRegs (l : FMap Word) : State := { on with regs := l }

/-- The words of queue 0 (a ring at 0, one entry), its completion queue 1 (a ring at 4,096), context 0 and tile (0, 0) in tile group 0, channel 0 live. -/
def workRegs : FMap Word :=
  [(0x6000038, 0x10), (0x9000000, 0x4000000000000), (0x9000008, 1), (0x9000010, 1), (0x9000018, 1), (0x9000040, 0x24000000001000), (0x9000048, 1),
   (0xB010000, 16), (0xB010008, 1), (0x10000010, 1), (0x12100000, 0x100000001)]

/-- A descriptor's bytes in memory from address 0: those that are not 0, and the first of each line (the other bytes of a written line hold 0). -/
def descCells (d : Nat) : FMap Byte :=
  ((List.range 128).map fun i => (i, BitVec.ofNat 8 (d / 2 ^ (8 * i)))).filter fun e => e.2 != 0 || e.1 % 64 == 0

/-- Bytes in memory from an address on. -/
def cellsAt (a : Nat) (l : List Byte) : FMap Byte := l.zipIdx.map fun e => (a + e.2, e.1)

/-- Queue 0 with a descriptor at its head, further bytes above it, and energy to cover it. -/
def work (d : Nat) (more : FMap Byte := []) : State := { on with
  regs := workRegs
  mem := { on.mem with cells := descCells d ++ more }
  nrg := { on.nrg with general := 1000 } }

/-- A field of a descriptor, at its offset and bit. -/
def fd (off lo v : Nat) : Nat := v * 2 ^ (8 * off + lo)

/-- A descriptor of a class with layer and ladder source none, and further fields. -/
def desc (cls : Nat) (fields : List Nat) : Nat := cls + fd 0x06 0 0xFFFF + fd 0x2E 0 0xFFFF + fields.sum

/-! Well-formedness: an ill-formed command for each check, refused. -/

/-- An Osier word with every field at its last value, and words with one field just past it. -/
def okF : VFields := ⟨31, 7, 31, 31, 3⟩
def badVd : VFields := ⟨32, 7, 31, 31, 3⟩
def badPg : VFields := ⟨31, 8, 31, 31, 3⟩
def badS1 : VFields := ⟨31, 7, 32, 31, 3⟩
def badS2 : VFields := ⟨31, 7, 31, 32, 3⟩
def badEw : VFields := ⟨31, 7, 31, 31, 4⟩

/-- A training that found nothing. -/
def noTrain : TrainInfo := ⟨true, false, false, false, 0, 0, 0, 0, false, []⟩

/-- Each operand just past its range is refused. -/
theorem test_refuses_1 : ([
    .thermSourceAssert 8 0, .thermSourceDeassert 8 0, .registerWrite 0x100000000 0, .registerWrite 4 0,
    .droopDetect 5, .droopRecover 5, .vcoreUndervolt 5, .wqDoorbell 262144 0 false,
    .cqDoorbell 262144 0 false, .queueEnable 262144, .queueDisable 262144, .queueHeadPoisoned 262144,
    .descBodyPoisoned 262144, .heldHeadAdmit 262144, .matrixProduct 262144, .matrixMerge 262144,
    .reedLaunch 262144, .plait 262144, .reedEcall 4608, .reedEbreak 4608,
    .reedFence 4608 0, .vld 4608 okF, .vld 4607 badVd, .vlds 4608 okF,
    .vlds 4607 badVd, .vldg 4608 okF, .vldg 4607 badVd, .vldff 4608 okF,
    .vldff 4607 badVd, .vst 4608 okF, .vst 4607 badVd, .vsts 4608 okF,
    .vsts 4607 badVd, .vstg 4608 okF, .vstg 4607 badVd, .vstra 4608 okF,
    .vstra 4607 badVd, .vldx 4608 5 okF, .vldx 4607 6 okF, .vldx 4607 5 badVd,
    .vsetl 4608 okF, .vsetl 4607 badVd, .vadd 4608 okF, .vadd 4607 badVd,
    .vadd 4607 badPg, .vadd 4607 badS1, .vadd 4607 badS2, .vadd 4607 badEw] : List Instr).all (fun i => i.wf == false) = true := by decide +kernel

/-- Each operand just past its range is refused. -/
theorem test_refuses_2 : ([
    .vsub 4608 okF, .vsub 4607 badVd, .vmul 4608 okF, .vmul 4607 badVd,
    .vmulh 4608 okF, .vmulh 4607 badVd, .vmulhu 4608 okF, .vmulhu 4607 badVd,
    .vand 4608 okF, .vand 4607 badVd, .vor 4608 okF, .vor 4607 badVd,
    .vxor 4608 okF, .vxor 4607 badVd, .vsll 4608 okF, .vsll 4607 badVd,
    .vsrl 4608 okF, .vsrl 4607 badVd, .vsra 4608 okF, .vsra 4607 badVd,
    .vmin 4608 okF, .vmin 4607 badVd, .vmax 4608 okF, .vmax 4607 badVd,
    .vminu 4608 okF, .vminu 4607 badVd, .vmaxu 4608 okF, .vmaxu 4607 badVd,
    .vcmpeq 4608 okF, .vcmpeq 4607 badVd, .vcmplt 4608 okF, .vcmplt 4607 badVd,
    .vcmpltu 4608 okF, .vcmpltu 4607 badVd, .vsadd 4608 okF, .vsadd 4607 badVd,
    .vsaddu 4608 okF, .vsaddu 4607 badVd, .vssub 4608 okF, .vssub 4607 badVd,
    .vssubu 4608 okF, .vssubu 4607 badVd, .vaadd 4608 okF, .vaadd 4607 badVd,
    .vasub 4608 okF, .vasub 4607 badVd, .vfmulq 4608 okF, .vfmulq 4607 badVd] : List Instr).all (fun i => i.wf == false) = true := by decide +kernel

/-- Each operand just past its range is refused. -/
theorem test_refuses_3 : ([
    .vnsra 4608 okF, .vnsra 4607 badVd, .vnsrl 4608 okF, .vnsrl 4607 badVd,
    .vsplatx 4608 okF, .vsplatx 4607 badVd, .vindex 4608 okF, .vindex 4607 badVd,
    .vmv 4608 okF, .vmv 4607 badVd, .vmvx 4608 okF, .vmvx 4607 badVd,
    .vfadd 4608 okF, .vfadd 4607 badVd, .vfsub 4608 okF, .vfsub 4607 badVd,
    .vfmul 4608 okF, .vfmul 4607 badVd, .vfdiv 4608 okF, .vfdiv 4607 badVd,
    .vfmadd 4608 okF, .vfmadd 4607 badVd, .vfnmsub 4608 okF, .vfnmsub 4607 badVd,
    .vfmin 4608 okF, .vfmin 4607 badVd, .vfmax 4608 okF, .vfmax 4607 badVd,
    .vfsqrt 4608 okF, .vfsqrt 4607 badVd, .vfsgnj 4608 okF, .vfsgnj 4607 badVd,
    .vfsgnjn 4608 okF, .vfsgnjn 4607 badVd, .vfsgnjx 4608 okF, .vfsgnjx 4607 badVd,
    .vfcmpeq 4608 okF, .vfcmpeq 4607 badVd, .vfcmplt 4608 okF, .vfcmplt 4607 badVd,
    .vfcmple 4608 okF, .vfcmple 4607 badVd, .vfsplat 4608 okF, .vfsplat 4607 badVd,
    .vcvt 4608 3 okF, .vcvt 4607 4 okF, .vcvt 4607 3 badVd, .pand 4608 okF] : List Instr).all (fun i => i.wf == false) = true := by decide +kernel

/-- Each operand just past its range is refused. -/
theorem test_refuses_4 : ([
    .pand 4607 badVd, .por 4608 okF, .por 4607 badVd, .pxor 4608 okF,
    .pxor 4607 badVd, .pandn 4608 okF, .pandn 4607 badVd, .pcount 4608 okF,
    .pcount 4607 badVd, .pfirst 4608 okF, .pfirst 4607 badVd, .pmvx 4608 okF,
    .pmvx 4607 badVd, .pmxv 4608 okF, .pmxv 4607 badVd, .vcompress 4608 okF,
    .vcompress 4607 badVd, .vexpand 4608 okF, .vexpand 4607 badVd, .vslidedn 4608 okF,
    .vslidedn 4607 badVd, .vslideup 4608 okF, .vslideup 4607 badVd, .vperm 4608 okF,
    .vperm 4607 badVd, .vscanI 4608 okF, .vscanI 4607 badVd, .vscanF 4608 okF,
    .vscanF 4607 badVd, .vscanFmax 4608 okF, .vscanFmax 4607 badVd, .vredI 4608 okF,
    .vredI 4607 badVd, .vredF 4608 okF, .vredF 4607 badVd, .vredFmax 4608 okF,
    .vredFmax 4607 badVd, .vredFmin 4608 okF, .vredFmin 4607 badVd, .vredFargmax 4608 okF,
    .vredFargmax 4607 badVd, .vredFargmin 4608 okF, .vredFargmin 4607 badVd, .vredFprod 4608 okF,
    .vredFprod 4607 badVd, .vredFmean 4608 okF, .vredFmean 4607 badVd, .vtrrd 4608 okF] : List Instr).all (fun i => i.wf == false) = true := by decide +kernel

/-- Each operand just past its range is refused. -/
theorem test_refuses_5 : ([
    .vtrrd 4607 badVd, .vtrwr 4608 okF, .vtrwr 4607 badVd, .vtrred 4608 okF,
    .vtrred 4607 badVd, .plsend 4608 okF, .plsend 4607 badVd, .plrecv 4608 okF,
    .plrecv 4607 badVd, .plaitFifoRoom 4608, .plaitFifoData 4608, .vtadd 4608 okF,
    .vtadd 4607 badVd, .vtsub 4608 okF, .vtsub 4607 badVd, .vtmul 4608 okF,
    .vtmul 4607 badVd, .vtdiv 4608 okF, .vtdiv 4607 badVd, .vtchain 4608 okF,
    .vtchain 4607 badVd, .vhSumsq 4608 okF, .vhSumsq 4607 badVd, .vhMeanvar 4608 okF,
    .vhMeanvar 4607 badVd, .vhSmaxstat 4608 okF, .vhSmaxstat 4607 badVd, .vhSmaxout 4608 okF,
    .vhSmaxout 4607 badVd, .vhLse 4608 okF, .vhLse 4607 badVd, .vsummAny 4608 okF,
    .vsummAny 4607 badVd, .vsummAll 4608 okF, .vsummAll 4607 badVd, .vsummCnt 4608 okF,
    .vsummCnt 4607 badVd, .summrd 4608 okF, .summrd 4607 badVd, .summor 4608 okF,
    .summor 4607 badVd, .summarySlotEmptied 4608, .summarySlotFilled 4608, .copy 262144,
    .fill 262144, .gather 262144, .scatter 262144, .regionDeclare 262144] : List Instr).all (fun i => i.wf == false) = true := by decide +kernel

/-- Each operand just past its range is refused. -/
theorem test_refuses_6 : ([
    .regionClear 262144, .regionAdd 262144, .regionOut 262144, .regionRelease 262144,
    .eventOpAdd 262144 3, .eventOpAdd 262143 4, .eventOpSet 262144 3, .eventOpSet 262143 4,
    .evcSetWrite 65536 0, .evcAddWrite 65536 0, .barrierItem 262144, .stepCommit 262144,
    .epochItem 262144, .contextHold 4096 false, .contextEnable 4096 false, .hotThrottleEnter 5 0,
    .hotThrottleStage2 5 0, .hotThrottleStage2Exit 5 0, .hotThrottleExit 5 0, .railRampStep 5,
    .hotTrip 5, .budgetSet 8, .stackTempSample 32 0, .narrowLimitRelease 5,
    .memoryLineRead 0x1000000000000 0 [], .memoryLineWrite 0x1000000000000 (List.replicate 64 0) 255, .memoryLineWrite 0xFFFFFFFFFFFF (List.replicate 63 0) 255, .memoryLineWrite 0xFFFFFFFFFFFF (List.replicate 64 0) 256,
    .partialLineMerge 0x1000000000000 [] false 0, .homeSliceAtomic 0x1000000000000 15 8 0 0 ⟨false, 0⟩, .homeSliceAtomic 0xFFFFFFFFFFFF 16 8 0 0 ⟨false, 0⟩, .homeSliceAtomic 0xFFFFFFFFFFFF 15 9 0 0 ⟨false, 0⟩,
    .scrubLine 0x1000000000000 [] false false, .flitTransmit 12, .flitReceive 12 (List.replicate 256 0) false, .flitReceive 11 (List.replicate 255 0) false,
    .nakReceive 12, .replayTimerExpire 12, .retrainComplete 12 [] 0, .retrainTimeout 12,
    .fullTrainingRetry 12, .fullTrainingComplete 12 noTrain, .heartbeatSend 12, .heartbeatReceive 12,
    .peerLossTimeout 12, .noticeReceive 12, .timeSyncSend 12, .timeMessageReceive 12 0] : List Instr).all (fun i => i.wf == false) = true := by decide +kernel

/-- Each operand just past its range is refused. -/
theorem test_refuses_7 : ([
    .txnRequestReceive 12, .txnResponseReceive 12, .requestTimeout 65536, .streamOpenReceive 12,
    .streamAcceptReceive 12, .streamFlitReceive 12, .statusFlitReceive 12, .linkEnable 12,
    .linkDisable 12, .linkRetrainCmd 12, .linkTestMode 12 3, .linkTestMode 11 4,
    .groupDefine 8, .groupRelease 8, .allReduce 262144, .reduceScatter 262144,
    .allGather 262144, .allToAll 262144, .broadcast 262144, .collBarrier 262144,
    .collVcFreed 16, .slotClaimRetry 64 31, .slotClaimRetry 63 32, .collCancel 64,
    .colSlotFree 64 31, .colSlotFree 63 32, .slotFreeDeferred 64 31, .slotFreeDeferred 63 32,
    .hello 8, .ping 8, .campRoster 8, .fwStage 8,
    .fwActivate 8, .fwCancel 8, .attestReport 8, .attestDeviceCert 8,
    .attestOperatorCert 8, .attestMfgRecord 8, .mailboxOutCiWrite 8 0, .fwWatchdogExpire 8,
    .fwWatchdogKick 8, .fwFatalException 8 0 0, .fwSramUncorrectable 8, .fwRestartRequest 8,
    .fwRestartDone 8 false, .hearthLoad 16 0xFFFFFFFFFFFF 8, .hearthLoad 15 0x1000000000000 8, .hearthLoad 15 0xFFFFFFFFFFFF 9] : List Instr).all (fun i => i.wf == false) = true := by decide +kernel

/-- Each operand just past its range is refused. -/
theorem test_refuses_8 : ([
    .hearthStore 16 0xFFFFFFFFFFFF 8 0 false, .hearthStore 15 0x1000000000000 8 0 false, .hearthStore 15 0xFFFFFFFFFFFF 9 0 false, .hearthFence 16,
    .pcieInboundRequest false 0x1000000000000 0 [] false, .pcieOutboundTimeout 1024, .pcieOutboundCompletion 1024 0 [], .rcFieldRead 0x100000000,
    .rcFieldRead 4, .reedScalarInstruction 4608 0] : List Instr).all (fun i => i.wf == false) = true := by decide +kernel

/-- The last value of each range is accepted. -/
theorem test_accepts_1 : ([
    .thermSourceAssert 7 0, .thermSourceDeassert 7 0, .registerWrite 0xFFFFFFF8 0, .droopDetect 4,
    .droopRecover 4, .vcoreUndervolt 4, .wqDoorbell 262143 0 false, .cqDoorbell 262143 0 false,
    .queueEnable 262143, .queueDisable 262143, .queueHeadPoisoned 262143, .descBodyPoisoned 262143,
    .heldHeadAdmit 262143, .matrixProduct 262143, .matrixMerge 262143, .reedLaunch 262143,
    .plait 262143, .reedEcall 4607, .reedEbreak 4607, .reedFence 4607 0,
    .vld 4607 okF, .vlds 4607 okF, .vldg 4607 okF, .vldff 4607 okF,
    .vst 4607 okF, .vsts 4607 okF, .vstg 4607 okF, .vstra 4607 okF,
    .vldx 4607 5 okF, .vsetl 4607 okF, .vadd 4607 okF, .vsub 4607 okF,
    .vmul 4607 okF, .vmulh 4607 okF, .vmulhu 4607 okF, .vand 4607 okF,
    .vor 4607 okF, .vxor 4607 okF, .vsll 4607 okF, .vsrl 4607 okF,
    .vsra 4607 okF, .vmin 4607 okF, .vmax 4607 okF, .vminu 4607 okF,
    .vmaxu 4607 okF, .vcmpeq 4607 okF, .vcmplt 4607 okF, .vcmpltu 4607 okF] : List Instr).all (fun i => i.wf == true) = true := by decide +kernel

/-- The last value of each range is accepted. -/
theorem test_accepts_2 : ([
    .vsadd 4607 okF, .vsaddu 4607 okF, .vssub 4607 okF, .vssubu 4607 okF,
    .vaadd 4607 okF, .vasub 4607 okF, .vfmulq 4607 okF, .vnsra 4607 okF,
    .vnsrl 4607 okF, .vsplatx 4607 okF, .vindex 4607 okF, .vmv 4607 okF,
    .vmvx 4607 okF, .vfadd 4607 okF, .vfsub 4607 okF, .vfmul 4607 okF,
    .vfdiv 4607 okF, .vfmadd 4607 okF, .vfnmsub 4607 okF, .vfmin 4607 okF,
    .vfmax 4607 okF, .vfsqrt 4607 okF, .vfsgnj 4607 okF, .vfsgnjn 4607 okF,
    .vfsgnjx 4607 okF, .vfcmpeq 4607 okF, .vfcmplt 4607 okF, .vfcmple 4607 okF,
    .vfsplat 4607 okF, .vcvt 4607 3 okF, .pand 4607 okF, .por 4607 okF,
    .pxor 4607 okF, .pandn 4607 okF, .pcount 4607 okF, .pfirst 4607 okF,
    .pmvx 4607 okF, .pmxv 4607 okF, .vcompress 4607 okF, .vexpand 4607 okF,
    .vslidedn 4607 okF, .vslideup 4607 okF, .vperm 4607 okF, .vscanI 4607 okF,
    .vscanF 4607 okF, .vscanFmax 4607 okF, .vredI 4607 okF, .vredF 4607 okF] : List Instr).all (fun i => i.wf == true) = true := by decide +kernel

/-- The last value of each range is accepted. -/
theorem test_accepts_3 : ([
    .vredFmax 4607 okF, .vredFmin 4607 okF, .vredFargmax 4607 okF, .vredFargmin 4607 okF,
    .vredFprod 4607 okF, .vredFmean 4607 okF, .vtrrd 4607 okF, .vtrwr 4607 okF,
    .vtrred 4607 okF, .plsend 4607 okF, .plrecv 4607 okF, .plaitFifoRoom 4607,
    .plaitFifoData 4607, .vtadd 4607 okF, .vtsub 4607 okF, .vtmul 4607 okF,
    .vtdiv 4607 okF, .vtchain 4607 okF, .vhSumsq 4607 okF, .vhMeanvar 4607 okF,
    .vhSmaxstat 4607 okF, .vhSmaxout 4607 okF, .vhLse 4607 okF, .vsummAny 4607 okF,
    .vsummAll 4607 okF, .vsummCnt 4607 okF, .summrd 4607 okF, .summor 4607 okF,
    .summarySlotEmptied 4607, .summarySlotFilled 4607, .copy 262143, .fill 262143,
    .gather 262143, .scatter 262143, .regionDeclare 262143, .regionClear 262143,
    .regionAdd 262143, .regionOut 262143, .regionRelease 262143, .eventOpAdd 262143 3,
    .eventOpSet 262143 3, .evcSetWrite 65535 0, .evcAddWrite 65535 0, .barrierItem 262143,
    .stepCommit 262143, .epochItem 262143, .contextHold 4095 false, .contextEnable 4095 false] : List Instr).all (fun i => i.wf == true) = true := by decide +kernel

/-- The last value of each range is accepted. -/
theorem test_accepts_4 : ([
    .hotThrottleEnter 4 0, .hotThrottleStage2 4 0, .hotThrottleStage2Exit 4 0, .hotThrottleExit 4 0,
    .railRampStep 4, .hotTrip 4, .budgetSet 7, .stackTempSample 31 0,
    .narrowLimitRelease 4, .memoryLineRead 0xFFFFFFFFFFFF 0 [], .memoryLineWrite 0xFFFFFFFFFFFF (List.replicate 64 0) 255, .partialLineMerge 0xFFFFFFFFFFFF [] false 0,
    .homeSliceAtomic 0xFFFFFFFFFFFF 15 8 0 0 ⟨false, 0⟩, .scrubLine 0xFFFFFFFFFFFF [] false false, .flitTransmit 11, .flitReceive 11 (List.replicate 256 0) false,
    .nakReceive 11, .replayTimerExpire 11, .retrainComplete 11 [] 0, .retrainTimeout 11,
    .fullTrainingRetry 11, .fullTrainingComplete 11 noTrain, .heartbeatSend 11, .heartbeatReceive 11,
    .peerLossTimeout 11, .noticeReceive 11, .timeSyncSend 11, .timeMessageReceive 11 0,
    .txnRequestReceive 11, .txnResponseReceive 11, .requestTimeout 65535, .streamOpenReceive 11,
    .streamAcceptReceive 11, .streamFlitReceive 11, .statusFlitReceive 11, .linkEnable 11,
    .linkDisable 11, .linkRetrainCmd 11, .linkTestMode 11 3, .groupDefine 7,
    .groupRelease 7, .allReduce 262143, .reduceScatter 262143, .allGather 262143,
    .allToAll 262143, .broadcast 262143, .collBarrier 262143, .collVcFreed 15] : List Instr).all (fun i => i.wf == true) = true := by decide +kernel

/-- The last value of each range is accepted. -/
theorem test_accepts_5 : ([
    .slotClaimRetry 63 31, .collCancel 63, .colSlotFree 63 31, .slotFreeDeferred 63 31,
    .hello 7, .ping 7, .campRoster 7, .fwStage 7,
    .fwActivate 7, .fwCancel 7, .attestReport 7, .attestDeviceCert 7,
    .attestOperatorCert 7, .attestMfgRecord 7, .mailboxOutCiWrite 7 0, .fwWatchdogExpire 7,
    .fwWatchdogKick 7, .fwFatalException 7 0 0, .fwSramUncorrectable 7, .fwRestartRequest 7,
    .fwRestartDone 7 false, .hearthLoad 15 0xFFFFFFFFFFFF 8, .hearthStore 15 0xFFFFFFFFFFFF 8 0 false, .hearthFence 15,
    .pcieInboundRequest false 0xFFFFFFFFFFFF 0 [] false, .pcieOutboundTimeout 1023, .pcieOutboundCompletion 1023 0 [], .rcFieldRead 0xFFFFFFF8,
    .reedScalarInstruction 4607 0] : List Instr).all (fun i => i.wf == true) = true := by decide +kernel

end Sys2Proof.Tests
end

