-- ==== Sys2Proof/Tests/Witness1.lean ====
section
/-! SUPPORT. Witnesses: for each statement, states and operands that meet its hypotheses, clause by clause. Here: the shared hypotheses, and the statements about power, start-up, registers, epochs and queues. -/

namespace Sys2Proof.Tests
set_option Elab.async false
open Machine Claims

/-! The shared hypotheses as computations. -/

def quietB (s : State) : Bool := s.items.isEmpty && s.gates.isEmpty && s.cols.isEmpty && s.atBoundary.isEmpty && !s.train.clearEval && !s.job.running

theorem quiet_of {s : State} (h : quietB s = true) : Quiet s := by
  simp only [quietB, Bool.and_eq_true, Bool.not_eq_true', List.isEmpty_iff] at h
  exact ⟨h.1.1.1.1.1, h.1.1.1.1.2, h.1.1.1.2, h.1.1.2, h.1.2, h.2⟩

def startsB (s : State) (q : Nat) : Bool :=
  s.canon && s.up && quietB s && s.presented q && !s.outranked q && s.verdict q (s.newItem q (s.headDesc q)) == Verdict.run && s.admits (s.headDesc q) false

theorem starts_of {s : State} {q : Nat} (h : startsB s q = true) : Starts s q := by
  simp only [startsB, Bool.and_eq_true, beq_iff_eq, Bool.not_eq_true'] at h
  exact ⟨h.1.1.1.1.1.1, h.1.1.1.1.1.2, quiet_of h.1.1.1.1.2, h.1.1.1.2, h.1.1.2, h.1.2, h.2⟩

def cleanB (s : State) : Bool :=
  !s.flag R.ERL_CTL_MIRROR_EN && s.mem.l3.isEmpty && s.mem.errs.isEmpty && s.mem.checks.isEmpty && s.mem.inject.isNone && s.fld R.ERL_THRESH_UE_FENCE == 0 && FMap.sorted s.mem.side && s.mem.slices.isEmpty

theorem clean_of {s : State} (h : cleanB s = true) : Clean s := by
  simp only [cleanB, Bool.and_eq_true, Bool.not_eq_true', List.isEmpty_iff, Option.isNone_iff_eq_none, beq_iff_eq] at h
  exact ⟨h.1.1.1.1.1.1.1, h.1.1.1.1.1.1.2, h.1.1.1.1.1.2, h.1.1.1.1.2, h.1.1.1.2, h.1.1.2, h.1.2, by rw [h.2]; rfl, fun k d p e => by rw [h.2] at e; simp [FMap.find?] at e⟩

def storableB (s : State) (a : Nat) : Bool :=
  a % 64 == 0 && decide (a < 0x800000000000) && s.mapped a && !s.farLine a && !s.hitsRegion a 64 &&
    match s.spot a with
    | some sp => !s.spotShut sp
    | none => true

theorem storable_of {s : State} {a : Nat} (h : storableB s a = true) : Storable s a := by
  simp only [storableB, Bool.and_eq_true, beq_iff_eq, decide_eq_true_eq, Bool.not_eq_true'] at h
  refine ⟨h.1.1.1.1.1, h.1.1.1.1.2, h.1.1.1.2, h.1.1.2, h.1.2, fun sp hs => ?_⟩
  have := h.2
  rw [hs] at this
  simpa using this

theorem storable_range {s : State} {n : Nat} {f : Nat → Nat} (h : (List.range n).all (fun k => storableB s (f k)) = true) : ∀ k < n, Storable s (f k) := by
  rw [List.all_eq_true] at h
  exact fun k hk => storable_of (h k (List.mem_range.2 hk))

theorem storable_lines {s : State} {l : List Nat} (h : l.all (storableB s) = true) : ∀ a ∈ l, Storable s a := by
  rw [List.all_eq_true] at h
  exact fun a ha => storable_of (h a ha)

def nearB (s : State) (rs : List (Nat × Nat)) : Bool := (rangeLines rs).all fun a => !s.farLine a

theorem near_of {s : State} {rs : List (Nat × Nat)} (h : nearB s rs = true) : AllNear s rs := by
  simp only [nearB, List.all_eq_true, Bool.not_eq_true'] at h
  exact h

/-- A head that starts on a clean state, with further conditions, by one computation. -/
theorem head_of {s : State} {q : Nat} {b : Bool} (h : (startsB s q && cleanB s && b) = true) : (Starts s q ∧ Clean s) ∧ b = true := by
  simp only [Bool.and_eq_true] at h
  exact ⟨⟨starts_of h.1.1, clean_of h.1.2⟩, h.2⟩

/-- Every line of some ranges is storable. -/
def linesB (s : State) (rs : List (Nat × Nat)) : Bool := (rangeLines rs).all (storableB s)

/-! Power and start-up. -/

/-- Powered, with MOD_RST_N high, before the internal release. -/
def held : State := { State.reset with pins := { State.reset.pins with modEn := true, modRstN := true, modPwrgd := true } }

/-- `held` with no manifest copy to use. -/
def noManifest : State := { held with flash := { held.flash with man0 := { held.flash.man0 with mac := 0 } } }

/-- `on` with PWR_BRAKE_N low. -/
def braked : State := { on with pins := { on.pins with pwrBrakeN := false } }

theorem witness_PowerSequence : (on.pins.modEn = true ∧ on.pins.underVoltLatch = false ∧ on.pins.pwrBrakeN = true ∧ on.pins.released = true ∧ on.sb.trip = false) ∧
    (braked.pins.modEn = true ∧ braked.pins.underVoltLatch = false ∧ braked.pins.pwrBrakeN = false ∧ braked.cols = [] ∧ braked.pins.released = true) ∧
    (let s := { held with pins := { held.pins with modPwrgd := false } }; s.pins.modEn = true ∧ s.pins.modPwrgd = false) ∧
    (let trst := fun s : State => { s with pins := { s.pins with trstN := true } }
     (trst held).pins.modPwrgd = true ∧ (trst held).pins.trstN = true ∧ (trst held).pins.released = false ∧
       (trst on).pins.modPwrgd = true ∧ (trst on).pins.trstN = true ∧ (trst on).pins.released = true ∧ (trst on).flag R.BSU_STATUS_DEBUG = false) ∧
    State.reset.pins.trstN = false := by
  decide +kernel

theorem witness_ResetRelease : (held.canon = true ∧ held.pins.modPwrgd = true ∧ held.pins.modRstN = true ∧ held.pins.released = false) ∧
    (noManifest.canon = true ∧ noManifest.pins.modPwrgd = true ∧ noManifest.pins.modRstN = true ∧ noManifest.pins.released = false ∧
      { noManifest.flash with ctrBoots := noManifest.flash.ctrBoots + 1 }.choose = none) ∧
    ∃ f i w, { held.flash with ctrBoots := held.flash.ctrBoots + 1 }.choose = some f ∧ f.manifest.update ≠ 3 ∧
      f.accepts (f.fwSlot (f.manifest.fwActive % 2)) = some i ∧ f.weaveSlot (f.manifest.weaveActive % 2) = some w ∧
      weaveVerdict { f with ctrFw := max f.ctrFw i.svn } (some w) = 0 :=
  ⟨by decide +kernel, by decide +kernel, { held.flash with ctrBoots := 1 }, FwImage.reference, Weave.reference, by decide +kernel⟩

/-- At step 6 with the reference image. -/
def atSix : State := { on with boot := { on.boot with stage := 6, weave := some Weave.reference } }

/-- At step 9 with a time source, not locked. -/
def atNine : State := { on with boot := { on.boot with stage := 9 }, regs := [(0x2000010, 2)] }

/-- At step 10 with the device key, not yet ready. -/
def atTen : State := { on with boot := { on.boot with keyReady := true } }

/-- Listening for a recovery image, with an image in the recovery region, or with a transfer begun. -/
def listens (i : Option FwImage) (begun : Bool) : State := { held with
  pins := { held.pins with released := true }
  boot := { held.boot with listening := true, recvBegun := begun }
  flash := { held.flash with recovery := i } }

theorem witness_StartUpSteps : (atSix.canon = true ∧ atSix.up = true ∧ atSix.boot.weave = some Weave.reference ∧ atSix.boot.stage = 6 ∧
      failedIn (Weave.reference.stkMask atSix.flash) [] = [] ∧ failedIn (Weave.reference.rimMask atSix.flash) [] = [] ∧
      failedIn (Weave.reference.stkMask atSix.flash) [511] ≠ []) ∧
    (atNine.canon = true ∧ atNine.up = true ∧ atNine.boot.stage = 9 ∧ atNine.timed = true ∧ atNine.time.locked = false) ∧
    (atTen.canon = true ∧ atTen.up = true ∧ atTen.boot.stage = 10 ∧ atTen.boot.keyReady = true ∧ atTen.job.running = false ∧ atTen.sb.trip = false ∧ atTen.flag R.BSU_STATUS_READY = false) ∧
    (let s := listens (some FwImage.reference) false
     s.canon = true ∧ s.boot.listening = true ∧ s.boot.forever = false ∧ s.boot.recvBegun = false ∧ s.flash.accepts s.flash.recovery = some FwImage.reference) ∧
    (let s := listens none false; s.boot.listening = true ∧ s.boot.forever = false ∧ s.boot.recvBegun = false ∧ s.flash.accepts s.flash.recovery = none) ∧
    ((listens none true).boot.listening = true ∧ (listens none true).boot.recvBegun = true ∧ (2 ^ 24 - 8192) + (List.replicate 8192 (0 : Byte)).length ≤ 2 ^ 24) := by
  decide +kernel

/-- An image received whole, where the vendor's signature covers it (log entry 85: which bytes it covers is a free value), and one refused. -/
theorem witness_RecoveryEndFrame : (listens none true).boot.listening = true ∧ (listens none true).boot.recvBegun = true ∧
    let got := (listens none true).flash.accepts (some (FwImage.parse ((List.range (((listens none true).boot.recvd.getLast?.map fun e => e.1 + 1).getD 0)).map fun k =>
      FMap.getD (listens none true).boot.recvd k 0)))
    ((FwImage.parse []).vendorOk (listens none true).flash.romRoot = true → got = some (FwImage.parse [])) ∧
    ((FwImage.parse []).vendorOk (listens none true).flash.romRoot = false → got = none) := by
  refine ⟨rfl, rfl, fun h => ?_, fun h => ?_⟩
  · show Flash.accepts (listens none true).flash (some (FwImage.parse [])) = _
    have c : (listens none true).flash.ctrFw ≤ (FwImage.parse []).svn := Nat.zero_le _
    simp [Flash.accepts, Option.filter, h, c]
  · show Flash.accepts (listens none true).flash (some (FwImage.parse [])) = _
    simp [Flash.accepts, Option.filter, h]

theorem witness_AlertsAndBrake : on.canon = true ∧ on.pins.modPwrgd = true ∧ on.atLevel 4 (sourceValue 4 (16 * 25 * 65536)) = true ∧ bit on.sb.active 4 = false ∧
    (let s := { on with sb := { on.sb with active := 35 } }
     bit s.sb.active 0 = true ∧ s.belowLevel 0 (sourceValue 0 (16 * 95 - 1)) = true ∧ bit s.sb.active 5 = true) ∧
    (let s := on.setFld R.NRG_DIE_W0_SETPOINT_MV 600 [4]; s.canon = true ∧ s.up = true ∧ s.fld R.NRG_DIE_W0_SETPOINT_MV [4] = 600 ∧ s.flag R.NRG_THR_BRAKE = false) ∧
    on.up = true ∧ on.flag R.NRG_THR_BRAKE = false ∧ (∀ d < 5, 600 ≤ on.fld R.NRG_DIE_W0_SETPOINT_MV [d]) ∧
    (on.setFlag R.NRG_THR_BRAKE true).canon = true ∧ (on.setFlag R.NRG_THR_BRAKE true).up = true ∧ (on.setFlag R.NRG_THR_BRAKE true).flag R.NRG_THR_BRAKE = true := by
  decide +kernel

end Sys2Proof.Tests
end

