-- ==== Sys2Proof/Tests/Witness3.lean ====
section
/-! SUPPORT. Witnesses: the statements about FILL, COPY, GATHER, SCATTER and reduction regions. -/

namespace Sys2Proof.Tests
set_option Elab.async false
open Machine Claims

/-- FILL of 64 bytes at 8,192. -/
def fillOne : State := work (desc 5 [fd 0x30 0 8192, fd 0x38 0 64])

theorem witness_FillItem : (Starts fillOne 0 ∧ Clean fillOne) ∧
    (let d := fillOne.headDesc 0
     hClass d == 5 && !hOptstep d && !fPoison d && fLen d == 64 && (List.range (fLen d / 64)).all fun k => storableB fillOne (fAddr d + 64 * k)) = true :=
  head_of (by decide +kernel)

/-- COPY of one row of four FP32 elements from 8,192 to 12,288. -/
def copyOne : State :=
  work (desc 4 [fd 0x30 0 8192, fd 0x30 48 1, fd 0x38 0 12288, fd 0x38 48 1, fd 0x40 0 1, fd 0x40 24 4, fd 0x48 0 16, fd 0x48 32 16])

/-- GATHER (6) or SCATTER (7) of one row of eight bytes: table at 16,384, index 2 at 8,192, dense side at 12,288, LIMIT 3. -/
def moveOne (cls : Nat) : State :=
  work (desc cls [fd 0x30 0 16384, fd 0x38 0 8192, fd 0x40 0 12288, fd 0x48 0 1, fd 0x48 32 8, fd 0x50 0 3]) (cellsAt 8192 [2, 0, 0, 0])

theorem witness_DmaItems : ((Starts copyOne 0 ∧ Clean copyOne) ∧
      (let d := copyOne.headDesc 0
       !hOptstep d && hClass d == 4 && nearB copyOne (copyReads d (copyOne.newItem 0 d).srcRung) && nearB copyOne (copyWrites d)) = true) ∧
    ((Starts (moveOne 6) 0 ∧ Clean (moveOne 6)) ∧
      (let s := moveOne 6
       let d := s.headDesc 0
       !hOptstep d && hClass d == 6 && (s.gsRows d) == (1, 0) && nearB s (gsIdxRange d :: (List.range (s.gsRows d).1).map fun i => (s.gsFrom d i, gsRow d)) &&
         linesB s [(gsDense d, gsCount d * gsRow d)]) = true) ∧
    (Starts (moveOne 7) 0 ∧ Clean (moveOne 7)) ∧
      (let s := moveOne 7
       let d := s.headDesc 0
       !hOptstep d && hClass d == 7 && (s.gsRows d) == (1, 0) && nearB s (gsIdxRange d :: (List.range (s.gsRows d).1).map fun i => (s.gsFrom d i, gsRow d))) = true :=
  ⟨head_of (by decide +kernel), head_of (by decide +kernel), head_of (by decide +kernel)⟩

/-- The states of DmaItems meet the further hypotheses of DmaData: one row of 16 bytes, and one row of the GATHER with its storable dense row (above). -/
theorem witness_DmaData : (let d := copyOne.headDesc 0
     hLadderSrc d == 0xFFFF && (copySrc d 0).fmt == (copyDst d).fmt && fmtBits (copyDst d).fmt == 32 && !(copySrc d 0).scaled && !(copyDst d).scaled &&
       !cpTscale d && cpRows d == 1 && nearB copyOne [(copySrc d 0).row d 0] && linesB copyOne [(copyDst d).row d 0]) = true := by
  decide +kernel

/-- A region operation on offset 0x3C0000 of slice (0, 0): 4 elements declared there but for DECLARE, exponent −64. -/
def regionOne (op : Nat) (fields : List Nat) : State :=
  let s := (work (desc 8 ([fd 0x30 0 0x3C0000, fd 0x38 0 op] ++ fields)) (cellsAt 8192 [0, 0, 0x80, 0x3F])).setFld R.SCA_CFG_WAYS 1 [0, 0]
  if op = 0 then s
  else (((s.setFld R.SCA_REGION_W0_OFFSET 0x3C0000 [0, 0, 0]).setFld R.SCA_REGION_W0_ELEMENTS 4 [0, 0, 0]).setFld R.SCA_REGION_W0_EXP 0xFFC0 [0, 0, 0]).setFld
    R.SCA_REGION_W0_VALID 1 [0, 0, 0]

def declareOne : State := regionOne 0 [fd 0x38 32 0xFFFF, fd 0x40 0 4]
def clearOne : State := regionOne 1 [fd 0x48 0 3, fd 0x48 18 1]
def addOne : State := regionOne 2 [fd 0x38 4 1, fd 0x48 0 3, fd 0x48 18 1, fd 0x50 0 8192]
def outOne : State := regionOne 3 [fd 0x38 4 1, fd 0x48 0 3, fd 0x48 18 1, fd 0x50 0 8192]
def releaseOne : State := regionOne 4 []

/-- The region of `regionOne`. -/
def rgnOne : Rgn := { die := 0, slice := 0, entry := 0, off := 0x3C0000, elements := 4, lmt := false }

/-- What every operation on `rgnOne` meets. -/
def namesB (s : State) (op : Nat) : Bool :=
  let d := s.headDesc 0
  hClass d == 8 && !hOptstep d && gOp d == op && s.namedRegion d == some rgnOne

theorem witness_RegionItems :
    ((Starts declareOne 0 ∧ Clean declareOne) ∧
      (let d := declareOne.headDesc 0; hClass d == 8 && !hOptstep d && gOp d == 0) = true) ∧
    ((Starts clearOne 0 ∧ Clean clearOne) ∧ namesB clearOne 1 = true) ∧
    ((Starts addOne 0 ∧ Clean addOne) ∧
      (let s := addOne
       namesB s 2 && nearB s [(8192, 4)] && ((rangeLines [(8192, 4)]).all fun a => !s.hitsRegion a 64) &&
         (readElem 1 (s.peekNat 8192 4).1).1 == .fin false (2 ^ 23) (-23) && !(s.peekNat 8192 4).2 && s.rgnExp s.modeRegs rgnOne 3 == -64 &&
         (s.rgnSide rgnOne 3).ovf == none) = true) ∧
    ((Starts outOne 0 ∧ Clean outOne) ∧ (namesB outOne 3 && linesB outOne [(8192, 4)]) = true) ∧
    (Starts releaseOne 0 ∧ Clean releaseOne) ∧ namesB releaseOne 4 = true :=
  ⟨head_of (by decide +kernel), head_of (by decide +kernel), head_of (by decide +kernel), head_of (by decide +kernel), head_of (by decide +kernel)⟩

end Sys2Proof.Tests
end

