-- ==== Sys2Proof/Tests/Witness4.lean ====
section
/-! SUPPORT. Witnesses: the statements about completions, EVENT, BARRIER, EPOCH and MATRIX items. -/

namespace Sys2Proof.Tests
set_option Elab.async false
open Machine Claims

/-- `work` with the head taken as item 4, in a phase and with a status. -/
def taken (d : Nat) (phase : Phase) (status : Nat) (more : FMap Byte := []) : State :=
  let s := work d more
  { s with items := [(4, { s.newItem 0 (BitVec.ofNat 1024 d) with phase := phase, status := status })] }

/-- The item of `taken`. -/
def takenItem (d : Nat) (phase : Phase) (status : Nat) : Item := { (work d).newItem 0 (BitVec.ofNat 1024 d) with phase := phase, status := status }

/-- What CompletionRecord asks, but for the item's status and its NO_CQE flag. -/
def endsB (s : State) (id : Nat) (it : Item) : Bool :=
  let a := s.ringAddr (s.cqOf it.queue) (s.fld R.WQS_W2_PI [s.cqOf it.queue]) 32
  s.canon && s.up && cleanB s && s.items == [(id, it)] && s.gates.isEmpty && s.atBoundary.isEmpty && !s.train.clearEval && s.canEnd id it && it.gate == none &&
    it.evc.isEmpty && it.bound.isEmpty && decide (it.queue < 262144) && decide (it.die < 4) &&
    match s.spot (a / 64 * 64) with
    | some sp => !s.spotShut sp
    | none => false

theorem witness_CompletionRecord : endsB (taken (desc 5 [fd 0x30 0 8192, fd 0x38 0 64]) .running 0) 4 (takenItem (desc 5 [fd 0x30 0 8192, fd 0x38 0 64]) .running 0) = true ∧
    endsB (taken (desc 5 [fd 0x14 11 1, fd 0x2C 0 9]) .running 0x0402) 4 (takenItem (desc 5 [fd 0x14 11 1, fd 0x2C 0 9]) .running 0x0402) = true ∧
    hFlag (takenItem (desc 5 [fd 0x14 11 1, fd 0x2C 0 9]) .running 0x0402).desc 11 = true ∧
    (let d := desc 5 [fd 0x14 12 1]; hNoCqe (takenItem d .running 0).desc = true ∧ endsB (taken d .running 0) 4 (takenItem d .running 0) = true) := by
  decide +kernel

/-- An EVENT with operation `i` alone, or with the first two operations: ADD (1) or SET (2) of counter 65,535. -/
def eventOne (i op : Nat) : Nat := desc 0x0A [fd (0x30 + 16 * i) 0 65535, fd (0x30 + 16 * i) 16 op, fd (0x38 + 16 * i) 0 5]
def eventTwo (op : Nat) : Nat := desc 0x0A [fd 0x30 0 65535, fd 0x30 16 op, fd 0x40 0 1, fd 0x40 16 1]

/-- What EventBarrierEpoch asks of an EVENT item in flight. -/
def midEventB (op : Nat) : Bool :=
  let s := taken (eventTwo op) .running 0
  let it := takenItem (eventTwo op) .running 0
  s.canon && s.up && !s.job.running && s.items == [(4, it)] && it.queue == 0 && hClass it.desc == 0x0A && it.nextOp == some 0 &&
    (evOps it.desc).getLast? != some 0 && evOp it.desc 0 == op

/-- A head that carries no signal and no gate. -/
def plainB (s : State) (cls : Nat) : Bool := (signalsOf (s.headDesc 0)).isEmpty && !hGate (s.headDesc 0) && hClass (s.headDesc 0) == cls

/-- A step commit that no layer blocks. -/
def commitOne : State := work (desc 0x0B [fd 0x14 5 1, fd 0x0C 0 9])

theorem witness_EventBarrierEpoch :
    (on.canon = true ∧ on.up = true ∧ on.items = [] ∧ on.fld R.EPO_STATUS_STATE = 0) ∧
    (let s := { taken (desc 5 []) .running 0 with job := { on.job with running := true } }
     s.canon = true ∧ s.up = true ∧ s.items ≠ [] ∧ s.fld R.EPO_STATUS_STATE = 0 ∧ (FMap.find? 4 s.items) = some (takenItem (desc 5 []) .running 0) ∧
       s.job.running = true ∧ usesTgroup (hClass (takenItem (desc 5 []) .running 0).desc) = true ∧ (takenItem (desc 5 []) .running 0).gate = none) ∧
    midEventB 1 = true ∧ midEventB 2 = true := by
  decide +kernel

/-- The clauses of EventBarrierEpoch about heads. -/
theorem witness_EventBarrierEpoch_heads :
    ((Starts (work (eventOne 3 1)) 0 ∧ Clean (work (eventOne 3 1))) ∧
      (let s := work (eventOne 3 1); plainB s 0x0A && evOps (s.headDesc 0) == [3] && evOp (s.headDesc 0) 3 == 1) = true) ∧
    ((Starts (work (eventOne 0 2)) 0 ∧ Clean (work (eventOne 0 2))) ∧
      (let s := work (eventOne 0 2); plainB s 0x0A && evOps (s.headDesc 0) == [0] && evOp (s.headDesc 0) 0 == 2) = true) ∧
    ((Starts (work (desc 0x0B [])) 0 ∧ Clean (work (desc 0x0B []))) ∧
      (let s := work (desc 0x0B []); plainB s 0x0B && !hStepCommit (s.headDesc 0)) = true) ∧
    ((Starts commitOne 0 ∧ Clean commitOne) ∧
      (let s := commitOne; plainB s 0x0B && hStepCommit (s.headDesc 0) && (s.touchedIn (hStep (s.headDesc 0))).isEmpty) = true) ∧
    ((Starts (work (desc 0x0C [])) 0 ∧ Clean (work (desc 0x0C []))) ∧ (let s := work (desc 0x0C []); plainB s 0x0C && s.fld R.EPO_STATUS_STATE == 0) = true) ∧
    (Starts (({ work (desc 0x0C []) with staged := [(R.COL_SR_SEED.base, (BitVec.allOnes 64, 5))] } : State).setFld R.EPO_STATUS_STATE 1) 0 ∧
        Clean (({ work (desc 0x0C []) with staged := [(R.COL_SR_SEED.base, (BitVec.allOnes 64, 5))] } : State).setFld R.EPO_STATUS_STATE 1)) ∧
      (let s := ({ work (desc 0x0C []) with staged := [(R.COL_SR_SEED.base, (BitVec.allOnes 64, 5))] } : State).setFld R.EPO_STATUS_STATE 1
       plainB s 0x0C && s.fld R.EPO_STATUS_STATE == 1 && !s.participants.isEmpty) = true :=
  ⟨head_of (by decide +kernel), head_of (by decide +kernel), head_of (by decide +kernel), head_of (by decide +kernel), head_of (by decide +kernel),
   head_of (by decide +kernel)⟩

/-- A MATRIX item of FP32 operands at 8,192 and 8,448 with its output at 12,288, all strides 64: one element with K = 1, or a merge over K = 33. -/
def matOne (merge : Nat) (fields : List Nat) : Nat :=
  desc 1 ([fd 0x30 0 8192, fd 0x30 48 1, fd 0x38 0 8448, fd 0x38 48 1, fd 0x40 0 12288, fd 0x40 48 1, fd 0x50 0 1, fd 0x50 17 1, fd 0x50 34 (if merge = 1 then 33 else 1),
    fd 0x58 0 64, fd 0x5C 0 64, fd 0x60 0 64, fd 0x60 52 merge, fd 0x68 6 merge] ++ fields)

/-- Source lines of zeros. -/
def zeroLines : FMap Byte := cellsAt 8192 [0] ++ cellsAt 8448 [0]

/-- A reads the landing buffer of bucket 5, generation 7, of group 3. -/
def lbDesc : Nat := matOne 0 [fd 0x30 54 1, fd 0x70 0 3, fd 0x70 6 5, fd 0x70 22 7] - fd 0x30 0 8192

/-- A group of two members with a landing buffer of 65,536 bytes at 1 MB. -/
def pair : Group :=
  { record := 0, vc := 4, weight := 1, n := 2, rank := 0, grace := false, slowEn := false, timeout := 100, members := [0, 1], slowcnt := 0, lbBase := 1048576,
    slotSize := 1, hash := 0 }

/-- `taken` of `lbDesc` with the slot of its bucket open, local, an all-gather of two landed chunks; waiting, or waiting for piece 0. -/
def lbState (phase : Phase) (piece : Option Nat) : State :=
  let s := taken lbDesc phase 0 zeroLines
  let s := { s with
    items := [(4, { takenItem lbDesc phase 0 with waitPiece := piece })]
    groups := [(3, pair)]
    slots := [(slotKey 3 5, { Slot.empty with op := 2, fmt := 1, countE := 16, landed := [(0, ()), (1, ())] })] }
  ((((s.setFld R.COL_SLOT_W0_STATE 1 [3, 5]).setFld R.COL_SLOT_W0_LOCAL 1 [3, 5]).setFld R.COL_SLOT_W0_BUCKET 5 [3, 5]).setFld R.COL_SLOT_W0_GEN 7 [3, 5])

/-- What the dispatch clauses of MatrixItems ask. -/
def matHeadB (s : State) (merge : Bool) : Bool :=
  let d := s.headDesc 0
  let it := s.newItem 0 d
  hClass d == 1 && it.mat.lbOpds.isEmpty && it.aux.isSome && nearB s (s.mReads it.mat) && mMerge d == merge

/-- What the binding clause of MatrixItems asks. -/
def bindsB (s : State) (id : Nat) (it : Item) : Bool :=
  let v := seenBy s id it
  s.canon && s.up && cleanB s && FMap.find? id s.items == some it && hClass it.desc == 1 && !s.job.running && it.phase == .waiting && it.status == 0 &&
    it.mat.lbOpds == [false] && it.aux.isSome && nearB s (v.mReads it.mat) && (s.abortHere it.desc false).isNone && s.slotHere it.desc false &&
    !s.bindBad it.mat false && s.fld R.COL_SLOT_W0_STATE (slotIx (lbGroup it.desc false) (lbBucket it.desc false)) != 3

/-- What the block clause of MatrixItems asks, for an item without an auxiliary block. -/
def blockB (s : State) (id : Nat) (it : Item) (n : Nat) : Bool :=
  let v := seenBy s id it
  let b := v.blockPlan it n
  s.canon && s.up && cleanB s && FMap.find? id s.items == some it && hClass it.desc == 1 && !s.job.running && decide (n < mBlocks it.desc) &&
    it.phase == .running && it.status == 0 && it.waitPiece == none && (FMap.find? n it.blocks).isNone && !s.job.tilesOff && !hOptstep it.desc &&
    mMaxabs it.desc == 0 && !b.m.o.scaled && nearB s (b.reads ++ b.writes) && (b.reads.all fun r => s.mappedRange r.1 r.2) &&
    (b.writes.all fun r => s.mappedRange r.1 r.2 && !s.hitsRegion r.1 r.2) &&
    ((rangeLines b.writes).all fun a => decide (a < 0x800000000000)) && (!mMerge it.desc || !(blockMerge b (v.fetchLines b.reads 0).1).malformed)

theorem witness_MatrixItems : ((Starts (work (matOne 0 []) zeroLines) 0 ∧ Clean (work (matOne 0 []) zeroLines)) ∧ matHeadB (work (matOne 0 []) zeroLines) false = true) ∧
    ((Starts (work (matOne 1 []) zeroLines) 0 ∧ Clean (work (matOne 1 []) zeroLines)) ∧ matHeadB (work (matOne 1 []) zeroLines) true = true) ∧
    bindsB (lbState .waiting none) 4 (takenItem lbDesc .waiting 0) = true ∧
    (let s := lbState .running (some 0)
     let it := { takenItem lbDesc .running 0 with waitPiece := some 0 }
     s.canon && s.up && cleanB s && FMap.find? 4 s.items == some it && s.pieceHere it.mat false 0 && s.missingPiece it == none) = true ∧
    blockB (taken (matOne 0 []) .running 0 zeroLines) 4 (takenItem (matOne 0 []) .running 0) 0 = true ∧
    blockB (taken (matOne 1 []) .running 0 zeroLines) 4 (takenItem (matOne 1 []) .running 0) 0 = true :=
  ⟨head_of (by decide +kernel), head_of (by decide +kernel), by decide +kernel, by decide +kernel, by decide +kernel, by decide +kernel⟩

end Sys2Proof.Tests
end

