-- ==== Sys2Proof/Tests/Witness5.lean ====
section
/-! SUPPORT. Witnesses: the statements about launches, plaits and collective steps. -/

namespace Sys2Proof.Tests
set_option Elab.async false
open Machine Claims

/-- A launch on core 7 of every tile of group 0: entry 8,192 in an X window. -/
def launchDesc : Nat := desc 2 [fd 0x30 0 8192, fd 0x38 0 5, fd 0x40 0 128, fd 0x50 0 8192, fd 0x50 48 4, fd 0x58 0 12288]

/-- A plait of one stage on core 7: table at 8,192, entry 8,256, in an R and X window. -/
def plaitDesc : Nat := desc 3 [fd 0x30 0 8192, fd 0x40 0 7, fd 0x50 0 8192, fd 0x50 48 5, fd 0x58 0 12288]

/-- The plait's table. -/
def tableCells : FMap Byte := cellsAt 8192 [0x40, 0x20]

theorem witness_Launches : ((Starts (work launchDesc) 0 ∧ Clean (work launchDesc)) ∧ (hClass ((work launchDesc).headDesc 0) == 2) = true) ∧
    ((Starts (work plaitDesc tableCells) 0 ∧ Clean (work plaitDesc tableCells)) ∧
      (let s := work plaitDesc tableCells
       hClass (s.headDesc 0) == 3 && plaitStages (s.headDesc 0) == 1 && nearB s [(pTable (s.headDesc 0), 8 * plaitStages (s.headDesc 0))]) = true) ∧
    (let s := taken launchDesc .waiting 0
     let it := takenItem launchDesc .waiting 0
     s.canon && s.up && FMap.find? 4 s.items == some it && !s.job.running && it.phase == .waiting && it.status == 0 && s.coresFree it.desc && hClass it.desc == 2 &&
       s.allCores it.desc == [7] && FMap.sorted s.summ) = true ∧
    (let it := { takenItem plaitDesc .waiting 0 with blocks := [(0, 8256)] }
     let s := { taken plaitDesc .waiting 0 tableCells with items := [(4, it)] }
     s.canon && s.up && FMap.find? 4 s.items == some it && !s.job.running && it.phase == .waiting && it.status == 0 && s.coresFree it.desc && hClass it.desc == 3 &&
       it.blocks.length == plaitStages it.desc && decide (plaitFirst it.desc + plaitStages it.desc ≤ 8) && FMap.sorted s.summ && FMap.sorted s.fifos) = true :=
  ⟨head_of (by decide +kernel), head_of (by decide +kernel), by decide +kernel, by decide +kernel⟩

/-- A step of an operation on group 3, bucket 5, generation 7: FP32 elements at 8,192, to 12,288. -/
def stepOne (op count : Nat) (fields : List Nat) : Nat :=
  desc 9 ([fd 0x30 0 3, fd 0x30 6 op, fd 0x30 10 1, fd 0x30 32 5, fd 0x30 48 7, fd 0x38 0 8192, fd 0x40 0 12288, fd 0x48 0 count] ++ fields)

/-- Group 3 as defined, and a route over port 0 to its other member. -/
def grouped (s : State) : State :=
  (({ s with groups := [(3, pair)] } : State).setFld R.NLK_ROUTE_VALID 1 [1]).setFld R.GLB_CAPS_NLK_PORTS 1

/-- `work` with a step at the head. -/
def stepHead (op count : Nat) (fields : List Nat := []) : State := grouped (work (stepOne op count fields) (zeroLines ++ cellsAt 16384 [0]))

/-- What CollectiveSteps asks beside its shared hypotheses. -/
def stepB (s : State) (op : Nat) : Bool :=
  let d := s.headDesc 0
  hClass d == 9 && FMap.find? (cGroup d) s.groups == some pair && s.inStreams.isEmpty && cOp d == op &&
    (match s.route (pair.nodeAt 1) with
     | some k => s.fld R.NLK_STATUS_STATE [k] != 4 && s.hasPort k
     | none => false)

theorem witness_CollectiveSteps : ((Starts (stepHead 0 512) 0 ∧ Clean (stepHead 0 512)) ∧ stepB (stepHead 0 512) 0 = true) ∧
    ((Starts (stepHead 1 512) 0 ∧ Clean (stepHead 1 512)) ∧ stepB (stepHead 1 512) 1 = true) ∧
    ((Starts (stepHead 2 512) 0 ∧ Clean (stepHead 2 512)) ∧ stepB (stepHead 2 512) 2 = true) ∧
    ((Starts (stepHead 3 0 [fd 0x50 0 128, fd 0x58 0 16384, fd 0x60 0 20480, fd 0x68 0 24576]) 0 ∧
        Clean (stepHead 3 0 [fd 0x50 0 128, fd 0x58 0 16384, fd 0x60 0 20480, fd 0x68 0 24576])) ∧
      stepB (stepHead 3 0 [fd 0x50 0 128, fd 0x58 0 16384, fd 0x60 0 20480, fd 0x68 0 24576]) 3 = true) ∧
    ((Starts (stepHead 4 512 [fd 0x30 19 1]) 0 ∧ Clean (stepHead 4 512 [fd 0x30 19 1])) ∧
      (stepB (stepHead 4 512 [fd 0x30 19 1]) 4 && cRoot ((stepHead 4 512 [fd 0x30 19 1]).headDesc 0) != pair.rank) = true) ∧
    ((Starts (stepHead 4 512) 0 ∧ Clean (stepHead 4 512)) ∧
      (let s := stepHead 4 512
       let d := s.headDesc 0
       stepB s 4 && cRoot d == pair.rank && cFeed d == 0 && nearB s [(cSrc d, elemBytes (cFmt d) (cCount d)), (if cLbDst d then pair.lbBase + cBucket d % 32 * lbBytes pair else cDst d, elemBytes (cFmt d) (cCount d))]) = true) ∧
    ((Starts (stepHead 5 0) 0 ∧ Clean (stepHead 5 0)) ∧ stepB (stepHead 5 0) 5 = true) ∧ GroupOk pair :=
  ⟨head_of (by decide +kernel), head_of (by decide +kernel), head_of (by decide +kernel), head_of (by decide +kernel), head_of (by decide +kernel),
   head_of (by decide +kernel), head_of (by decide +kernel), ⟨by decide, by decide, by decide⟩⟩

/-- A step that runs and awaits its first input. -/
def col : Col :=
  { wait := .run, pass := 0, round := 1, t0 := 0, graced := false, sawSlow := false, slowFrom := [], age := 0, failed := none, ready := 0, lateTime := 0, lateRank := 0, fed := [], feedWait := none,
    held := [], agreed := [], broken := [], got := [], flags := 0, flush := 0, dropped := 0 }

/-- A lone all-gather, in a group with a grace flag. -/
def loneStep (c : Col) (grace : Bool) (fields : List Nat := []) : State :=
  { grouped (taken (stepOne 2 512 fields) .running 0 zeroLines) with groups := [(3, { pair with grace := grace })], cols := [(4, c)] }

/-- The item of `loneStep`. -/
def loneItem (fields : List Nat := []) : Item := takenItem (stepOne 2 512 fields) .running 0

/-- `LoneStep` as a computation. -/
def loneB (s : State) (id : Nat) (it : Item) (c : Col) (gr : Group) : Bool :=
  s.canon && s.up && cleanB s && s.items == [(id, it)] && s.cols == [(id, c)] && hClass it.desc == 9 && it.gate == none && decide (it.queue < 262144) &&
    decide (it.die < 4) && it.evc.isEmpty && it.bound.isEmpty && s.gates.isEmpty && s.atBoundary.isEmpty && !s.train.clearEval &&
    FMap.find? (cGroup it.desc) s.groups == some gr && decide (2 ≤ gr.n) && gr.members.length == gr.n && decide (gr.rank < gr.n)

theorem lone_of {s : State} {id : Nat} {it : Item} {c : Col} {gr : Group} {b : Bool} (h : (loneB s id it c gr && b) = true) : LoneStep s id it c gr ∧ b = true := by
  simp only [loneB, Bool.and_eq_true, beq_iff_eq, List.isEmpty_iff, Bool.not_eq_true', decide_eq_true_eq] at h
  obtain ⟨⟨⟨⟨⟨⟨⟨⟨⟨⟨⟨⟨⟨⟨⟨⟨⟨⟨a1, a2⟩, a3⟩, a4⟩, a5⟩, a6⟩, a7⟩, a8⟩, a9⟩, a10⟩, a11⟩, a12⟩, a13⟩, a14⟩, a15⟩, a16⟩, a17⟩, a18⟩, hb⟩ := h
  exact ⟨⟨a1, a2, clean_of a3, a4, a5, a6, a7, a8, a9, a10, a11, a12, a13, a14, a15, a16, a17, a18⟩, hb⟩

/-- The stream of the last round's chunk. -/
def lastIn (s : State) (it : Item) : InStream :=
  { src := 1, tag := 0, accepted := true, number := 1, lines := 16, hash := 0, bucket := 5, gen := 7, params := colParams it.desc (s.fld R.COL_CFG_WIRE),
    chunk := 1, lateRank := 0, round := 1, lateTime := 0, bytes := List.replicate 1024 0, poison := 0, done := true }

/-- `loneStep` with its last input here. -/
def fedStep : State := { loneStep col false with inStreams := [lastIn (loneStep col false) (loneItem)] }

/-- An abort message of cause 2 for a bucket of group 3. -/
def abortMsg (bucket : Nat) : List Byte :=
  toBytes 2 0x4341 ++ [1, 2, 0, 0] ++ toBytes 2 bucket ++ toBytes 2 7 ++ toBytes 2 1 ++ toBytes 2 0 ++ toBytes 2 0x77 ++ zeros 8 ++ toBytes 2 1 ++ zeros 38

/-- A step that waits for a feed counter. -/
def waitsFeed : State := loneStep { col with feedWait := some 0 } false [fd 0x70 0 1, fd 0x70 16 9]

theorem witness_CollectiveEvents :
    (LoneStep waitsFeed 4 (loneItem [fd 0x70 0 1, fd 0x70 16 9]) { col with feedWait := some 0 } pair ∧
      (let it := loneItem [fd 0x70 0 1, fd 0x70 16 9]
       cOp it.desc == 2 && pair.rank == 0 && waitsFeed.fedNow ⟨4, it, pair, { col with feedWait := some 0 }⟩ 0 && waitsFeed.inStreams.isEmpty &&
         waitsFeed.route 1 == some 0 && waitsFeed.fld R.NLK_STATUS_STATE [0] != 4 && waitsFeed.hasPort 0 &&
         nearB waitsFeed [(cSrc it.desc, elemBytes (cFmt it.desc) (chunkLen (cCount it.desc) pair.n 0))]) = true) ∧
    (LoneStep fedStep 4 loneItem col pair ∧
      (cOp loneItem.desc == 2 && col.round == pair.n - 1 && loneItem.pendingRemote == 0 && loneItem.status == 0 &&
        fedStep.roundInput ⟨4, loneItem, pair, col⟩ == some [lastIn (loneStep col false) loneItem]) = true) ∧
    (let c := { col with sawSlow := true }
     LoneStep (loneStep c true) 4 loneItem c { pair with grace := true } ∧
      (let v : StepView := ⟨4, loneItem, { pair with grace := true }, c⟩
       decide (v.k ≤ v.rounds) && (loneStep c true).roundInput v == none) = true) ∧
    (LoneStep (loneStep col false) 4 loneItem col pair ∧
      (let v : StepView := ⟨4, loneItem, pair, col⟩
       decide (v.k ≤ v.rounds) && (loneStep col false).roundInput v == none) = true) ∧
    (LoneStep { loneStep col false with abortRx := [abortMsg 5] } 4 loneItem col pair ∧
      (let m := abortMsg 5
       fieldAt m 0 2 == 0x4341 && fieldAt m 2 1 == 1 && (loneStep col false).groupByHash (fieldAt m 28 4) == some (cGroup loneItem.desc) &&
         fieldAt m 6 2 == cBucket loneItem.desc && fieldAt m 8 2 == cGen loneItem.desc) = true) ∧
    (LoneStep { loneStep col false with abortRx := [abortMsg 6] } 4 loneItem col pair ∧
      (let m := abortMsg 6
       fieldAt m 0 2 == 0x4341 && fieldAt m 2 1 == 1 && (loneStep col false).groupByHash (fieldAt m 28 4) == some (cGroup loneItem.desc) &&
         fieldAt m 6 2 % 32 != cBucket loneItem.desc % 32 && !(loneStep col false).holdsBucket 3 6 7 && !(loneStep col false).abortLate 3 6 7) = true) ∧
    (LoneStep (loneStep { col with wait := .fw6 } false) 4 loneItem { col with wait := .fw6 } pair ∧ true = true) :=
  ⟨lone_of (by decide +kernel), lone_of (by decide +kernel), lone_of (by decide +kernel), lone_of (by decide +kernel), lone_of (by decide +kernel),
   lone_of (by decide +kernel), lone_of (by decide +kernel)⟩

/-- The slot of bucket 5 of group 3 in a state, with bound items. -/
def slotIn (s : State) (st bound : Nat) : State := (s.setFld R.COL_SLOT_W0_STATE st [3, 5]).setFld R.COL_SLOT_W1_BOUND bound [3, 5]

theorem witness_SlotsAndVcs :
    (on.canon && on.up && on.cols.isEmpty && FMap.sorted on.vcHeld && (on.vcWaiters 4).isEmpty) = true ∧
    (let s := stepHead 2 512
     s.canon && s.up && s.cols.isEmpty && (s.vcWaiters 4).map (·.2) == [3] && FMap.find? 3 s.groups == some pair && s.fld R.COL_SLOT_W0_STATE [3, 5] != 1 &&
       s.inStreams.isEmpty && s.slotHeads 3 5 == [0] && s.colVerdict (s.headDesc 0) (s.fld R.COL_CFG_WIRE) == Verdict.run && s.claim 3 5 7 == .free) = true ∧
    (let s := slotIn (stepHead 2 512) 2 0
     s.canon && s.up && s.slotHeads 3 5 == [0] && s.colVerdict (s.headDesc 0) (s.fld R.COL_CFG_WIRE) == Verdict.run && s.claim 3 5 7 == .reuse) = true ∧
    ([(2, 0), (3, 0), (2, 1), (3, 65535)].all fun e =>
      let s := slotIn on e.1 e.2
      s.canon && s.up && s.cols.isEmpty && decide (2 ≤ s.fld R.COL_SLOT_W0_STATE [3, 5]) && s.fld R.COL_SLOT_W1_BOUND [3, 5] == e.2) = true ∧
    (let s := { slotIn on 2 0 with slots := [(slotKey 3 5, { Slot.empty with freeing := true })] }
     s.canon && s.up && s.cols.isEmpty && (s.slot 3 5).freeing && s.fld R.COL_SLOT_W1_BOUND [3, 5] == 0) = true := by
  decide +kernel

end Sys2Proof.Tests
end

