-- ==== Sys2Proof/Tests/Witness7.lean ====
section
/-! SUPPORT. Witnesses: the statements about Osier vector instructions. -/

namespace Sys2Proof.Tests
set_option Elab.async false
open Machine Claims

/-- A launch on cores 6 and 7 with a control core 7, over a window of all rights at 8,192 and one for writes over a reduction region. -/
def coreDesc : Nat :=
  desc 2 [fd 0x30 0 8192, fd 0x40 0 0xC0, fd 0x40 8 7, fd 0x40 11 1, fd 0x48 0 5, fd 0x50 0 8192, fd 0x50 48 7, fd 0x58 0 12288,
    fd 0x60 0 (windowBase + 0x3C0000), fd 0x60 48 2, fd 0x68 0 (windowBase + 0x3C1000)]

/-- A core's record at the entry. -/
def coreAt (x : FMap Nat) (vl : Nat) : Reed := { Reed.zero with item := some 4, pc := 8192, x := x, vl := vl }

/-- An item that runs on cores 6 and 7 of tile 0. -/
def runsItem (d : Nat) : Item := { takenItem d .running 0 with live := [6, 7] }

/-- An item in flight with core 7 in a state; lines of zeros at 8,192, 8,448 and 12,224. -/
def coreState (d : Nat) (r : Reed) : State :=
  { work d (zeroLines ++ cellsAt 12224 [0]) with items := [(4, runsItem d)], reeds := [(7, r)] }

/-- The running core 7 of `coreState`. -/
def core7 (d : Nat) (r : Reed) : RC := ⟨7, 4, runsItem d, r⟩

/-- `Issues` as a computation. -/
def issuesB (s : State) (c : Nat) (k : RC) : Bool :=
  s.runningCore c == some k && k.r.blocked == .no && decide (k.r.vflush < 2 ^ 32) && s.mayAccess k.it.desc k.tile 2 k.r.pc && s.mapped k.r.pc

/-- A core that issues in a canonical, clean state, with further conditions. -/
theorem core_of {s : State} {c : Nat} {k : RC} {b : Bool} (h : (s.canon && cleanB s && issuesB s c k && b) = true) :
    (s.canon = true ∧ Clean s ∧ Issues s c k) ∧ b = true := by
  simp only [issuesB, Bool.and_eq_true, beq_iff_eq, decide_eq_true_eq] at h
  exact ⟨⟨h.1.1.1, clean_of h.1.1.2, h.1.2.1.1.1.1, h.1.2.1.1.1.2, h.1.2.1.1.2, h.1.2.1.2, h.1.2.2⟩, h.2⟩

/-- `Loadable` as a computation. -/
def loadableB (s : State) (k : RC) (a n : Nat) : Bool :=
  ((List.range n).all fun i => s.mayAccess k.it.desc k.tile 0 (a + i)) && s.mappedRange a n &&
    (rangeLines [(a, n)]).all fun l => !s.farLine l && (s.lineView l).outcome == 0

theorem loadable_of {s : State} {k : RC} {a n : Nat} (h : loadableB s k a n = true) : Loadable s k a n := by
  simp only [loadableB, Bool.and_eq_true, List.all_eq_true, List.mem_range, Bool.not_eq_true', beq_iff_eq] at h
  exact ⟨h.1.1, h.1.2, h.2⟩

/-- `Writable` as a computation. -/
def writableB (s : State) (k : RC) (a n : Nat) : Bool :=
  a % n == 0 && ((List.range n).all fun i => s.mayAccess k.it.desc k.tile 1 (a + i)) && s.mapped (a / 64 * 64) && !s.farLine (a / 64 * 64) && !s.hitsRegion a n &&
    match s.spot (a / 64 * 64) with
    | some sp => !s.spotShut sp
    | none => true

theorem writable_of {s : State} {k : RC} {a n : Nat} (h : writableB s k a n = true) : Writable s k a n := by
  simp only [writableB, Bool.and_eq_true, beq_iff_eq, Bool.not_eq_true', List.all_eq_true, List.mem_range] at h
  refine ⟨h.1.1.1.1.1, h.1.1.1.1.2, h.1.1.1.2, h.1.1.2, h.1.2, fun sp hs => ?_⟩
  have := h.2
  rw [hs] at this
  simpa using this

/-- Field values of an instruction. -/
def vf (vd pg s1 s2 ew : Nat) : VFields := ⟨vd, pg, s1, s2, ew⟩

/-- Bytes, 64 of them, and doublewords, 8 of them: the two ends of the widths, each filling the register. -/
theorem witness_VectorInteger : (∀ p ∈ [(0, 64), (3, 8)], ewBits p.1 * p.2 ≤ 512 ∧ p.1 < 4) ∧
    ((coreState coreDesc (coreAt [] 64)).canon = true ∧ Clean (coreState coreDesc (coreAt [] 64)) ∧
      Issues (coreState coreDesc (coreAt [] 64)) 7 (core7 coreDesc (coreAt [] 64))) ∧
    ((coreState coreDesc (coreAt [] 8)).canon = true ∧ Clean (coreState coreDesc (coreAt [] 8)) ∧
      Issues (coreState coreDesc (coreAt [] 8)) 7 (core7 coreDesc (coreAt [] 8))) :=
  ⟨by decide, (core_of (b := true) (by decide +kernel)).1, (core_of (b := true) (by decide +kernel)).1⟩

/-- The states of VectorInteger, with predicate numbers below 8. -/
theorem witness_VectorCompares : (vf 7 0 7 7 0).vd < 8 ∧ (vf 7 0 7 7 0).s1 < 8 ∧ (vf 7 0 7 7 0).s2 < 8 ∧ ewBits (vf 7 0 7 7 0).ew * 64 ≤ 512 := by decide

/-- The states of VectorInteger: 64 bytes, 16 words for VFMULQ, and 8 narrowed words. -/
theorem witness_VectorFixedPoint : ewBits 0 * 64 ≤ 512 ∧ ewBits 2 * 16 ≤ 512 ∧ 2 * ewBits 2 * 8 ≤ 512 ∧ 2 < 3 := by decide

theorem witness_VectorPermutes : ((coreState coreDesc (coreAt [(10, 8448)] 8)).canon = true ∧ Clean (coreState coreDesc (coreAt [(10, 8448)] 8)) ∧
      Issues (coreState coreDesc (coreAt [(10, 8448)] 8)) 7 (core7 coreDesc (coreAt [(10, 8448)] 8))) ∧
    (!(coreAt [(10, 8448)] 8).gxp 10 && decide ((vf 7 0 7 0 3).s1 < 8) && decide ((vf 7 0 7 0 3).vd < 8) && decide (0 < 8 ∧ ewBits 3 * 8 ≤ 512)) = true :=
  core_of (by decide +kernel)

/-- Two doublewords from 8,448 on, by x10; stride 8 in x11. -/
def loads2 : Reed := coreAt [(10, 8448), (11, 8)] 2

/-- Two doublewords of which the second lies past the window. -/
def loadsEdge : Reed := coreAt [(10, 12280)] 2

theorem witness_VectorLoads :
    (((coreState coreDesc loads2).canon = true ∧ Clean (coreState coreDesc loads2) ∧ Issues (coreState coreDesc loads2) 7 (core7 coreDesc loads2)) ∧
      (let s := coreState coreDesc loads2
       let k := core7 coreDesc loads2
       !loads2.gxp 10 && !loads2.gxp 11 && !loads2.gpp 0 && (FMap.find? 7 s.waiting).isNone && k.actives (vf 1 0 10 11 3) == [0, 1] && loadableB s k 8448 8 && loadableB s k 8456 8 &&
         wrapInt 64 ((8448 : Int) + 1 * sext 64 (loads2.gx 11)) == 8456 && loads2.el 2 64 1 == 0 && !loads2.elp 2 64 1 &&
         !vldxBad (vldxFmt 0) 0 && !vldxBad (vldxFmt 5) 0 && !vldxBad (vldxFmt 4) 10 && loadableB s k 8448 1 && fmtBits (vldxFmt 4) == 4) = true) ∧
    ((coreState coreDesc loadsEdge).canon = true ∧ Clean (coreState coreDesc loadsEdge) ∧
        Issues (coreState coreDesc loadsEdge) 7 (core7 coreDesc loadsEdge)) ∧
      (let s := coreState coreDesc loadsEdge
       let k := core7 coreDesc loadsEdge
       k.on (vf 1 0 10 0 3) 1 && s.touchBad k (1, 12288, 8) && loadableB s k 12280 8) = true :=
  ⟨core_of (by decide +kernel), core_of (by decide +kernel)⟩

/-- `coreState` with a reduction region of 4 elements at the second window, exponent −64. -/
def addState (r : Reed) : State :=
  (((((coreState coreDesc r).setFld R.SCA_CFG_WAYS 1 [0, 0]).setFld R.SCA_REGION_W0_OFFSET 0x3C0000 [0, 0, 0]).setFld R.SCA_REGION_W0_ELEMENTS 4 [0, 0, 0]).setFld
    R.SCA_REGION_W0_EXP 0xFFC0 [0, 0, 0]).setFld R.SCA_REGION_W0_VALID 1 [0, 0, 0]

/-- One FP32 element, 1.0 in v1, for the last element of the region by x10. -/
def adds1 : Reed := { coreAt [(10, windowBase + 0x3C0030)] 1 with v := [(1, 0x3F800000)] }

theorem witness_VectorStores :
    (((coreState coreDesc loads2).canon = true ∧ Clean (coreState coreDesc loads2) ∧ Issues (coreState coreDesc loads2) 7 (core7 coreDesc loads2)) ∧
      (let s := coreState coreDesc loads2
       let k := core7 coreDesc loads2
       (s.coreLines 7).isEmpty && (FMap.find? 7 s.waiting).isNone && !loads2.elp 1 64 0 && !loads2.elp 1 64 1 && writableB s k 8448 8 && writableB s k 8456 8) = true) ∧
    ((addState adds1).canon = true ∧ Clean (addState adds1) ∧ Issues (addState adds1) 7 (core7 coreDesc adds1)) ∧
      (let s := addState adds1
       let k := core7 coreDesc adds1
       let r : Rgn := { die := 0, slice := 0, entry := 0, off := 0x3C0000, elements := 4, lmt := false }
       let a := windowBase + 0x3C0030
       k.actives (vf 1 0 10 2 2) == [0] && !adds1.elp 2 32 0 && !adds1.elp 1 32 0 && a % 4 == 0 && ((List.range 4).all fun i => s.mayAccess k.it.desc k.tile 1 (a + i)) &&
         s.mapped (a / 64 * 64) && s.regionAt a == some (r, 3) && (readElem (fpEwFmt 2) (adds1.el 1 32 0)).1 == .fin false (2 ^ 23) (-23) &&
         s.rgnExp k.it.cfg r 3 == -64 && (s.rgnSide r 3).ovf == none && r.addr 3 == a && (s.rgnV r 3).1 * 0 == 0) = true :=
  ⟨core_of (by decide +kernel), core_of (by decide +kernel)⟩

/-- The states of VectorInteger: 32 half-precision elements; a conversion of 16 FP32 elements to BF16 (F5 0) and to FP32 (F5 0, EW 1 is FP16). -/
theorem witness_VectorFloat : fpEwBits 0 * 32 ≤ 512 ∧ fpEwBits 3 * 8 ≤ 512 ∧
    (let f := vf 1 0 2 2 2
     f.s2 % 2 = 0 ∧ cvtFmtOk (f.s2 / 2) = true ∧ cvtFmtOk (0 * 4 + f.ew) = true ∧ max (fmtBits (f.s2 / 2)) (fmtBits (0 * 4 + f.ew)) * 16 ≤ 512) ∧
    (let f := vf 1 0 2 0 1
     cvtFmtOk (f.s2 / 2) = true ∧ cvtFmtOk (3 * 4 + f.ew) = true ∧ max (fmtBits (f.s2 / 2)) (fmtBits (3 * 4 + f.ew)) * 8 ≤ 512) := by decide

/-- The states of VectorInteger; predicate 7, and a splat. -/
theorem witness_VectorFloatBits : fpEwBits 0 * 8 ≤ 512 ∧ (vf 7 0 1 2 3).vd < 8 ∧ (vf 1 0 31 0 3).s2 = 0 ∧ fpEwBits 3 * 8 ≤ 512 := by decide

/-- The states of VectorInteger, with the pair bits of each of the five operations. -/
theorem witness_Tangents : ([(vf 0 0 2 4 3, 0), (vf 0 0 2 5 3, 1), (vf 0 0 3 4 3, 2), (vf 0 0 3 5 3, 3), (vf 31 0 2 4 3, 4)].all fun p =>
    decide (p.1.vd % 2 * 4 + p.1.s1 % 2 * 2 + p.1.s2 % 2 = p.2)) = true ∧ fpEwBits 3 * 8 ≤ 512 := by decide

/-- Eight doublewords from the selector's first element on. -/
def selects (first : Nat) : Reed := coreAt [(10, 64 * first)] 8

theorem witness_Reductions : (((coreState coreDesc (selects 24)).canon = true ∧ Clean (coreState coreDesc (selects 24)) ∧
      Issues (coreState coreDesc (selects 24)) 7 (core7 coreDesc (selects 24))) ∧
      ((selFirst ((selects 24).gx 10) + 8 == 32) && FMap.sorted (coreState coreDesc (selects 24)).treg && decide ((vf 1 0 10 7 3).s2 < 8)) = true) ∧
    (((coreState coreDesc (selects 25)).canon = true ∧ Clean (coreState coreDesc (selects 25)) ∧
      Issues (coreState coreDesc (selects 25)) 7 (core7 coreDesc (selects 25))) ∧
      (selFirst ((selects 25).gx 10) + 8 == 33) = true) :=
  ⟨core_of (by decide +kernel), core_of (by decide +kernel)⟩

/-- The states of VectorInteger: all elements active under p0, none under p1, which is 0. -/
theorem witness_ScansAndHelpers : (core7 coreDesc (coreAt [] 8)).actives (vf 1 0 2 0 3) ≠ [] ∧ (core7 coreDesc (coreAt [] 8)).actives (vf 1 1 2 0 3) = [] ∧
    (vf 1 0 2 15 3).s2 < 16 ∧ ewBits 0 * 8 ≤ 512 ∧ fpEwBits 3 * 8 ≤ 512 := by decide +kernel

end Sys2Proof.Tests
end

