-- ==== Sys2Proof/Tests/Steps.lean ====
section
/-! SUPPORT. Single steps whose results the spec states in its worked examples and tables. -/

namespace Sys2Proof.Tests
set_option Elab.async false
open Machine

/-- What a command's next state holds. -/
def after {α : Type} (i : Instr) (s : State) (f : State → α) : Option α :=
  match exec i s with
  | .next t => some (f t)
  | _ => none

/-- A register of elements of a width, element 0 first. -/
def elems (w : Nat) (l : List Nat) : Nat := l.zipIdx.foldl (fun a e => a + e.1 * 2 ^ (w * e.2)) 0

/-- Core 7 with vector registers, predicates and VFXRM. -/
def vecState (vl : Nat) (v p : FMap Nat) (vfxrm : Nat := 0) : State := coreState coreDesc { coreAt [] vl with v := v, p := p, vfxrm := vfxrm }

/-- Table 3-12's offsets in use: the unit ID of a register offset is its upper half (R72, the worked example of chapter 20). -/
theorem test_unit_id : unitOfOff 0x18570000 = 0x1857 ∧ unitOfOff 0x20300008 = 0x2030 := by decide

/-- A write of EVC_ADD adds modulo 2^64 (R421). -/
theorem test_evc_add_wraps : after (.evcAddWrite 3 2) (on.setFld R.EVC_VALUE (2 ^ 64 - 1) [3]) (fun t => t.fld R.EVC_VALUE [3]) = some 1 := by decide +kernel

/-- The worked example of chapter 17: −12,000 carried, a budget of 2,000,000 and a base of 310,000 give 1,478,000 and a reserve of 200,000. -/
theorem test_window_start :
    let t := (({ on with nrg := { on.nrg with general := -12000 } } : State).setFld R.NRG_BUDGET_WINDOW_UJ 2000000).newWindow 310000
    (t.nrg.general, t.nrg.reserve) = (1478000, 200000) := by decide +kernel

/-- The worked example of chapter 10 with every channel active: stack offset 0x1234580 lies on channel 349, place 582, bank 12 of row 0, column line 2. -/
theorem test_interleave : ({ on with boot := { on.boot with stkMask := 2 ^ 512 - 1, localU := 1 } } : State).spot 0x1234580 = some ⟨349, 582⟩ ∧
    spotCell ⟨349, 582⟩ = (0, 12, 2, 0) := by decide +kernel

/-- The same after channel 100 is mapped out: channel 420. -/
theorem test_interleave_mapped_out : (({ on with boot := { on.boot with stkMask := 2 ^ 512 - 1 - 2 ^ 100, localU := 1 } } : State).spot 0x1234580).map (·.key) = some 420 := by
  decide +kernel

/-- The worked example of chapter 7: VFMULQ.16 of 0x0003 and 0x4001 under RNU is 0x0002. -/
theorem test_vfmulq_rnu : after (.vfmulq 7 (vf 3 0 1 2 1)) (vecState 1 [(1, 3), (2, 0x4001)] []) (fun t => (t.reed 7).el 3 16 0) = some 2 := by decide +kernel

/-- The worked example of chapter 8: VCOMPRESS packs the five active doublewords. -/
theorem test_vcompress : after (.vcompress 7 (vf 3 1 1 0 3)) (vecState 8 [(1, elems 64 [30, 1, 40, 15, 50, 90, 20, 60])] [(1, 0b10110101)])
    (fun t => (List.range 8).map ((t.reed 7).el 3 64)) = some [30, 40, 50, 90, 60, 0, 0, 0] := by decide +kernel

/-- The same example's VEXPAND, over an old value of 8. -/
theorem test_vexpand : after (.vexpand 7 (vf 4 1 3 0 3)) (vecState 8 [(3, elems 64 [30, 40, 50, 90, 60, 0, 0, 0]), (4, elems 64 (List.replicate 8 8))] [(1, 0b10110101)])
    (fun t => (List.range 8).map ((t.reed 7).el 4 64)) = some [30, 8, 40, 8, 50, 90, 8, 60] := by decide +kernel

/-- The worked example of chapter 8: VSCAN.I of 1 to 8 with segments from 0, 3 and 5. -/
theorem test_vscan : after (.vscanI 7 (vf 3 0 1 2 2)) (vecState 8 [(1, elems 32 [1, 2, 3, 4, 5, 6, 7, 8])] [(2, 0b101001)])
    (fun t => (List.range 8).map ((t.reed 7).el 3 32)) = some [1, 3, 6, 4, 9, 6, 13, 21] := by decide +kernel

/-- The exclusive scan of the same example. -/
theorem test_vscan_exclusive : after (.vscanI 7 (vf 3 0 1 10 2)) (vecState 8 [(1, elems 32 [1, 2, 3, 4, 5, 6, 7, 8])] [(2, 0b101001)])
    (fun t => (List.range 8).map ((t.reed 7).el 3 32)) = some [0, 1, 3, 0, 4, 0, 6, 13] := by decide +kernel

/-- The worked example of chapter 8: VTMUL of (0.5, 1.0) and (2.0, 0.0) is (1.0, 2.0). -/
theorem test_vtmul : after (.vtmul 7 (vf 4 0 1 2 2)) (vecState 1 [(0, 0x3F000000), (1, 0x3F800000), (2, 0x40000000), (3, 0)] [])
    (fun t => ((t.reed 7).el 4 32 0, (t.reed 7).el 5 32 0)) = some (0x3F800000, 0x40000000) := by decide +kernel

/-- Chapter 5's example near the window's limit, over k-blocks of BF16 elements: the output element's sum in W. -/
def window3 (x y : List Nat) : WElem :=
  treeOf 64 ((List.zipWith Prod.mk (kBlocks 2 x none) (kBlocks 2 y none)).mapIdx fun n e => blockElem 64 96 2 2 false (32 * n) e.1 e.2)

/-- All three terms in block 0: the result is 4,096.0, with INEXACT. -/
theorem test_matrix_window : (window3 [0x5880, 0x3AC0, 0xD880] [0x5880, 0x3B00, 0x5880]).resolve false = .fin false 1 12 ∧
    (window3 [0x5880, 0x3AC0, 0xD880] [0x5880, 0x3B00, 0x5880]).inexact = true := by decide +kernel

/-- The third term at k = 32, in block 1: the result is +0, with INEXACT. -/
theorem test_matrix_two_blocks : (window3 ([0x5880, 0x3AC0] ++ List.replicate 30 0 ++ [0xD880]) ([0x5880, 0x3B00] ++ List.replicate 30 0 ++ [0x5880])).resolve false = .fin false 0 0 ∧
    (window3 ([0x5880, 0x3AC0] ++ List.replicate 30 0 ++ [0xD880]) ([0x5880, 0x3B00] ++ List.replicate 30 0 ++ [0x5880])).inexact = true := by decide +kernel

/-- IDCODE gives 0x1EB7_0C3F (R35). -/
theorem test_idcode : after .tapIdcode { on with pins := { on.pins with trstN := true } } (fun t => t.out.getLast?) = some (some (.tdo 0x1EB70C3F)) := by decide +kernel

/-- Memory with the descriptor of one contribution and its FP64 value 3 × 2^−62. -/
def regionAddMem : Mem :=
  let d := desc 8 [fd 0x30 0 0x3C0000, fd 0x38 0 2, fd 0x38 4 0, fd 0x48 0 3, fd 0x48 18 1, fd 0x50 0 8192]
  { on.mem with cells := descCells d ++ cellsAt 8192 [0, 0, 0, 0, 0, 0, 0x28, 0x3C] }

/-- The contribution 3 × 2^−62 to a region of EXP −56 adds one unit, 2^−56, by the sticky bit (chapter 10's example). -/
theorem test_region_add_truncates :
    after (.regionAdd 0) (({ regionOne 2 [fd 0x38 4 0, fd 0x48 0 3, fd 0x48 18 1, fd 0x50 0 8192] with
        mem := regionAddMem } : State).setFld R.SCA_REGION_W0_EXP 0xFFC8 [0, 0, 0])
      (fun t => (t.rgnV rgnOne 3).1) = some 1 := by decide +kernel

end Sys2Proof.Tests
end

