-- ==== Sys2Proof/Tests/Witness6.lean ====
section
/-! SUPPORT. Witnesses: the statements about requests, responses and streams. -/

namespace Sys2Proof.Tests
set_option Elab.async false
open Machine Claims

/-- A TXN flit from node 1 on VC2: address, tag, operation, lines, ARG, data. -/
def txn (addr tag op lines arg : Nat) (data : List Byte) : Flit := Flit.mk' 7 2 0 (txnPayload addr tag 1 op lines 0 0 arg data)

/-- `grouped` with a flit at the front of port 0's receive queue, and a written line at 8,192. -/
def received (f : Flit) : State :=
  (grouped { on with mem := { on.mem with cells := zeroLines } }).modPort 0 fun p => { p with rxq := [f] }

/-- What both clauses about line requests ask. -/
def lineB (f : Flit) (op : Nat) : Bool :=
  let s := received f
  s.canon && s.up && cleanB s && !s.job.running && (s.port 0).rxq == [f] && f.ftype == 7 && s.route (txSrc f) == some 0 &&
    s.fld R.NLK_STATUS_STATE [0] != 4 && s.hasPort 0 && txOff f == 8192 && txLines f == 1 && storableB s 8192 && (s.spot 8192).isSome && txOp f == op &&
    s.mem.written 8192 && !s.mem.wordPoison 1024 && txPmark f == 0

/-- A region operation that waits for two lines of another member, with the answer to one received; or that answer without a request. -/
def answerHere (op : Nat) (known : Bool) : State :=
  let f := txn 0 3 op 1 0 [7]
  let s := received f
  if known then { s with
    items := [(4, { takenItem (desc 8 []) .waiting 0 with pendingRemote := 2 })]
    reqs := [(3, { waiter := .item 4, dst := 1, vc := 2, op := 0, addr := 0x840000000000, len := 64, age := 0, narrow := none })] }
  else s

theorem witness_RequestsAndResponses : lineB (txn 8192 3 0 1 0 []) 0 = true ∧ lineB (txn 8192 3 1 1 0 [7]) 1 = true ∧
    (let s := answerHere 2 true
     let f := txn 0 3 2 1 0 [7]
     s.canon && s.up && cleanB s && (s.port 0).rxq == [f] && s.cols.isEmpty && FMap.sorted s.reqs &&
       (FMap.find? (txTag f) s.reqs).isSome && (FMap.find? (txTag f) s.outStreams).isNone && txOp f == 2 && txStatus f == 0 && txPmark f == 0 &&
       s.items == [(4, { takenItem (desc 8 []) .waiting 0 with pendingRemote := 2 })]) = true ∧
    (let s := answerHere 3 false
     let f := txn 0 3 3 1 0 [7]
     s.canon && s.up && cleanB s && (s.port 0).rxq == [f] && txOp f == 3 && (FMap.find? (txTag f) s.reqs).isNone) = true := by
  decide +kernel

/-- A stream open of an all-reduce of 512 elements, chunk 1, round 1, for bucket 5. -/
def openFlit : Flit := txn 0 3 7 0 0 (toBytes 4 0 ++ toBytes 2 5 ++ toBytes 2 7 ++ toBytes 8 (0 + 1 * 2 ^ 4 + 512 * 2 ^ 22) ++ toBytes 4 1 ++ toBytes 2 0 ++ toBytes 2 1)

/-- A stream flit of stream 1, last or not. -/
def dataFlit (last : Bool) : Flit := { Flit.mk' 8 4 0 [9] with stream := 1, last := last }

/-- An accepted stream that awaits its flits. -/
def openIn : InStream := { lastIn (loneStep col false) loneItem with bytes := [], done := false }

/-- `received` with a stream flit and its stream. -/
def streaming (last : Bool) : State := { received (dataFlit last) with inStreams := [openIn], cols := if last then [] else [(4, col)] }

/-- The STATUS flit of node 1 with SLOW. -/
def statusFlit : Flit := Flit.mk' 6 0 0 (zeros 8 ++ toBytes 2 1 ++ [0, 1])

theorem witness_Streams :
    (let s := received openFlit
     let f := openFlit
     s.canon && s.up && (s.port 0).rxq == [f] && isTxn 7 f && s.cols.isEmpty && s.inStreams.isEmpty && s.groupByHash (fieldAt (txData f) 0 4) == some 3 &&
       FMap.find? 3 s.groups == some pair && s.claim 3 (fieldAt (txData f) 4 2) (fieldAt (txData f) 6 2) == .free && decide (bits (fieldAt (txData f) 8 8) 0 4 ≤ 1) &&
       decide (openLen pair.n { openIn with params := fieldAt (txData f) 8 8, chunk := fieldAt (txData f) 16 4, round := fieldAt (txData f) 22 2 } ≤ lbBytes pair)) = true ∧
    (let f := txn 0 3 8 0 0xFFFF []
     let s := { received f with outStreams := [(3, { item := 4, dst := 1, vc := 4, bytes := zeros 512, poison := 0 })] }
     s.canon && s.up && (s.port 0).rxq == [f] && isTxn 8 f && !bit (txArg f) 16 && !bit (txArg f) 17 && (FMap.find? (txTag f) s.outStreams).isSome &&
       FMap.sorted s.outStreams && s.route 1 == some 0 && s.fld R.NLK_STATUS_STATE [0] != 4 && s.hasPort 0) = true ∧
    ([false, true].all fun last =>
      let s := streaming last
      s.canon && s.up && (s.port 0).rxq == [dataFlit last] && (dataFlit last).ftype == 8 && s.inStreams == [openIn] && openIn.accepted && !openIn.done &&
        openIn.number == (dataFlit last).stream && (!last || s.cols.isEmpty)) = true ∧
    (let s := { received statusFlit with items := [(4, loneItem)], cols := [(4, col)] }
     s.canon && s.up && (s.port 0).rxq == [statusFlit] && statusFlit.ftype == 6 && fieldAt statusFlit.payload 11 1 % 4 != 0 && FMap.sorted s.cols &&
       FMap.find? (cGroup loneItem.desc) s.groups == some pair && pair.members.contains (fieldAt statusFlit.payload 8 2 % 4096) &&
       fieldAt statusFlit.payload 8 2 % 4096 != s.node) = true := by
  decide +kernel

end Sys2Proof.Tests
end

