-- ==== Sys2Proof/Tests/Witness10.lean ====
section
/-! SUPPORT. Witnesses: the statements about the mailboxes, firmware, the re-weave, the hearth, PCIe, management and time, and the canonical form. -/

namespace Sys2Proof.Tests
set_option Elab.async false
open Machine Claims

/-- A request of a type before processor `p`, by major 3. -/
def asks (s : State) (p type : Nat) (body : List Byte) : State :=
  (((s.fillSlot p 0 0 (messageBytes 3 1 type 0 5 0 0 0 body)).setFld R.QMC_MBX_W0_IN_PI 1 [p])).setFld R.QMC_MBX_W2_MAJOR 3 [p]

/-- `Asked` as a computation. -/
def askedB (s : State) (p type : Nat) : Bool :=
  s.canon && s.up && s.canServe p && s.refusal p (s.inMsg p) == 0 && (s.inMsg p).type == type && s.outRoom p && (s.fwp p).events.isEmpty && s.cols.isEmpty

theorem asked_of {s : State} {p type : Nat} (h : askedB s p type = true) : Asked s p (s.inMsg p) type := by
  simp only [askedB, Bool.and_eq_true, beq_iff_eq, List.isEmpty_iff] at h
  exact ⟨h.1.1.1.1.1.1.1, h.1.1.1.1.1.1.2, h.1.1.1.1.1.2, rfl, h.1.1.1.1.2, h.1.1.1.2, h.1.1.2, h.1.2⟩

/-- A group record at 16,384 with its members at 20,480: group 3, VC 4, this node 0 and node 1. -/
def recorded : State :=
  grouped { on with mem := { on.mem with cells := cellsAt 16384 [3, 4, 1, 0, 2] ++ cellsAt 16401 [0x50] ++ cellsAt 20480 [0, 0, 1, 0] } }

theorem witness_MailboxRequests :
    (askedB (asks on 0 1 [0, 3]) 0 1 && decide (fieldAt ((asks on 0 1 [0, 3]).inMsg 0).body 0 1 ≤ 3) && decide (3 ≤ ((asks on 0 1 [0, 3]).inMsg 0).major)) = true ∧
    (askedB (asks on 7 2 [1]) 7 2 && askedB (asks on 0 0x10 []) 0 0x10) = true ∧
    (let s := asks { on with boot := { on.boot with keyReady := true } } 0 0x400 (zeros 40)
     askedB s 0 0x400 && s.boot.keyReady && fieldAt (s.inMsg 0).body 1 7 == 0 && fieldAt (s.inMsg 0).body 0 1 == 0) = true ∧
    (let s := asks on 1 0x300 (zeros 16)
     askedB s 1 0x300 && !s.budgetRange (s.inMsg 1).body && !s.budgetLocked (s.inMsg 1).body) = true ∧
    (let s := asks on 1 0x300 (toBytes 4 399999 ++ zeros 12); askedB s 1 0x300 && s.budgetRange (s.inMsg 1).body) = true ∧
    (let s := { asks recorded 6 0x100 (toBytes 8 16384) with groups := [] }
     askedB s 6 0x100 && (match s.groupAt (fieldAt (s.inMsg 6).body 0 6) with
       | some (rec, members) => s.groupOk rec members && fieldAt rec 0 1 == 3 && (FMap.find? (fieldAt rec 0 1) s.groups).isNone
       | none => false)) = true ∧
    (let s := asks recorded 6 0x100 (toBytes 8 1); askedB s 6 0x100 && (s.groupAt (fieldAt (s.inMsg 6).body 0 6)).isNone) = true ∧
    (let s := asks recorded 6 0x101 (toBytes 8 3)
     askedB s 6 0x101 && FMap.sorted s.groups && fieldAt (s.inMsg 6).body 0 1 == 3 && (List.range 32).all fun k => s.fld R.COL_SLOT_W0_STATE [3, k] == 0) = true ∧
    (let s := asks on 7 0x999 []
     s.canon && s.up && s.canServe 7 && s.refusal 7 (s.inMsg 7) != 0 && s.cols.isEmpty && s.outRoom 7 && (s.fwp 7).events.isEmpty && (s.fwp 7).heldReply.isNone) = true := by
  decide +kernel

/-- The update engine in a state, with an image of SVN 1 staged and running, and a stable envelope. -/
def updating (st : Nat) : State :=
  let i := { FwImage.reference with hash := 7, svn := 1 }
  let s := { on with
    time := { on.time with elapsed := 5 * 10 ^ 17 }
    boot := { on.boot with fw := some i }
    flash := { on.flash with fw1 := some i, man0 := { on.flash.man0 with stagedHash := 7 } } }
  s.setFld R.FWP_UPDATE_STATE st

/-- The clause of FW_STAGE whose image must be accepted rests on free values (what the header covers, the signature's verdict, what fits: log entry 85), which no proof can give; its other hypotheses hold of the zeros at 8,192. -/
theorem witness_FirmwareUpdates :
    (let s := asks ({ updating 0 with mem := { on.mem with cells := zeroLines } }) 0 0x200 (toBytes 8 8192 ++ toBytes 8 64)
     askedB s 0 0x200 && s.fld R.FWP_UPDATE_STATE == 0 && fieldAt (s.inMsg 0).body 0 6 == 8192 && fieldAt (s.inMsg 0).body 8 4 == 64 && s.inTier 8192 64 && !(s.peek 8192 64).2 &&
       s.flash.ctrFw == 0) = true ∧
    ([3, 4].all fun st => askedB (asks (updating st) 0 0x200 (zeros 16)) 0 0x200 && (asks (updating st) 0 0x200 (zeros 16)).fld R.FWP_UPDATE_STATE == st) = true ∧
    (let s := { asks (updating 1) 0 0x200 (zeros 16) with update := { on.update with staging := some FwImage.reference } }
     s.canon && s.up && s.fwRuns 0 && (s.fwp 0).heldReply.isNone && (s.fwp 0).events.isEmpty && s.outRoom 0) = true ∧
    (let s := asks (updating 2) 0 0x201 (zeros 8)
     askedB s 0 0x201 && (match s.flash.staged with
       | some i => s.speaks i
       | none => false)) = true ∧
    (askedB (asks (updating 0) 0 0x201 (zeros 8)) 0 0x201 && askedB (asks (updating 3) 0 0x202 (zeros 8)) 0 0x202 && askedB (asks (updating 2) 0 0x202 (toBytes 8 1)) 0 0x202 &&
      [0, 1, 4].all fun st => askedB (asks (updating st) 0 0x202 (zeros 8)) 0 0x202 && (asks (updating st) 0 0x202 (zeros 8)).fld R.FWP_UPDATE_STATE == st) = true ∧
    (let s := updating 3
     s.canon && s.up && s.envStable && s.fwRuns 0 && s.fwRuns 1 && (s.flash.staged.map (·.hash)) == some s.flash.manifest.stagedHash) = true ∧
    (let s := updating 4; s.canon && s.up && s.fld R.FWP_UPDATE_STATE == 4 && s.update.chain.isEmpty && s.fwRuns 0) = true ∧
    (let s := (updating 0).setFlag R.GLB_WEAVE_DEBUG true; s.canon && s.up && s.fwRuns 7 && s.flag R.GLB_WEAVE_DEBUG && decide ((s.recentCrashes 7).length < 3)) = true ∧
    (let s := { updating 0 with fw := [(7, { (on.fwp 7) with crashes := [500000 * 100, 500000 * 100] })] }; s.canon && s.up && s.fwRuns 7 && decide (3 ≤ (s.recentCrashes 7).length)) = true ∧
    (let s := (updating 0).setFld R.FWP_STATUS_STATE 1 [7]
     s.canon && s.up && s.fld R.FWP_STATUS_STATE [7] == 1 && s.update.chain.isEmpty && s.boot.fw.isSome && (s.fwp 7).heldReply.isNone && s.items.isEmpty) = true := by
  decide +kernel

/-- A re-weave in a state with an image, on maps of its own or of the image. -/
def reweaving (st : Nat) (w : Weave) (moves : Bool) : State :=
  let s := { on with boot := { on.boot with newWeave := some w, stkMask := if moves then 1 else w.stkMask on.flash, rimMask := if moves then 0 else w.rimMask on.flash, localU := w.localU } }
  s.setFld R.BSU_REWEAVE_STATUS_STATE st

theorem witness_Reweaves :
    (on.canon && on.up && on.fld R.FWP_UPDATE_STATE == 0 && on.fld R.BSU_REWEAVE_STATUS_STATE == 0 && on.fld R.QMC_STATUS_INFLIGHT == 0 && !on.job.sev4) = true ∧
    (let s := on.setFld R.FWP_UPDATE_STATE 4; s.canon && s.up && s.fld R.FWP_UPDATE_STATE == 4) = true ∧
    (let w := { Weave.reference with sigOk := false }
     let s := reweaving 1 w true
     s.canon && s.up && s.boot.newWeave == some w && s.fld R.BSU_REWEAVE_STATUS_STATE == 1 && w.verdict s.flash != 0 && !s.flag R.ERL_CTL_MIRROR_EN) = true ∧
    ([true, false].all fun moves =>
      let s := reweaving 1 Weave.reference moves
      s.canon && s.up && s.boot.newWeave == some Weave.reference && Weave.reference.verdict s.flash == 0 && s.mem.l3.isEmpty && s.mapsMove Weave.reference == moves) = true ∧
    ([true, false].all fun moves =>
      let s := reweaving 2 Weave.reference moves
      s.canon && s.boot.newWeave == some Weave.reference && s.fld R.BSU_REWEAVE_STATUS_STATE == 2 && !s.job.running && s.held.isEmpty && s.mapsMove Weave.reference == moves &&
        !(failedIn (Weave.reference.stkMask s.flash) [511]).isEmpty && s.hubUp && decide ((s.flash.rasOf 1 false).length ≤ 1024)) = true ∧
    (let s := on.setFld R.BSU_REWEAVE_STATUS_STATE 3; s.canon && s.hubUp && s.fld R.BSU_REWEAVE_STATUS_STATE == 3) = true := by
  decide +kernel

/-- Hart 15 runs, over zeros at 8,192, with a PCIe link and a route to another member. -/
def hearthOn (remote : Nat) : State :=
  let s := { grouped on with harts := [(15, { running := true, remote := remote, fencing := false, imsicM := 0, imsicS := 0 })], mem := { on.mem with cells := zeroLines } }
  ((((s.setFld R.NLK_MEMBER_VALID 1 [63]).setFld R.NLK_MEMBER_NODE 1 [63]).setFld R.GLB_CAPS_PCIE_PRESENT 1).setFld R.PCI_STATUS_LINK_UP 1)

theorem witness_HearthAccesses : (let s := hearthOn 0
     s.canon && s.up && cleanB s && ([1, 2, 4, 8].all fun n => s.hartRuns 15 n) && s.mappedRange 8192 8 && (s.lineView 8192).outcome == 0 && (s.lineView 8192).poison == 0 &&
       !s.farLine 8192 && storableB s 8192 && s.regionOf 0x0F010000020 == .regs 0x10000020 && s.regUp 0x10000020 && !s.regPoison 0x10000020 && s.freeTag == some s.nextTag && s.regionOf 0x0A000000000 == .hole &&
       s.regionOf 0x400000000008 == .pcie 8 && s.mapped 0x400000000008 && s.regionOf 0xFE0000000008 == .remote 63 8 && s.farLine 0xFE0000000001 &&
       s.localAddr 0xFE0000000001 % 8 != 0 && s.route (s.fld R.NLK_MEMBER_NODE [63]) == some 0 && s.fld R.NLK_STATUS_STATE [0] != 4 && s.hasPort 0 &&
       (s.hart 15).remote == 0) = true ∧
    (let s := hearthOn 1; s.canon && s.hartRuns 15 8 && (s.hart 15).remote != 0) = true ∧
    (let s := (hearthOn 0).setFld R.BSU_REWEAVE_STATUS_STATE 2
     s.canon && s.hartRuns 15 8 && !s.up && s.regionOf 8192 == .stack 8192 && s.regionOf 0x0F010000020 == .regs 0x10000020 && !s.regUp 0x10000020) = true ∧
    (let s := (hearthOn 0).setFld R.PCI_STATUS_LINK_UP 0; s.canon && s.hartRuns 15 8 && !s.mapped 0x400000000008) = true := by
  decide +kernel

/-- `hearthOn` with an outstanding PCIe request. -/
def pcieWaits (tag : Nat) (w : Waiter) : State :=
  { hearthOn 0 with pcieReqs := [(tag, { waiter := w, dst := 0, vc := 0, op := 0, addr := 0x400000000000, len := 8, age := 0, narrow := none })] }

theorem witness_PciePort :
    (let s := pcieWaits 1023 (.hearth 15 true); s.canon && s.up && s.hubUp && s.pciUp && s.flag R.PCI_STATUS_LINK_UP && !s.flag R.ERL_CTL_MIRROR_EN) = true ∧
    (let s := { pcieWaits 0 (.item 4) with items := [(4, { takenItem (desc 8 []) .waiting 0 with pendingRemote := 2 })] }; s.canon && s.up && (FMap.find? 4 s.items).isSome) = true ∧
    (let s := { hearthOn 0 with pcieHdr := [(0x18, 5)] }
     s.pciUp && s.pcieReqs.isEmpty && FMap.sorted s.pcieHdr && hdrKept 0x18 && decide (FMap.getD s.pcieHdr 0x18 0 < 256)) = true ∧
    (let s := pcieWaits cfgTag .none; s.canon && s.pciUp && FMap.sorted s.pcieReqs && (FMap.find? cfgTag s.pcieReqs).isSome) = true ∧
    (let s := hearthOn 0
     let base := s.fld R.PCI_MSI_BUS_BASE / 2 ^ 17 * 2 ^ 17
     decide (base ≤ base + 2 ^ 17 - 4) && ofBytes (([63, 0, 0, 0] : List Byte).take 4) == 63 && cleanB s && s.inboundOk 8192 8 && (s.msiVector 8192 8 []).isNone &&
       linesB s [(8192, 8)] && (s.lineView 8192).outcome == 0 && (s.lineView 8192).poison == 0 && !s.inboundOk 0x0A000000000 8) = true := by
  decide +kernel

/-- A management frame for the port's own address: type, kind, processor. -/
def mgtTo (typ kind p : Nat) (data : List Byte) : List Byte := zeros 12 ++ [BitVec.ofNat 8 (typ / 256), BitVec.ofNat 8 typ, BitVec.ofNat 8 kind, BitVec.ofNat 8 p] ++ zeros 6 ++ data

/-- A PTP message of a kind, sequence 9, two-step. -/
def ptpFrame (kind : Nat) : List Byte := zeros 12 ++ [0x88, 0xF7, BitVec.ofNat 8 kind, 2] ++ zeros 4 ++ [2, 0] ++ zeros 22 ++ [0, 9] ++ zeros 14

/-- Sources and stage of the time unit. -/
def timed (primary backup active stage : Nat) : State :=
  let s := { on with
    boot := { on.boot with stage := stage }
    time := { on.time with active := active, ptp := [0, 0, 0, 0, 9], primaryBack := 15, master := some (0, []), delaySeq := 9, delayWait := true } }
  ((((s.setFld R.TIM_CFG_PRIMARY primary).setFld R.TIM_CFG_BACKUP backup).setFld R.GLB_CAPS_NLK_PORTS 1).setFld R.NLK_STATUS_STATE 2 [0]).setFld R.NLK_CFG_TIME_ROLE 2 [0]

/-- A Delay_Resp to this clock's last Delay_Req. -/
def delayResp (s : State) : List Byte := (ptpFrame 9).take 58 ++ (toBytes 10 s.ptpPort).reverse

theorem witness_ManagementAndTime :
    (let s := on.setFld R.MGT_CTL_ENABLE 1
     s.canon && s.hubUp && s.flag R.MGT_CTL_ENABLE && s.frameOk (mgtTo 0x88B5 0 7 []) && s.frameOk (mgtTo 0x88F7 0 0 []) && !s.frameOk (mgtTo 0x0800 0 0 [])) = true ∧
    (let f := mgtTo 0x88B5 0 7 (zeros 4096)
     let s := { on.setFld R.MGT_CTL_MBX_EN 0x80 with mgt := { on.mgt with rx := [(0, f)] } }
     s.canon && s.up && fieldAt f 15 1 == 7 && bit (s.fld R.MGT_CTL_MBX_EN) 7 && f.length == 4118 && s.inRoom 7 && ((List.range 8).all fun q => (s.fwp q).heldReply.isNone && (s.fwp q).events.isEmpty && s.fld R.QMC_MBX_W1_OUT_PI [q] == s.fld R.QMC_MBX_W1_OUT_CI [q]) && !(s.setFld R.QMC_MBX_W0_IN_PI 256 [7]).inRoom 7 &&
       !bit (s.fld R.MGT_CTL_MBX_EN) 0) = true ∧
    ([0, 8, 9].all fun kind =>
      let s := { timed 1 0 1 9 with mgt := { on.mgt with ptp := [ptpFrame kind] } }
      let msg := (ptpFrame kind).drop 14
      s.canon && s.up && s.ptpUsed && decide (34 ≤ msg.length) && fieldAt msg 4 1 == s.fld R.TIM_CFG_PTP_DOMAIN && fieldAt msg 0 1 % 16 == kind && bit (fieldAt msg 6 1) 1 &&
        s.ptpAt 4 == (bigAt msg 30 2 : Int) && s.time.active == 1) = true ∧
    (let s := { timed 1 0 1 9 with mgt := { on.mgt with ptp := [delayResp (timed 1 0 1 9)] } }
     s.canon && s.up && s.ptpUsed && s.answersDelay ((delayResp (timed 1 0 1 9)).drop 14)) = true ∧
    ([some (0, []), some (5, []), none].all fun m =>
      let s := { timed 1 0 1 9 with mgt := { on.mgt with ptp := [ptpFrame 11 ++ zeros 18] }, time := { (timed 1 0 1 9).time with master := m } }
      let msg := (ptpFrame 11 ++ zeros 18).drop 14
      s.canon && s.up && s.ptpUsed && fieldAt msg 0 1 % 16 == 11 && decide (64 ≤ msg.length) && decide (bigAt msg 61 2 < 255) && s.fromMaster msg == (m == some (0, []))) = true ∧
    (on.ptpUsed = false ∧ on.canon = true) ∧
    ([(1, 2, 1), (1, 2, 0), (1, 2, 2), (3, 0, 3), (2, 1, 1)].all fun p =>
      let s := timed p.1 p.2.1 p.2.2 9
      s.canon && s.up && s.boot.stage == 9 && s.fld R.TIM_CFG_PRIMARY == p.1 && s.fld R.TIM_CFG_BACKUP == p.2.1 && s.time.active == p.2.2 && s.time.primaryBack + 1 == 16 && s.receiver == some 0 && s.time.gone.isEmpty) = true ∧
    (let s := on.setFld R.TIM_PPS_CTL_OUT_EN 1
     s.canon && s.up && s.flag R.TIM_PPS_CTL_OUT_EN && s.atSecond && decide (s.time.ns < s.time.ppsAt + 1000 * s.fld R.TIM_PPS_CTL_WIDTH_US)) = true ∧
    (let s := on.setFld R.TIM_PPS_CTL_WIDTH_US 0; s.canon && decide (s.time.ppsAt + 1000 * s.fld R.TIM_PPS_CTL_WIDTH_US ≤ s.time.ns)) = true := by
  decide +kernel

/-- A released device on an empty queue, before and at a microsecond, and held ones. -/
theorem witness_StepRunsFront :
    (let at' := fun (e : Nat) (up : Bool) => { on with time := { on.time with elapsed := e }, boot := { on.boot with stage := if up then 10 else 1 } }
     [0, 9999999999999].all fun e => (at' e true).pending.isEmpty && (at' e true).up && !(at' e false).up && (at' e true).items.isEmpty && (at' e true).tagWait.isEmpty &&
       (decide (e / 10000000000000 < (e + (64000000000 + 64 * (at' e true).time.ppb).toNat) / 10000000000000) == (e != 0))) = true ∧
    (State.reset.pins.modPwrgd = false ∧ held.pins.modPwrgd = true ∧ held.pins.released = false) := by
  decide +kernel

/-- Every command from the state of one queued barrier. -/
theorem witness_CanonKept : (work (desc 0x0B [])).canon = true := by decide +kernel

end Sys2Proof.Tests
end

