-- ==== Sys2Proof/Tests/Witness2.lean ====
section
/-! SUPPORT. Witnesses: the statements about registers, epochs, queues and event counters. -/

namespace Sys2Proof.Tests
set_option Elab.async false
open Machine Claims

/-- `on` with the epoch engine in a state, and a value staged for COL_SR_SEED. -/
def epochIn (st : Nat) : State := (({ on with staged := [(R.COL_SR_SEED.base, (BitVec.allOnes 64, 5))] } : State).setFld R.EPO_STATUS_STATE st)

/-- A collective step, at an item's place. -/
def stepDesc : Desc := BitVec.ofNat 1024 (desc 9 [])

/-- An item of queue 0 with a descriptor. -/
def itemOf (s : State) (d : Nat) : Item := s.newItem 0 (BitVec.ofNat 1024 d)

theorem witness_RegisterReads : on.canon = true ∧
    (on.regUp 0x1000020 = true ∧ 0x1000020 % 8 = 0 ∧ on.absentOff 0x1000020 = false ∧ rawOff 0x1000020 = false ∧ (regAt 0x1000020).isSome = true ∧
      ((regAt 0x1000020).map fun p => p.1.fields.any fun f => f.acc == .rc) = some true) ∧
    262143 < 262144 ∧ on.up = true := by
  decide +kernel

theorem witness_RegisterWrites : on.canon = true ∧ on.up = true ∧
    ((0x1000028 % 8 = 0 ∧ regAt 0x1000028 = none ∧ rawOff 0x1000028 = false ∧ ¬(0x08000000 ≤ 0x1000028 ∧ 0x1000028 < 0x09000000)) ∧
      regAt 0x0FFFFFF8 = none ∧ rawOff 0x0FFFFFF8 = false) ∧
    (4 % 8 ≠ 0 ∧ (onRegs [(0x10, 0)]).absentOff 0x22000000 = true ∧ (onRegs [(0x10, 0)]).up = true ∧ (onRegs [(0x10, 0)]).canon = true) ∧
    (0x6000000 % 8 = 0 ∧ on.absentOff 0x6000000 = false ∧ rawOff 0x6000000 = false ∧ ¬(0x08000000 ≤ 0x6000000 ∧ 0x6000000 < 0x09000000) ∧
      regAt 0x6000000 = some (R.ERL_CTL, []) ∧ R.ERL_CTL.base ∉ effectBases ∧ (∀ f ∈ R.ERL_CTL.fields, f.acc = .rw → f.cls = .l)) ∧
    (0x05FFFFF8 % 8 = 0 ∧ rawOff 0x05FFFFF8 = true ∧ rawOff 0x0C001078 = true) ∧
    ([epochIn 1, epochIn 2, epochIn 3, on, { on with items := [(0, itemOf on (desc 9 []))] }].all fun s =>
      s.canon && s.up && decide ((7 : Word).toNat ≠ s.presentG R.COL_SR_SEED.base R.COL_SR_SEED_SEED [])) = true ∧
    ((epochIn 1).fld R.EPO_STATUS_STATE = 1 ∧ (epochIn 2).fld R.EPO_STATUS_STATE = 2 ∧ (epochIn 3).fld R.EPO_STATUS_STATE = 3 ∧ on.fld R.EPO_STATUS_STATE = 0) ∧
    isStep (itemOf on (desc 9 [])).desc = true := by
  decide +kernel

theorem witness_BadRegisterAccess : on.canon = true ∧ on.regUp 0x1000004 = true ∧ on.regUp 0 = true := by
  decide +kernel

/-- A die's droop, a waiting request that has just aged, and a lone request of die 3. -/
def aged (age tile : Nat) : State := { on with waiting := [(7, { age := age, tile := tile, src := 0, stale := false })] }

theorem witness_DroopsAndAges : on.canon = true ∧ on.up = true ∧ (on.rail 0).droop = false ∧ (on.rail 4).droop = false ∧ on.job.running = false ∧ on.cols = [] ∧
    ((aged 49152 0).canon = true ∧ (aged 49152 0).up = true ∧ 16384 ≤ ((aged 49152 0).ageStamp + 65536 - 49152) % 65536 ∧
      (aged 49152 0).waiting = [(7, { age := 49152, tile := 0, src := 0, stale := false })]) ∧
    ((aged 0 575).canon = true ∧ (aged 0 575).up = true ∧ (aged 0 575).narrowOut' 3 < 4096 ∧ (aged 0 575).narrowWait = [] ∧ 575 / 144 = 3) ∧
    (let hs : List ArbHead := [⟨0, 5, false⟩, ⟨4095, 5, false⟩]
     (hs.all fun a => decide (a.src < 4096)) = true ∧ (Arb.fresh.grant (fun _ => 1) hs).map (·.1) = some ⟨0, 5, false⟩) := by
  decide +kernel

theorem witness_EpochCommands :
    ([epochIn 0, epochIn 1, epochIn 2, epochIn 3, epochIn 4].all fun s => s.canon && s.up && s.oldItems == 0 && s.epo.items.isEmpty && s.participants == [0x2100] && !s.epo.acked.contains 0x2100) = true ∧
    ((epochIn 0).fld R.EPO_STATUS_STATE = 0 ∧ (epochIn 4).fld R.EPO_STATUS_STATE = 4) ∧
    (let s := { epochIn 1 with items := [(0, { itemOf (epochIn 1) (desc 9 []) with epoch := 2 ^ 32 - 1 })] }
     s.canon = true ∧ s.up = true ∧ s.fld R.EPO_STATUS_STATE = 1 ∧ s.oldItems ≠ 0) ∧
    (let s := { epochIn 1 with staged := [] }
     s.canon = true ∧ s.up = true ∧ s.fld R.EPO_STATUS_STATE = 1 ∧ s.oldItems = 0 ∧ s.participants = [] ∧ s.epo.items = []) := by
  decide +kernel

/-- In barrier with two participants, none acknowledged. -/
def twoStaged : State := { epochIn 3 with staged := [(R.COL_SR_SEED.base, (BitVec.allOnes 64, 5)), (0x12100000, (1, 0))] }

theorem witness_EpochSwitch : (twoStaged.canon = true ∧ twoStaged.up = true ∧ twoStaged.fld R.EPO_STATUS_STATE = 3 ∧
      twoStaged.participants.contains 0x2100 = true ∧ twoStaged.epo.acked.contains 0x2100 = false ∧
      twoStaged.epo.acked.length + 1 < twoStaged.participants.length ∧ twoStaged.participants.length < 65536) ∧
    ((epochIn 3).canon = true ∧ (epochIn 3).up = true ∧ (epochIn 3).fld R.EPO_STATUS_STATE = 3 ∧ (epochIn 3).participants.contains 0x2100 = true ∧
      (epochIn 3).epo.acked.contains 0x2100 = false ∧ (epochIn 3).participants.length ≤ (epochIn 3).epo.acked.length + 1 ∧ (epochIn 3).epo.items = [] ∧
      FMap.sorted (epochIn 3).staged = true ∧ ∀ e ∈ (epochIn 3).staged, e.1 / 0x1000000 ≠ 1 ∧ e.1 ≠ R.TRN_CTL.base) := by
  decide +kernel

theorem witness_Doorbells :
    (let s := on
     s.canon = true ∧ s.up = true ∧ s.fld R.WQS_W0_KIND [262143] = 0 ∧ s.fld R.WQS_W2_PI [262143] = 0 ∧ s.fld R.WQS_W2_CI [262143] = 0 ∧
     s.fld R.WQS_W0_LOG2_N [262143] = 4) ∧
    ((16 + 2 ^ 32 - 0) % 2 ^ 32 < 2 ^ 31 ∧ (16 + 2 ^ 32 - 0) % 2 ^ 32 ≤ 2 ^ 4) ∧ ¬((17 + 2 ^ 32 - 0) % 2 ^ 32 ≤ 2 ^ 4) ∧
    (let s := work (desc 8 [])
     s.canon = true ∧ s.up = true ∧ s.fld R.WQS_W0_KIND [1] = 1 ∧ s.fld R.WQS_W2_PI [1] = 0 ∧ s.fld R.WQS_W2_CI [1] = 0) := by
  decide +kernel

/-- `work` with the first or a later word of the head poisoned. -/
def poisonedHead (word : Nat) : State := let s := work (desc 0x0B []); { s with mem := { s.mem with poison := [(word, ())] } }

/-- `work` with a barrier at the head, held by die 0. -/
def heldBarrier : State := let s := work (desc 0x0B []); { s with nrg := { s.nrg with held := [(0, 0)] } }

theorem witness_QueueStates : (on.canon = true ∧ on.up = true ∧ on.qState 262143 = 0 ∧ on.inTier (on.qBase 262143) (on.ringBytes 262143) = true) ∧
    (let s := on.setFld R.WQS_W0_BASE 0xFFFFFFFFF000 [0]
     s.canon = true ∧ s.up = true ∧ s.qState 0 = 0 ∧ s.inTier (s.qBase 0) (s.ringBytes 0) = false ∧ s.fld R.WQS_W0_KIND [0] = 0) ∧
    (let s := { on with job := { on.job with running := true } }; s.canon = true ∧ s.up = true ∧ s.qState 262143 = 3 ∧ s.fld R.WQS_W0_KIND [262143] = 0) ∧
    ((poisonedHead 0).canon = true ∧ (poisonedHead 0).up = true ∧ (poisonedHead 0).served 0 = true ∧ bit ((poisonedHead 0).headPoison 0) 0 = true) ∧
    (let s := poisonedHead 8
     s.canon = true ∧ s.up = true ∧ s.served 0 = true ∧ s.headPoison 0 ≠ 0 ∧ bit (s.headPoison 0) 0 = false ∧ s.slotRoom (s.homeOf 0) = true ∧
     s.cqRoom (s.cqOf 0) = true ∧ quietB s = true) ∧
    (let s := heldBarrier
     s.canon = true ∧ s.up = true ∧ quietB s = true ∧ s.heldOf (s.homeOf 0) = some 0 ∧ hClass (s.headDesc 0) = 0x0B ∧ hStepCommit (s.headDesc 0) = false ∧
     hGate (s.headDesc 0) = false ∧ s.headerCode 0 (s.headDesc 0) = 0 ∧ s.admits (s.headDesc 0) false = true) := by
  decide +kernel

theorem witness_EventCounters : on.canon = true ∧ on.up = true ∧ 65535 < 65536 := by
  decide +kernel

end Sys2Proof.Tests
end

