-- ==== Sys2Proof/Tests/Witness8.lean ====
section
/-! SUPPORT. Witnesses: the statements about plait links, the summary port, scalar instructions and the ends of instances. -/

namespace Sys2Proof.Tests
set_option Elab.async false
open Machine Claims

/-- A plait of two stages on cores 6 and 7. -/
def plait2 : Nat := desc 3 [fd 0x30 0 8192, fd 0x40 0 6, fd 0x40 3 1, fd 0x50 0 8192, fd 0x50 48 5, fd 0x58 0 12288]

/-- Core `c` of the plait, its record, and the entries of the one link. -/
def linkState (c : Nat) (r : Reed) (l : List (Nat × Nat)) : State :=
  { coreState plait2 r with reeds := [(c, r)], fifos := if l.isEmpty then [] else [(fifoKey 0 0, l)] }

/-- The running core of `linkState`. -/
def linkCore (c : Nat) (r : Reed) : RC := ⟨c, 4, runsItem plait2, r⟩

theorem witness_PlaitLinks : ([0, 7, 8].all fun n =>
      let r := coreAt [] 8
      let s := linkState 6 r (List.replicate n (5, 0))
      let k := linkCore 6 r
      s.canon && issuesB s 6 k && FMap.sorted s.fifos && k.inPlait && !k.lastStage && k.stage == 0 && (s.fifo k.tile k.stage).length == n && k.it.live.contains 7) = true ∧
    ([[], [(5, 255)], [(5, 0), (6, 0)]].all fun l =>
      let r := coreAt [] 8
      let s := linkState 7 r l
      let k := linkCore 7 r
      s.canon && issuesB s 7 k && k.inPlait && k.lastStage && k.stage != 0 && s.fifo k.tile (k.stage - 1) == l && k.it.live.contains 6) = true ∧
    (let r := { coreAt [] 8 with blocked := .send 5 0 }
     let s := linkState 6 r (List.replicate 7 (5, 0))
     s.canon && s.runningCore 6 == some (linkCore 6 r) && decide ((s.fifo 0 0).length < 8)) = true ∧
    (let r := { coreAt [] 8 with blocked := .recv 31 }
     let s := linkState 7 r [(5, 255)]
     s.canon && s.runningCore 7 == some (linkCore 7 r) && s.fifo 0 0 == [(5, 255)]) = true ∧
    (let it := { runsItem plait2 with pendingRemote := 1 }
     let s := { linkState 6 (coreAt [] 8) [] with items := [(4, it)] }
     let k : RC := ⟨6, 4, it, coreAt [] 8⟩
     s.canon && issuesB s 6 k && k.it.pendingRemote != 0 && k.inPlait && !k.lastStage && (vf 0 0 1 0 0).ew == 0) = true ∧
    (let k := core7 coreDesc (coreAt [] 8)
     issuesB (coreState coreDesc (coreAt [] 8)) 7 k && !k.inPlait) = true := by
  decide +kernel

/-- `coreState` with filled summary slots. -/
def summState (r : Reed) (l : FMap (Nat × Bool)) : State := { coreState coreDesc r with summ := l }

theorem witness_SummaryPort : ([[], [(7, (1, false))], [(6, (1, false)), (7, (2, true))]].all fun l =>
      let r := coreAt [(10, 7)] 8
      let s := summState r l
      let k := core7 coreDesc r
      s.canon && issuesB s 7 k && k.port && k.control && FMap.sorted s.summ && (FMap.find? 7 s.summ).isNone == l.isEmpty) = true ∧
    ((maskCores 0 (2 ^ 7)).all fun d => (FMap.find? d [(7, (1, false))]).isSome) = true ∧
    ((maskCores 0 0xC0).all fun d => (FMap.find? d [(6, (1, false)), (7, (2, true))]).isSome) = true ∧
    ([(Blocked.summ 3 true, ([] : FMap (Nat × Bool))), (.summrd 5 7 false, [(7, (1, false))]), (.summor 5 0xC0 false, [(6, (1, false)), (7, (2, true))])].all fun p =>
      let r := { coreAt [] 8 with blocked := p.1 }
      let s := summState r p.2
      s.canon && s.runningCore 7 == some (core7 coreDesc r) && (core7 coreDesc r).port && FMap.sorted s.summ && decide (r.vflush < 2 ^ 32)) = true := by
  decide +kernel

/-- One word for each clause, and the fields it is to have: opcode, FUNCT3, FUNCT7. -/
def scalarWords : List (Nat × Nat × Nat × Nat) :=
  [(0x00007033, 0x33, 7, 0), (0x40000033, 0x33, 0, 0x20), (0x40005033, 0x33, 5, 0x20), (0x00004013, 0x13, 4, 0), (0x03F01013, 0x13, 1, 1), (0x43F05013, 0x13, 5, 0x21),
   (0x02000033, 0x33, 0, 1), (0x02001033, 0x33, 1, 1), (0x02002033, 0x33, 2, 1), (0x02003033, 0x33, 3, 1), (0x02004033, 0x33, 4, 1), (0x02005033, 0x33, 5, 1),
   (0x02006033, 0x33, 6, 1), (0x02007033, 0x33, 7, 1), (0x0000003B, 0x3B, 0, 0), (0x4000003B, 0x3B, 0, 0x20), (0x0200003B, 0x3B, 0, 1), (0x0000001B, 0x1B, 0, 0),
   (0xFFFFF037, 0x37, 7, 0x7F), (0xFFFFF017, 0x17, 7, 0x7F),
   (0x0000103B, 0x3B, 1, 0), (0x0000503B, 0x3B, 5, 0), (0x4000503B, 0x3B, 5, 0x20), (0x0000101B, 0x1B, 1, 0), (0x0000501B, 0x1B, 5, 0), (0x4000501B, 0x1B, 5, 0x20),
   (0x0200403B, 0x3B, 4, 1), (0x0200503B, 0x3B, 5, 1), (0x0200603B, 0x3B, 6, 1), (0x0200703B, 0x3B, 7, 1), (0x0000100F, 0x0F, 1, 0), (0x80351073, 0x73, 1, 0x40),
   (0xC0002073, 0x73, 2, 0x60), (0xC0001073, 0x73, 1, 0x60), (0x7FF07073, 0x73, 7, 0x3F), (0x00007053, 0x53, 7, 0), (0x0A007053, 0x53, 7, 5), (0x10000053, 0x53, 0, 8),
   (0x18000053, 0x53, 0, 12), (0x58000053, 0x53, 0, 0x2C), (0x40100053, 0x53, 0, 0x20), (0x42000053, 0x53, 0, 0x21), (0x22002053, 0x53, 2, 0x11), (0x28001053, 0x53, 1, 0x14),
   (0xA2000053, 0x53, 0, 0x51), (0xC0300053, 0x53, 0, 0x60), (0xD2300053, 0x53, 0, 0x69), (0xE0001053, 0x53, 1, 0x70), (0xF2000053, 0x53, 0, 0x79),
   (0x00006053, 0x53, 6, 0), (0x00007043, 0x43, 7, 0), (0x02000047, 0x47, 0, 1), (0x0000004B, 0x4B, 0, 0), (0x0200004F, 0x4F, 0, 1)]

theorem witness_ScalarArithmetic : (((coreState coreDesc (coreAt [(10, 8448)] 8)).canon = true ∧ Clean (coreState coreDesc (coreAt [(10, 8448)] 8)) ∧
      Issues (coreState coreDesc (coreAt [(10, 8448)] 8)) 7 (core7 coreDesc (coreAt [(10, 8448)] 8))) ∧ true = true) ∧
    (scalarWords.all fun p =>
      let i : SW := ⟨p.1⟩
      i.op == p.2.1 && i.f3 == p.2.2.1 && i.f7 == p.2.2.2) = true ∧
    (bits 0x03F01013 26 6 = 0 ∧ bits 0x43F05013 26 6 = 0x10 ∧ (⟨0x40100053⟩ : SW).rs2 = 1 ∧ (⟨0x80351073⟩ : SW).rs1 = 10 ∧ bits 0x80351073 20 12 = 0x803 ∧
      bits 0xC0002073 20 12 = 0xC00 ∧ bits 0x7FF07073 20 12 = 0x7FF ∧ (coreAt [(10, 8448)] 8).gxp 10 = false ∧ (coreAt [(10, 8448)] 8).fcsr / 32 % 8 < 5) :=
  ⟨core_of (by decide +kernel), by decide +kernel, by decide +kernel⟩

theorem witness_ScalarFlow : (let r := coreAt [(10, 8448)] 8
     let s := coreState coreDesc r
     let k := core7 coreDesc r
     s.canon && cleanB s && issuesB s 7 k && (s.coreLines 7).isEmpty && !r.gxp 10 && !r.gxp 0 && !r.gfp 0 && r.dcache.isEmpty && loadableB s k 8448 8 && loadableB s k 8448 1 &&
       writableB s k 8448 8 && !s.mayAccess k.it.desc k.tile 0 12288 && !s.mayAccess k.it.desc k.tile 1 4096) = true ∧
    (let words := [(0x0000006F, 0x6F, 0), (0x0020006F, 0x6F, 0), (0x00050067, 0x67, 0), (0x00000063, 0x63, 0), (0x00001063, 0x63, 1), (0x00004063, 0x63, 4),
       (0x00005063, 0x63, 5), (0x00006063, 0x63, 6), (0x00007063, 0x63, 7), (0x00053283, 0x03, 3), (0x00056283, 0x03, 6), (0x00052287, 0x07, 2), (0x00053287, 0x07, 3), (0x00052027, 0x27, 2), (0x00053027, 0x27, 3), (0x00053023, 0x23, 3), (0x00050023, 0x23, 0)]
     words.all fun p => let i : SW := ⟨p.1⟩; i.op == p.2.1 && i.f3 == p.2.2) = true ∧
    ((⟨0x0020006F⟩ : SW).immJ = 2 ∧ (⟨0x0000006F⟩ : SW).immJ = 0 ∧ (⟨0x00053283⟩ : SW).rs1 = 10 ∧ (⟨0x00053283⟩ : SW).immI = 0 ∧ (8448 + 1) % 8 ≠ 0) := by
  decide +kernel

/-- An ECALL with a7 0 or 1. -/
def calls (a7 : Nat) : Reed := { coreAt (if a7 = 0 then [(10, 5)] else [(10, 5), (17, a7)]) 8 with inst := 1 }

/-- What ReedEnds asks beside its shared hypotheses. -/
def endsReedB (a7 : Nat) : Bool :=
  let r := calls a7
  let s := coreState coreDesc r
  let k := core7 coreDesc r
  s.canon && issuesB s 7 k && hClass k.it.desc == 2 && decide (k.it.queue < 262144) && decide (k.it.die < 4) && k.it.evc.isEmpty && k.it.bound.isEmpty &&
    (k.it.live.all fun d => decide (d < 4608)) && r.gx 17 == a7 && k.it.live.contains 6 && s.items == [(4, k.it)] && !s.flag R.TIL_REED_TRAP_VALID (tix k.tile) &&
    s.gates.isEmpty && s.atBoundary.isEmpty && s.cols.isEmpty && k.it.pendingRemote == 0 && k.it.gate == none && !s.train.clearEval && limitOf k.it.desc == 5 &&
    !s.job.running && exitCode k.it.exits == 0 && r.gx 10 % 65536 == 5

theorem witness_ReedEnds : endsReedB 0 = true ∧ endsReedB 1 = true ∧
    (bits 0x0FF0000F 0 7 = 0x0F ∧ bits 0x0FF0000F 12 3 = 0 ∧ (0x0FF0000F#32).getLsbD 21 = true) ∧ (bits 0x0110000F 0 7 = 0x0F ∧ (0x0110000F#32).getLsbD 21 = false) := by
  decide +kernel

end Sys2Proof.Tests
end

