-- ==== Sys2Proof/Tests/Witness9.lean ====
section
/-! SUPPORT. Witnesses: the statements about energy, throttles, memory, RAS and links. -/

namespace Sys2Proof.Tests
set_option Elab.async false
open Machine Claims

/-- FW1 holds its coefficients at their least and greatest, or has restarted. -/
theorem witness_EnergyWindow : on.canon = true ∧ on.up = true ∧ on.nrg.held = [] ∧ on.fwRuns 1 = true ∧
    (let s := on.setFld R.FWP_STATUS_STATE 1 [1]; s.canon = true ∧ s.up = true ∧ s.nrg.held = [] ∧ s.fwRuns 1 = false) := by
  decide +kernel

/-- Die `d` in a throttle stage, with a throttle temperature of 95 °C. -/
def staged (d stage : Nat) (ramp : Option Nat := none) : State :=
  ({ on with rails := [(d, { fw1 := 700, stage := stage, ramp := ramp, icl := none, droop := false })] } : State).setFld R.NRG_ENVELOPE_THROTTLE_C 95

theorem witness_Throttles :
    ([(0, 0, 1600), (4, 1, 1680), (0, 2, 1599), (4, 1, 0)].all fun p =>
      let s := staged p.1 p.2.1
      let limit : Int := s.fld R.NRG_ENVELOPE_THROTTLE_C
      s.canon && s.up && (s.rail p.1).stage == p.2.1 &&
        match p.2.1 with
        | 0 => decide (16 * limit ≤ tempOf p.2.2)
        | 1 => decide (16 * 105 ≤ tempOf p.2.2) || decide (tempOf p.2.2 < 16 * (limit - 5))
        | _ => decide (tempOf p.2.2 < 16 * 100)) = true ∧
    (on.flag R.NRG_THR_ICL = false ∧ (on.setFlag R.NRG_THR_ICL true).canon = true ∧ (on.setFlag R.NRG_THR_ICL true).up = true ∧
      (on.setFlag R.NRG_THR_ICL true).flag R.NRG_THR_ICL = true) ∧
    (let s := staged 4 0 (some 650); s.canon = true ∧ s.up = true ∧ ((s.rail 4).ramp.isSome = true ∧ s.fwRuns 1 = true)) ∧
    on.sb.trip = false ∧ (on.fld R.STK_STATUS_STATE [3, 3] = 0 ∧ 15 < 16 ∧ (15 : Nat) ∉ on.mem.tripped) := by
  decide +kernel

/-- `on` with a line of zeros at 8,192, and a hart's reservation. -/
def lined (reserved : FMap Nat) : State := { on with mem := { on.mem with cells := zeroLines, reserved := reserved } }

theorem witness_MemoryAccesses :
    (let s := lined [(5, 8192)]
     s.canon && s.up && cleanB s && s.mapped 8192 && !s.farLine 8192 && (s.spot 8192).isSome && storableB s 8192 && s.atomicOk 8192 8 && s.atomicOk 8252 4 &&
       FMap.sorted s.mem.reserved && FMap.find? (5 : Word).toNat s.mem.reserved == some 8192 && FMap.find? (6 : Word).toNat s.mem.reserved != some 8192 && (([(639, 255)] : List (Nat × Nat)).all fun f => decide (f.1 < 640))) = true ∧
    (let s := lined []
     s.mapped 0xD000000000 && !s.farLine 0xD000000000 && (s.spot 0xD000000000).isNone && storableB s 0xD000000000) = true ∧
    (8255 % 64 + 1 ≤ 64 ∧ 8192 % 64 + 64 ≤ 64) := by
  decide +kernel

/-- RAS record entries waiting to be persisted: a channel, with the record empty or full. -/
def persisting (full : Bool) : State :=
  { on with
    mem := { on.mem with persist := [{ kind := 3, rim := true, target := 0 }] }
    flash := { on.flash with ras := if full then (List.range 8).map fun i => { kind := 3, rim := true, target := i + 1 } else [] } }

theorem witness_RasCommands :
    (let s := (lined []).setFld R.ERL_SCRUB_PERIOD_H 1
     s.canon && s.up && s.mapped 8192 && s.fld R.ERL_SCRUB_PERIOD_H != 0 && s.fwRuns 7 && (s.mem.l3.getD (8192 / 64) none).isNone &&
       (match s.spot 8192 with
        | some sp => !s.spotShut sp && ((s.upset 8192 [(71, 255)]).tierView sp 8192).outcome == 1
        | none => false)) = true ∧
    (on.canon && on.up && on.fwRuns 7 && on.chanKey false 0 == some 0 && bits 0 0 10 == 0 && (4095 : Word).toNat % 4096 != on.fld R.ERL_HEAD_INDEX) = true ∧
    (let s := { on with boot := { on.boot with rimMask := 2 ^ 31 } }; s.canon && s.up && s.fwRuns 7 && s.chanKey true 31 == some 543 && bits 31 0 10 == 31) = true ∧
    (let s := persisting false
     s.canon && s.up && s.fwRuns 0 && s.fwRuns 7 && decide ((s.flash.rasOf 3 true).length < rasLimit { kind := 3, rim := true, target := 0 })) = true ∧
    (let s := persisting true
     s.canon && s.up && s.fwRuns 0 && s.fwRuns 7 && !s.flash.ras.contains { kind := 3, rim := true, target := 0 } &&
       decide (rasLimit { kind := 3, rim := true, target := 0 } ≤ (s.flash.rasOf 3 true).length)) = true := by
  decide +kernel

theorem witness_FlitRoundTrip : (let f : Flit := { Flit.mk' 15 15 4095 [] with seq := 4095, ack := 4095, crVc := 15, crCount := 31, stream := 65535, offset := 65535, pmask := 31, ttl := 7 }
    f.ftype < 16 ∧ f.vc < 16 ∧ f.seq < 4096 ∧ f.ack < 4096 ∧ f.crVc < 16 ∧ f.crCount < 32 ∧ f.dst < 4096 ∧ f.stream < 65536 ∧ f.offset < 65536 ∧
      f.pmask < 32 ∧ f.ttl < 8 ∧ f.payload.length = 240) := by decide +kernel

/-- A device with port 0, in a state, and a route over port 1 to node 1; the port's record. -/
def linked (st : Nat) (p : Port) : State :=
  let s := { on with ports := [(0, p)] }
  (((s.setFld R.GLB_CAPS_NLK_PORTS 3).setFld R.NLK_STATUS_STATE st [0]).setFld R.NLK_ROUTE_VALID 1 [1]).setFld R.NLK_ROUTE_PORT 1 [1]

/-- A port that runs, as the link statements ask. -/
def runsB (st : Nat) (p : Port) : Bool := (linked st p).canon && (linked st p).portRuns 0 && (linked st p).port 0 == p && FMap.sorted p.credits

/-- A TXN flit on a VC. -/
def onVc (vc : Nat) : Flit := { Flit.mk' 7 vc 1 [] with ttl := 7 }

theorem witness_LinkSend :
    (runsB 2 { Port.fresh with nakDue := true } && runsB 5 { Port.fresh with resend := [onVc 2] } && runsB 5 { Port.fresh with resend := [onVc 3] } &&
      !capRoom { Port.fresh with slots := List.replicate 20 true } && runsB 5 { Port.fresh with resend := [onVc 2], slots := List.replicate 20 true } && runsB 2 Port.fresh &&
      runsB 2 { Port.fresh with txq := [onVc 2], credits := [(2, 1)] } && runsB 2 { Port.fresh with txq := [onVc 3], credits := [(16, 1)] }) = true ∧
    (let p := { Port.fresh with txq := [onVc 2], credits := [(2, 1)] }
     !p.hbFirst && decide ((onVc 2).src < 8) && creditPool p 2 == some 2 && (linked 2 p).fencedOk 0 (onVc 2) && capRoom p && decide (p.replay.length < 2048)) = true ∧
    (let p := { Port.fresh with txq := [onVc 3], credits := [(16, 1)] }
     let s := (linked 2 p).setFld R.NLK_CFG_VC3_WEIGHT 1 [0]
     !p.hbFirst && decide ((onVc 3).src < 8) && s.canon && s.portRuns 0 && creditPool p 3 == some 16 && s.fencedOk 0 (onVc 3) && p.rr == 15 && p.deficit.isEmpty && s.fld R.NLK_CFG_VC3_WEIGHT [0] != 0) = true := by
  decide +kernel

/-- A flit of the expected SEQ, for here, for node 1 with its last hop or one more, or out of sequence; a port with a flit in its replay buffer. -/
def arrives (dst seq ttl : Nat) : Flit := { Flit.mk' 7 2 dst [] with seq := seq, ack := 1, crVc := 2, crCount := 31, ttl := ttl, src := 7 }
def holds : Port := { Port.fresh with replay := [onVc 2], rxq := [Flit.mk' 1 0 0 [0, 0]] }

theorem witness_LinkReceive :
    ([(0, 0, 1), (1, 0, 1), (1, 0, 2), (0, 4095, 1)].all fun p =>
      let f := arrives p.1 p.2.1 p.2.2
      runsB 2 Port.fresh && parseFlit (flitBytes f) == some f && decide (3 ≤ f.ftype) && vcOk f.ftype f.vc && (linked 2 Port.fresh).poolFree 0 f.pool != 0) = true ∧
    (let s := linked 2 Port.fresh
     s.node == 0 && s.route 1 == some 1 && s.fld R.NLK_STATUS_STATE [1] != 4 && s.hasPort 1) = true ∧
    (parseFlit [] == none && runsB 2 holds && runsB 5 { holds with replayed := [(0, 1)] } && !holds.nakSent) = true ∧ (holds.replay.map (·.seq)).Nodup := by
  decide +kernel

/-- A port in each state that LinkTraining names, with a flit to be replayed. -/
theorem witness_LinkTraining :
    ([0, 1, 2, 3, 4, 5, 6].all fun st =>
      let s := linked st holds
      s.canon && s.up && s.hasPort 0 && s.port 0 == holds && s.fld R.NLK_STATUS_STATE [0] == st && s.cols.isEmpty && FMap.sorted holds.credits) = true ∧
    (let s := (linked 4 holds).setFlag R.NLK_CTL_ENABLE true [0]; s.canon && s.up && s.flag R.NLK_CTL_ENABLE [0]) = true ∧
    (let s := ((linked 1 holds).setFld R.NLK_CFG_EXPECT_NODE 0xFFF [0]).setFld R.NLK_CFG_EXPECT_PORT 0xF [0]
     let info : TrainInfo := { lanesOk := true, badLow := false, badHigh := false, laneRev := false, polInv := 0, peerNode := 5, peerPort := 11, peerWidth := 1, peerDegrade := false, peerFree := [4] }
     s.canon && s.up && s.fwRuns 6 && trainWidth (s.fld R.NLK_CFG_WIDTH [0]) (s.flag R.NLK_CFG_DEGRADE [0]) info == 1 && s.fld R.NLK_CFG_EXPECT_NODE [0] == 0xFFF &&
       s.fld R.NLK_CFG_EXPECT_PORT [0] == 0xF && trainWidth 0 false { info with badLow := true } == 0 && (FMap.find? 0 s.boot.adapted).isNone &&
       FMap.find? 0 ({ s with boot := { s.boot with adapted := [(0, 8)] } } : State).boot.adapted == some 8 && FMap.sorted ([(0, 8)] : FMap Nat) && 8 / 8 % 4 != 0) = true := by
  decide +kernel

/-- A port with a received service flit. -/
def serviced (st role : Nat) (f : Flit) (stamps : List Nat) : State :=
  (linked st { Port.fresh with rxq := [f], stamps := stamps, lastHb := some 0 }).setFld R.NLK_CFG_TIME_ROLE role [0]

/-- TIME flits of each kind. -/
def timeFlit (kind : Nat) : Flit := Flit.mk' 5 1 0 [BitVec.ofNat 8 kind]

theorem witness_LinkServices :
    ([(2, 1, Flit.mk' 4 1 0 (zeros 11 ++ [0xFC])), (5, 1, timeFlit 1), (2, 2, timeFlit 0), (2, 2, timeFlit 2), (2, 0, Flit.mk' 3 0 0 [1, 0])].all fun p =>
      let s := serviced p.1 p.2.1 p.2.2 [1, 2, 3]
      s.canon && s.up && s.hasPort 0 && (s.port 0).rxq == [p.2.2] && s.fld R.NLK_STATUS_STATE [0] == p.1 && s.fld R.NLK_CFG_TIME_ROLE [0] == p.2.1 &&
        (s.port 0).stamps == [1, 2, 3] && (s.port 0).lastHb.isSome && !(s.port 0).lost && s.cols.isEmpty &&
        (p.2.2.ftype != 4 || fieldAt p.2.2.payload 11 1 % 4 == 0) && (p.2.2.ftype != 5 || decide (fieldAt p.2.2.payload 0 1 % 4 = (match p.2.1 with | 1 => 1 | _ => fieldAt p.2.2.payload 0 1))) ) = true ∧
    (let s := (linked 2 Port.fresh).setFld R.GLB_WEAVE_ROLE 1; s.canon && s.up && !s.isManager) = true ∧
    (let s := ((linked 2 Port.fresh).setFld R.NLK_MEMBER_VALID 1 [63]).setFld R.NLK_MEMBER_NODE 1 [63]
     s.canon && s.up && s.isManager && !s.flag R.NLK_MEMBER_VALID [s.fld R.GLB_WEAVE_MEMBER] && s.freeTag == some s.nextTag && s.fwRuns 0 && s.otherMembers == [63] && s.roster.state == s.roster.told && s.route (s.fld R.NLK_MEMBER_NODE [63]) == some 1 &&
       s.fld R.NLK_STATUS_STATE [1] != 4 && s.hasPort 1) = true := by
  decide +kernel

end Sys2Proof.Tests
end

section
/-! SUPPORT. The error log with its mirror and its interrupt, whatever ERL_CTL and HRT_FWD hold: which register words an entry can change, and where the entry can be read (R310 to R314, R341, R508, R509). -/

namespace Sys2Proof.Machine
open Sys2Proof

/-- The register words that satisfy `W` may differ; every other one, the items, the cores, the staging and the writes that wait for a boundary are as they were. -/
structure State.KeptBut (W : Nat → Prop) (s t : State) : Prop where
  sorted : FMap.sorted t.regs = true
  regs : ∀ o, ¬ W o → FMap.find? o t.regs = FMap.find? o s.regs
  items : t.items = s.items
  reeds : t.reeds = s.reeds
  staged : t.staged = s.staged
  atBoundary : t.atBoundary = s.atBoundary

namespace State.KeptBut
variable {W V : Nat → Prop} {s t u : State}

theorem refl (hs : FMap.sorted s.regs = true) : s.KeptBut W s := ⟨hs, fun _ _ => rfl, rfl, rfl, rfl, rfl⟩

theorem trans (h : s.KeptBut W t) (g : t.KeptBut W u) : s.KeptBut W u :=
  ⟨g.sorted, fun o ho => (g.regs o ho).trans (h.regs o ho), g.items.trans h.items, g.reeds.trans h.reeds, g.staged.trans h.staged,
    g.atBoundary.trans h.atBoundary⟩

theorem mono (h : s.KeptBut W t) (hW : ∀ o, W o → V o) : s.KeptBut V t :=
  { h with regs := fun o ho => h.regs o fun hw => ho (hW o hw) }

/-- What the relation does not speak of may change further. -/
theorem congr (h : s.KeptBut W t) (hr : u.regs = t.regs) (hi : u.items = t.items) (hd : u.reeds = t.reeds) (hg : u.staged = t.staged)
    (hb : u.atBoundary = t.atBoundary) : s.KeptBut W u :=
  h.trans ⟨hr ▸ h.sorted, fun _ _ => by rw [hr], hi, hd, hg, hb⟩

theorem setFld (h : s.KeptBut W t) (f : Fld) (v : Nat) (ix : List Nat) (hf : W (f.at ix)) : s.KeptBut W (t.setFld f v ix) :=
  h.trans ⟨State.setFld_sorted h.sorted f v ix, fun _ ho => State.setFld_find? h.sorted f v ix fun e => ho (e ▸ hf), rfl, rfl, rfl, rfl⟩

theorem bump (h : s.KeptBut W t) (f : Fld) (ix : List Nat) (d : Nat) (hf : W (f.at ix)) : s.KeptBut W (t.bump f ix d) := h.setFld f _ ix hf

theorem bumpSat (h : s.KeptBut W t) (f : Fld) (ix : List Nat) (d : Nat) (hf : W (f.at ix)) : s.KeptBut W (t.bumpSat f ix d) := h.setFld f _ ix hf

theorem free (h : s.KeptBut W t) : s.KeptBut W t.free.2 := h.congr rfl rfl rfl rfl rfl

theorem ite {p : Prop} [Decidable p] (h : p → s.KeptBut W t) (g : ¬ p → s.KeptBut W u) : s.KeptBut W (if p then t else u) := by
  split
  · exact h ‹_›
  · exact g ‹_›

/-- A field of a word that stays reads as before. -/
theorem fld (h : s.KeptBut W t) (f : Fld) (ix : List Nat) (hf : ¬ W (f.at ix)) : t.fld f ix = s.fld f ix := by
  unfold State.fld FMap.getD
  rw [h.regs _ hf]

end State.KeptBut

/-- The eight words of an entry of the error log. -/
def EntryWord (i o : Nat) : Prop := ∃ k < 8, o = R.ERL_ENTRY_WORD.at [i, k]

/-- The words that hold the log's head, tail and counts. -/
def LogControl (o : Nat) : Prop := o = R.ERL_STATUS.base ∨ o = R.ERL_HEAD.base ∨ o = R.ERL_TAIL.base

/-- The words that forwarding an interrupt writes. -/
def ForwardWord (o : Nat) : Prop := o = R.HRT_PENDING.base ∨ o = R.NLK_ROUTE_DROP.base

/-- The traffic counts of the stacks. -/
def TrafficWord (o : Nat) : Prop := ∃ k < 16, o = R.STK_TRAFFIC_LINES.at [k / 4, k % 4]

/-- The words that an entry at index `i`, its mirror and its interrupt may write. -/
def LogWord (i o : Nat) : Prop := EntryWord i o ∨ LogControl o ∨ ForwardWord o ∨ TrafficWord o

theorem entryWord_at (i : Nat) {k : Nat} (hk : k < 8) : EntryWord i (R.ERL_ENTRY_WORD.at [i, k]) := ⟨k, hk, rfl⟩

theorem entryWord_ne_head (i : Nat) : ¬ EntryWord i R.ERL_HEAD.base := by
  rintro ⟨k, -, h⟩
  simp only [Fld.at, R.ERL_ENTRY_WORD, R.ERL_HEAD, dotOff] at h
  omega

/-- The package that a stack channel lies in has its counts there. -/
theorem trafficWord_of_key {key : Nat} (h : key < 512) : TrafficWord (R.STK_TRAFFIC_LINES.at [key / 128, key / 32 % 4]) :=
  ⟨key / 32, by omega, by rw [Nat.div_div_eq_div_mul]⟩

theorem trafficWord_ne_head : ¬ TrafficWord R.ERL_HEAD.base := by
  rintro ⟨k, -, h⟩
  simp only [Fld.at, R.STK_TRAFFIC_LINES, R.ERL_HEAD, dotOff] at h
  omega

theorem forwardWord_ne_head : ¬ ForwardWord R.ERL_HEAD.base := by
  unfold ForwardWord
  decide

theorem logControl_ne_entry (i k : Nat) : ¬ LogControl (R.ERL_ENTRY_WORD.at [i, k]) := by
  simp only [LogControl, Fld.at, R.ERL_ENTRY_WORD, R.ERL_STATUS, R.ERL_HEAD, R.ERL_TAIL, dotOff]
  omega

theorem trafficWord_ne_entry {i k : Nat} (hi : i < 4096) (hk : k < 8) : ¬ TrafficWord (R.ERL_ENTRY_WORD.at [i, k]) := by
  rintro ⟨j, -, h⟩
  simp only [Fld.at, R.STK_TRAFFIC_LINES, R.ERL_ENTRY_WORD, dotOff] at h
  omega

theorem forwardWord_ne_entry {i k : Nat} (hi : i < 4096) (hk : k < 8) : ¬ ForwardWord (R.ERL_ENTRY_WORD.at [i, k]) := by
  simp only [ForwardWord, Fld.at, R.ERL_ENTRY_WORD, R.HRT_PENDING, R.NLK_ROUTE_DROP, dotOff]
  omega

/-- What the writing of an entry may change is no word of another entry. -/
theorem logWord_ne_entry {i j k : Nat} (hi : i < 4096) (hk : k < 8) (hij : i ≠ j) : ¬ LogWord j (R.ERL_ENTRY_WORD.at [i, k]) := by
  rintro (⟨m, hm, h⟩ | h | h | h)
  · simp only [Fld.at, R.ERL_ENTRY_WORD, dotOff] at h
    omega
  · exact logControl_ne_entry i k h
  · exact forwardWord_ne_entry hi hk h
  · exact trafficWord_ne_entry hi hk h

/-- Every word that an entry may change is among those that the statements except. -/
theorem logTouches_of_logWord {i o : Nat} (hi : i < 4096) (h : LogWord i o) : Claims.LogTouches o = true := by
  unfold Claims.LogTouches
  rcases h with ⟨k, hk, rfl⟩ | h | h | ⟨k, hk, rfl⟩
  · have : R.ERL_ENTRY_WORD.at [i, k] / 0x1000000 = 6 := by
      simp only [Fld.at, R.ERL_ENTRY_WORD, dotOff]
      omega
    simp [this]
  · rcases h with rfl | rfl | rfl <;> rfl
  · rcases h with rfl | rfl <;> simp
  · simp only [Bool.or_eq_true, List.any_eq_true, List.mem_range, beq_iff_eq]
    exact .inr ⟨k, hk, rfl⟩

/-- The listed words of an entry put in place. -/
def State.putEntry (s : State) (i : Nat) (bytes : List Byte) (words : List Nat) : State :=
  words.foldl (fun s k => (s.markReg (R.ERL_ENTRY_WORD.at [i, k]) false).setFld R.ERL_ENTRY_WORD (fieldAt bytes (8 * k) 8) [i, k]) s

/-- Head, tail and counts after an entry at index `i`. -/
def State.advanceLog (s : State) (i : Nat) (full : Bool) (code : Nat) : State :=
  let s := s.setFld R.ERL_HEAD_INDEX ((i + 1) % 4096)
  let s := s.bump R.ERL_HEAD_SEQ
  let s := s.setFld R.ERL_STATUS_LAST_CODE code
  if full then (s.setFld R.ERL_TAIL_INDEX ((s.fld R.ERL_TAIL_INDEX + 1) % 4096)).bumpSat R.ERL_STATUS_LOST
  else s.bump R.ERL_STATUS_COUNT

/-- The bytes of the entry that is written next. -/
def State.entryBytes (s : State) (code unit sev epoch addr detail : Nat) (m : Bool) : List Byte :=
  logBytes s.nowNs code unit sev (b2n (s.fld R.ERL_STATUS_COUNT == 4096) + 2 * b2n m) 1 (s.fld R.ERL_HEAD_SEQ) epoch (addr % 2 ^ 48) detail

theorem State.logEntry_eq (s : State) (code unit sev epoch addr detail : Nat) (m : Bool) :
    s.logEntry code unit sev epoch addr detail m =
      (s.putEntry (s.fld R.ERL_HEAD_INDEX) (s.entryBytes code unit sev epoch addr detail m) (List.range 8)).advanceLog
        (s.fld R.ERL_HEAD_INDEX) (s.fld R.ERL_STATUS_COUNT == 4096) code := rfl

theorem State.head_lt (s : State) : s.fld R.ERL_HEAD_INDEX < 4096 := State.fld_lt s R.ERL_HEAD_INDEX []

theorem State.putEntry_keptBut {s : State} (hs : FMap.sorted s.regs = true) (i : Nat) (bytes : List Byte) {l : List Nat} (hl : ∀ k ∈ l, k < 8) :
    s.KeptBut (EntryWord i) (s.putEntry i bytes l) := by
  induction l generalizing s with
  | nil => exact .refl hs
  | cons k l ih =>
    have hk : k < 8 := hl k List.mem_cons_self
    have h1 := ((State.KeptBut.refl hs).congr (u := s.markReg (R.ERL_ENTRY_WORD.at [i, k]) false) rfl rfl rfl rfl rfl).setFld
      R.ERL_ENTRY_WORD (fieldAt bytes (8 * k) 8) [i, k] (entryWord_at i hk)
    exact h1.trans (ih h1.sorted fun j hj => hl j (List.mem_cons_of_mem _ hj))

/-- A word put in place is read back; the entry's other words stay. -/
theorem State.putEntry_word {s : State} (hs : FMap.sorted s.regs = true) (i : Nat) (bytes : List Byte) (l : List Nat) (k : Nat) :
    (s.putEntry i bytes l).fld R.ERL_ENTRY_WORD [i, k] = if k ∈ l then fieldAt bytes (8 * k) 8 % 2 ^ 64 else s.fld R.ERL_ENTRY_WORD [i, k] := by
  induction l generalizing s with
  | nil => simp [State.putEntry]
  | cons j l ih =>
    have hm : FMap.sorted (s.markReg (R.ERL_ENTRY_WORD.at [i, j]) false).regs = true := hs
    refine (ih (State.setFld_sorted hm R.ERL_ENTRY_WORD (fieldAt bytes (8 * j) 8) [i, j])).trans ?_
    by_cases hkl : k ∈ l
    · simp [hkl]
    · rw [if_neg hkl]
      by_cases hkj : k = j
      · subst hkj
        rw [State.fld_setFld_self hm R.ERL_ENTRY_WORD (by decide)]
        simp [R.ERL_ENTRY_WORD]
      · have hne : R.ERL_ENTRY_WORD.at [i, k] ≠ R.ERL_ENTRY_WORD.at [i, j] := by
          simp only [Fld.at, R.ERL_ENTRY_WORD, dotOff]
          omega
        rw [State.fld_setFld_ne hm hne]
        simp [hkl, hkj, State.fld]

theorem State.advanceLog_keptBut {s : State} (hs : FMap.sorted s.regs = true) (i : Nat) (full : Bool) (code : Nat) :
    s.KeptBut LogControl (s.advanceLog i full code) := by
  unfold State.advanceLog
  extract_lets s1 s2 s3
  have h3 : s.KeptBut LogControl s3 :=
    (((State.KeptBut.refl hs).setFld R.ERL_HEAD_INDEX _ [] (.inr (.inl rfl))).bump R.ERL_HEAD_SEQ [] _ (.inr (.inl rfl))).setFld
      R.ERL_STATUS_LAST_CODE _ [] (.inl rfl)
  clear_value s3
  split
  · exact (h3.setFld R.ERL_TAIL_INDEX _ [] (.inr (.inr rfl))).bumpSat R.ERL_STATUS_LOST [] _ (.inl rfl)
  · exact h3.bump R.ERL_STATUS_COUNT [] _ (.inl rfl)

theorem State.advanceLog_head {s : State} (hs : FMap.sorted s.regs = true) (i : Nat) (full : Bool) (code : Nat) :
    (s.advanceLog i full code).fld R.ERL_HEAD_INDEX = (i + 1) % 4096 := by
  unfold State.advanceLog
  extract_lets s1 s2 s3
  have k1 : FMap.sorted s1.regs = true := State.setFld_sorted hs _ _ _
  have k2 : FMap.sorted s2.regs = true := State.setFld_sorted k1 _ _ _
  have k3 : FMap.sorted s3.regs = true := State.setFld_sorted k2 _ _ _
  have h1 : s1.fld R.ERL_HEAD_INDEX = (i + 1) % 4096 :=
    (State.fld_setFld_self hs R.ERL_HEAD_INDEX (by decide) _ []).trans (Nat.mod_mod _ _)
  have h2 : s2.fld R.ERL_HEAD_INDEX = s1.fld R.ERL_HEAD_INDEX :=
    State.fld_setFld_beside k1 (f := R.ERL_HEAD_SEQ) (g := R.ERL_HEAD_INDEX) (by decide) rfl rfl (.inl (by decide)) _
  have h3 : s3.fld R.ERL_HEAD_INDEX = s2.fld R.ERL_HEAD_INDEX := State.fld_setFld_ne k2 (by decide) _
  rw [← h1, ← h2, ← h3]
  clear_value s3
  split
  · exact (State.fld_setFld_ne (State.setFld_sorted k3 _ _ _) (by decide) _).trans (State.fld_setFld_ne k3 (by decide) _)
  · exact State.fld_setFld_ne k3 (by decide) _

section
variable {s : State} (hs : FMap.sorted s.regs = true) (code unit sev epoch addr detail : Nat)
include hs

theorem State.putEntry_range_keptBut (bytes : List Byte) :
    s.KeptBut (EntryWord (s.fld R.ERL_HEAD_INDEX)) (s.putEntry (s.fld R.ERL_HEAD_INDEX) bytes (List.range 8)) :=
  State.putEntry_keptBut hs _ _ fun _ => List.mem_range.1

/-- An entry with no mirror writes its own words and the log's control words. -/
theorem State.logEntry_keptBut (m : Bool) :
    s.KeptBut (fun o => EntryWord (s.fld R.ERL_HEAD_INDEX) o ∨ LogControl o) (s.logEntry code unit sev epoch addr detail m) := by
  rw [State.logEntry_eq]
  have h := State.putEntry_range_keptBut hs (s.entryBytes code unit sev epoch addr detail m)
  exact (h.mono fun _ => .inl).trans ((State.advanceLog_keptBut h.sorted _ _ _).mono fun _ => .inr)

theorem State.logEntry_head (m : Bool) :
    (s.logEntry code unit sev epoch addr detail m).fld R.ERL_HEAD_INDEX = (s.fld R.ERL_HEAD_INDEX + 1) % 4096 := by
  rw [State.logEntry_eq]
  exact State.advanceLog_head (State.putEntry_range_keptBut hs _).sorted _ _ _

/-- A word of the entry holds its bytes (Table 11-8). -/
theorem State.logEntry_word (m : Bool) {k : Nat} (hk : k < 8) :
    (s.logEntry code unit sev epoch addr detail m).fld R.ERL_ENTRY_WORD [s.fld R.ERL_HEAD_INDEX, k] =
      fieldAt (s.entryBytes code unit sev epoch addr detail m) (8 * k) 8 % 2 ^ 64 := by
  rw [State.logEntry_eq, (State.advanceLog_keptBut (State.putEntry_range_keptBut hs _).sorted _ _ _).fld _ _ (logControl_ne_entry _ k),
    State.putEntry_word hs, if_pos (List.mem_range.2 hk)]

/-- An access of a stack's DRAM counts at its package. -/
theorem State.tierAccess_keptBut (sp : Spot) : s.KeptBut TrafficWord (s.tierAccess sp) := by
  unfold State.tierAccess
  refine .ite (fun hkey => ?_) fun _ => .refl hs
  have hix := trafficWord_of_key hkey
  have h1 := (State.KeptBut.refl (W := TrafficWord) hs).bump R.STK_TRAFFIC_LINES _ 1 hix
  exact .ite (fun _ => .ite (fun _ => h1.free.bumpSat R.STK_TRAFFIC_CAP_HOLDS _ 1 hix) fun _ => h1.free) fun _ => h1

/-- A spent injection is no register word. -/
theorem State.injected_keptBut (W : Nat → Prop) (line : Nat) : s.KeptBut W (s.injected line).2 := by
  unfold State.injected
  split
  · split
    · exact (State.KeptBut.refl hs).congr rfl rfl rfl rfl rfl
    · exact .refl hs
  · exact .refl hs

/-- A line written at its home changes no register word but a traffic count. -/
theorem State.storeHome_keptBut (a : Nat) (data : List Byte) (p : Nat) : s.KeptBut TrafficWord (s.storeHome a data p) := by
  unfold State.storeHome
  extract_lets b m1 m2
  clear_value m2
  split
  · exact (State.KeptBut.refl hs).congr rfl rfl rfl rfl rfl
  · next sp _ =>
    split
    · exact .refl hs
    · extract_lets s1 inj s2 errs m3 m4
      clear_value m4 errs
      have h1 : s.KeptBut TrafficWord s1 := State.tierAccess_keptBut hs sp
      have h2 : s.KeptBut TrafficWord s2 := h1.trans (State.injected_keptBut h1.sorted _ _)
      exact h2.congr rfl rfl rfl rfl rfl

/-- After the entry comes at most its mirror, which counts as traffic. -/
theorem State.logMirrored_after_entry (W : Nat → Prop) (hW : ∀ o, TrafficWord o → W o) :
    ∃ m, (s.logEntry code unit sev epoch addr detail m).KeptBut W (s.logMirrored code unit sev epoch addr detail) := by
  unfold State.logMirrored
  extract_lets base i ma mir s1
  refine ⟨mir, ?_⟩
  have h1 : FMap.sorted s1.regs = true := (State.logEntry_keptBut hs ..).sorted
  split
  · exact (State.storeHome_keptBut h1 _ _ _).mono hW
  · exact .refl h1

theorem State.logMirrored_keptBut : s.KeptBut (LogWord (s.fld R.ERL_HEAD_INDEX)) (s.logMirrored code unit sev epoch addr detail) := by
  obtain ⟨m, h⟩ := State.logMirrored_after_entry hs code unit sev epoch addr detail (LogWord (s.fld R.ERL_HEAD_INDEX)) fun _ ho => .inr (.inr (.inr ho))
  exact ((State.logEntry_keptBut hs code unit sev epoch addr detail m).mono fun _ ho => ho.imp_right .inl).trans h

theorem State.logMirrored_head :
    (s.logMirrored code unit sev epoch addr detail).fld R.ERL_HEAD_INDEX = (s.fld R.ERL_HEAD_INDEX + 1) % 4096 := by
  obtain ⟨m, h⟩ := State.logMirrored_after_entry hs code unit sev epoch addr detail TrafficWord fun _ => id
  exact (h.fld R.ERL_HEAD_INDEX [] trafficWord_ne_head).trans (State.logEntry_head hs ..)

theorem State.logMirrored_word {k : Nat} (hk : k < 8) :
    ∃ m, (s.logMirrored code unit sev epoch addr detail).fld R.ERL_ENTRY_WORD [s.fld R.ERL_HEAD_INDEX, k] =
      fieldAt (s.entryBytes code unit sev epoch addr detail m) (8 * k) 8 % 2 ^ 64 := by
  obtain ⟨m, h⟩ := State.logMirrored_after_entry hs code unit sev epoch addr detail TrafficWord fun _ => id
  exact ⟨m, (h.fld _ _ (trafficWord_ne_entry s.head_lt hk)).trans (State.logEntry_word hs _ _ _ _ _ _ _ hk)⟩

/-- A flit put on its way changes no register word but the count of those dropped (R341). -/
theorem State.sendRaw_keptBut (f : Flit) : s.KeptBut ForwardWord (s.sendRaw f).1 := by
  have drop : s.KeptBut ForwardWord (s.bumpSat R.NLK_ROUTE_DROP_NO_ROUTE) := (State.KeptBut.refl hs).bumpSat _ _ _ (.inr rfl)
  unfold State.sendRaw
  split
  · exact drop
  · split
    · exact drop
    · exact (State.KeptBut.refl hs).congr rfl rfl rfl rfl rfl

theorem State.deliver_keptBut (W : Nat → Prop) (v : Nat) : s.KeptBut W (s.deliver v) := by
  unfold State.deliver
  simp only
  split
  · exact .refl hs
  · exact (State.KeptBut.refl hs).congr rfl rfl rfl rfl rfl

/-- An interrupt delivered or forwarded (R508, R509). -/
theorem State.interruptRaw_keptBut (src v : Nat) : s.KeptBut ForwardWord (s.interruptRaw src v).1 := by
  unfold State.interruptRaw
  split
  · split
    · exact .refl hs
    · extract_lets a vec dst f req
      have ha : s.KeptBut ForwardWord a := (State.KeptBut.refl hs).setFld R.HRT_PENDING_SOURCES _ [] (.inl rfl)
      clear_value a
      split
      · exact ha.congr rfl rfl rfl rfl rfl
      · next tag _ =>
        have ht : s.KeptBut ForwardWord (a.takeTag tag) := ha.congr rfl rfl rfl rfl rfl
        have hz := ht.trans (State.sendRaw_keptBut ht.sorted { f tag with age := req.age })
        generalize (a.takeTag tag).sendRaw { f tag with age := req.age } = z at hz
        obtain ⟨z1, dropped⟩ := z
        cases dropped
        · exact hz.congr rfl rfl rfl rfl rfl
        · exact hz
  · exact State.deliver_keptBut hs _ v

/-- An interrupt with the entry of a dropped forwarding write (R341). -/
theorem State.interruptOnce_keptBut (src v : Nat) : s.KeptBut (LogWord (s.fld R.ERL_HEAD_INDEX)) (s.interruptOnce src v).1 := by
  unfold State.interruptOnce
  have hz := State.interruptRaw_keptBut hs src v
  generalize s.interruptRaw src v = z at hz
  obtain ⟨z1, dropped⟩ := z
  have hz' : s.KeptBut (LogWord (s.fld R.ERL_HEAD_INDEX)) z1 := hz.mono fun _ ho => .inr (.inr (.inl ho))
  cases dropped
  · exact hz'
  · have hm := State.logMirrored_keptBut hz.sorted Code.ROUTE_DROP linkUnit 2 (z1.fld R.EPO_CUR_EPOCH) 0 0
    rw [hz.fld R.ERL_HEAD_INDEX [] forwardWord_ne_head] at hm
    exact hz'.trans hm

theorem State.logInterrupt_keptBut (sev : Nat) : s.KeptBut (LogWord (s.fld R.ERL_HEAD_INDEX)) (s.logInterrupt sev) := by
  unfold State.logInterrupt
  split
  · exact State.interruptOnce_keptBut hs _ _
  · exact .refl hs

/-- An entry's interrupt writes at the next index. -/
theorem State.logFull_after_mirror :
    (s.logMirrored code unit sev epoch addr detail).KeptBut (LogWord ((s.fld R.ERL_HEAD_INDEX + 1) % 4096)) (s.logFull code unit sev epoch addr detail) := by
  rw [← State.logMirrored_head hs code unit sev epoch addr detail]
  exact State.logInterrupt_keptBut (State.logMirrored_keptBut hs ..).sorted sev

/-- An entry with its mirror and its interrupt changes no register word outside those that `LogTouches` names. -/
theorem State.logFull_keptBut : s.KeptBut (Claims.LogTouches · = true) (s.logFull code unit sev epoch addr detail) :=
  ((State.logMirrored_keptBut hs ..).mono fun _ => logTouches_of_logWord s.head_lt).trans
    ((State.logFull_after_mirror hs ..).mono fun _ => logTouches_of_logWord (Nat.mod_lt _ (by decide)))

end

/-- The second word of an entry begins with its code and its unit ID (Table 11-8). -/
theorem fieldAt_logBytes_word1 (time code unit sev flags count seq epoch addr detail : Nat) :
    bits (fieldAt (logBytes time code unit sev flags count seq epoch addr detail) 8 8 % 2 ^ 64) 0 32 = code % 2 ^ 16 + unit % 2 ^ 16 * 2 ^ 16 := by
  unfold logBytes
  generalize toBytes 32 detail = d
  simp only [bits, fieldAt, toBytes, ofBytes, List.cons_append, List.nil_append, List.drop_succ_cons, List.drop_zero, List.take_succ_cons, List.take_zero,
    BitVec.toNat_ofNat]
  omega

/-- The entry stands at the index that was the head, with its code and its unit ID. -/
theorem State.logFull_loggedAt {s : State} (hs : FMap.sorted s.regs = true) {code : Nat} (hc : code < 2 ^ 16) (unit sev epoch addr detail : Nat) :
    Claims.LoggedAt s (s.logFull code unit sev epoch addr detail) code (unit % 65536) := by
  obtain ⟨m, hw⟩ := State.logMirrored_word hs code unit sev epoch addr detail (k := 1) (by decide)
  have hi := s.head_lt
  have hkept := (State.logFull_after_mirror hs code unit sev epoch addr detail).fld R.ERL_ENTRY_WORD [s.fld R.ERL_HEAD_INDEX, 1]
    (logWord_ne_entry hi (by decide) (by omega))
  unfold Claims.LoggedAt
  rw [hkept, hw, State.entryBytes, fieldAt_logBytes_word1, Nat.mod_eq_of_lt hc, show 2 ^ 16 = 65536 from rfl]

/-- A code that is no corrected error is logged at once, with its severity (R312). -/
theorem State.log_eq_logFull (s : State) {code : Nat} (hm : code ≠ Code.MEM_CE) (hw : code ≠ Code.WORD_CE) (unit addr detail : Nat) :
    s.log code unit addr detail = s.logFull code unit (severityOf code) (s.fld R.EPO_CUR_EPOCH) addr detail :=
  if_neg (not_or.2 ⟨hm, hw⟩)

theorem State.badAccess_eq_logFull (s : State) (off : Nat) : s.badAccess off =
    s.logFull Code.REG_ACCESS (unitOfOff off) (severityOf Code.REG_ACCESS) (s.fld R.EPO_CUR_EPOCH) (0x0F000000000 + off) 0 :=
  State.log_eq_logFull s (by decide) (by decide) _ _ _

/-- In a running block the access is logged, and a read is answered with all ones (R12). -/
theorem exec_regAccessBad_of_regUp {s : State} {off : Nat} (hup : s.regUp off = true) (write : Bool) :
    exec (.regAccessBad off write) s =
      .next (if write then s.badAccess off else (s.badAccess off).emit (.regData off (BitVec.allOnes 64))) := by
  show Host.Outcome.next (s.badRegister off write) = _
  rw [State.badRegister, if_pos hup]

end Sys2Proof.Machine

namespace Sys2Proof.Claims
open Machine

/-- Settles O7: the entry stands where the head was, and its mirror, its interrupt and the answer touch nothing else. -/
theorem badRegisterAccess : Obligations.BadRegisterAccess := by
  unfold Obligations.BadRegisterAccess
  intro s off write hcanon hup
  have hs := State.canon_regs hcanon
  have hlogged : LoggedAt s (s.badAccess off) Code.REG_ACCESS (unitOfOff off % 65536) := by
    rw [State.badAccess_eq_logFull]
    exact State.logFull_loggedAt hs (by decide) _ _ _ _ _
  have hkept : s.KeptBut (LogTouches · = true) (s.badAccess off) := by
    rw [State.badAccess_eq_logFull]
    exact State.logFull_keptBut hs _ _ _ _ _ _
  have hregs : ∀ o, LogTouches o = false → FMap.find? o (s.badAccess off).regs = FMap.find? o s.regs :=
    fun o ho => hkept.regs o (by simp [ho])
  refine ⟨_, exec_regAccessBad_of_regUp hup write, ?_⟩
  cases write with
  | true => exact ⟨hlogged, nofun, hkept.items, hkept.reeds, hkept.staged, hkept.atBoundary, hregs⟩
  | false => exact ⟨hlogged, fun _ => List.getLast?_concat, hkept.items, hkept.reeds, hkept.staged, hkept.atBoundary, hregs⟩

end Sys2Proof.Claims
end

section
/-! SUPPORT. What logging, sending and serving memory leave of the module: its pins, sideband, boot record, flash and time (R15 to R32, R484), with the register words that may differ. -/

namespace Sys2Proof.Machine
open Sys2Proof

/-- What the module holds beside its register words: pins, sideband, boot record, flash and time. -/
def State.chassis (s : State) : Pins × Sideband × Boot × Flash × Time := (s.pins, s.sb, s.boot, s.flash, s.time)

/-- The register words that satisfy `W` may differ; every other one, and what the module holds beside them, are as they were. -/
structure State.ChassisKept (W : Nat → Prop) (s t : State) : Prop where
  sorted : FMap.sorted t.regs = true
  regs : ∀ o, ¬ W o → FMap.find? o t.regs = FMap.find? o s.regs
  chassis : t.chassis = s.chassis

namespace State.ChassisKept
variable {W V : Nat → Prop} {s t u : State}

theorem refl (hs : FMap.sorted s.regs = true) : s.ChassisKept W s := ⟨hs, fun _ _ => rfl, rfl⟩

theorem trans (h : s.ChassisKept W t) (g : t.ChassisKept W u) : s.ChassisKept W u :=
  ⟨g.sorted, fun o ho => (g.regs o ho).trans (h.regs o ho), g.chassis.trans h.chassis⟩

theorem mono (h : s.ChassisKept W t) (hW : ∀ o, W o → V o) : s.ChassisKept V t :=
  ⟨h.sorted, fun o ho => h.regs o fun hw => ho (hW o hw), h.chassis⟩

/-- What the relation does not speak of may change further. -/
theorem congr (h : s.ChassisKept W t) (hr : u.regs = t.regs) (hc : u.chassis = t.chassis) : s.ChassisKept W u :=
  h.trans ⟨hr ▸ h.sorted, fun _ _ => by rw [hr], hc⟩

theorem of_keptBut (h : s.KeptBut W t) (hc : t.chassis = s.chassis) : s.ChassisKept W t := ⟨h.sorted, h.regs, hc⟩

theorem setFld (h : s.ChassisKept W t) (f : Fld) (v : Nat) (ix : List Nat) (hf : W (f.at ix)) : s.ChassisKept W (t.setFld f v ix) :=
  h.trans ⟨State.setFld_sorted h.sorted f v ix, fun _ ho => State.setFld_find? h.sorted f v ix fun e => ho (e ▸ hf), rfl⟩

theorem setFlag (h : s.ChassisKept W t) (f : Fld) (b : Bool) (ix : List Nat) (hf : W (f.at ix)) : s.ChassisKept W (t.setFlag f b ix) := h.setFld f _ ix hf

theorem bumpSat (h : s.ChassisKept W t) (f : Fld) (ix : List Nat) (d : Nat) (hf : W (f.at ix)) : s.ChassisKept W (t.bumpSat f ix d) := h.setFld f _ ix hf

theorem setFldBit (h : s.ChassisKept W t) (f : Fld) (i : Nat) (b : Bool) (ix : List Nat) (hf : W (f.at ix)) : s.ChassisKept W (t.setFldBit f i b ix) :=
  h.setFld f _ ix hf

theorem putReg (h : s.ChassisKept W t) (f : Fld) (v : Nat) (ix : List Nat) (hf : W (f.at ix)) : s.ChassisKept W (t.putReg f v ix) :=
  h.trans ⟨FMap.sorted_setD h.sorted _ _ _, fun _ ho => FMap.find?_setD_ne h.sorted (fun e => ho (by rw [e]; exact hf)) _ _, rfl⟩

theorem ite {p : Prop} [Decidable p] (h : p → s.ChassisKept W t) (g : ¬ p → s.ChassisKept W u) : s.ChassisKept W (if p then t else u) := by
  split
  · exact h ‹_›
  · exact g ‹_›

/-- A fold of operations that keep the module keeps it. -/
theorem foldl {α : Type} {f : State → α → State} {l : List α} (hf : ∀ u : State, FMap.sorted u.regs = true → ∀ a ∈ l, u.ChassisKept W (f u a))
    (h : s.ChassisKept W t) : s.ChassisKept W (l.foldl f t) := by
  induction l generalizing t with
  | nil => exact h
  | cons a l ih => exact ih (fun u hu b hb => hf u hu b (List.mem_cons_of_mem _ hb)) (h.trans (hf t h.sorted a List.mem_cons_self))

/-- A field of a word that stays reads as before. -/
theorem fld (h : s.ChassisKept W t) (f : Fld) (ix : List Nat) (hf : ¬ W (f.at ix)) : t.fld f ix = s.fld f ix := by
  unfold State.fld FMap.getD
  rw [h.regs _ hf]

theorem flag (h : s.ChassisKept W t) (f : Fld) (ix : List Nat) (hf : ¬ W (f.at ix)) : t.flag f ix = s.flag f ix := by
  unfold State.flag
  rw [h.fld f ix hf]

theorem pins (h : s.ChassisKept W t) : t.pins = s.pins := congrArg (·.1) h.chassis
theorem sb (h : s.ChassisKept W t) : t.sb = s.sb := congrArg (·.2.1) h.chassis
theorem boot (h : s.ChassisKept W t) : t.boot = s.boot := congrArg (·.2.2.1) h.chassis
theorem flash (h : s.ChassisKept W t) : t.flash = s.flash := congrArg (·.2.2.2.1) h.chassis
theorem time (h : s.ChassisKept W t) : t.time = s.time := congrArg (·.2.2.2.2) h.chassis

end State.ChassisKept

/-! The error log, with its mirror and its interrupt. -/

theorem State.Logged.chassis {s t : State} (h : s.Logged t) : t.chassis = s.chassis := by
  unfold State.Logged at h
  rw [h]
  rfl

@[simp] theorem State.setFld_chassis (s : State) (f : Fld) (v : Nat) (ix : List Nat) : (s.setFld f v ix).chassis = s.chassis := rfl
@[simp] theorem State.bump_chassis (s : State) (f : Fld) (ix : List Nat) (d : Nat) : (s.bump f ix d).chassis = s.chassis := rfl
@[simp] theorem State.bumpSat_chassis (s : State) (f : Fld) (ix : List Nat) (d : Nat) : (s.bumpSat f ix d).chassis = s.chassis := rfl
@[simp] theorem State.free_chassis (s : State) : s.free.2.chassis = s.chassis := rfl

theorem State.chassis_ite {p : Prop} [Decidable p] {s t u : State} (ht : p → t.chassis = s.chassis) (hu : ¬ p → u.chassis = s.chassis) :
    (if p then t else u).chassis = s.chassis := by
  split
  · exact ht ‹_›
  · exact hu ‹_›

theorem State.tierAccess_chassis (s : State) (sp : Spot) : (s.tierAccess sp).chassis = s.chassis := by
  unfold State.tierAccess
  refine State.chassis_ite (fun _ => ?_) fun _ => rfl
  extract_lets ix u
  have hu : u.chassis = s.chassis := State.bump_chassis s _ _ _
  clear_value u
  have hf : u.free.2.chassis = s.chassis := (State.free_chassis u).trans hu
  exact State.chassis_ite (fun _ => State.chassis_ite (fun _ => (State.bumpSat_chassis _ _ _ _).trans hf) fun _ => hf) fun _ => hu

theorem State.injected_chassis (s : State) (line : Nat) : (s.injected line).2.chassis = s.chassis := by
  unfold State.injected
  split
  · split <;> rfl
  · rfl

theorem State.storeHome_chassis (s : State) (a : Nat) (data : List Byte) (p : Nat) : (s.storeHome a data p).chassis = s.chassis := by
  unfold State.storeHome
  extract_lets b m1 m2
  clear_value m2
  split
  · rfl
  · next sp _ =>
    split
    · rfl
    · exact (State.injected_chassis (s.tierAccess sp) (b / 64)).trans (State.tierAccess_chassis s sp)

theorem State.logMirrored_chassis (s : State) (code unit sev epoch addr detail : Nat) :
    (s.logMirrored code unit sev epoch addr detail).chassis = s.chassis := by
  unfold State.logMirrored
  extract_lets base i ma mir u
  have hu : u.chassis = s.chassis := (State.logEntry_logged s ..).chassis
  split
  · exact (State.storeHome_chassis u _ _ _).trans hu
  · exact hu

theorem State.interruptOnce_chassis (s : State) (src v : Nat) : (s.interruptOnce src v).1.chassis = s.chassis := by
  unfold State.interruptOnce
  have hz := (State.interruptRaw_logged s src v).chassis
  generalize s.interruptRaw src v = z at hz
  obtain ⟨z, dropped⟩ := z
  cases dropped
  · exact hz
  · exact (State.logMirrored_chassis z ..).trans hz

theorem State.logFull_chassis (s : State) (code unit sev epoch addr detail : Nat) :
    (s.logFull code unit sev epoch addr detail).chassis = s.chassis := by
  have hm := State.logMirrored_chassis s code unit sev epoch addr detail
  unfold State.logFull State.logInterrupt
  split
  · exact (State.interruptOnce_chassis _ _ _).trans hm
  · exact hm

theorem logTouches_of_forwardWord {o : Nat} (h : ForwardWord o) : Claims.LogTouches o = true :=
  logTouches_of_logWord (i := 0) (by decide) (.inr (.inr (.inl h)))

section
variable {s : State} (hs : FMap.sorted s.regs = true)
include hs

theorem State.logFull_chassisKept (code unit sev epoch addr detail : Nat) :
    s.ChassisKept (Claims.LogTouches · = true) (s.logFull code unit sev epoch addr detail) :=
  .of_keptBut (State.logFull_keptBut hs ..) (State.logFull_chassis s ..)

/-- A logged code, one that coalesces with the newest entry too (R312). -/
theorem State.log_chassisKept (code unit addr detail : Nat) : s.ChassisKept (Claims.LogTouches · = true) (s.log code unit addr detail) := by
  have full := fun sev => State.logFull_chassisKept hs code unit sev (s.fld R.EPO_CUR_EPOCH) addr detail
  unfold State.log State.logAt
  refine .ite (fun _ => .ite (fun _ => ?_) fun _ => .refl hs) fun _ => full _
  refine .ite (fun _ => (State.ChassisKept.refl hs).setFld R.ERL_ENTRY_WORD _ _ ?_) fun _ => full _
  exact logTouches_of_logWord (i := s.newest) (Nat.mod_lt _ (by decide)) (.inl (entryWord_at _ (by decide)))

theorem State.storeHome_chassisKept (a : Nat) (data : List Byte) (p : Nat) : s.ChassisKept TrafficWord (s.storeHome a data p) :=
  .of_keptBut (State.storeHome_keptBut hs a data p) (State.storeHome_chassis s a data p)

theorem State.sendRaw_chassisKept (f : Flit) : s.ChassisKept ForwardWord (s.sendRaw f).1 :=
  .of_keptBut (State.sendRaw_keptBut hs f) (State.sendRaw_logged s f).chassis

end

end Sys2Proof.Machine
end

section
/-! SUPPORT. The rails, the throttle flags and the brake: which register words a change of them writes, and where PWR_BRAKE_N low leaves the setpoints (R19, R32, R33, R369, R478, R481). -/

namespace Sys2Proof.Machine
open Sys2Proof

/-! Register words that do not equal their reset value are listed whatever the order of the others, so that they read back in any state. -/

/-- The word of a field's register with the field replaced. -/
def State.wordWith (s : State) (f : Fld) (v : Nat) (ix : List Nat) : Word :=
  BitVec.ofNat 64 (putBits (s.regs.getD (f.at ix) f.rst).toNat f.lo f.w v)

theorem State.wordWith_self (s : State) {f : Fld} (hf : f.fits) (v : Nat) (ix : List Nat) :
    bits (s.wordWith f v ix).toNat f.lo f.w = v % 2 ^ f.w := by
  unfold State.wordWith
  rw [BitVec.toNat_ofNat, Nat.mod_eq_of_lt (putBits_lt (BitVec.isLt _) hf), bits_putBits_self]

theorem State.wordWith_beside (s : State) {f g : Fld} (hf : f.fits) {ix jx : List Nat} (ha : g.at jx = f.at ix) (hr : g.rst = f.rst)
    (h : g.lo + g.w ≤ f.lo ∨ f.lo + f.w ≤ g.lo) (v : Nat) : bits (s.wordWith f v ix).toNat g.lo g.w = s.fld g jx := by
  unfold State.wordWith State.fld
  rw [BitVec.toNat_ofNat, Nat.mod_eq_of_lt (putBits_lt (BitVec.isLt _) hf), ha, hr]
  rcases h with h | h
  · exact bits_putBits_below h
  · exact bits_putBits_above h

/-- A word with a field off its reset value is put in its place. -/
theorem State.setFld_regs_put (s : State) (f : Fld) (v : Nat) (ix : List Nat) {lo w : Nat}
    (h : bits (s.wordWith f v ix).toNat lo w ≠ bits f.rst.toNat lo w) :
    (s.setFld f v ix).regs = FMap.put (f.at ix) (s.wordWith f v ix) s.regs :=
  if_neg fun e => h (congrArg (fun x : Word => bits x.toNat lo w) e)

theorem State.fld_of_put {s t : State} {k : Nat} {x : Word} (h : t.regs = FMap.put k x s.regs) (g : Fld) (jx : List Nat) :
    t.fld g jx = if g.at jx = k then bits x.toNat g.lo g.w else s.fld g jx := by
  unfold State.fld FMap.getD
  rw [h, FMap.find?_put]
  split <;> rfl

/-! The parts of `State.powerMoved`. -/

/-- Only register words, the rails' records and the update's stable window differ. -/
def State.PowerOnly (s t : State) : Prop := t = { s with regs := t.regs, rails := t.rails, update := t.update }

theorem State.PowerOnly.trans {s t u : State} (h : s.PowerOnly t) (g : t.PowerOnly u) : s.PowerOnly u := by
  unfold State.PowerOnly at *
  exact g.trans (by rw [h])

/-- What is read of the rest of the state is as it was. -/
theorem State.PowerOnly.get {α : Type} {s t : State} (h : s.PowerOnly t) (p : State → α) :
    p t = p { s with regs := t.regs, rails := t.rails, update := t.update } := congrArg p h

theorem State.PowerOnly.foldl {α : Type} {f : State → α → State} (hf : ∀ (s : State) (a : α), s.PowerOnly (f s a)) (l : List α) (s : State) :
    s.PowerOnly (l.foldl f s) := by
  induction l generalizing s with
  | nil => exact rfl
  | cons a l ih => exact (hf s a).trans (ih _)

theorem State.PowerOnly.setFlag {s t : State} (h : s.PowerOnly t) (f : Fld) (b : Bool) (ix : List Nat) : s.PowerOnly (t.setFlag f b ix) :=
  h.trans (u := t.setFlag f b ix) rfl

/-- FW1_DOWN and THROTTLE as the conditions now stand. -/
def State.showThrottle (s : State) : State :=
  let s := s.setFlag R.NRG_THR_FW1_DOWN (!s.fw1Controls)
  s.setFlag R.NRG_THR_THROTTLE (s.throttled || !s.fw1Controls)

/-- The core rails moved to their targets. -/
def State.railsMoved (s : State) : State := (List.range 5).foldl State.moveRail s.showThrottle

theorem State.powerMoved_eq (s : State) :
    s.powerMoved = (s.railsMoved.flagsMoved (s.flag R.NRG_THR_THROTTLE) s.railsMoved.slowStands).noteEmergency := rfl

theorem State.noteEmergency_powerOnly (s : State) : s.PowerOnly s.noteEmergency := by
  unfold State.noteEmergency
  split
  · rfl
  · split <;> rfl

@[simp] theorem State.noteEmergency_regs (s : State) : s.noteEmergency.regs = s.regs := by
  unfold State.noteEmergency
  split
  · rfl
  · split <;> rfl

theorem State.noteEmergency_fld (s : State) (f : Fld) (ix : List Nat) : s.noteEmergency.fld f ix = s.fld f ix := by
  unfold State.fld
  rw [State.noteEmergency_regs]

theorem State.PowerOnly.chassis {s t : State} (h : s.PowerOnly t) : t.chassis = s.chassis := by
  unfold State.PowerOnly at h
  rw [h]
  rfl

theorem State.moveRail_powerOnly (s : State) (d : Nat) : s.PowerOnly (s.moveRail d) := by
  unfold State.moveRail
  dsimp only
  split <;> rfl

theorem State.railsMoved_powerOnly (s : State) : s.PowerOnly s.railsMoved := by
  have h : s.PowerOnly s := rfl
  exact ((h.setFlag _ _ _).setFlag _ _ _).trans (.foldl State.moveRail_powerOnly _ _)

/-! STATUS flits (R369). Without a collective step in flight there is nobody to send one to. -/

theorem State.flagsMoved_of_noCols {s : State} (h : s.cols = []) (oldThr oldSlow : Bool) : s.flagsMoved oldThr oldSlow = s := by
  have hg : ∀ t : State, t.cols = [] → t.statusToAll = t := by
    intro t ht
    simp [State.statusToAll, State.activeGroups, ht]
  have hc : { s with cols := s.cols.mapVals fun _ c => { c with sawSlow := true } } = s := by
    rw [h]
    exact congrArg (fun c => { s with cols := c }) h.symm
  unfold State.flagsMoved
  simp only [hc, ite_self, hg s h]

theorem State.powerMoved_powerOnly {s : State} (h : s.cols = []) : s.PowerOnly s.powerMoved := by
  have hm := s.railsMoved_powerOnly
  have hc : s.railsMoved.cols = [] := (hm.get State.cols).trans h
  rw [State.powerMoved_eq, State.flagsMoved_of_noCols hc]
  exact hm.trans (State.noteEmergency_powerOnly _)

section
variable {s : State} (hs : FMap.sorted s.regs = true)
include hs

theorem State.sendFlit_chassisKept (f : Flit) : s.ChassisKept (Claims.LogTouches · = true) (s.sendFlit f) := by
  unfold State.sendFlit
  have hz := (State.sendRaw_chassisKept hs (f.stamped s)).mono fun _ => logTouches_of_forwardWord
  generalize s.sendRaw (f.stamped s) = z at hz
  obtain ⟨z, dropped⟩ := z
  exact .ite (fun _ => hz.trans (State.log_chassisKept hz.sorted _ _ _ _)) fun _ => hz

theorem State.sendStatus_chassisKept (node : Nat) : s.ChassisKept (Claims.LogTouches · = true) (s.sendStatus node) := by
  have hf : s.ChassisKept (Claims.LogTouches · = true) s.free.2 := (State.ChassisKept.refl hs).congr rfl rfl
  exact hf.trans (State.sendFlit_chassisKept hf.sorted _)

theorem State.flagsMoved_chassisKept (oldThr oldSlow : Bool) : s.ChassisKept (Claims.LogTouches · = true) (s.flagsMoved oldThr oldSlow) := by
  unfold State.flagsMoved
  extract_lets thr slow rises t
  have ht : s.ChassisKept (Claims.LogTouches · = true) t := .ite (fun _ => (State.ChassisKept.refl hs).congr rfl rfl) fun _ => .refl hs
  clear_value t
  exact .ite (fun _ => .foldl (fun u hu n _ => State.sendStatus_chassisKept hu n) ht) fun _ => ht

theorem State.noteEmergency_chassisKept (W : Nat → Prop) : s.ChassisKept W s.noteEmergency :=
  (State.ChassisKept.refl hs).congr s.noteEmergency_regs s.noteEmergency_powerOnly.chassis

end

/-- The words that rails and STATUS flits write. -/
def RailWord (o : Nat) : Prop := (∃ d < 5, o = R.NRG_DIE_W0_SETPOINT_MV.at [d]) ∨ Claims.LogTouches o = true

/-- The words that a change of power writes. -/
def PowerWord (o : Nat) : Prop := o = R.NRG_THR_BRAKE.base ∨ RailWord o

theorem not_railWord_thr : ¬ RailWord R.NRG_THR_BRAKE.base := by
  rintro (⟨d, hd, h⟩ | h)
  · simp only [Fld.at, R.NRG_DIE_W0_SETPOINT_MV, R.NRG_THR_BRAKE, dotOff] at h
    omega
  · exact absurd h (by decide)

theorem logTouches_setpoint : ∀ d < 5, Claims.LogTouches (R.NRG_DIE_W0_SETPOINT_MV.at [d]) = false := by decide

theorem not_powerWord_bsu : ¬ PowerWord R.BSU_STATUS_STAGE.base := by
  rintro (h | ⟨d, hd, h⟩ | h)
  · exact absurd h (by decide)
  · simp only [Fld.at, R.NRG_DIE_W0_SETPOINT_MV, R.BSU_STATUS_STAGE, dotOff] at h
    omega
  · exact absurd h (by decide)

section
variable {s : State} (hs : FMap.sorted s.regs = true)
include hs

/-- A flag set leaves the other flags of its register. -/
theorem State.flag_setFlag_beside {f g : Fld} (hf : f.fits) {ix jx : List Nat} (ha : g.at jx = f.at ix) (hr : g.rst = f.rst)
    (h : g.lo + g.w ≤ f.lo ∨ f.lo + f.w ≤ g.lo) (b : Bool) : (s.setFlag f b ix).flag g jx = s.flag g jx := by
  unfold State.flag
  rw [State.setFlag_eq, State.fld_setFld_beside hs hf ha hr h]

theorem State.moveRail_chassisKept {d : Nat} (hd : d < 5) : s.ChassisKept RailWord (s.moveRail d) := by
  unfold State.moveRail
  extract_lets t cur
  refine .ite (fun _ => (State.ChassisKept.refl hs).congr rfl rfl) fun _ => ?_
  exact ((State.ChassisKept.refl hs).setFld R.NRG_DIE_W0_SETPOINT_MV _ _ (.inl ⟨d, hd, rfl⟩)).congr rfl rfl

theorem State.showThrottle_chassisKept : s.ChassisKept PowerWord s.showThrottle :=
  ((State.ChassisKept.refl hs).setFlag R.NRG_THR_FW1_DOWN _ _ (.inl rfl)).setFlag R.NRG_THR_THROTTLE _ _ (.inl rfl)

theorem State.powerMoved_after_throttle : s.showThrottle.ChassisKept RailWord s.powerMoved := by
  have ht := (State.showThrottle_chassisKept hs).sorted
  have hm : s.showThrottle.ChassisKept RailWord s.railsMoved :=
    .foldl (fun u hu d hd => State.moveRail_chassisKept hu (List.mem_range.1 hd)) (.refl ht)
  rw [State.powerMoved_eq]
  have hf := hm.trans ((State.flagsMoved_chassisKept hm.sorted (s.flag R.NRG_THR_THROTTLE) s.railsMoved.slowStands).mono fun _ => .inr)
  exact hf.trans (State.noteEmergency_chassisKept hf.sorted _)

theorem State.powerMoved_chassisKept : s.ChassisKept PowerWord s.powerMoved :=
  (State.showThrottle_chassisKept hs).trans ((State.powerMoved_after_throttle hs).mono fun _ => .inr)

/-- BRAKE is no part of what a change of power shows. -/
theorem State.powerMoved_brake : s.powerMoved.flag R.NRG_THR_BRAKE = s.flag R.NRG_THR_BRAKE := by
  rw [(State.powerMoved_after_throttle hs).flag R.NRG_THR_BRAKE [] not_railWord_thr]
  unfold State.showThrottle
  extract_lets u
  have hu : FMap.sorted u.regs = true := State.setFld_sorted hs _ _ _
  exact (State.flag_setFlag_beside hu (f := R.NRG_THR_THROTTLE) (g := R.NRG_THR_BRAKE) (by decide) rfl rfl (.inl (by decide)) _).trans
    (State.flag_setFlag_beside hs (f := R.NRG_THR_FW1_DOWN) (g := R.NRG_THR_BRAKE) (by decide) rfl rfl (.inl (by decide)) _)

/-- THROTTLE stands while the brake does (R481). -/
theorem State.powerMoved_throttle (hb : s.flag R.NRG_THR_BRAKE = true) : s.powerMoved.flag R.NRG_THR_THROTTLE = true := by
  rw [(State.powerMoved_after_throttle hs).flag R.NRG_THR_THROTTLE [] not_railWord_thr]
  unfold State.showThrottle
  extract_lets u
  have hu : FMap.sorted u.regs = true := State.setFld_sorted hs _ _ _
  have hbu : u.flag R.NRG_THR_BRAKE = true :=
    (State.flag_setFlag_beside hs (f := R.NRG_THR_FW1_DOWN) (g := R.NRG_THR_BRAKE) (by decide) rfl rfl (.inl (by decide)) _).trans hb
  rw [State.flag_setFlag_self hu _ (by decide) (by decide)]
  simp [State.throttled, hbu]

end

/-! The brake in force: every rail's target is 600 mV (R32, R478). -/

theorem State.flag_eq_true_iff {s : State} {f : Fld} {ix : List Nat} : s.flag f ix = true ↔ s.fld f ix = 1 := beq_iff_eq

theorem State.railTarget_of_brake {s : State} (h : s.flag R.NRG_THR_BRAKE = true) (d : Nat) : s.railTarget d = 600 := by
  simp [State.railTarget, h]

/-- BRAKE set stands in its word, in any order of the words. -/
theorem State.setFlag_brake (s : State) : (s.setFlag R.NRG_THR_BRAKE true).flag R.NRG_THR_BRAKE = true := by
  have hw := s.wordWith_self (f := R.NRG_THR_BRAKE) (by decide) 1 []
  have hp := State.setFld_regs_put s R.NRG_THR_BRAKE 1 [] (by rw [hw]; decide)
  rw [State.flag_eq_true_iff]
  exact (State.fld_of_put (t := s.setFlag R.NRG_THR_BRAKE true) hp R.NRG_THR_BRAKE []).trans ((if_pos rfl).trans hw)

/-- A field beside BRAKE set leaves it standing, and every setpoint. -/
theorem State.setFld_besideBrake {s : State} (hb : s.flag R.NRG_THR_BRAKE = true) {f : Fld} (hf : f.fits) (ha : f.at [] = R.NRG_THR_BRAKE.base)
    (hr : f.rst = R.NRG_THR_BRAKE.rst) (h : 8 ≤ f.lo) (v : Nat) :
    (s.setFld f v []).flag R.NRG_THR_BRAKE = true ∧
      ∀ d, (s.setFld f v []).fld R.NRG_DIE_W0_SETPOINT_MV [d] = s.fld R.NRG_DIE_W0_SETPOINT_MV [d] := by
  rw [State.flag_eq_true_iff] at hb ⊢
  have hw : bits (s.wordWith f v []).toNat R.NRG_THR_BRAKE.lo R.NRG_THR_BRAKE.w = 1 :=
    (s.wordWith_beside hf (g := R.NRG_THR_BRAKE) (jx := []) ha.symm hr.symm (.inl h) v).trans hb
  have hp := State.setFld_regs_put s f v [] (lo := R.NRG_THR_BRAKE.lo) (w := R.NRG_THR_BRAKE.w) (by rw [hw, hr]; decide)
  refine ⟨(State.fld_of_put hp _ _).trans ((if_pos ha.symm).trans hw), fun d => (State.fld_of_put hp _ _).trans (if_neg ?_)⟩
  rw [ha]
  simp only [Fld.at, R.NRG_DIE_W0_SETPOINT_MV, R.NRG_THR_BRAKE, dotOff]
  omega

/-- Under the brake BRAKE stands, no setpoint falls below 600 mV that was not there, and those of the listed rails are at 600 mV or below. -/
def State.Braked (l : List Nat) (s t : State) : Prop :=
  t.flag R.NRG_THR_BRAKE = true ∧ ∀ d < 5, (600 ≤ s.fld R.NRG_DIE_W0_SETPOINT_MV [d] → 600 ≤ t.fld R.NRG_DIE_W0_SETPOINT_MV [d]) ∧
    (d ∈ l ∨ s.fld R.NRG_DIE_W0_SETPOINT_MV [d] ≤ 600 → t.fld R.NRG_DIE_W0_SETPOINT_MV [d] ≤ 600)

theorem State.Braked.trans {s t u : State} {l m : List Nat} (h : s.Braked l t) (g : t.Braked m u) : s.Braked (l ++ m) u :=
  ⟨g.1, fun d h5 => ⟨fun hd => (g.2 d h5).1 ((h.2 d h5).1 hd), fun hd => (g.2 d h5).2 (by
    rcases hd with hd | hd
    · exact (List.mem_append.1 hd).elim (fun hl => .inr ((h.2 d h5).2 (.inl hl))) .inl
    · exact .inr ((h.2 d h5).2 (.inr hd)))⟩⟩

/-- What leaves BRAKE and the setpoints leaves the rails braked. -/
theorem State.Braked.of_eq {s t : State} (hb : t.flag R.NRG_THR_BRAKE = true)
    (h : ∀ d < 5, t.fld R.NRG_DIE_W0_SETPOINT_MV [d] = s.fld R.NRG_DIE_W0_SETPOINT_MV [d]) : s.Braked [] t :=
  ⟨hb, fun d hd => by simp [h d hd]⟩

theorem State.showThrottle_braked {s : State} (hb : s.flag R.NRG_THR_BRAKE = true) : s.Braked [] s.showThrottle := by
  obtain ⟨hb1, h1⟩ := State.setFld_besideBrake (f := R.NRG_THR_FW1_DOWN) hb (by decide) rfl rfl (by decide) (b2n (!s.fw1Controls))
  obtain ⟨hb2, h2⟩ := State.setFld_besideBrake (f := R.NRG_THR_THROTTLE) hb1 (by decide) rfl rfl (by decide)
    (b2n ((s.setFlag R.NRG_THR_FW1_DOWN (!s.fw1Controls)).throttled || !(s.setFlag R.NRG_THR_FW1_DOWN (!s.fw1Controls)).fw1Controls))
  exact .of_eq hb2 fun d _ => (h2 d).trans (h1 d)

theorem State.moveRail_braked {s : State} (hb : s.flag R.NRG_THR_BRAKE = true) (d : Nat) : s.Braked [d] (s.moveRail d) := by
  unfold State.moveRail
  rw [State.railTarget_of_brake hb]
  extract_lets cur
  split
  · next h =>
    refine ⟨hb, fun e _ => ⟨id, ?_⟩⟩
    rintro (he | he)
    · obtain rfl := List.mem_singleton.1 he
      exact Nat.le_of_lt h.2
    · exact he
  · have hw := s.wordWith_self (f := R.NRG_DIE_W0_SETPOINT_MV) (by decide) 600 [d]
    have hp := State.setFld_regs_put s R.NRG_DIE_W0_SETPOINT_MV 600 [d] (by rw [hw]; decide)
    have read := State.fld_of_put hp
    refine ⟨?_, fun e _ => ?_⟩
    · rw [State.flag_eq_true_iff] at hb ⊢
      refine (read R.NRG_THR_BRAKE []).trans ((if_neg ?_).trans hb)
      simp only [Fld.at, R.NRG_DIE_W0_SETPOINT_MV, R.NRG_THR_BRAKE, dotOff]
      omega
    · by_cases he : e = d
      · subst he
        have h600 : (s.setFld R.NRG_DIE_W0_SETPOINT_MV 600 [e]).fld R.NRG_DIE_W0_SETPOINT_MV [e] = 600 := (read _ _).trans ((if_pos rfl).trans hw)
        exact ⟨fun _ => h600.ge, fun _ => h600.le⟩
      · have hne : R.NRG_DIE_W0_SETPOINT_MV.at [e] ≠ R.NRG_DIE_W0_SETPOINT_MV.at [d] := by
          simp only [Fld.at, R.NRG_DIE_W0_SETPOINT_MV, dotOff]
          omega
        have hkeep := (read R.NRG_DIE_W0_SETPOINT_MV [e]).trans (if_neg hne)
        exact ⟨fun h => hkeep.symm ▸ h, fun h => hkeep.symm ▸ h.resolve_left fun hm => he (List.mem_singleton.1 hm)⟩

theorem State.foldl_moveRail_braked (l : List Nat) {s : State} (hb : s.flag R.NRG_THR_BRAKE = true) : s.Braked l (l.foldl State.moveRail s) := by
  induction l generalizing s with
  | nil => exact .of_eq hb fun _ _ => rfl
  | cons d l ih =>
    have h := State.moveRail_braked hb d
    exact h.trans (ih h.1)

/-- A change of power under the brake; the order of the register words does not matter where no STATUS flit is sent. -/
theorem State.powerMoved_braked {s : State} (h : s.cols = [] ∨ FMap.sorted s.regs = true) (hb : s.flag R.NRG_THR_BRAKE = true) :
    s.Braked (List.range 5) s.powerMoved := by
  have hm : s.Braked (List.range 5) s.railsMoved := by
    have h1 := State.showThrottle_braked hb
    exact h1.trans (State.foldl_moveRail_braked _ h1.1)
  have flags : ∀ a b, (∀ f ix, Claims.LogTouches (f.at ix) = false → (s.railsMoved.flagsMoved a b).fld f ix = s.railsMoved.fld f ix) := by
    intro a b f ix hf
    rcases h with h | h
    · rw [State.flagsMoved_of_noCols ((s.railsMoved_powerOnly.get State.cols).trans h)]
    · have ht := (State.showThrottle_chassisKept h).sorted
      have hr : s.showThrottle.ChassisKept RailWord s.railsMoved :=
        .foldl (fun u hu d hd => State.moveRail_chassisKept hu (List.mem_range.1 hd)) (.refl ht)
      exact (State.flagsMoved_chassisKept hr.sorted a b).fld f ix (by simp [hf])
  have keep : ∀ f ix, Claims.LogTouches (f.at ix) = false → s.powerMoved.fld f ix = s.railsMoved.fld f ix := by
    intro f ix hf
    rw [State.powerMoved_eq, State.noteEmergency_fld, flags _ _ f ix hf]
  have hkeep : s.railsMoved.Braked [] s.powerMoved := by
    refine .of_eq ?_ fun d hd => keep _ _ (logTouches_setpoint d hd)
    rw [State.flag_eq_true_iff, keep _ _ (by decide)]
    exact State.flag_eq_true_iff.1 hm.1
  exact (hm.trans hkeep : s.Braked (List.range 5 ++ []) _)

end Sys2Proof.Machine
end

section
/-! PROOFS. The power and reset pins, and the test access port (R15 to R36). -/

namespace Sys2Proof.Machine
open Sys2Proof

/-- PWR_BRAKE_N low wherever the rails are up: the brake is in force and every setpoint at 600 mV or below (R19, R32). -/
theorem State.pinsOnRails_of_brakeLow {s : State} (hp : s.pins.pwrBrakeN = false) (hc : s.cols = []) :
    s.PowerOnly s.pinsOnRails ∧ s.pinsOnRails.flag R.NRG_THR_BRAKE = true ∧ ∀ d < 5, s.pinsOnRails.fld R.NRG_DIE_W0_SETPOINT_MV [d] ≤ 600 := by
  have he : s.pinsOnRails = (s.setFlag R.NRG_THR_BRAKE true).powerMoved := by simp [State.pinsOnRails, hp]
  have hone : s.PowerOnly (s.setFlag R.NRG_THR_BRAKE true) := rfl
  obtain ⟨hb, hset⟩ := State.powerMoved_braked (s := s.setFlag R.NRG_THR_BRAKE true) (.inl hc) s.setFlag_brake
  rw [he]
  exact ⟨hone.trans (State.powerMoved_powerOnly hc), hb, fun d hd => (hset d hd).2 (.inl (List.mem_range.2 hd))⟩

theorem State.pinsOnRails_powerOnly {s : State} (hc : s.cols = []) : s.PowerOnly s.pinsOnRails := by
  have hone : s.PowerOnly (s.setFlag R.NRG_THR_BRAKE (!s.pins.pwrBrakeN)) := rfl
  unfold State.pinsOnRails
  split
  · exact s.noteEmergency_powerOnly
  · exact hone.trans (State.powerMoved_powerOnly hc)

/-- What a loss of power or a reset while running leaves: nothing in registers, memory, items and ports; the flash and what was sent stay (R18, R27). -/
def State.Emptied (s t : State) : Prop :=
  t.mem.cells = [] ∧ t.mem.poison = [] ∧ t.items = [] ∧ t.ports = [] ∧ t.flash = s.flash ∧ t.out = s.out

theorem State.Emptied.powerOnly {s t u : State} (h : s.Emptied t) (g : t.PowerOnly u) : s.Emptied u := by
  unfold State.PowerOnly at g
  rw [g]
  exact h

/-- The state whose rails the pins then act on in a cold reset. -/
def State.coldBase (s : State) : State :=
  { s.powerOff with
    pins := { s.powerOff.pins with modPwrgd := s.pins.modPwrgd, thermAlertN := s.pins.thermAlertN, thermTripN := s.pins.thermTripN }
    sb := { s.sb with startFail := false } }

theorem State.coldBase_emptied (s : State) : s.Emptied s.coldBase := ⟨rfl, rfl, rfl, rfl, rfl, rfl⟩

theorem State.coldReset_powerOnly (s : State) : s.coldBase.PowerOnly s.coldReset := State.pinsOnRails_powerOnly rfl

/-- With the brake high and no latched trip the rails wait for start-up. -/
theorem State.coldReset_regs {s : State} (hb : s.pins.pwrBrakeN = true) (ht : s.sb.trip = false) : s.coldReset.regs = [] := by
  have hq : s.coldReset = s.coldBase.noteEmergency := if_pos (by simp [State.powerOff, hb, ht])
  exact (congrArg State.regs hq).trans (State.noteEmergency_regs _)

/-- MOD_PWRGD high and nothing else changed. -/
def State.powerGood (s : State) : State := { s with pins := { s.pins with modPwrgd := true } }

/-- With MOD_EN high and no latch MOD_PWRGD rises, and a brake already low acts on the rails (Table 1-6). -/
theorem exec_modPwrgdRise {s : State} (he : s.pins.modEn = true) (hl : s.pins.underVoltLatch = false) :
    exec .modPwrgdRise s = .next (if s.pins.pwrBrakeN then s.powerGood else s.powerGood.pinsOnRails) :=
  congrArg Host.Outcome.next (if_pos (by simp [he, hl]))

theorem exec_modPwrgdRise_pins {s : State} (he : s.pins.modEn = true) (hl : s.pins.underVoltLatch = false) (hc : s.cols = []) :
    ∃ t, exec .modPwrgdRise s = .next t ∧ t.pins.modPwrgd = true := by
  refine ⟨_, exec_modPwrgdRise he hl, ?_⟩
  split
  · rfl
  · exact (State.pinsOnRails_powerOnly (s := s.powerGood) hc).get (·.pins.modPwrgd)

/-- While the latch stands MOD_PWRGD does not rise (R18, R25). -/
theorem exec_modPwrgdRise_latched {s : State} (hl : s.pins.underVoltLatch = true) : exec .modPwrgdRise s = .next s := by
  show Host.Outcome.next (if s.pins.modEn && !s.pins.underVoltLatch then _ else s) = _
  simp [hl]

/-- MOD_RST_N low and nothing else changed. -/
def State.resetLow (s : State) : State := { s with pins := { s.pins with modRstN := false } }

theorem exec_modRstNFall {s : State} (h : s.pins.released = true) : exec .modRstNFall s = .next s.resetLow.coldReset :=
  congrArg Host.Outcome.next (if_pos h)

theorem State.tap_high {s : State} (h : s.pins.trstN = true) (f : State → State) : s.tap f = f s := if_pos h
theorem State.tap_low {s : State} (h : s.pins.trstN = false) (f : State → State) : s.tap f = s := if_neg (by simp [h])

theorem State.tapOpen_iff {s : State} (hp : s.pins.modPwrgd = true) :
    s.tapOpen = true ↔ s.pins.released = false ∨ s.flag R.BSU_STATUS_DEBUG = true := by
  simp [State.tapOpen, hp]

/-- TAP_SAMPLE_PRELOAD where the scan instructions are accepted (R34). -/
theorem exec_tapSamplePreload_open {s : State} (ht : s.pins.trstN = true) (ho : s.tapOpen = true) :
    exec .tapSamplePreload s = .next (s.free.2.shiftOut s.free.1.toNat none) :=
  congrArg Host.Outcome.next ((State.tap_high ht _).trans (if_pos ho))

theorem exec_tapExtest_open {s : State} (ht : s.pins.trstN = true) (ho : s.tapOpen = true) (p : Nat) :
    exec (.tapExtest p) s = .next { s with pins := { s.pins with extest := some p } } :=
  congrArg Host.Outcome.next ((State.tap_high ht _).trans (if_pos ho))

theorem exec_tap_shut {s : State} (ht : s.pins.trstN = true) (ho : s.tapOpen = false) :
    exec .tapSamplePreload s = .next s ∧ ∀ p, exec (.tapExtest p) s = .next s :=
  ⟨congrArg Host.Outcome.next ((State.tap_high ht _).trans (if_neg (by simp [ho]))),
    fun _ => congrArg Host.Outcome.next ((State.tap_high ht _).trans (if_neg (by simp [ho])))⟩

/-- With TRST_N high TAP_BYPASS shifts its bit out in any state of a powered device (R34). -/
theorem exec_tapBypass_high {s : State} (hp : s.pins.modPwrgd = true) (b : Bool) :
    exec (.tapBypass ⟨true, b⟩) s =
      .next { s with pins := { s.pins with trstN := true, tdo := (if b then 1 else 0), extest := none }, out := s.out ++ [.tdo (if b then 1 else 0)] } :=
  congrArg Host.Outcome.next ((State.tap_high rfl _).trans (if_pos hp))

theorem exec_tapIdcode_high {s : State} (ht : s.pins.trstN = true) (hp : s.pins.modPwrgd = true) :
    exec .tapIdcode s = .next { s with pins := { s.pins with tdo := 0x1EB70C3F, extest := none }, out := s.out ++ [.tdo 0x1EB70C3F] } :=
  congrArg Host.Outcome.next ((State.tap_high ht _).trans (if_pos hp))

end Sys2Proof.Machine

namespace Sys2Proof.Claims
open Machine

/-- MOD_PWRGD rising under a brake already low (R19, R32). -/
theorem modPwrgdRise_braked {s : State} (he : s.pins.modEn = true) (hl : s.pins.underVoltLatch = false) (hb : s.pins.pwrBrakeN = false) (hc : s.cols = []) :
    ∃ t, exec .modPwrgdRise s = .next t ∧ t.pins = { s.pins with modPwrgd := true } ∧ t.flag R.NRG_THR_BRAKE = true ∧ WorkKept s t ∧
      ∀ d < 5, t.fld R.NRG_DIE_W0_SETPOINT_MV [d] ≤ 600 := by
  obtain ⟨hp, hbrake, hset⟩ := State.pinsOnRails_of_brakeLow (s := s.powerGood) hb hc
  refine ⟨_, (exec_modPwrgdRise he hl).trans (congrArg _ (if_neg (by simp [hb]))), ?_, hbrake, ?_, hset⟩
  · exact hp.get State.pins
  · exact ⟨hp.get State.mem, hp.get State.items, hp.get State.reeds, hp.get State.treg, hp.get State.summ, hp.get State.fifos⟩

/-- MOD_RST_N falling while the device runs (R27). -/
theorem modRstNFall_running {s : State} (hr : s.pins.released = true) :
    ∃ t, exec .modRstNFall s = .next t ∧ t.pins.modRstN = false ∧ t.pins.released = false ∧ t.pins.modReady = false ∧
      t.pins.modPwrgd = s.pins.modPwrgd ∧ t.pins.thermTripN = s.pins.thermTripN ∧
      (s.pins.pwrBrakeN = true → s.sb.trip = false → t.regs = []) ∧ (s.pins.pwrBrakeN = false → t.flag R.NRG_THR_BRAKE = true) ∧
      t.mem.cells = [] ∧ t.mem.poison = [] ∧ t.items = [] ∧ t.ports = [] ∧ t.flash = s.flash ∧ t.out = s.out := by
  have hp := s.resetLow.coldReset_powerOnly
  refine ⟨_, exec_modRstNFall hr, hp.get (·.pins.modRstN), hp.get (·.pins.released), hp.get (·.pins.modReady), hp.get (·.pins.modPwrgd),
    hp.get (·.pins.thermTripN), State.coldReset_regs (s := s.resetLow), fun hb => ?_, s.resetLow.coldBase_emptied.powerOnly hp⟩
  exact (State.pinsOnRails_of_brakeLow (s := s.resetLow.coldBase) hb rfl).2.1

/-- Settles O1: each command's pins and frame; a brake that is low reaches the rails in any state without a collective step in flight. -/
theorem powerSequence : Obligations.PowerSequence := by
  unfold Obligations.PowerSequence
  intro s
  refine ⟨rfl, fun he hl hb => (exec_modPwrgdRise he hl).trans (congrArg _ (if_pos hb)), fun he hl hb hc => modPwrgdRise_braked he hl hb hc, fun he hp => ?_, ?_, fun he => ?_, rfl, modRstNFall_running,
    fun hp => ⟨exec_tapBypass_high hp, fun ht => ⟨exec_tapIdcode_high ht hp, fun ho => ?_, fun hr hd => ?_⟩⟩, fun ht => ?_, fun b => rfl⟩
  · have hexec : exec .pwrgdTimeout s = .next { s with pins := { s.pins with underVoltLatch := true } } := by
      show Host.Outcome.next (if s.pins.modEn && !s.pins.modPwrgd then _ else s) = _
      simp [he, hp]
    exact ⟨_, hexec, rfl, hp, exec_modPwrgdRise_latched rfl⟩
  · obtain ⟨v, hv, hpg⟩ := exec_modPwrgdRise_pins (s := { ({ s with pins := { s.pins with modEn := false, underVoltLatch := false } } : State).powerOff with
      pins := { ({ s with pins := { s.pins with modEn := false, underVoltLatch := false } } : State).powerOff.pins with modEn := true } }) rfl rfl rfl
    exact ⟨_, rfl, rfl, rfl, rfl, rfl, rfl, rfl, rfl, rfl, rfl, rfl, rfl, _, v, rfl, hv, hpg⟩
  · have hexec : exec .inputUndervoltage s = .next { s with pins := { s.pins with underVoltLatch := true } }.powerOff := congrArg Host.Outcome.next (if_pos he)
    exact ⟨_, hexec, rfl, rfl, rfl, rfl, rfl, rfl, rfl, rfl, rfl, exec_modPwrgdRise_latched rfl⟩
  · have hopen := (State.tapOpen_iff hp).2 ho
    exact ⟨⟨_, _, exec_tapSamplePreload_open ht hopen, rfl, rfl, rfl, rfl, rfl, rfl, rfl, rfl, rfl⟩, exec_tapExtest_open ht hopen⟩
  · exact exec_tap_shut ht (by simp [State.tapOpen, hr, hd])
  · exact ⟨congrArg Host.Outcome.next (State.tap_low ht _), congrArg Host.Outcome.next (State.tap_low ht _),
      fun _ => congrArg Host.Outcome.next (State.tap_low ht _)⟩

end Sys2Proof.Claims
end

section
/-! PROOFS. Alert sources, the power brake and their pins (R16, R30, R32, R33). -/

namespace Sys2Proof.Machine
open Sys2Proof

/-! Single bits. -/

theorem bit_eq_bits (n i : Nat) : bit n i = (bits n i 1 == 1) := rfl

theorem bit_putBit_self (n i : Nat) (b : Bool) : bit (putBit n i b) i = b := by
  rw [bit_eq_bits, putBit, bits_putBits_self]
  cases b <;> rfl

theorem bit_putBit_ne {n i j : Nat} (h : j ≠ i) (b : Bool) : bit (putBit n i b) j = bit n j := by
  rw [bit_eq_bits, bit_eq_bits, putBit]
  rcases Nat.lt_or_gt_of_ne h with h | h
  · rw [bits_putBits_below (by omega)]
  · rw [bits_putBits_above (by omega)]

/-- Clearing a bit that is clear changes nothing. -/
theorem putBit_false_of_clear {n i : Nat} (h : bit n i = false) : putBit n i false = n := by
  have h0 : n / 2 ^ i % 2 = 0 := by
    have hne : n / 2 ^ i % 2 ≠ 1 := by simpa [bit] using h
    omega
  have hlow : 2 ^ i * (n / 2 ^ i) + n % 2 ^ i = n := Nat.div_add_mod n (2 ^ i)
  have hhigh : 2 * (n / 2 ^ i / 2) + n / 2 ^ i % 2 = n / 2 ^ i := Nat.div_add_mod _ 2
  unfold putBit putBits
  rw [b2n_false, Nat.zero_mod, Nat.zero_mul, Nat.pow_succ, ← Nat.div_div_eq_div_mul]
  calc n % 2 ^ i + 0 + n / 2 ^ i / 2 * (2 ^ i * 2) = 2 ^ i * (2 * (n / 2 ^ i / 2) + 0) + n % 2 ^ i := by ring
    _ = n := by rw [← h0, hhigh, hlow]

/-- The bits of a mask cleared one by one. -/
theorem bit_foldl_clear (mask : Nat) (l : List Nat) (a i : Nat) :
    bit (l.foldl (fun a j => if bit mask j then putBit a j false else a) a) i = (bit a i && !(bit mask i && l.contains i)) := by
  induction l generalizing a with
  | nil => simp
  | cons j l ih =>
    rw [List.foldl_cons, ih, List.contains_cons]
    by_cases hij : i = j
    · subst hij
      cases hm : bit mask i <;> simp [bit_putBit_self]
    · have hne : (i == j) = false := by simpa using hij
      rw [hne, Bool.false_or]
      split
      · rw [bit_putBit_ne hij]
      · rfl

/-! The sideband's readings and sources. -/

/-- Only what the sideband shows differs, and neither the sources active nor the sticky bits. -/
structure State.Reading (s t : State) : Prop where
  only : t = { s with sb := t.sb }
  active : t.sb.active = s.sb.active
  sticky : t.sb.alertSrc = s.sb.alertSrc

theorem State.sideReading_reading (s : State) (src v : Nat) : s.Reading (s.sideReading src v) := by
  unfold State.sideReading
  split <;> exact ⟨rfl, rfl, rfl⟩

/-- A reading taken, with the coolant bit set or cleared for source 4 (Table 1-7). -/
def State.sourceReading (s : State) (src v : Nat) (on : Bool) : State :=
  let s := s.sideReading src v
  if src = 4 then { s with sb := { s.sb with coolantBit := on } } else s

theorem State.sourceReading_reading (s : State) (src v : Nat) (on : Bool) : s.Reading (s.sourceReading src v on) := by
  obtain ⟨ho, ha, hs⟩ := s.sideReading_reading src v
  unfold State.sourceReading
  dsimp only
  split
  · exact ⟨by rw [ho], ha, hs⟩
  · exact ⟨ho, ha, hs⟩

/-- What is read of the rest of the state is as it was. -/
theorem State.Reading.get {α : Type} {s t : State} (h : s.Reading t) (p : State → α) : p t = p { s with sb := t.sb } := congrArg p h.only

theorem State.Reading.workKept {s t : State} (h : s.Reading t) : Claims.WorkKept s t :=
  ⟨h.get State.mem, h.get State.items, h.get State.reeds, h.get State.treg, h.get State.summ, h.get State.fifos⟩

theorem State.workKept_trans {s t u : State} (h : Claims.WorkKept s t) (g : Claims.WorkKept t u) : Claims.WorkKept s u := by
  obtain ⟨hm, hi, hr, ht, hsm, hf⟩ := h
  obtain ⟨gm, gi, gr, gt, gsm, gf⟩ := g
  exact ⟨gm.trans hm, gi.trans hi, gr.trans hr, gt.trans ht, gsm.trans hsm, gf.trans hf⟩

/-- The levels of Table 1-8 go by register fields alone. -/
theorem State.Reading.atLevel {s t : State} (h : s.Reading t) (src : Nat) (v : Int) : t.atLevel src v = s.atLevel src v := by
  have hr := h.get State.regs
  unfold State.atLevel State.assertLevel State.fld
  rw [hr]

theorem State.Reading.belowLevel {s t : State} (h : s.Reading t) (src : Nat) (v : Int) : t.belowLevel src v = s.belowLevel src v := by
  have hr := h.get State.regs
  unfold State.belowLevel State.fld
  rw [hr]

theorem State.workKept_noteEmergency (s : State) : Claims.WorkKept s s.noteEmergency :=
  have h := s.noteEmergency_powerOnly
  ⟨h.get State.mem, h.get State.items, h.get State.reeds, h.get State.treg, h.get State.summ, h.get State.fifos⟩

theorem State.alertOn_of_active {s : State} {src : Nat} (h : bit s.sb.active src = true) : s.alertOn src = s := if_pos h

/-- A source active and sticky, THERM_ALERT_N low. -/
def State.alerted (s : State) (src : Nat) : State :=
  { s with sb := { s.sb with active := putBit s.sb.active src true, alertSrc := putBit s.sb.alertSrc src true }
           pins := { s.pins with thermAlertN := false } }

/-- A source that becomes active (R30). -/
theorem State.alertOn_of_inactive {s : State} {src : Nat} (h : bit s.sb.active src = false) :
    let t := s.alertOn src
    t.pins = { s.pins with thermAlertN := false } ∧ t.sb.active = putBit s.sb.active src true ∧ t.sb.alertSrc = putBit s.sb.alertSrc src true ∧
      t.out = s.out ++ [.ibi src] ∧ t.regs = s.regs ∧ Claims.WorkKept s t := by
  have ht : s.alertOn src = ((s.alerted src).emit (.ibi src)).noteEmergency := if_neg (by simp [h])
  rw [ht]
  have hp := ((s.alerted src).emit (.ibi src)).noteEmergency_powerOnly
  exact ⟨hp.get State.pins, hp.get (·.sb.active), hp.get (·.sb.alertSrc), hp.get State.out, State.noteEmergency_regs _,
    State.workKept_noteEmergency ((s.alerted src).emit (.ibi src))⟩

/-- A source that ends; the pin is high when none remains (R30). -/
theorem State.alertOff_spec (s : State) (src : Nat) :
    let t := s.alertOff src
    let left := putBit s.sb.active src false
    t.pins = { s.pins with thermAlertN := left == 0 } ∧ t.sb.active = left ∧ t.sb.alertSrc = s.sb.alertSrc ∧ t.regs = s.regs ∧ Claims.WorkKept s t := by
  unfold State.alertOff
  extract_lets left
  let u : State := { s with sb := { s.sb with active := left }, pins := { s.pins with thermAlertN := left == 0 } }
  have hp := u.noteEmergency_powerOnly
  exact ⟨hp.get State.pins, hp.get (·.sb.active), hp.get (·.sb.alertSrc), u.noteEmergency_regs, u.workKept_noteEmergency⟩

/-- THERM_SOURCE_ASSERT at the assert level (R30). -/
theorem exec_thermSourceAssert {s : State} {src v : Nat} (hp : s.pins.modPwrgd = true) (hs : src < 6)
    (hl : s.atLevel src (sourceValue src v) = true) : exec (.thermSourceAssert src v) s = .next ((s.sourceReading src v true).alertOn src) := by
  refine congrArg Host.Outcome.next ((if_neg (by simp [hp, hs])).trans (if_neg ?_))
  simp [(s.sideReading_reading src v).atLevel, hl]

theorem exec_thermSourceDeassert {s : State} {src : Nat} (hp : s.pins.modPwrgd = true) (hs : src < 6) (v : Nat) :
    exec (.thermSourceDeassert src v) s = .next (if bit s.sb.active src && s.belowLevel src (sourceValue src v) then
      (s.sourceReading src v false).alertOff src else s.sideReading src v) := by
  have hr := s.sideReading_reading src v
  rw [← hr.active, ← hr.belowLevel]
  exact congrArg Host.Outcome.next (if_neg (by simp [hp, hs]))

/-- The sticky bits of a mask cleared. -/
def State.stickyCleared (s : State) (mask : Nat) : State :=
  { s with sb := { s.sb with alertSrc := (List.range 6).foldl (fun a i => if bit mask i then putBit a i false else a) s.sb.alertSrc } }

theorem exec_sbAlertSrcClear {s : State} (hp : s.pins.modPwrgd = true) (mask : Nat) :
    exec (.sbAlertSrcClear mask) s =
      .next (if bit mask 2 && bit s.sb.active 2 then (s.stickyCleared mask).alertOff 2 else s.stickyCleared mask) :=
  congrArg Host.Outcome.next (if_neg (by simp [hp]))

/-! The power brake. -/

/-- The words of the log and of the throttles. -/
def ThrottleWord (o : Nat) : Prop := o = R.NRG_THR_BRAKE.base ∨ Claims.LogTouches o = true

theorem not_throttleWord_setpoint {d : Nat} (hd : d < 5) : ¬ ThrottleWord (R.NRG_DIE_W0_SETPOINT_MV.at [d]) := by
  rintro (h | h)
  · simp only [Fld.at, R.NRG_DIE_W0_SETPOINT_MV, R.NRG_THR_BRAKE, dotOff] at h
    omega
  · simp [logTouches_setpoint d hd] at h

/-- PWR_BRAKE_N at a level. -/
def State.brakePin (s : State) (level : Bool) : State := { s with pins := { s.pins with pwrBrakeN := level } }

/-- BRAKE set and its entry counted, after the log entry of units that run. -/
def State.brakeOn (s : State) : State :=
  let t := if s.up then (s.brakePin false).log Code.POWER_BRAKE nrgUnit else s.brakePin false
  (t.setFlag R.NRG_THR_BRAKE true).bumpSat R.NRG_THR_ENTRIES

theorem exec_pwrBrakeNFall {s : State} (hp : s.pins.modPwrgd = true) (hb : s.flag R.NRG_THR_BRAKE = false) :
    exec .pwrBrakeNFall s = .next s.brakeOn.powerMoved :=
  congrArg Host.Outcome.next ((if_neg (by simp [hp])).trans (if_neg (by simp [hb])))

theorem exec_powerBrakeRelease {s : State} (hp : s.pins.modPwrgd = true) (hb : s.flag R.NRG_THR_BRAKE = true) :
    exec .powerBrakeRelease s = .next ((s.brakePin true).setFlag R.NRG_THR_BRAKE false).powerMoved :=
  congrArg Host.Outcome.next (if_pos (by simp [hp, hb]))

theorem State.brakeOn_chassisKept {s : State} (hs : FMap.sorted s.regs = true) :
    (s.brakePin false).ChassisKept ThrottleWord s.brakeOn := by
  have ht : FMap.sorted (s.brakePin false).regs = true := hs
  unfold State.brakeOn
  extract_lets u
  have hu : (s.brakePin false).ChassisKept ThrottleWord u := .ite (fun _ => (State.log_chassisKept ht _ _ _ _).mono fun _ => .inr) fun _ => .refl ht
  exact (hu.setFlag R.NRG_THR_BRAKE true [] (.inl rfl)).bumpSat R.NRG_THR_ENTRIES [] 1 (.inl rfl)

theorem State.brakeOn_brake (s : State) : s.brakeOn.flag R.NRG_THR_BRAKE = true :=
  (State.setFld_besideBrake (f := R.NRG_THR_ENTRIES) (State.setFlag_brake _) (by decide) rfl rfl (by decide) _).1

/-- A device under the brake admits nothing but collective steps (R32, R475). -/
theorem State.admits_of_brake {s : State} (hb : s.flag R.NRG_THR_BRAKE = true) {d : Desc} (hd : isStep d = false) (force : Bool) :
    s.admits d force = false := by
  simp [State.admits, hb, hd]

end Sys2Proof.Machine

namespace Sys2Proof.Claims
open Machine

theorem pwrBrakeNFall_brakes {s : State} (hs : FMap.sorted s.regs = true) (hp : s.pins.modPwrgd = true) (hb : s.flag R.NRG_THR_BRAKE = false)
    (hv : ∀ d < 5, 600 ≤ s.fld R.NRG_DIE_W0_SETPOINT_MV [d]) :
    ∃ t, exec .pwrBrakeNFall s = .next t ∧ t.pins = { s.pins with pwrBrakeN := false } ∧ t.flag R.NRG_THR_BRAKE = true ∧
      t.flag R.NRG_THR_THROTTLE = true ∧ (∀ d < 5, t.fld R.NRG_DIE_W0_SETPOINT_MV [d] = 600) ∧ t.emergency = true ∧
      ∀ d f, isStep d = false → t.admits d f = false := by
  have hk := State.brakeOn_chassisKept hs
  have hpins := ((State.powerMoved_chassisKept hk.sorted).pins).trans hk.pins
  obtain ⟨hbrake, hset⟩ := State.powerMoved_braked (.inr hk.sorted) s.brakeOn_brake
  refine ⟨_, exec_pwrBrakeNFall hp hb, hpins, hbrake, State.powerMoved_throttle hk.sorted s.brakeOn_brake, fun d hd => ?_, ?_,
    fun d f hd => State.admits_of_brake hbrake hd f⟩
  · have hold : 600 ≤ s.brakeOn.fld R.NRG_DIE_W0_SETPOINT_MV [d] := (hk.fld _ _ (not_throttleWord_setpoint hd)).symm ▸ hv d hd
    exact Nat.le_antisymm ((hset d hd).2 (.inl (List.mem_range.2 hd))) ((hset d hd).1 hold)
  · simp [State.emergency, hpins, State.brakePin]

theorem powerBrakeRelease_ends {s : State} (hs : FMap.sorted s.regs = true) (hp : s.pins.modPwrgd = true) (hb : s.flag R.NRG_THR_BRAKE = true) :
    ∃ t, exec .powerBrakeRelease s = .next t ∧ t.pins = { s.pins with pwrBrakeN := true } ∧ t.flag R.NRG_THR_BRAKE = false := by
  have ht : FMap.sorted (s.brakePin true).regs = true := hs
  have hu : FMap.sorted ((s.brakePin true).setFlag R.NRG_THR_BRAKE false).regs = true := State.setFld_sorted ht _ _ _
  have hpins := (State.powerMoved_chassisKept hu).pins
  refine ⟨_, exec_powerBrakeRelease hp hb, hpins, ?_⟩
  rw [State.powerMoved_brake hu]
  exact State.flag_setFlag_self ht _ (by decide) (by decide) _ _

/-- SB_ALERT_SRC_CLEAR: sticky bits of the mask are cleared, and of the sources the stack trip alone ends (R30). -/
theorem sbAlertSrcClear_clears {s : State} (hp : s.pins.modPwrgd = true) (mask : Nat) :
    ∃ t, exec (.sbAlertSrcClear mask) s = .next t ∧ t.regs = s.regs ∧ WorkKept s t ∧
      (∀ i < 6, bit t.sb.alertSrc i = (bit s.sb.alertSrc i && !bit mask i)) ∧
      t.sb.active = (if bit mask 2 then putBit s.sb.active 2 false else s.sb.active) ∧
      (bit mask 2 = false ∨ bit s.sb.active 2 = false → t.pins = s.pins) := by
  have hsticky : ∀ i < 6, bit (s.stickyCleared mask).sb.alertSrc i = (bit s.sb.alertSrc i && !bit mask i) := fun i hi => by
    have hc : (List.range 6).contains i = true := by simpa using hi
    exact (bit_foldl_clear mask (List.range 6) s.sb.alertSrc i).trans (by rw [hc, Bool.and_true])
  by_cases h : (bit mask 2 && bit s.sb.active 2) = true
  · obtain ⟨-, hact, hsrc, hregs, hwork⟩ := State.alertOff_spec (s.stickyCleared mask) 2
    obtain ⟨hm, ha⟩ := Bool.and_eq_true_iff.1 h
    refine ⟨_, (exec_sbAlertSrcClear hp mask).trans (congrArg _ (if_pos h)), hregs, hwork, fun i hi => hsrc ▸ hsticky i hi, hact.trans (if_pos hm).symm, ?_⟩
    simp [hm, ha]
  · refine ⟨_, (exec_sbAlertSrcClear hp mask).trans (congrArg _ (if_neg h)), rfl, ⟨rfl, rfl, rfl, rfl, rfl, rfl⟩, hsticky, ?_, fun _ => rfl⟩
    split
    · next hm =>
      have ha : bit s.sb.active 2 = false := by simpa [hm] using h
      exact (putBit_false_of_clear ha).symm
    · rfl

/-- Settles O4: each source's command goes by its reading's level alone, and the brake by the rails' target of 600 mV. -/
theorem alertsAndBrake : Obligations.AlertsAndBrake := by
  unfold Obligations.AlertsAndBrake
  intro s hcanon
  have hs := State.canon_regs hcanon
  refine ⟨fun src v hp h6 hl hoff => ?_, fun src v hp h6 hon => ?_, fun src v hp hsrc hon hbelow => ?_, fun src v hp hsrc => ?_, fun mask hp => ?_,
    fun hp hb hv => pwrBrakeNFall_brakes hs hp hb hv, fun hp hb => ?_⟩
  · have hr := s.sourceReading_reading src v true
    obtain ⟨hpins, hact, hsrc, hout, hregs, hwork⟩ := State.alertOn_of_inactive (s := s.sourceReading src v true) (src := src) (by rw [hr.active, hoff])
    refine ⟨_, exec_thermSourceAssert hp h6 hl, ?_, ?_, ?_, ?_, hregs.trans (hr.get State.regs), State.workKept_trans hr.workKept hwork⟩
    · rw [hpins, hr.get State.pins]
    · rw [hact, bit_putBit_self]
    · rw [hsrc, bit_putBit_self]
    · rw [hout, hr.get State.out]
  · have hr := s.sideReading_reading src v
    by_cases hl : s.atLevel src (sourceValue src v) = true
    · have hq := s.sourceReading_reading src v true
      refine ⟨_, (exec_thermSourceAssert hp h6 hl).trans (congrArg _ (State.alertOn_of_active ?_)), hq.get State.pins, hq.active, hq.get State.out⟩
      rw [hq.active, hon]
    · refine ⟨s.sideReading src v, congrArg Host.Outcome.next ((if_neg (by simp [hp, h6])).trans (if_pos ?_)), hr.get State.pins, hr.active, hr.get State.out⟩
      simpa [hr.atLevel] using hl
  · have hr := s.sourceReading_reading src v false
    obtain ⟨hpins, hact, hsticky, hregs, hwork⟩ := State.alertOff_spec (s.sourceReading src v false) src
    refine ⟨_, (exec_thermSourceDeassert hp (by omega) v).trans (congrArg _ (if_pos (by simp [hon, hbelow]))), ?_, ?_, hsticky.trans hr.sticky,
      hregs.trans (hr.get State.regs), State.workKept_trans hr.workKept hwork⟩
    · rw [hact, hr.active]
    · rw [hpins, hr.get State.pins, hr.active]
  · have hr := s.sideReading_reading src v
    have hb : s.belowLevel src (sourceValue src v) = false := by
      rcases hsrc with rfl | rfl <;> rfl
    exact ⟨_, (exec_thermSourceDeassert hp (by omega) v).trans (congrArg _ (if_neg (by simp [hb]))), hr.active, hr.get State.pins⟩
  · exact sbAlertSrcClear_clears hp mask
  · exact powerBrakeRelease_ends hs hp hb

end Sys2Proof.Claims
end

section
/-! PROOFS. Throttles and temperatures (Table 10-3, R481): the statement as it is worded fails.

At 105 °C a stack trips and the job-fatal sequence aborts the collective steps in flight; their items' event counters are
counted (R160). A canonical state may hold an item whose list of counters names a number past the 65,536 of the file, and
the address of that "counter" is then that of another register: the count below falls on STK_STATUS[0, 0]. -/

namespace Sys2Proof.Machine
open Sys2Proof

/-- A module released, at the end of start-up, with no work. -/
def State.idleUp : State := { State.reset with
  pins := { State.reset.pins with modPwrgd := true, released := true }
  boot := { State.reset.boot with stage := 10 } }

/-- A counter number whose register address is that of STK_STATUS[0, 0]. -/
def strayCounter : Nat := 16908289

theorem strayCounter_at : R.EVC_VALUE.at [strayCounter] = R.STK_STATUS_TEMP.at [0, 0] := by decide

/-- A collective step in flight whose item counts the stray number. -/
def State.strayStep : State := { State.idleUp with
  items := [(0, { State.idleUp.newItem 0 0 with evc := [strayCounter] })]
  cols := [(0, State.idleUp.newCol .run 0)] }

/-- The temperature that stack 0 shows after a reading of 105 °C. -/
def State.shownAfterTrip (s : State) : Option Nat :=
  match exec (.stackTempSample 0 (16 * 105)) s with
  | .next t => some (t.fld R.STK_STATUS_TEMP [0, 0])
  | _ => none

theorem State.strayStep_canon : State.strayStep.canon = true := by decide +kernel

theorem State.strayStep_up : State.strayStep.up = true := by decide +kernel

/-- Without the stray item the stack shows its reading, 1,680 sixteenths of a degree. -/
theorem State.shownAfterTrip_idleUp : State.idleUp.shownAfterTrip = some 1680 := by decide +kernel

/-- With it the field holds one more. -/
theorem State.shownAfterTrip_strayStep : State.strayStep.shownAfterTrip = some 1681 := by decide +kernel

end Sys2Proof.Machine

namespace Sys2Proof.Claims
open Machine

/-- Refutes O44: in `State.strayStep`, canonical and up, a reading of 105 °C on stack 0 leaves 1,681 in STK_STATUS.TEMP
where the statement says 1,680: the aborted step's item counts a number past the event counters. -/
theorem not_throttles : ¬ Obligations.Throttles := by
  unfold Obligations.Throttles
  intro h
  obtain ⟨-, -, -, -, -, hstack⟩ := h State.strayStep State.strayStep_canon State.strayStep_up
  obtain ⟨t, ht, htemp, -⟩ := hstack 0 (by decide) (16 * 105)
  have hshown : State.strayStep.shownAfterTrip = some (t.fld R.STK_STATUS_TEMP [0, 0]) := by
    unfold State.shownAfterTrip
    rw [ht]
  have hwrap : t.fld R.STK_STATUS_TEMP [0, 0] = 1680 := htemp
  rw [State.shownAfterTrip_strayStep, hwrap] at hshown
  exact absurd hshown (by decide)

end Sys2Proof.Claims
end

section
/-! SUPPORT. Start-up (Table 18-2): what each of its steps leaves of the module, and what BSU_STATUS shows of one that fails (R484). -/

namespace Sys2Proof.Machine
open Sys2Proof

/-- Any register word may differ. -/
abbrev AnyWord (_ : Nat) : Prop := True

theorem State.ChassisKept.each {W : Nat → Prop} {s t : State} {n : Nat} {f : State → Nat → State}
    (hf : ∀ u : State, FMap.sorted u.regs = true → ∀ k < n, u.ChassisKept W (f u k)) (h : s.ChassisKept W t) : s.ChassisKept W (t.each n f) :=
  .foldl (fun u hu k hk => hf u hu k (List.mem_range.1 hk)) h

/-! A failed start-up (R484). -/

/-- A start-up that failed at a step, beside the register words. -/
def State.failedAt (s : State) (step code : Nat) : State :=
  { s with boot := { s.boot with failed := true, stage := step }, sb := { s.sb with startFail := true, lastStatus := code } }

/-- BSU_STATUS of a failed start-up. -/
def State.failShown (s : State) (step code : Nat) : State :=
  (((s.failedAt step code).setFld R.BSU_STATUS_STAGE step).setFlag R.BSU_STATUS_START_FAIL true).setFld R.BSU_STATUS_LAST_CODE code

section
variable {s : State} (hs : FMap.sorted s.regs = true)
include hs

theorem State.failShown_chassisKept (step code : Nat) : (s.failedAt step code).ChassisKept AnyWord (s.failShown step code) := by
  have h : (s.failedAt step code).ChassisKept AnyWord (s.failedAt step code) := .refl hs
  exact ((h.setFld R.BSU_STATUS_STAGE step [] trivial).setFlag R.BSU_STATUS_START_FAIL true [] trivial).setFld R.BSU_STATUS_LAST_CODE code [] trivial

/-- Past BSU_STATUS a failed start-up moves the rails and logs, no more. -/
theorem State.startFail_from_shown (step code : Nat) : (s.failShown step code).ChassisKept PowerWord (s.startFail step code) := by
  have hsh := (State.failShown_chassisKept hs step code).sorted
  have hp : (s.failShown step code).ChassisKept PowerWord (if 5 ≤ step then (s.failShown step code).powerMoved else s.failShown step code) :=
    .ite (fun _ => State.powerMoved_chassisKept hsh) fun _ => .refl hsh
  exact .ite (fun _ => hp.trans ((State.logFull_chassisKept hp.sorted _ _ _ _ _ _).mono fun _ h => .inr (.inr h))) fun _ => hp

theorem State.startFail_chassisKept (step code : Nat) : (s.failedAt step code).ChassisKept AnyWord (s.startFail step code) :=
  (State.failShown_chassisKept hs step code).trans ((State.startFail_from_shown hs step code).mono fun _ _ => trivial)

/-- A field beside those that a failure shows. -/
theorem State.failShown_beside {g : Fld} (ha : g.at [] = R.BSU_STATUS_STAGE.base) (hr : g.rst = R.BSU_STATUS_STAGE.rst)
    (h : g.lo + g.w ≤ 16 ∧ 6 ≤ g.lo) (step code : Nat) : (s.failShown step code).fld g [] = s.fld g [] := by
  have h0 : FMap.sorted (s.failedAt step code).regs = true := hs
  have h1 : FMap.sorted ((s.failedAt step code).setFld R.BSU_STATUS_STAGE step).regs = true := State.setFld_sorted h0 _ _ _
  have h2 : FMap.sorted (((s.failedAt step code).setFld R.BSU_STATUS_STAGE step).setFlag R.BSU_STATUS_START_FAIL true).regs = true :=
    State.setFld_sorted h1 _ _ _
  obtain ⟨hlow, hhigh⟩ := h
  exact (State.fld_setFld_beside h2 (f := R.BSU_STATUS_LAST_CODE) (g := g) (by decide) ha hr (.inl hlow) _).trans
    ((State.fld_setFld_beside h1 (f := R.BSU_STATUS_START_FAIL) (g := g) (by decide) ha hr (.inr hhigh) _).trans
      (State.fld_setFld_beside h0 (f := R.BSU_STATUS_STAGE) (g := g) (by decide) ha hr (.inr (Nat.le_trans (by decide) hhigh)) _))

/-- What BSU_STATUS shows of a failure: the step, START_FAIL and the code. -/
theorem State.failShown_fields (step code : Nat) :
    (s.failShown step code).fld R.BSU_STATUS_STAGE = step % 16 ∧ (s.failShown step code).flag R.BSU_STATUS_START_FAIL = true ∧
      (s.failShown step code).fld R.BSU_STATUS_LAST_CODE = code % 65536 := by
  have h0 : FMap.sorted (s.failedAt step code).regs = true := hs
  have h1 : FMap.sorted ((s.failedAt step code).setFld R.BSU_STATUS_STAGE step).regs = true := State.setFld_sorted h0 _ _ _
  have h2 : FMap.sorted (((s.failedAt step code).setFld R.BSU_STATUS_STAGE step).setFlag R.BSU_STATUS_START_FAIL true).regs = true :=
    State.setFld_sorted h1 _ _ _
  refine ⟨?_, ?_, State.fld_setFld_self h2 R.BSU_STATUS_LAST_CODE (by decide) code []⟩
  · exact (State.fld_setFld_beside h2 (f := R.BSU_STATUS_LAST_CODE) (g := R.BSU_STATUS_STAGE) (by decide) rfl rfl (.inl (by decide)) _).trans
      ((State.fld_setFld_beside h1 (f := R.BSU_STATUS_START_FAIL) (g := R.BSU_STATUS_STAGE) (by decide) rfl rfl (.inl (by decide)) _).trans
        (State.fld_setFld_self h0 R.BSU_STATUS_STAGE (by decide) step []))
  · rw [State.flag_eq_true_iff]
    exact (State.fld_setFld_beside h2 (f := R.BSU_STATUS_LAST_CODE) (g := R.BSU_STATUS_START_FAIL) (by decide) rfl rfl (.inl (by decide)) _).trans
      (State.flag_eq_true_iff.1 (State.flag_setFlag_self h1 R.BSU_STATUS_START_FAIL (by decide) (by decide) true []))

/-- START_FAIL, the step and the code stand in BSU_STATUS after a failure, and the other fields of the word stay (R484). -/
theorem State.startFail_fields (step code : Nat) :
    (s.startFail step code).fld R.BSU_STATUS_STAGE = step % 16 ∧ (s.startFail step code).flag R.BSU_STATUS_START_FAIL = true ∧
      (s.startFail step code).fld R.BSU_STATUS_LAST_CODE = code % 65536 ∧
        (s.startFail step code).flag R.BSU_STATUS_RECOVERY = s.flag R.BSU_STATUS_RECOVERY := by
  have hk := State.startFail_from_shown hs step code
  obtain ⟨hstage, hflag, hcode⟩ := State.failShown_fields hs step code
  refine ⟨(hk.fld R.BSU_STATUS_STAGE [] not_powerWord_bsu).trans hstage, (hk.flag R.BSU_STATUS_START_FAIL [] not_powerWord_bsu).trans hflag,
    (hk.fld R.BSU_STATUS_LAST_CODE [] not_powerWord_bsu).trans hcode, (hk.flag R.BSU_STATUS_RECOVERY [] not_powerWord_bsu).trans ?_⟩
  unfold State.flag
  rw [State.failShown_beside hs (g := R.BSU_STATUS_RECOVERY) rfl rfl (by decide)]

/-! The S fields of the blocks (Table 18-2, step 5). -/

theorem State.loadTiles_chassisKept (w : Weave) : s.ChassisKept AnyWord (s.loadTiles w) := by
  unfold State.loadTiles
  refine .putReg (.each (fun u hu p _ => ?_) (.refl hs)) _ _ _ trivial
  exact (((State.ChassisKept.refl hu).putReg _ _ _ trivial).putReg _ _ _ trivial).putReg _ _ _ trivial

theorem State.loadLinks_chassisKept (w : Weave) (debug : Bool) : s.ChassisKept AnyWord (s.loadLinks w debug) := by
  have one : ∀ (f : Fld) (v : Nat) (ix : List Nat) (u : State), FMap.sorted u.regs = true → u.ChassisKept AnyWord (u.putReg f v ix) :=
    fun f v ix u hu => (State.ChassisKept.refl hu).putReg f v ix trivial
  unfold State.loadLinks
  refine .foldl (fun u hu e _ => one _ _ _ u hu) (.each (fun u hu k _ => ?_) ?_)
  · exact ((one _ _ _ u hu).putReg _ _ _ trivial).putReg _ _ _ trivial
  · refine .putReg (.putReg (.each (fun u hu m _ => one _ _ _ u hu) ?_) _ _ _ trivial) _ _ _ trivial
    exact (one _ _ _ s hs).putReg _ _ _ trivial

theorem State.loadMaps_chassisKept (w : Weave) : s.ChassisKept AnyWord (s.loadMaps w) := by
  unfold State.loadMaps
  refine .each (fun u hu k _ => (State.ChassisKept.refl hu).putReg _ _ _ trivial) (.setFld (.each (fun u hu k _ => ?_) ?_) _ _ _ trivial)
  · exact (State.ChassisKept.refl hu).setFld _ _ _ trivial
  · exact .each (fun u hu k _ => (State.ChassisKept.refl hu).putReg _ _ _ trivial) (.refl hs)

theorem State.loadS_chassisKept (w : Weave) : s.ChassisKept AnyWord (s.loadS w) := by
  have h0 : s.ChassisKept AnyWord (s.putReg R.GLB_CAPS_NLK_PORTS (w.caps s.flash)) := (State.ChassisKept.refl hs).putReg _ _ _ trivial
  have h1 := h0.trans (State.loadTiles_chassisKept h0.sorted w)
  have h2 := h1.trans (State.loadLinks_chassisKept h1.sorted w (w.isDebug s.flash))
  have h3 := h2.trans (State.loadMaps_chassisKept h2.sorted w)
  unfold State.loadS
  refine .putReg (.setFlag (.putReg (.putReg (.each (fun u hu i _ => (State.ChassisKept.refl hu).putReg _ _ _ trivial) (.putReg (.putReg
    (.each (fun u hu p _ => ?_) (.setFld (.putReg (.putReg h3 _ _ _ trivial) _ _ _ trivial) _ _ _ trivial))
    _ _ _ trivial) _ _ _ trivial)) _ _ _ trivial) _ _ _ trivial) _ _ _ trivial) _ _ _ trivial
  exact ((State.ChassisKept.refl hu).setFld _ _ _ trivial).setFld _ _ _ trivial

/-! Arrays, processors and the RAS record. -/

theorem State.noteChip_chassisKept (a : Nat) (v : LineView) : s.ChassisKept AnyWord (s.noteChip a v) := by
  refine .ite (fun _ => ?_) fun _ => .refl hs
  have h := (State.ChassisKept.refl (W := AnyWord) hs).bumpSat R.ERL_COUNTS_UE [] 1 trivial
  exact h.trans ((State.log_chassisKept h.sorted _ _ _ _).mono fun _ _ => trivial)

theorem State.settleLine_chassisKept (a : Nat) : s.ChassisKept AnyWord (s.settleLine a) :=
  (State.noteChip_chassisKept hs a (s.mem.chipView a)).congr rfl rfl

theorem State.declareLmt_chassisKept : s.ChassisKept AnyWord s.declareLmt := by
  refine .ite (fun _ => ?_) fun _ => .refl hs
  have h := State.settleLine_chassisKept hs (s.lmtRgn.addr 0 / 64 * 64)
  exact (h.trans (State.settleLine_chassisKept h.sorted (s.lmtRgn.addr (s.lmtRgn.elements - 1) / 64 * 64))).congr rfl rfl

theorem State.startFw_chassisKept (version : Nat) : s.ChassisKept AnyWord (s.startFw version) := by
  unfold State.startFw State.showStaged
  refine .setFld (.setFld (.setFld (.setFlag (.setFld (.each (fun u hu p _ => ?_) ?_) _ _ _ trivial) _ _ _ trivial) _ _ _ trivial) _ _ _ trivial) _ _ _ trivial
  · exact (((State.ChassisKept.refl hu).putReg _ _ _ trivial).setFld _ _ _ trivial).congr rfl rfl
  · exact (State.ChassisKept.refl hs).congr rfl rfl

theorem State.showRas_chassisKept : s.ChassisKept AnyWord s.showRas := by
  unfold State.showRas
  refine .foldl (fun u hu e _ => ?_) (.foldl (fun u hu e _ => ?_) ?_)
  · exact (((((State.ChassisKept.refl hu).setFld _ _ _ trivial).setFld _ _ _ trivial).setFld _ _ _ trivial).setFld _ _ _ trivial).setFld _ _ _ trivial
  · exact ((State.ChassisKept.refl hu).setFld _ _ _ trivial).setFld _ _ _ trivial
  · exact ((((State.ChassisKept.refl hs).setFld _ _ _ trivial).setFld _ _ _ trivial).setFld _ _ _ trivial).setFld _ _ _ trivial

theorem State.putLane_chassisKept (key lane : Nat) : s.ChassisKept AnyWord (s.putLane key lane) := by
  have h0 : s.ChassisKept AnyWord { s with mem := { s.mem with lanes := s.mem.lanes.put key (s.mem.lanes.getD key [] ++ [lane]) } } :=
    (State.ChassisKept.refl hs).congr rfl rfl
  have h := (((h0.setFld R.ERL_LANE_CHANNEL (key % 512) [s.laneCount] trivial).setFld R.ERL_LANE_TIER (key / 512) [s.laneCount] trivial).setFld
    R.ERL_LANE_LANE lane [s.laneCount] trivial).setFld R.ERL_LANE_VALID 1 [s.laneCount] trivial
  exact h.trans ((State.log_chassisKept h.sorted _ _ _ _).mono fun _ _ => trivial)

theorem State.resumeRas_chassisKept : s.ChassisKept AnyWord s.resumeRas := by
  have h : s.ChassisKept AnyWord (s.mem.laneDue.foldl (fun s e => s.putLane e.1 e.2) { s with mem := { s.mem with laneDue := [], retireDue := false } }) :=
    .foldl (fun u hu e _ => State.putLane_chassisKept hu e.1 e.2) ((State.ChassisKept.refl hs).congr rfl rfl)
  exact .ite (fun _ => ((h.setFlag _ _ _ trivial).setFld _ _ _ trivial).setFlag _ _ _ trivial) fun _ => h

theorem State.configure_chassisKept (w : Weave) : s.ChassisKept AnyWord (s.configure w) := by
  have h0 := State.loadS_chassisKept hs w
  have h1 := h0.trans (State.declareLmt_chassisKept h0.sorted)
  have h2 := h1.trans (State.startFw_chassisKept h1.sorted (((s.loadS w).declareLmt.boot.fw.map (·.version)).getD 0))
  have h3 := h2.setFlag R.NRG_THR_BRAKE (!((s.loadS w).declareLmt.startFw (((s.loadS w).declareLmt.boot.fw.map (·.version)).getD 0)).pins.pwrBrakeN) [] trivial
  have h4 := h3.trans (State.showRas_chassisKept h3.sorted)
  exact h4.trans (State.resumeRas_chassisKept h4.sorted)

/-- Identity and slots go to words of their own. -/
theorem State.showBoot_chassisKept : s.ChassisKept (· ≠ R.BSU_STATUS_STAGE.base) s.showBoot := by
  unfold State.showBoot
  refine .setFld (.putReg (.each (fun u hu i hi => (State.ChassisKept.refl hu).putReg _ _ _ ?_) ((State.ChassisKept.refl hs).putReg _ _ _ (by decide)))
    _ _ _ (by decide)) _ _ _ (by decide)
  revert i
  decide

/-- A slot that fell back keeps the module. -/
theorem State.fellBack_chassisKept : s.ChassisKept AnyWord s.fellBack := by
  have h := (State.ChassisKept.refl (W := AnyWord) hs).setFlag R.BSU_STATUS_FALLBACK true [] trivial
  exact (h.trans ((State.log_chassisKept h.sorted _ _ _ _).mono fun _ _ => trivial)).setFld _ _ _ trivial

end

theorem State.stageAt_sorted {s : State} (hs : FMap.sorted s.regs = true) (n : Nat) : FMap.sorted (s.stageAt n).regs = true := State.setFld_sorted hs _ _ _

/-! The ports begin their training. -/

/-- The adaptations that ports now trained keep (R500). -/
def State.adaptedKept (s : State) : State :=
  { s with boot := { s.boot with adapted := s.boot.adapted.filter fun e => s.hasPort e.1 && s.flag R.NLK_CTL_ENABLE [e.1] } }

theorem State.trainPorts_chassisKept {s : State} (hs : FMap.sorted s.regs = true) : s.adaptedKept.ChassisKept AnyWord s.trainPorts := by
  have h : s.adaptedKept.ChassisKept AnyWord s.adaptedKept := .refl hs
  exact .each (fun u hu k _ => .ite (fun _ => (State.ChassisKept.refl hu).setFld _ _ _ trivial) fun _ => .refl hu) h

/-! The choices of the manifest and of the images leave the boot count. -/

theorem Flash.writeManifest_ctrBoots (f : Flash) (g : Manifest → Manifest) : (f.writeManifest g).ctrBoots = f.ctrBoots := by
  unfold Flash.writeManifest
  cases f.copy1 <;> rfl

theorem Flash.choose_ctrBoots {f g : Flash} (h : f.choose = some g) : g.ctrBoots = f.ctrBoots := by
  unfold Flash.choose at h
  split at h
  · cases h
    rfl
  · obtain ⟨c, -, rfl⟩ := Option.map_eq_some_iff.1 h
    rfl

theorem Flash.bootUpdate_ctrBoots (f : Flash) : f.bootUpdate.ctrBoots = f.ctrBoots := by
  unfold Flash.bootUpdate
  dsimp only
  split
  · split <;> exact Flash.writeManifest_ctrBoots _ _
  · rfl

/-- No activation is pending: the manifest stays. -/
theorem Flash.bootUpdate_of_not_pending {f : Flash} (h : f.manifest.update ≠ 3) : f.bootUpdate = f := if_neg h

end Sys2Proof.Machine
end

section
/-! PROOFS. What RESET_RELEASE leaves (R29, R484, R489, R490, R498, R545). -/

namespace Sys2Proof.Machine
open Sys2Proof

/-- What start-up leaves whatever its steps find: the pins and the boot count. -/
structure State.Booting (s t : State) : Prop where
  sorted : FMap.sorted t.regs = true
  pins : t.pins = s.pins
  boots : t.flash.ctrBoots = s.flash.ctrBoots

namespace State.Booting
variable {s t u : State}

theorem trans (h : s.Booting t) (g : t.Booting u) : s.Booting u := ⟨g.sorted, g.pins.trans h.pins, g.boots.trans h.boots⟩

theorem of_chassis {v : State} (ht : FMap.sorted t.regs = true) (h : t.chassis = v.chassis) (hp : v.pins = s.pins) (hf : v.flash = s.flash) :
    s.Booting t := by
  obtain ⟨hpins, -, -, hflash, -⟩ : t.pins = v.pins ∧ t.sb = v.sb ∧ t.boot = v.boot ∧ t.flash = v.flash ∧ t.time = v.time := by
    simpa [State.chassis] using h
  exact ⟨ht, hpins.trans hp, by rw [hflash, hf]⟩

theorem of_chassisKept {W : Nat → Prop} (h : s.ChassisKept W t) : s.Booting t := ⟨h.sorted, h.pins, congrArg Flash.ctrBoots h.flash⟩

end State.Booting

theorem State.boot_of_chassis {s t : State} (h : t.chassis = s.chassis) : t.boot = s.boot := congrArg (·.2.2.1) h

/-- The module with another content of its flash. -/
def State.flashed (s : State) (f : Flash) : State := { s with flash := f }

/-- A firmware image in force, its counter raised (R459). -/
def State.running (s : State) (i : FwImage) : State :=
  { s with boot := { s.boot with fw := some i }, flash := { s.flash with ctrFw := max s.flash.ctrFw i.svn } }

/-- A weave image in force. -/
def State.woven (s : State) (w : Option Weave) : State := { s with boot := { s.boot with weave := w } }

/-- The manifest after a fall back to the other firmware slot. -/
def Flash.fwFallen (f : Flash) (i : FwImage) : Flash :=
  f.writeManifest fun m => { m with fwActive := 1 - f.manifest.fwActive % 2, fwHash := i.hash, stagedHash := 0, update := 0, aob := false }

/-- The manifest after a fall back to the other weave slot. -/
def Flash.weaveFallen (f : Flash) : Flash :=
  f.writeManifest fun m => { m with weaveActive := 1 - f.manifest.weaveActive % 2,
                                    weaveHash := ((f.weaveSlot (1 - f.manifest.weaveActive % 2)).map (·.hash)).getD 0 }

/-- Step 3 takes the active slot, or the other with a new manifest (R488). -/
theorem State.chooseFw_cases {s t : State} (h : s.chooseFw = some t) : ∃ i f, f.ctrBoots = s.flash.ctrBoots ∧
    (t = (s.flashed f).running i ∨ t = ((s.flashed f).running i).fellBack) := by
  unfold State.chooseFw at h
  dsimp only at h
  split at h
  · next i _ => exact ⟨i, s.flash, rfl, .inl (Option.some.inj h).symm⟩
  · split at h
    · next i _ => exact ⟨i, s.flash.fwFallen i, Flash.writeManifest_ctrBoots _ _, .inr (Option.some.inj h).symm⟩
    · exact absurd h (by simp)

theorem State.chooseFw_of_active {s : State} {i : FwImage} (hi : s.flash.accepts (s.flash.fwSlot (s.flash.manifest.fwActive % 2)) = some i) :
    s.chooseFw = some (s.running i) := by
  unfold State.chooseFw
  dsimp only
  rw [hi]
  rfl

theorem State.chooseWeave_of_active {s : State} {w : Weave} (hw : s.flash.weaveSlot (s.flash.manifest.weaveActive % 2) = some w)
    (hv : weaveVerdict s.flash (some w) = 0) : s.chooseWeave = (0, s.woven (some w)) := by
  unfold State.chooseWeave
  dsimp only
  rw [hw, if_pos hv]
  rfl

/-- Step 4 likewise; without a slot to take it changes nothing (R494). -/
theorem State.chooseWeave_cases (s : State) : ∃ w f, f.ctrBoots = s.flash.ctrBoots ∧
    (s.chooseWeave.2 = s ∨ s.chooseWeave.2 = s.woven w ∨ s.chooseWeave.2 = ((s.flashed f).woven w).fellBack) := by
  unfold State.chooseWeave
  extract_lets f k c
  split
  · exact ⟨f.weaveSlot k, f, rfl, .inr (.inl rfl)⟩
  · split
    · exact ⟨f.weaveSlot (1 - k), f.weaveFallen, Flash.writeManifest_ctrBoots _ _, .inr (.inr rfl)⟩
    · exact ⟨none, f, rfl, .inl rfl⟩

section
variable {s : State} (hs : FMap.sorted s.regs = true)
include hs

theorem State.flashed_booting {f : Flash} (hf : f.ctrBoots = s.flash.ctrBoots) : s.Booting (s.flashed f) := ⟨hs, rfl, hf⟩

theorem State.running_booting (i : FwImage) : s.Booting (s.running i) := ⟨hs, rfl, rfl⟩

theorem State.woven_booting (w : Option Weave) : s.Booting (s.woven w) := ⟨hs, rfl, rfl⟩

theorem State.startFail_booting (step code : Nat) : s.Booting (s.startFail step code) :=
  have h := State.Booting.of_chassisKept (State.startFail_chassisKept hs step code)
  ⟨h.sorted, h.pins, h.boots⟩

theorem State.chooseFw_booting {t : State} (h : s.chooseFw = some t) : s.Booting t := by
  obtain ⟨i, f, hf, ht⟩ := State.chooseFw_cases h
  have hb := State.flashed_booting hs hf
  have hr := hb.trans (State.running_booting hb.sorted i)
  rcases ht with rfl | rfl
  · exact hr
  · exact hr.trans (.of_chassisKept (State.fellBack_chassisKept hr.sorted))

theorem State.chooseWeave_booting : s.Booting s.chooseWeave.2 := by
  obtain ⟨w, f, hf, ht | ht | ht⟩ := s.chooseWeave_cases
  · rw [ht]
    exact ⟨hs, rfl, rfl⟩
  · rw [ht]
    exact State.woven_booting hs w
  · have hb := State.flashed_booting hs hf
    have hw := hb.trans (State.woven_booting hb.sorted w)
    rw [ht]
    exact hw.trans (.of_chassisKept (State.fellBack_chassisKept hw.sorted))

/-- Steps 5 to 8 with the image chosen. -/
def State.bringUp (s : State) (w : Weave) : State := ((s.showBoot.configure w).stageAt 6).trainPorts.powerMoved

omit hs in
/-- Step 6 reached, and the ports trained again. -/
theorem State.adaptedKept_chassis {c : State} (h : c.chassis = s.chassis) (n : Nat) :
    (c.stageAt n).adaptedKept.chassis = { s with boot := { s.boot with stage := n, adapted := (c.stageAt n).adaptedKept.boot.adapted } }.chassis := by
  obtain ⟨hpins, hsb, hboot, hflash, htime⟩ : c.pins = s.pins ∧ c.sb = s.sb ∧ c.boot = s.boot ∧ c.flash = s.flash ∧ c.time = s.time := by
    simpa [State.chassis] using h
  simp only [State.chassis, State.adaptedKept, State.stageAt, State.setFld_pins, State.setFld_sb, State.setFld_boot, State.setFld_flash, State.setFld_time,
    hpins, hsb, hboot, hflash, htime]

/-- What steps 5 to 8 leave of the module: step 6, with the adaptations that the ports keep. -/
theorem State.bringUp_chassis (w : Weave) : ∃ a,
    FMap.sorted (s.bringUp w).regs = true ∧ (s.bringUp w).chassis = { s with boot := { s.boot with stage := 6, adapted := a } }.chassis := by
  have h1 := (State.showBoot_chassisKept hs).mono (V := AnyWord) fun _ _ => trivial
  have h2 := h1.trans (State.configure_chassisKept h1.sorted w)
  have h3 := State.stageAt_sorted h2.sorted 6
  have h4 := State.trainPorts_chassisKept h3
  have h5 := State.powerMoved_chassisKept h4.sorted
  have h6 := State.adaptedKept_chassis h2.chassis 6
  unfold State.bringUp
  exact ⟨_, h5.sorted, (h5.chassis.trans h4.chassis).trans h6⟩

theorem State.bringUp_booting (w : Weave) : s.Booting (s.bringUp w) := by
  obtain ⟨a, hsort, hc⟩ := State.bringUp_chassis hs w
  exact .of_chassis hsort hc rfl rfl

/-- Step 8 with its key derived or not. -/
def State.keyed (s : State) (keyOk : Bool) : State := if keyOk then { s with boot := { s.boot with keyReady := true } } else s.startFail 8 Code.PUF_FAIL

theorem State.keyed_booting (keyOk : Bool) : s.Booting (s.keyed keyOk) := by
  cases keyOk
  · exact State.startFail_booting hs 8 Code.PUF_FAIL
  · exact ⟨hs, rfl, rfl⟩

omit hs in
theorem State.keyed_boot : (s.keyed true).boot = { s.boot with keyReady := true } := rfl

omit hs in
/-- Steps 3 to 8 by what steps 3 and 4 choose. -/
theorem State.startUp_of_none {keyOk : Bool} (hf : (s.flashed s.flash.bootUpdate).chooseFw = none) :
    s.startUp keyOk = s.startFail 3 Code.BOOT_IMAGE_BAD := by
  unfold State.flashed at hf
  unfold State.startUp
  rw [hf]

omit hs in
theorem State.startUp_of_refused {t : State} {keyOk : Bool} (hf : (s.flashed s.flash.bootUpdate).chooseFw = some t) (hc : t.chooseWeave.1 ≠ 0) :
    s.startUp keyOk = t.chooseWeave.2.startFail 4 t.chooseWeave.1 := by
  unfold State.flashed at hf
  unfold State.startUp
  rw [hf]
  exact if_pos hc

omit hs in
theorem State.startUp_of_empty {t : State} {keyOk : Bool} (hf : (s.flashed s.flash.bootUpdate).chooseFw = some t) (hc : t.chooseWeave.1 = 0)
    (hw : t.chooseWeave.2.boot.weave = none) : s.startUp keyOk = t.chooseWeave.2.startFail 4 Code.WEAVE_SIG_BAD := by
  unfold State.flashed at hf
  unfold State.startUp
  rw [hf]
  dsimp only
  rw [if_neg (by simp [hc]), hw]

omit hs in
theorem State.startUp_of_chosen {t : State} {keyOk : Bool} {w : Weave} (hf : (s.flashed s.flash.bootUpdate).chooseFw = some t)
    (hc : t.chooseWeave.1 = 0) (hw : t.chooseWeave.2.boot.weave = some w) : s.startUp keyOk = (t.chooseWeave.2.bringUp w).keyed keyOk := by
  unfold State.flashed at hf
  unfold State.startUp
  rw [hf]
  dsimp only
  rw [if_neg (by simp [hc]), hw]
  rfl

theorem State.startUp_booting (keyOk : Bool) : s.Booting (s.startUp keyOk) := by
  have h0 := State.flashed_booting hs s.flash.bootUpdate_ctrBoots
  cases hf : (s.flashed s.flash.bootUpdate).chooseFw with
  | none => exact State.startUp_of_none hf ▸ State.startFail_booting hs _ _
  | some t =>
    have h1 := h0.trans (State.chooseFw_booting h0.sorted hf)
    have h2 := h1.trans (State.chooseWeave_booting h1.sorted)
    by_cases hc : t.chooseWeave.1 = 0
    · cases hw : t.chooseWeave.2.boot.weave with
      | none => exact State.startUp_of_empty hf hc hw ▸ h2.trans (State.startFail_booting h2.sorted _ _)
      | some w =>
        have h3 := h2.trans (State.bringUp_booting h2.sorted w)
        rw [State.startUp_of_chosen hf hc hw]
        exact h3.trans (State.keyed_booting h3.sorted keyOk)
    · exact State.startUp_of_refused hf hc ▸ h2.trans (State.startFail_booting h2.sorted _ _)

/-- Both images accepted from the active slots, and the key derived: start-up stands at step 6 (R488, R494). -/
theorem State.startUp_of_accepted {i : FwImage} {w : Weave} (hu : s.flash.manifest.update ≠ 3)
    (hi : s.flash.accepts (s.flash.fwSlot (s.flash.manifest.fwActive % 2)) = some i) (hw : s.flash.weaveSlot (s.flash.manifest.weaveActive % 2) = some w)
    (hv : weaveVerdict { s.flash with ctrFw := max s.flash.ctrFw i.svn } (some w) = 0) :
    ∃ a, (s.startUp true).boot = { s.boot with fw := some i, weave := some w, stage := 6, adapted := a, keyReady := true } := by
  have hf : (s.flashed s.flash.bootUpdate).chooseFw = some (s.running i) := by
    rw [Flash.bootUpdate_of_not_pending hu]
    exact State.chooseFw_of_active hi
  have hc : (s.running i).chooseWeave = (0, (s.running i).woven (some w)) := State.chooseWeave_of_active hw hv
  rw [State.startUp_of_chosen hf (by rw [hc]) (w := w) (by rw [hc]; rfl), hc]
  obtain ⟨a, -, hch⟩ := State.bringUp_chassis (s := (s.running i).woven (some w)) hs w
  rw [State.keyed_boot, State.boot_of_chassis hch]
  exact ⟨a, rfl⟩

end

/-! RESET_RELEASE. -/

/-- The device released with RECOVERY_N sampled. -/
def State.releasedAs (s : State) (rec : Bool) : State :=
  { s with pins := { s.pins with released := true, recoveryN := rec }, boot := { s.boot with t0 := s.elapsedNs } }

/-- Step 2 begins, and a recovery boot listens. -/
def State.stepTwo (s : State) (rec : Bool) : State := if rec then (s.releasedAs rec).stageAt 2 else ((s.releasedAs rec).stageAt 2).listen

/-- One boot more in the flash. -/
def Flash.booted (f : Flash) : Flash := { f with ctrBoots := f.ctrBoots + 1 }

/-- What step 2 finds, and what follows from it. -/
def State.afterStepTwo (s : State) (rec puf stor key : Bool) : State :=
  if !puf then s.startFail 2 Code.PUF_FAIL
  else if !stor then s.startFail 2 Code.STORAGE_FAIL
  else match s.flash.booted.choose with
    | none => (s.flashed s.flash.booted).startFail 2 Code.MANIFEST_BAD
    | some f => if rec then (s.flashed f).startUp key else (s.flashed f).showBoot

theorem State.afterStepTwo_noPuf (s : State) (rec stor key : Bool) : s.afterStepTwo rec false stor key = s.startFail 2 Code.PUF_FAIL := if_pos rfl

theorem State.afterStepTwo_noStorage (s : State) (rec key : Bool) : s.afterStepTwo rec true false key = s.startFail 2 Code.STORAGE_FAIL :=
  (if_neg (by decide)).trans (if_pos rfl)

theorem State.afterStepTwo_noManifest {s : State} (h : s.flash.booted.choose = none) (rec key : Bool) :
    s.afterStepTwo rec true true key = (s.flashed s.flash.booted).startFail 2 Code.MANIFEST_BAD := by
  unfold State.afterStepTwo
  rw [if_neg (by decide), if_neg (by decide), h]

theorem State.afterStepTwo_manifest {s : State} {f : Flash} (h : s.flash.booted.choose = some f) (rec key : Bool) :
    s.afterStepTwo rec true true key = if rec then (s.flashed f).startUp key else (s.flashed f).showBoot := by
  unfold State.afterStepTwo
  rw [if_neg (by decide), if_neg (by decide), h]

theorem exec_resetRelease {s : State} (hp : s.pins.modPwrgd = true) (hr : s.pins.modRstN = true) (hh : s.pins.released = false) (rec puf stor key : Bool) :
    exec (.resetRelease rec puf stor key) s = .next ((s.stepTwo rec).afterStepTwo rec puf stor key) :=
  congrArg Host.Outcome.next (if_neg (by simp [hp, hr, hh]))

theorem State.stepTwo_chassis (s : State) (rec : Bool) :
    (s.stepTwo rec).chassis = { s.releasedAs rec with boot := { (s.releasedAs rec).boot with stage := 2, listening := !rec || s.boot.listening } }.chassis := by
  cases rec <;> rfl

section
variable {s : State} (hs : FMap.sorted s.regs = true)
include hs

theorem State.stepTwo_sorted (rec : Bool) : FMap.sorted (s.stepTwo rec).regs = true := by
  have h : FMap.sorted (s.releasedAs rec).regs = true := hs
  have h2 := State.stageAt_sorted h 2
  cases rec
  · exact State.setFld_sorted h2 _ _ _
  · exact h2

/-- A recovery boot shows RECOVERY. -/
theorem State.stepTwo_recovery : (s.stepTwo false).flag R.BSU_STATUS_RECOVERY = true := by
  have h : FMap.sorted (s.releasedAs false).regs = true := hs
  have h2 : FMap.sorted { (s.releasedAs false).stageAt 2 with boot := { ((s.releasedAs false).stageAt 2).boot with listening := true } }.regs = true :=
    State.setFld_sorted h _ _ _
  exact State.flag_setFlag_self h2 _ (by decide) (by decide) _ _

/-- Whatever step 2 finds, the pins stay. -/
theorem State.afterStepTwo_pins (rec puf stor key : Bool) : (s.afterStepTwo rec puf stor key).pins = s.pins := by
  match puf, stor with
  | false, _ => exact State.afterStepTwo_noPuf s rec stor key ▸ (State.startFail_booting hs 2 Code.PUF_FAIL).pins
  | true, false => exact State.afterStepTwo_noStorage s rec key ▸ (State.startFail_booting hs 2 Code.STORAGE_FAIL).pins
  | true, true =>
    cases hc : s.flash.booted.choose with
    | none =>
      rw [State.afterStepTwo_noManifest hc]
      exact (State.startFail_booting (s := s.flashed s.flash.booted) hs 2 Code.MANIFEST_BAD).pins
    | some f =>
      rw [State.afterStepTwo_manifest hc]
      cases rec
      · exact (State.showBoot_chassisKept (s := s.flashed f) hs).pins
      · exact (State.startUp_booting (s := s.flashed f) hs key).pins

/-- A failure keeps the listening, the image and RECOVERY. -/
theorem State.startFail_recovery (step code : Nat) : (s.startFail step code).boot.listening = s.boot.listening ∧
    (s.startFail step code).boot.fw = s.boot.fw ∧ (s.startFail step code).flag R.BSU_STATUS_RECOVERY = s.flag R.BSU_STATUS_RECOVERY := by
  have hb : (s.startFail step code).boot = (s.failedAt step code).boot := (State.startFail_chassisKept hs step code).boot
  exact ⟨hb ▸ rfl, hb ▸ rfl, (State.startFail_fields hs step code).2.2.2⟩

/-- A recovery boot listens whatever step 2 finds, and runs no image of the slots (R29, R498). -/
theorem State.afterStepTwo_recovery (puf stor key : Bool) : (s.afterStepTwo false puf stor key).boot.listening = s.boot.listening ∧
    (s.afterStepTwo false puf stor key).boot.fw = s.boot.fw ∧
      (s.afterStepTwo false puf stor key).flag R.BSU_STATUS_RECOVERY = s.flag R.BSU_STATUS_RECOVERY := by
  match puf, stor with
  | false, _ => rw [State.afterStepTwo_noPuf]; exact State.startFail_recovery hs 2 Code.PUF_FAIL
  | true, false => rw [State.afterStepTwo_noStorage]; exact State.startFail_recovery hs 2 Code.STORAGE_FAIL
  | true, true =>
    cases hc : s.flash.booted.choose with
    | none =>
      rw [State.afterStepTwo_noManifest hc]
      exact State.startFail_recovery (s := s.flashed s.flash.booted) hs 2 Code.MANIFEST_BAD
    | some f =>
      rw [State.afterStepTwo_manifest hc]
      have h := State.showBoot_chassisKept (s := s.flashed f) hs
      exact ⟨congrArg Boot.listening h.boot, congrArg Boot.fw h.boot, h.flag R.BSU_STATUS_RECOVERY [] fun h => h rfl⟩

/-- The boot is counted whatever the manifest and the images are (R490). -/
theorem State.afterStepTwo_ctrBoots (rec key : Bool) : (s.afterStepTwo rec true true key).flash.ctrBoots = s.flash.ctrBoots + 1 := by
  cases hc : s.flash.booted.choose with
  | none =>
    rw [State.afterStepTwo_noManifest hc]
    exact (State.startFail_booting (s := s.flashed s.flash.booted) hs 2 Code.MANIFEST_BAD).boots
  | some f =>
    have hb : f.ctrBoots = s.flash.ctrBoots + 1 := Flash.choose_ctrBoots hc
    rw [State.afterStepTwo_manifest hc]
    cases rec
    · exact (congrArg Flash.ctrBoots (State.showBoot_chassisKept (s := s.flashed f) hs).flash).trans hb
    · exact (State.startUp_booting (s := s.flashed f) hs key).boots.trans hb

/-- A failure of step 2: the step, its code and START_FAIL, in BSU_STATUS and on the sideband (R484). -/
theorem State.startFail_two {code : Nat} (hc : code < 65536) :
    (s.startFail 2 code).boot.failed = true ∧ (s.startFail 2 code).boot.stage = 2 ∧ (s.startFail 2 code).fld R.BSU_STATUS_STAGE = 2 ∧
      (s.startFail 2 code).flag R.BSU_STATUS_START_FAIL = true ∧ (s.startFail 2 code).fld R.BSU_STATUS_LAST_CODE = code ∧
        (s.startFail 2 code).sb.startFail = true ∧ (s.startFail 2 code).sb.lastStatus = code := by
  have hk := State.startFail_chassisKept hs 2 code
  obtain ⟨hstage, hflag, hcode, -⟩ := State.startFail_fields hs 2 code
  exact ⟨congrArg Boot.failed hk.boot, congrArg Boot.stage hk.boot, hstage, hflag, hcode.trans (Nat.mod_eq_of_lt hc), congrArg Sideband.startFail hk.sb,
    congrArg Sideband.lastStatus hk.sb⟩

end

end Sys2Proof.Machine

namespace Sys2Proof.Claims
open Machine

/-- Settles O2: what step 2 finds decides between a failure, a recovery boot and the start-up of both images. -/
theorem resetRelease : Obligations.ResetRelease := by
  unfold Obligations.ResetRelease
  intro s rec puf stor key hcanon hp hr hh
  have h2 := State.stepTwo_sorted (State.canon_regs hcanon) rec
  have hc := s.stepTwo_chassis rec
  have hpins : (s.stepTwo rec).pins = (s.releasedAs rec).pins := congrArg (·.1) hc
  have hboot : (s.stepTwo rec).boot = { (s.releasedAs rec).boot with stage := 2, listening := !rec || s.boot.listening } := congrArg (·.2.2.1) hc
  have hflash : (s.stepTwo rec).flash = s.flash := congrArg (·.2.2.2.1) hc
  have ht := State.afterStepTwo_pins h2 rec puf stor key
  refine ⟨_, exec_resetRelease hp hr hh rec puf stor key, ?_, ?_, ?_, ?_, ?_, ?_, ?_, ?_⟩
  · rw [ht, hpins]
    rfl
  · rw [ht, hpins]
    rfl
  · rintro rfl
    obtain ⟨hl, hf, hrec⟩ := State.afterStepTwo_recovery h2 puf stor key
    rw [hl, hf, hrec, hboot]
    exact ⟨rfl, State.stepTwo_recovery (State.canon_regs hcanon), rfl⟩
  · rintro rfl
    rw [State.afterStepTwo_noPuf]
    exact State.startFail_two (code := Code.PUF_FAIL) h2 (by decide)
  · rintro rfl rfl
    rw [State.afterStepTwo_noStorage]
    obtain ⟨hfail, hstage, -, -, hcode, hsb, -⟩ := State.startFail_two (code := Code.STORAGE_FAIL) h2 (by decide)
    exact ⟨hfail, hstage, hcode, hsb⟩
  · rintro rfl rfl
    rw [State.afterStepTwo_ctrBoots h2, hflash]
  · rintro rfl rfl hnone
    have hn : (s.stepTwo rec).flash.booted.choose = none := by rw [hflash]; exact hnone
    rw [State.afterStepTwo_noManifest hn]
    obtain ⟨hfail, hstage, -, -, hcode, hsb, -⟩ :=
      State.startFail_two (s := (s.stepTwo rec).flashed (s.stepTwo rec).flash.booted) (code := Code.MANIFEST_BAD) h2 (by decide)
    exact ⟨hfail, hstage, hcode, hsb⟩
  · rintro f hsome rfl rfl
    have hn : (s.stepTwo rec).flash.booted.choose = some f := by rw [hflash]; exact hsome
    rw [State.afterStepTwo_manifest hn]
    refine ⟨?_, ?_⟩
    · rintro rfl
      exact (State.showBoot_chassisKept (s := (s.stepTwo false).flashed f) h2).flash
    · rintro rfl rfl i w hu hi hw hv
      obtain ⟨a, hb⟩ := State.startUp_of_accepted (s := (s.stepTwo true).flashed f) h2 hu hi hw hv
      have hfailed : (s.stepTwo true).boot.failed = s.boot.failed := by rw [hboot]; rfl
      rw [if_pos rfl, hb]
      exact ⟨rfl, rfl, rfl, rfl, hfailed⟩

end Sys2Proof.Claims
end

section
/-! SUPPORT. Bytes stored wherever they lie leave the module and the hearth's start word (R505): what serving memory writes are counters, the error log, maps and lane records. -/

namespace Sys2Proof.Machine
open Sys2Proof

/-- Any register word but the one that says where the harts start. -/
def ServiceWord (o : Nat) : Prop := o ≠ R.HRT_START_LOADER_ADDR.base

theorem serviceWord_of_above {f : Fld} (h : R.HRT_START_LOADER_ADDR.base < f.base) (ix : List Nat) : ServiceWord (f.at ix) :=
  Nat.ne_of_gt (Nat.lt_of_lt_of_le h (Nat.le_add_right _ _))

theorem serviceWord_of_logTouches {o : Nat} (h : Claims.LogTouches o = true) : ServiceWord o := by
  rintro rfl
  exact absurd h (by decide)

theorem serviceWord_of_trafficWord {o : Nat} : TrafficWord o → ServiceWord o := by
  rintro ⟨k, -, rfl⟩
  exact serviceWord_of_above (by decide) _

theorem serviceWord_lane {f : Fld} (hb : f.base = R.ERL_LANE_CHANNEL.base) (hst : f.strides = [8]) {i : Nat} (hi : i < 64) : ServiceWord (f.at [i]) := by
  simp only [ServiceWord, Fld.at, hb, hst, R.ERL_LANE_CHANNEL, R.HRT_START_LOADER_ADDR, dotOff]
  omega

/-- The module with another memory record. -/
def State.withMem (s : State) (m : Mem) : State := { s with mem := m }

/-- An operation after a change of the memory record. -/
theorem State.ChassisKept.of_mem {W : Nat → Prop} {s t : State} {m : Mem} (hs : FMap.sorted s.regs = true)
    (h : FMap.sorted (s.withMem m).regs = true → (s.withMem m).ChassisKept W t) : s.ChassisKept W t :=
  have h0 : s.ChassisKept W (s.withMem m) := (State.ChassisKept.refl hs).congr rfl rfl
  h0.trans (h hs)

section
variable {s : State} (hs : FMap.sorted s.regs = true)
include hs

theorem State.log_serves (code unit addr detail : Nat) : s.ChassisKept ServiceWord (s.log code unit addr detail) :=
  (State.log_chassisKept hs code unit addr detail).mono fun _ => serviceWord_of_logTouches

theorem State.storeHome_serves (a : Nat) (data : List Byte) (p : Nat) : s.ChassisKept ServiceWord (s.storeHome a data p) :=
  (State.storeHome_chassisKept hs a data p).mono fun _ => serviceWord_of_trafficWord

theorem State.tierAccess_serves (sp : Spot) : s.ChassisKept ServiceWord (s.tierAccess sp) :=
  (State.ChassisKept.of_keptBut (State.tierAccess_keptBut hs sp) (State.tierAccess_chassis s sp)).mono fun _ => serviceWord_of_trafficWord

/-- A counter of errors counts, and the error is logged. -/
theorem State.errorLogged_serves {f : Fld} (hf : ServiceWord (f.at [])) (code unit addr detail : Nat) :
    s.ChassisKept ServiceWord ((s.bumpSat f).log code unit addr detail) := by
  have h := (State.ChassisKept.refl hs).bumpSat f [] 1 hf
  exact h.trans (State.log_serves h.sorted _ _ _ _)

/-! Fences and lane marks. -/

theorem State.fenceChannel_serves (key cause : Nat) : s.ChassisKept ServiceWord (s.fenceChannel key cause) := by
  unfold State.fenceChannel
  refine .ite (fun _ => .refl hs) fun _ => ?_
  extract_lets u
  have hu : s.ChassisKept ServiceWord u :=
    .ite (fun _ => (State.ChassisKept.refl hs).setFldBit _ _ _ _ (serviceWord_of_above (by decide) _))
      fun _ => (State.ChassisKept.refl hs).setFldBit _ _ _ _ (serviceWord_of_above (by decide) _)
  exact hu.trans (State.log_serves hu.sorted _ _ _ _)

theorem State.putLane_serves (key lane : Nat) (hc : s.laneCount < 64) : s.ChassisKept ServiceWord (s.putLane key lane) := by
  refine .of_mem (m := { s.mem with lanes := s.mem.lanes.put key (s.mem.lanes.getD key [] ++ [lane]) }) hs fun hm => ?_
  have hu := State.ChassisKept.refl (W := ServiceWord) hm
  have hv := (((hu.setFld R.ERL_LANE_CHANNEL (key % 512) [s.laneCount] (serviceWord_lane rfl rfl hc)).setFld R.ERL_LANE_TIER (key / 512) [s.laneCount]
    (serviceWord_lane rfl rfl hc)).setFld R.ERL_LANE_LANE lane [s.laneCount] (serviceWord_lane rfl rfl hc)).setFld R.ERL_LANE_VALID 1 [s.laneCount] (serviceWord_lane rfl rfl hc)
  exact hv.trans (State.log_serves hv.sorted _ _ _ _)

theorem State.markLane_serves (key lane : Nat) (fence : Bool) : s.ChassisKept ServiceWord (s.markLane key lane fence) := by
  unfold State.markLane
  refine .ite (fun _ => .refl hs) fun _ => ?_
  by_cases hroom : s.laneRoom key = true
  · have hc : s.laneCount < 64 := by
      simp only [State.laneRoom, decide_eq_true_eq] at hroom
      omega
    simp only [hroom, Bool.not_true, Bool.false_eq_true, if_false]
    exact .ite (fun _ => State.putLane_serves hs _ _ hc) fun _ => (State.ChassisKept.refl hs).congr rfl rfl
  · simp only [hroom, Bool.not_false, if_true]
    exact .ite (fun _ => State.fenceChannel_serves hs _ _) fun _ => .refl hs

theorem State.countCe_serves (key : Nat) (l : List Nat) (f : Bool) : s.ChassisKept ServiceWord (s.countCe key l f) := by
  unfold State.countCe
  dsimp only
  split
  · refine .ite (fun _ => ?_) fun _ => (State.ChassisKept.refl hs).congr rfl rfl
    exact .of_mem hs fun hm => State.markLane_serves hm _ _ _
  · exact .refl hs

theorem State.countUe_serves (key src : Nat) : s.ChassisKept ServiceWord (s.countUe key src) := by
  unfold State.countUe
  refine .ite (fun _ => ?_) fun _ => .refl hs
  refine .of_mem hs fun hm => .ite (fun _ => State.fenceChannel_serves hm _ _) fun _ => .refl hm


/-! Lines read and written at their home. -/

theorem State.noteRead_serves (a : Nat) (v : LineView) (src : Nat) : s.ChassisKept ServiceWord (s.noteRead a v src) := by
  unfold State.noteRead
  split
  · exact .refl hs
  · next sp _ =>
    extract_lets u er d w
    have hu : s.ChassisKept ServiceWord u := (State.tierAccess_serves hs sp).bumpSat R.SCA_STAT_MISSES _ _ (serviceWord_of_above (by decide) _)
    clear_value u
    have ce := fun d => hu.trans (State.errorLogged_serves hu.sorted (f := R.ERL_COUNTS_CE) (by unfold ServiceWord; decide) Code.MEM_CE w a d)
    have ue := fun code d => hu.trans (State.errorLogged_serves hu.sorted (f := R.ERL_COUNTS_UE) (by unfold ServiceWord; decide) code w a d)
    split
    · exact (ce _).trans (State.countCe_serves (ce _).sorted _ _ _)
    · exact (ue _ _).trans (State.countUe_serves (ue _ _).sorted _ _)
    · exact ue _ _
    · exact (ue _ _).trans (State.countUe_serves (ue _ _).sorted _ _)
    · exact hu

theorem State.recall_serves (a : Nat) (inv : Bool) : s.ChassisKept ServiceWord (s.recall a inv) := by
  unfold State.recall
  dsimp only
  split
  · exact .refl hs
  · next held _ =>
    cases held with
    | none => exact (State.ChassisKept.refl hs).congr rfl rfl
    | some e => exact (State.storeHome_serves hs (a / 64 * 64) e.1 e.2).congr rfl rfl

theorem State.noteChip_serves (a : Nat) (v : LineView) : s.ChassisKept ServiceWord (s.noteChip a v) :=
  .ite (fun _ => State.errorLogged_serves hs (f := R.ERL_COUNTS_UE) (by unfold ServiceWord; decide) _ _ _ _) fun _ => .refl hs

theorem State.keepLine_serves (sp : Spot) (a : Nat) (v : LineView) : s.ChassisKept ServiceWord (s.keepLine sp a v) := by
  unfold State.keepLine
  extract_lets ls ways u
  have hu : s.ChassisKept ServiceWord u := .ite (fun _ => .refl hs) fun _ => (State.ChassisKept.refl hs).congr rfl rfl
  exact hu.congr rfl rfl

theorem State.readLine_serves (a src : Nat) : s.ChassisKept ServiceWord (s.readLine a src).2 := by
  unfold State.readLine
  extract_lets b u v
  have hu : s.ChassisKept ServiceWord u := State.recall_serves hs _ _
  clear_value u
  split
  · exact hu.trans (State.noteChip_serves hu.sorted _ _)
  · next sp _ =>
    split
    · exact hu
    · split
      · have hh := hu.bumpSat R.SCA_STAT_HITS [homeDie sp, homeSlice sp] 1 (serviceWord_of_above (by decide) _)
        exact hh.trans (State.noteChip_serves hh.sorted _ _)
      · have hn := hu.trans (State.noteRead_serves hu.sorted b v src)
        exact .ite (fun _ => hn.trans (State.keepLine_serves hn.sorted _ _ _)) fun _ => hn

theorem State.writeLine_serves (a : Nat) (data : List Byte) (p : Nat) : s.ChassisKept ServiceWord (s.writeLine a data p) := by
  unfold State.writeLine
  extract_lets b u v
  have hu : s.ChassisKept ServiceWord u := State.recall_serves hs _ _
  have hv : s.ChassisKept ServiceWord v := by
    dsimp only [v]
    split
    · exact .ite (fun _ => hu.bumpSat _ _ _ (serviceWord_of_above (by decide) _)) fun _ => hu
    · exact hu
  exact hv.trans (State.storeHome_serves hv.sorted _ _ _)

theorem State.settleLine_serves (a : Nat) : s.ChassisKept ServiceWord (s.settleLine a) := (State.noteChip_serves hs a (s.mem.chipView a)).congr rfl rfl

/-! Requests to other members and to the host. -/

theorem State.failRequest_serves (q : Req) : s.ChassisKept ServiceWord (s.failRequest q) := by
  have hr := State.ChassisKept.refl (W := ServiceWord) hs
  have done : ∀ h, s.ChassisKept ServiceWord (s.remoteDone h) := fun h => .ite (fun _ => hr.congr rfl rfl) fun _ => hr.congr rfl rfl
  unfold State.failRequest
  split
  · split
    · exact hr
    · split <;> exact hr.congr rfl rfl
  · next h isLoad _ =>
    cases isLoad
    · exact (done h).congr rfl rfl
    · exact hr.congr rfl rfl
  · exact hr.congr rfl rfl
  · exact hr.congr rfl rfl
  · exact hr

theorem State.sendReq_serves (f : Flit) (q : Req) (tag : Nat) : s.ChassisKept ServiceWord (s.sendReq f q tag) := by
  unfold State.sendReq
  have ht : s.ChassisKept ServiceWord (s.takeTag tag) := (State.ChassisKept.refl hs).congr rfl rfl
  have hz := ht.trans ((State.sendRaw_chassisKept ht.sorted { f with age := q.age }).mono fun _ h => serviceWord_of_logTouches (logTouches_of_forwardWord h))
  generalize (s.takeTag tag).sendRaw { f with age := q.age } = z at hz
  obtain ⟨z, dropped⟩ := z
  have hl := hz.trans (State.log_serves hz.sorted Code.ROUTE_DROP linkUnit 0 0)
  exact .ite (fun _ => hl.trans (State.failRequest_serves hl.sorted _)) fun _ => hz.congr rfl rfl

theorem State.sendAny_serves (f : Nat → Flit) (q : Req) : s.ChassisKept ServiceWord (s.sendAny f q) := by
  unfold State.sendAny
  split
  · exact State.sendReq_serves hs _ _ _
  · exact (State.ChassisKept.refl hs).congr rfl rfl

/-- A narrow access waits, and is counted. -/
theorem State.narrowWaits_serves (l : List Ask) (ix : List Nat) :
    s.ChassisKept ServiceWord (State.bumpSat { s with narrowWait := l } R.SCA_NARROW_FULL_WAITS ix) := by
  have h : s.ChassisKept ServiceWord { s with narrowWait := l } := (State.ChassisKept.refl hs).congr rfl rfl
  exact h.bumpSat R.SCA_NARROW_FULL_WAITS ix 1 (serviceWord_of_above (by decide) ix)

theorem State.askRemote_serves (w : Waiter) (m off op lines pmark arg : Nat) (data : List Byte) (addr len : Nat) :
    s.ChassisKept ServiceWord (s.askRemote w m off op lines pmark arg data addr len) := by
  unfold State.askRemote
  extract_lets vc dst u q f
  have hu : s.ChassisKept ServiceWord u := by
    dsimp only [u]
    split
    · split
      · exact (State.ChassisKept.refl hs).congr rfl rfl
      · exact .refl hs
    · exact .refl hs
  clear_value u
  refine .ite (fun _ => ?_) fun _ => hu.trans (State.sendAny_serves hu.sorted _ _)
  exact hu.trans (State.narrowWaits_serves hu.sorted _ _)

theorem State.logPoison_serves (a b c d e : Nat) : s.ChassisKept ServiceWord (s.logPoison a b c d e) := State.log_serves hs _ _ _ _

theorem State.pcieOut_serves (off a : Nat) (data : List Byte) (p : Bool) : s.ChassisKept ServiceWord (s.pcieOut off a data p) := by
  unfold State.pcieOut
  extract_lets u
  have hu : s.ChassisKept ServiceWord u := .ite (fun _ => State.logPoison_serves hs _ _ _ _ _) fun _ => .refl hs
  exact hu.congr rfl rfl

/-! Bytes stored wherever they lie. -/

theorem State.storeLine_serves (a : Nat) (data : List Byte) (p : Nat) : s.ChassisKept ServiceWord (s.storeLine a data p) := by
  unfold State.storeLine
  split
  · split
    · exact State.askRemote_serves hs _ _ _ _ _ _ _ _ _ _
    · have hl := State.logPoison_serves hs 0x08 linkUnit s.curQueue a 0
      exact hl.trans (State.askRemote_serves hl.sorted _ _ _ _ _ _ _ _ _ _)
  · exact State.pcieOut_serves hs _ _ _ _
  · exact State.writeLine_serves hs _ _ _

theorem State.narrowOut_serves (m off a : Nat) (data : List Byte) (p : Bool) : s.ChassisKept ServiceWord (s.narrowOut m off a data p) := by
  unfold State.narrowOut
  refine .foldl (fun u hu i _ => ?_) (.refl hs)
  dsimp only
  split
  · have hl := State.logPoison_serves hu 0x08 linkUnit u.curQueue a 0
    exact hl.trans (State.askRemote_serves hl.sorted _ _ _ _ _ _ _ _ _ _)
  · exact State.askRemote_serves hu _ _ _ _ _ _ _ _ _ _

theorem State.storePart_serves (a : Nat) (data : List Byte) (p : Bool) (src : Nat) : s.ChassisKept ServiceWord (s.storePart a data p src) := by
  unfold State.storePart
  dsimp only
  split
  · exact .refl hs
  · split
    · exact .ite (fun _ => State.storeLine_serves hs _ _ _) fun _ => State.narrowOut_serves hs _ _ _ _ _
    · exact State.pcieOut_serves hs _ _ _ _
    · refine .ite (fun _ => State.writeLine_serves hs _ _ _) fun _ => ?_
      have hr := State.recall_serves hs (s.localAddr a / 64 * 64) true
      split
      · have hl := hr.trans (State.readLine_serves hr.sorted (s.localAddr a / 64 * 64) src)
        exact hl.trans (State.storeHome_serves hl.sorted _ _ _)
      · exact (hr.trans (State.settleLine_serves hr.sorted (s.localAddr a / 64 * 64))).congr rfl rfl

omit hs in
theorem State.storeBytesAux_serves (src : Nat) (p : Bool) (n : Nat) {s : State} (hs : FMap.sorted s.regs = true) (a : Nat) (data : List Byte) :
    s.ChassisKept ServiceWord (State.storeBytesAux src p n s a data) := by
  induction n generalizing s a data with
  | zero => exact .refl hs
  | succ n ih =>
    unfold State.storeBytesAux
    refine .ite (fun _ => .refl hs) fun _ => ?_
    have h := State.storePart_serves hs a (data.take (64 - a % 64)) p src
    exact h.trans (ih h.sorted _ _)

theorem State.storeBytes_serves (a : Nat) (data : List Byte) (p : Bool) (src : Nat) : s.ChassisKept ServiceWord (s.storeBytes a data p src) :=
  State.storeBytesAux_serves src p _ hs a data

end

end Sys2Proof.Machine
end

section
/-! PROOFS. Start-up from memory training to MOD_READY, and recovery (R26, R29, R255, R260, R485, R486, R497, R498, R505, R516). -/

namespace Sys2Proof.Machine
open Sys2Proof

/-! Memory training (R255, R486). -/

/-- The effective maps of an image in force. -/
def State.withMaps (s : State) (w : Weave) : State :=
  { s with boot := { s.boot with stkMask := w.stkMask s.flash, rimMask := w.rimMask s.flash, localU := w.localU } }

theorem State.formMaps_chassisKept {s : State} (hs : FMap.sorted s.regs = true) (w : Weave) : (s.withMaps w).ChassisKept AnyWord (s.formMaps w) := by
  have h : (s.withMaps w).ChassisKept AnyWord (s.withMaps w) := .refl hs
  unfold State.formMaps
  exact .setFld (.setFld (.each (fun u hu d _ => (State.ChassisKept.refl hu).putReg _ _ _ trivial) h) _ _ _ trivial) _ _ _ trivial

theorem State.stageAt_stage (s : State) (n : Nat) : (s.stageAt n).boot.stage = n := rfl

/-- A start-up step reached is shown. -/
theorem State.stageAt_fld {s : State} (hs : FMap.sorted s.regs = true) (n : Nat) : (s.stageAt n).fld R.BSU_STATUS_STAGE = n % 16 :=
  State.fld_setFld_self (s := { s with boot := { s.boot with stage := n } }) hs R.BSU_STATUS_STAGE (by decide) n []

/-- A retirement added changes the flash alone. -/
theorem State.addRas_flashed (s : State) (r : Retired) : ∃ f, (s.addRas r).1 = s.flashed f := by
  unfold State.addRas
  split
  · exact ⟨s.flash, rfl⟩
  · split
    · exact ⟨s.flash, rfl⟩
    · exact ⟨_, rfl⟩

theorem State.foldl_addRas_flashed {α : Type} (r : α → Retired) (l : List α) (s : State) :
    ∃ f, l.foldl (fun s g => (s.addRas (r g)).1) s = s.flashed f := by
  induction l generalizing s with
  | nil => exact ⟨s.flash, rfl⟩
  | cons g l ih =>
    obtain ⟨f, hf⟩ := s.addRas_flashed (r g)
    obtain ⟨f', hf'⟩ := ih (s.addRas (r g)).1
    exact ⟨f', hf'.trans (by rw [hf]; rfl)⟩

/-- A training that failed changes the flash's record, then shows it and fails (R486). -/
theorem State.trainFail_eq (s : State) (stk rim : List Nat) : ∃ f, s.trainFail stk rim = (s.flashed f).showRas.startFail 6 Code.MEM_TRAIN_FAIL := by
  obtain ⟨f, hf⟩ := State.foldl_addRas_flashed (fun g => { kind := 3, rim := false, target := g }) stk s
  obtain ⟨f', hf'⟩ := State.foldl_addRas_flashed (fun g => { kind := 3, rim := true, target := g }) rim (s.flashed f)
  have hrim : (s.flashed f).flashed f' = s.flashed f' := rfl
  refine ⟨f', ?_⟩
  unfold State.trainFail
  rw [hf]
  dsimp only
  rw [hf', hrim]

theorem exec_memTrainingDone {s : State} {w : Weave} (hu : s.up = true) (hw : s.boot.weave = some w) (h6 : s.boot.stage = 6) (fs fr : List Nat) :
    exec (.memTrainingDone fs fr) s = .next (if (failedIn (w.stkMask s.flash) fs).isEmpty && (failedIn (w.rimMask s.flash) fr).isEmpty then
      (s.formMaps w).stageAt 9 else s.trainFail (failedIn (w.stkMask s.flash) fs) (failedIn (w.rimMask s.flash) fr)) := by
  have he : exec (.memTrainingDone fs fr) s = execMemTrainingDone fs fr s := rfl
  rw [he]
  unfold execMemTrainingDone
  rw [hw]
  exact congrArg Host.Outcome.next (if_neg (by simp [hu, h6]))

/-! The harts (R505). -/

/-- A hart of the mask released at the loader. -/
def State.startHart (mask : Nat) (s : State) (h : Nat) : State :=
  if bit mask h then
    (s.setHart h { s.hart h with running := true }).emit (.hartStart h (s.fld R.HRT_START_LOADER_ADDR) (BitVec.ofNat 64 h) (BitVec.ofNat 64 s.flash.deviceId))
  else s

/-- The harts of a list that the mask names run from the loader of `s`; no other hart stops, and the rest of the module is as it was. -/
structure State.HartsStarted (mask : Nat) (l : List Nat) (s u : State) : Prop where
  regs : u.regs = s.regs
  chassis : u.chassis = s.chassis
  running : ∀ g, (s.hart g).running = true → (u.hart g).running = true
  out : ∀ o ∈ s.out, o ∈ u.out
  started : ∀ h ∈ l, bit mask h = true → (u.hart h).running = true ∧
    .hartStart h (s.fld R.HRT_START_LOADER_ADDR) (BitVec.ofNat 64 h) (BitVec.ofNat 64 s.flash.deviceId) ∈ u.out

theorem State.hart_setHart (s : State) (h g : Nat) (v : Hart) : (s.setHart h v).hart g = if g = h then v else s.hart g := by
  unfold State.hart State.setHart FMap.getD
  rw [FMap.find?_put]
  split <;> rfl

theorem State.startHart_started (mask : Nat) (s : State) (h : Nat) : s.HartsStarted mask [h] (s.startHart mask h) := by
  unfold State.startHart
  split
  · next hm =>
    have hrun : ∀ g, (s.hart g).running = true ∨ g = h → ((s.setHart h { s.hart h with running := true }).hart g).running = true := by
      intro g hg
      rw [State.hart_setHart]
      split
      · rfl
      · next hne => exact hg.resolve_right hne
    refine ⟨rfl, rfl, fun g hg => hrun g (.inl hg), fun o ho => List.mem_append_left _ ho, fun g hg _ => ?_⟩
    obtain rfl := List.mem_singleton.1 hg
    exact ⟨hrun g (.inr rfl), List.mem_append_right _ List.mem_cons_self⟩
  · next hm =>
    refine ⟨rfl, rfl, fun _ => id, fun _ => id, fun g hg hb => ?_⟩
    obtain rfl := List.mem_singleton.1 hg
    exact absurd hb hm

theorem State.flash_of_chassis {s t : State} (h : t.chassis = s.chassis) : t.flash = s.flash := congrArg (·.2.2.2.1) h

theorem State.HartsStarted.trans {mask : Nat} {l m : List Nat} {s t u : State} (h : s.HartsStarted mask l t) (g : t.HartsStarted mask m u) :
    s.HartsStarted mask (l ++ m) u := by
  have hload : t.fld R.HRT_START_LOADER_ADDR = s.fld R.HRT_START_LOADER_ADDR := by
    unfold State.fld
    rw [h.regs]
  refine ⟨g.regs.trans h.regs, g.chassis.trans h.chassis, fun k hk => g.running k (h.running k hk), fun o ho => g.out o (h.out o ho), fun k hk hb => ?_⟩
  rcases List.mem_append.1 hk with hk | hk
  · obtain ⟨hr, ho⟩ := h.started k hk hb
    exact ⟨g.running k hr, g.out _ ho⟩
  · rw [← hload, ← State.flash_of_chassis h.chassis]
    exact g.started k hk hb

theorem State.foldl_startHart (mask : Nat) (l : List Nat) (s : State) : s.HartsStarted mask l (l.foldl (State.startHart mask) s) := by
  induction l generalizing s with
  | nil => exact ⟨rfl, rfl, fun _ => id, fun _ => id, fun _ h => absurd h List.not_mem_nil⟩
  | cons h l ih => exact (s.startHart_started mask h).trans (ih _)

/-- The loader's image, padded to full lines. -/
def State.loaderBytes (s : State) : List Byte :=
  padTo (64 * ((((s.boot.fw.map (·.loader)).getD []).length + 63) / 64)) ((s.boot.fw.map (·.loader)).getD [])

/-- The loader copied to its place. -/
def State.loaderStored (s : State) : State := s.storeBytes (s.fld R.HRT_START_LOADER_ADDR) s.loaderBytes false 0

theorem State.startHarts_eq (s : State) : s.startHarts = s.loaderStored.each 16 (State.startHart (s.fld R.HRT_START_HART_MASK)) := rfl

/-- What the release of the harts leaves: the module, and the harts of the mask at the loader. -/
theorem State.startHarts_spec {s : State} (hs : FMap.sorted s.regs = true) :
    s.ChassisKept ServiceWord s.startHarts ∧ ∀ h < 16, bit (s.fld R.HRT_START_HART_MASK) h = true → (s.startHarts.hart h).running = true ∧
      .hartStart h (s.fld R.HRT_START_LOADER_ADDR) (BitVec.ofNat 64 h) (BitVec.ofNat 64 s.flash.deviceId) ∈ s.startHarts.out := by
  have hk : s.ChassisKept ServiceWord s.loaderStored := State.storeBytes_serves hs _ _ _ _
  have hh := State.foldl_startHart (s.fld R.HRT_START_HART_MASK) (List.range 16) s.loaderStored
  rw [State.startHarts_eq]
  refine ⟨hk.congr hh.regs hh.chassis, fun h h16 hb => ?_⟩
  have hload := hk.fld R.HRT_START_LOADER_ADDR [] (fun hne => hne rfl)
  rw [← hload, ← hk.flash]
  exact hh.started h (List.mem_range.2 h16) hb

/-! MOD_READY (R26, R485, R497). -/

/-- The WEAVE counter rises in the flash and in a word of its own, or stays. -/
theorem State.raiseWeave_cases (s : State) : s.raiseWeave = s ∨ ∃ f, s.raiseWeave = (s.flashed f).setFld R.BSU_SVN_WEAVE_COUNTER f.ctrWeave := by
  unfold State.raiseWeave
  split
  · exact .inl rfl
  · next w _ =>
    dsimp only
    split
    · exact .inl rfl
    · exact .inr ⟨{ s.flash with ctrWeave := max s.flash.ctrWeave w.svn }, rfl⟩

theorem State.raiseWeave_spec {s : State} (hs : FMap.sorted s.regs = true) : (∀ o, o ≠ R.BSU_SVN_WEAVE_COUNTER.base → FMap.find? o s.raiseWeave.regs = FMap.find? o s.regs) ∧
    s.raiseWeave.pins = s.pins ∧ s.raiseWeave.boot = s.boot ∧ s.raiseWeave.harts = s.harts ∧ s.raiseWeave.out = s.out := by
  rcases s.raiseWeave_cases with h | ⟨f, h⟩
  · rw [h]
    exact ⟨fun _ _ => rfl, rfl, rfl, rfl, rfl⟩
  · have hf : FMap.sorted (s.flashed f).regs = true := hs
    rw [h]
    exact ⟨fun o ho => State.setFld_find? hf R.BSU_SVN_WEAVE_COUNTER f.ctrWeave [] ho, State.setFld_pins _ _ _ _, State.setFld_boot _ _ _ _,
      State.setFld_harts _ _ _ _, State.setFld_out _ _ _ _⟩

/-- READY, TIME_LOCKED and READY_US of a module that goes ready. -/
def State.readyShown (s : State) (locked : Bool) : State :=
  (({ s with pins := { s.pins with modReady := true } }.setFlag R.BSU_STATUS_READY true).setFlag R.BSU_STATUS_TIME_LOCKED locked).setFld
    R.BSU_STATUS_READY_US ((s.elapsedNs - s.boot.t0) / 1000)

theorem State.goReady_eq (s : State) (locked : Bool) : s.goReady locked = (s.readyShown locked).raiseWeave := rfl

theorem State.readyShown_fields {s : State} (hs : FMap.sorted s.regs = true) (locked : Bool) : FMap.sorted (s.readyShown locked).regs = true ∧
    (s.readyShown locked).flag R.BSU_STATUS_READY = true ∧ (s.readyShown locked).flag R.BSU_STATUS_TIME_LOCKED = locked := by
  have h0 : FMap.sorted (State.regs { s with pins := { s.pins with modReady := true } }) = true := hs
  have h1 : FMap.sorted (State.setFlag { s with pins := { s.pins with modReady := true } } R.BSU_STATUS_READY true).regs = true := State.setFld_sorted h0 _ _ _
  have h2 : FMap.sorted ((State.setFlag { s with pins := { s.pins with modReady := true } } R.BSU_STATUS_READY true).setFlag
    R.BSU_STATUS_TIME_LOCKED locked).regs = true := State.setFld_sorted h1 _ _ _
  have beside : ∀ g : Fld, g.at [] = R.BSU_STATUS_READY.base → g.rst = R.BSU_STATUS_READY.rst → g.lo + g.w ≤ R.BSU_STATUS_READY_US.lo →
      (s.readyShown locked).flag g = ((State.setFlag { s with pins := { s.pins with modReady := true } } R.BSU_STATUS_READY true).setFlag
        R.BSU_STATUS_TIME_LOCKED locked).flag g := fun g ha hr hl => by
    unfold State.flag
    rw [State.readyShown, State.fld_setFld_beside h2 (f := R.BSU_STATUS_READY_US) (g := g) (by decide) ha hr (.inl hl)]
  refine ⟨State.setFld_sorted h2 _ _ _, ?_, ?_⟩
  · rw [beside R.BSU_STATUS_READY rfl rfl (by decide),
      State.flag_setFlag_beside h1 (f := R.BSU_STATUS_TIME_LOCKED) (g := R.BSU_STATUS_READY) (by decide) rfl rfl (.inl (by decide))]
    exact State.flag_setFlag_self h0 R.BSU_STATUS_READY (by decide) (by decide) true []
  · rw [beside R.BSU_STATUS_TIME_LOCKED rfl rfl (by decide)]
    exact State.flag_setFlag_self h1 R.BSU_STATUS_TIME_LOCKED (by decide) (by decide) locked []

theorem State.goReady_spec {s : State} (hs : FMap.sorted s.regs = true) (locked : Bool) :
    (s.goReady locked).pins = { s.pins with modReady := true } ∧ (s.goReady locked).boot = s.boot ∧ (s.goReady locked).harts = s.harts ∧
      (s.goReady locked).out = s.out ∧ (s.goReady locked).flag R.BSU_STATUS_READY = true ∧ (s.goReady locked).flag R.BSU_STATUS_TIME_LOCKED = locked := by
  obtain ⟨hsort, hready, hlock⟩ := State.readyShown_fields hs locked
  obtain ⟨hregs, hpins, hboot, hharts, hout⟩ := State.raiseWeave_spec hsort
  have flags : ∀ f : Fld, f.at [] ≠ R.BSU_SVN_WEAVE_COUNTER.base → (s.readyShown locked).raiseWeave.flag f = (s.readyShown locked).flag f := fun f hf => by
    unfold State.flag State.fld FMap.getD
    rw [hregs _ hf]
  rw [State.goReady_eq]
  exact ⟨hpins, hboot, hharts, hout, (flags _ (by decide)).trans hready, (flags _ (by decide)).trans hlock⟩

theorem exec_modReadyRise {s : State} (hu : s.up = true) (hp : s.boot.stage = 10 ∨ (s.boot.stage = 9 ∧ (s.timed = false ∨ s.time.locked = true)))
    (hk : s.boot.keyReady = true) (hj : s.job.running = false) (ht : s.sb.trip = false) (hr : s.flag R.BSU_STATUS_READY = false) :
    exec .modReadyRise s = .next (((s.stageAt 10).startHarts).goReady (s.time.locked && s.boot.stage == 9)) := by
  refine congrArg Host.Outcome.next (if_pos ?_)
  rcases hp with h10 | ⟨h9, hl | hl⟩
  · simp [hu, h10, hk, hj, ht, hr]
  · simp [hu, h9, hl, hk, hj, ht, hr]
  · simp [hu, h9, hl, hk, hj, ht, hr]

/-! Recovery (R29, R498, R516). -/

/-- A recovery image taken. -/
def State.recovering (s : State) (i : FwImage) : State :=
  { s with boot := { s.boot with fw := some i, listening := false, recoveryRun := true }, pins := { s.pins with modReady := !s.boot.failed } }

/-- A recovery image accepted runs alone, and MOD_READY is high unless start-up has failed. -/
theorem State.tryRecovery_of_accepted {s : State} (hs : FMap.sorted s.regs = true) {i : Option FwImage} {j : FwImage} (h : s.flash.accepts i = some j) :
    (s.tryRecovery i).boot = { s.boot with fw := some j, listening := false, recoveryRun := true } ∧
      (s.tryRecovery i).pins = { s.pins with modReady := !s.boot.failed } := by
  have hk := State.log_chassisKept (s := s.recovering j) hs Code.RECOVERY_BOOT bsuUnit 0 0
  unfold State.tryRecovery
  rw [h]
  exact ⟨hk.boot, hk.pins⟩

theorem State.tryRecovery_of_refused {s : State} {i : Option FwImage} (h : s.flash.accepts i = none) :
    s.tryRecovery i = { s with boot := { s.boot with forever := true, recvd := [], recvBegun := false } } := by
  unfold State.tryRecovery
  rw [h]

theorem exec_recoveryListenTimeout {s : State} (hl : s.boot.listening = true) (hf : s.boot.forever = false) (hb : s.boot.recvBegun = false) :
    exec .recoveryListenTimeout s = .next (s.tryRecovery s.flash.recovery) :=
  congrArg Host.Outcome.next (if_pos (by simp [hl, hf, hb]))

theorem exec_recoveryEndFrame {s : State} (hl : s.boot.listening = true) (hb : s.boot.recvBegun = true) :
    exec .recoveryEndFrame s = .next (s.tryRecovery (some (FwImage.parse
      ((List.range ((s.boot.recvd.getLast?.map fun e => e.1 + 1).getD 0)).map fun k => FMap.getD s.boot.recvd k 0)))) :=
  congrArg Host.Outcome.next (if_pos (by simp [hl, hb]))

/-- The bytes of a frame put one by one at their offsets. -/
theorem find?_foldl_put_zipIdx {α : Type} (off : Nat) (d : α) (data : List α) (k : Nat) (m : FMap α) (a : Nat) :
    FMap.find? a ((data.zipIdx k).foldl (fun m e => FMap.put (off + e.2) e.1 m) m) =
      if off + k ≤ a ∧ a < off + k + data.length then some (data.getD (a - (off + k)) d) else FMap.find? a m := by
  induction data generalizing k m with
  | nil =>
    rw [if_neg (by simp only [List.length_nil]; omega)]
    rfl
  | cons b data ih =>
    rw [List.zipIdx_cons, List.foldl_cons, ih, FMap.find?_put, List.length_cons]
    rcases Nat.lt_trichotomy a (off + k) with h | h | h
    · rw [if_neg (by omega), if_neg (by omega), if_neg (by omega)]
    · subst h
      rw [if_neg (by omega), if_pos rfl, if_pos (by omega), Nat.sub_self, List.getD_cons_zero]
    · obtain ⟨n, hn⟩ : ∃ n, a - (off + k) = n + 1 := ⟨a - (off + k) - 1, by omega⟩
      rw [if_neg (show a ≠ off + k by omega), hn, List.getD_cons_succ, show a - (off + (k + 1)) = n by omega]
      by_cases hlt : a < off + k + (data.length + 1)
      · rw [if_pos (by omega), if_pos (by omega)]
      · rw [if_neg (by omega), if_neg (by omega)]

theorem exec_recoveryDataFrame {s : State} {off : Nat} {data : List Byte} (hl : s.boot.listening = true) (ho : off + data.length ≤ FlashRegion.recovery.size)
    (hd : data.length ≤ 8192) : exec (.recoveryDataFrame off data) s =
      .next { s with boot := { s.boot with recvBegun := true, recvd := data.zipIdx.foldl (fun m e => m.put (off + e.2) e.1) s.boot.recvd } } :=
  congrArg Host.Outcome.next (if_pos (by simp [hl, ho, hd]))

end Sys2Proof.Machine

namespace Sys2Proof.Claims
open Machine

section
variable {s : State} (hs : FMap.sorted s.regs = true)
include hs

/-- Every channel in use trained: the maps are formed (R255, R260). -/
theorem memTrainingDone_forms {w : Weave} (hu : s.up = true) (hw : s.boot.weave = some w) (h6 : s.boot.stage = 6) {fs fr : List Nat}
    (hfs : failedIn (w.stkMask s.flash) fs = []) (hfr : failedIn (w.rimMask s.flash) fr = []) :
    ∃ t, exec (.memTrainingDone fs fr) s = .next t ∧ t.boot.stage = 9 ∧ t.boot.stkMask = w.stkMask s.flash ∧ t.boot.rimMask = w.rimMask s.flash ∧
      t.boot.localU = w.localU ∧ t.boot.failed = s.boot.failed ∧ t.fld R.BSU_STATUS_STAGE = 9 := by
  have hk := State.formMaps_chassisKept hs w
  obtain ⟨hstk, hrim, hlocal, hfailed⟩ : (s.formMaps w).boot.stkMask = w.stkMask s.flash ∧ (s.formMaps w).boot.rimMask = w.rimMask s.flash ∧
      (s.formMaps w).boot.localU = w.localU ∧ (s.formMaps w).boot.failed = s.boot.failed := by
    rw [hk.boot]
    exact ⟨rfl, rfl, rfl, rfl⟩
  exact ⟨_, (exec_memTrainingDone hu hw h6 fs fr).trans (congrArg _ (if_pos (by simp [hfs, hfr]))), State.stageAt_stage _ _, hstk, hrim, hlocal, hfailed,
    State.stageAt_fld hk.sorted 9⟩

/-- A channel in use failed: start-up fails at step 6 (R486). -/
theorem memTrainingDone_fails {w : Weave} (hu : s.up = true) (hw : s.boot.weave = some w) (h6 : s.boot.stage = 6) {fs fr : List Nat}
    (hf : failedIn (w.stkMask s.flash) fs ≠ [] ∨ failedIn (w.rimMask s.flash) fr ≠ []) :
    ∃ t, exec (.memTrainingDone fs fr) s = .next t ∧ t.boot.failed = true ∧ t.boot.stage = 6 ∧ t.sb.startFail = true ∧
      t.fld R.BSU_STATUS_LAST_CODE = Code.MEM_TRAIN_FAIL ∧ t.pins = s.pins := by
  obtain ⟨f, htf⟩ := s.trainFail_eq (failedIn (w.stkMask s.flash) fs) (failedIn (w.rimMask s.flash) fr)
  have hr := State.showRas_chassisKept (s := s.flashed f) hs
  have hk := State.startFail_chassisKept hr.sorted 6 Code.MEM_TRAIN_FAIL
  obtain ⟨-, -, hcode, -⟩ := State.startFail_fields hr.sorted 6 Code.MEM_TRAIN_FAIL
  have hne : ¬ ((failedIn (w.stkMask s.flash) fs).isEmpty && (failedIn (w.rimMask s.flash) fr).isEmpty) = true := by
    simpa [List.isEmpty_iff, imp_iff_not_or] using hf
  have hboot : ((s.flashed f).showRas.startFail 6 Code.MEM_TRAIN_FAIL).boot = ((s.flashed f).showRas.failedAt 6 Code.MEM_TRAIN_FAIL).boot := hk.boot
  have hsb : ((s.flashed f).showRas.startFail 6 Code.MEM_TRAIN_FAIL).sb = ((s.flashed f).showRas.failedAt 6 Code.MEM_TRAIN_FAIL).sb := hk.sb
  have hpins : ((s.flashed f).showRas.startFail 6 Code.MEM_TRAIN_FAIL).pins = (s.flashed f).showRas.pins := hk.pins
  refine ⟨_, (exec_memTrainingDone hu hw h6 fs fr).trans (congrArg _ ((if_neg hne).trans htf)), ?_, ?_, ?_, hcode, hpins.trans hr.pins⟩
  · rw [hboot]
    rfl
  · rw [hboot]
    rfl
  · rw [hsb]
    rfl

/-- Start-up goes on without time lock (R485). -/
theorem timeLockTimeout_goesOn (hu : s.up = true) (h9 : s.boot.stage = 9) (ht : s.timed = true) (hl : s.time.locked = false) :
    ∃ t, exec .timeLockTimeout s = .next t ∧ t.boot.stage = 10 ∧ t.fld R.BSU_STATUS_STAGE = 10 ∧ t.time = s.time ∧
      LoggedAt s t Code.TIME_UNLOCKED bsuUnit := by
  have hk := State.log_chassisKept hs Code.TIME_UNLOCKED bsuUnit 0 0
  have hlog : LoggedAt s (s.log Code.TIME_UNLOCKED bsuUnit) Code.TIME_UNLOCKED bsuUnit := by
    rw [State.log_eq_logFull s (by decide) (by decide)]
    exact State.logFull_loggedAt hs (by decide) _ _ _ _ _
  refine ⟨(s.log Code.TIME_UNLOCKED bsuUnit).stageAt 10, congrArg Host.Outcome.next (if_pos (by simp [hu, h9, ht, hl])), rfl,
    State.stageAt_fld hk.sorted 10, hk.time, ?_⟩
  have hne : R.ERL_ENTRY_WORD.at [s.fld R.ERL_HEAD_INDEX, 1] ≠ R.BSU_STATUS_STAGE.at [] := by
    have hi := s.head_lt
    simp only [Fld.at, R.ERL_ENTRY_WORD, R.BSU_STATUS_STAGE, dotOff]
    omega
  unfold LoggedAt at hlog ⊢
  rw [← hlog]
  exact congrArg (bits · 0 32) (State.fld_setFld_ne (s := { s.log Code.TIME_UNLOCKED bsuUnit with boot := { (s.log Code.TIME_UNLOCKED bsuUnit).boot with stage := 10 } })
    hk.sorted hne 10)

/-- MOD_READY and READY rise, and the harts of the mask start (R26, R485, R505). -/
theorem modReadyRise_raises (hu : s.up = true) (hp : s.boot.stage = 10 ∨ (s.boot.stage = 9 ∧ (s.timed = false ∨ s.time.locked = true)))
    (hk : s.boot.keyReady = true) (hj : s.job.running = false) (ht : s.sb.trip = false) (hr : s.flag R.BSU_STATUS_READY = false) :
    ∃ t, exec .modReadyRise s = .next t ∧ t.pins = { s.pins with modReady := true } ∧ t.boot.stage = 10 ∧ t.flag R.BSU_STATUS_READY = true ∧
      t.flag R.BSU_STATUS_TIME_LOCKED = (s.time.locked && s.boot.stage == 9) ∧ ∀ h < 16, bit (s.fld R.HRT_START_HART_MASK) h = true → (t.hart h).running = true ∧
        .hartStart h (s.fld R.HRT_START_LOADER_ADDR) (BitVec.ofNat 64 h) (BitVec.ofNat 64 s.flash.deviceId) ∈ t.out := by
  have h10 := State.stageAt_sorted hs 10
  obtain ⟨hkept, hharts⟩ := State.startHarts_spec h10
  obtain ⟨hpins, hboot, hh, hout, hready, hlock⟩ := State.goReady_spec hkept.sorted (s.time.locked && s.boot.stage == 9)
  have start : ∀ f : Fld, f.at [] ≠ R.BSU_STATUS_STAGE.at [] → (s.stageAt 10).fld f = s.fld f := fun f hf =>
    State.fld_setFld_ne (s := { s with boot := { s.boot with stage := 10 } }) hs hf 10
  rw [start _ (by decide), start _ (by decide)] at hharts
  refine ⟨_, exec_modReadyRise hu hp hk hj ht hr, ?_, ?_, hready, hlock, fun h h16 hb => ?_⟩
  · rw [hpins, hkept.pins]
    rfl
  · rw [hboot, hkept.boot]
    rfl
  · obtain ⟨hrun, hmem⟩ := hharts h h16 hb
    unfold State.hart at hrun ⊢
    rw [hh, hout]
    exact ⟨hrun, hmem⟩

/-- An accepted recovery image from either source runs alone (R29, R498). -/
theorem tryRecovery_runs {i : Option FwImage} {j : FwImage} (h : s.flash.accepts i = some j) :
    (s.tryRecovery i).boot.listening = false ∧ (s.tryRecovery i).boot.recoveryRun = true ∧ (s.tryRecovery i).boot.fw = some j ∧
      (s.tryRecovery i).pins.modReady = !s.boot.failed := by
  obtain ⟨hboot, hpins⟩ := State.tryRecovery_of_accepted hs h
  rw [hboot, hpins]
  exact ⟨rfl, rfl, rfl, rfl⟩

end

/-- Settles O3: each step of start-up by the registers it writes, the release of the harts by induction on the bytes stored and the harts started,
a recovery frame by induction on its bytes. -/
theorem startUpSteps : Obligations.StartUpSteps := by
  unfold Obligations.StartUpSteps
  intro s hcanon
  have hs := State.canon_regs hcanon
  refine ⟨fun fs fr w hu hw h6 => ⟨fun hfs hfr => memTrainingDone_forms hs hu hw h6 hfs hfr, fun hf => memTrainingDone_fails hs hu hw h6 hf⟩,
    fun hu h9 ht hl => timeLockTimeout_goesOn hs hu h9 ht hl, fun hu hp hk hj ht hr => modReadyRise_raises hs hu hp hk hj ht hr,
    fun i hl hf hb ha => ⟨_, exec_recoveryListenTimeout hl hf hb, tryRecovery_runs hs ha⟩,
    fun hl hf hb ha => ⟨_, exec_recoveryListenTimeout hl hf hb, State.tryRecovery_of_refused ha⟩,
    fun off data hl ho hd => ⟨_, exec_recoveryDataFrame hl ho hd, rfl, rfl, fun a => ?_⟩,
    fun hl hb => ⟨fun i ha => ⟨_, exec_recoveryEndFrame hl hb, tryRecovery_runs hs ha⟩,
      fun ha => (exec_recoveryEndFrame hl hb).trans (congrArg _ (State.tryRecovery_of_refused ha))⟩⟩
  exact find?_foldl_put_zipIdx off 0 data 0 s.boot.recvd a

end Sys2Proof.Claims
end

section
/-! PROOFS. Droops, ages and the narrow limit (R60, R267): the statement as it is worded fails.

REQUEST_STALE numbers a waiting narrow request by its core, and from 2^19 on the requests that a DMA engine holds. A
canonical state may list a waiting request under a number that is no core's; the command then looks among the held
requests and leaves it as it was. -/

namespace Sys2Proof.Machine
open Sys2Proof

/-- From 2^19 to 2^20 a request's number is the place of one that a DMA engine holds; with none held nothing changes. -/
theorem exec_requestStale_of_noneHeld {s : State} (h : s.narrowWait = []) {r : Nat} (hlo : 2 ^ 19 ≤ r) (hhi : r < 2 ^ 20) :
    exec (.requestStale r) s = .next s := by
  have hnone : s.narrowWait[r - 2 ^ 19]? = none := by rw [h]; rfl
  have hexec : exec (.requestStale r) s = execRequestStale r s := rfl
  rw [hexec, execRequestStale, State.whenUp, if_neg (Nat.not_le.2 hhi), if_pos hlo, hnone, ite_self]

/-- An aged narrow request, listed under 2^19 instead of its core. -/
def strayWaiting : Waiting := { age := 49152, tile := 0, src := 0, stale := false }

/-- A running device where that request waits. -/
def State.strayRequest : State := { State.idleUp with waiting := [(2 ^ 19, strayWaiting)] }

theorem State.strayRequest_canon : State.strayRequest.canon = true := by decide +kernel

theorem State.strayRequest_up : State.strayRequest.up = true := by decide +kernel

end Sys2Proof.Machine

namespace Sys2Proof.Claims
open Machine

/-- Refutes O8: in `State.strayRequest`, canonical and up, REQUEST_STALE of the number 2^19 leaves the aged request that is
listed under it unmarked. -/
theorem not_droopsAndAges : ¬ Obligations.DroopsAndAges := by
  unfold Obligations.DroopsAndAges
  intro h
  obtain ⟨-, -, -, hstale, -, -⟩ := h State.strayRequest State.strayRequest_canon State.strayRequest_up
  obtain ⟨t, ht, hmark, -⟩ := hstale (2 ^ 19) strayWaiting (by decide) rfl (by decide)
  have hsame : State.strayRequest = t := by
    rw [exec_requestStale_of_noneHeld rfl (Nat.le_refl _) (by decide)] at ht
    injection ht
  subst hsame
  exact absurd hmark (by decide)

end Sys2Proof.Claims
end

section
/-! SUPPORT. The tick of the time unit and the pace registers' windows (R38, R41, R520, R522, Table 2-2). -/

namespace Sys2Proof.Machine
open Sys2Proof

/-! A field set is read back where the register words stand in order, and, whatever their order, where the new word is off its
reset value: only then the word is listed. -/

section
variable {s : State} {f g : Fld} {v : Nat} {ix jx : List Nat}

/-- What makes the word of a field read back when the field is set to `v`. -/
def State.Lists (s : State) (f : Fld) (v : Nat) (ix : List Nat) : Prop := FMap.sorted s.regs = true ∨ s.wordWith f v ix ≠ f.rst

theorem State.setFld_regs_of_ne (hw : s.wordWith f v ix ≠ f.rst) : (s.setFld f v ix).regs = FMap.put (f.at ix) (s.wordWith f v ix) s.regs :=
  if_neg hw

theorem State.Lists.frame (h : s.Lists f v ix) {o : Nat} (ho : o ≠ f.at ix) : FMap.find? o (s.setFld f v ix).regs = FMap.find? o s.regs := by
  rcases h with hs | hw
  · exact State.setFld_find? hs f v ix ho
  · rw [State.setFld_regs_of_ne hw, FMap.find?_put_ne ho]

theorem State.Lists.self (h : s.Lists f v ix) (hf : f.fits) : (s.setFld f v ix).fld f ix = v % 2 ^ f.w := by
  rcases h with hs | hw
  · exact State.fld_setFld_self hs f hf v ix
  · rw [State.fld_of_put (State.setFld_regs_of_ne hw), if_pos rfl, s.wordWith_self hf]

theorem State.Lists.beside (h : s.Lists f v ix) (hf : f.fits) (ha : g.at jx = f.at ix) (hr : g.rst = f.rst)
    (hd : g.lo + g.w ≤ f.lo ∨ f.lo + f.w ≤ g.lo) : (s.setFld f v ix).fld g jx = s.fld g jx := by
  rcases h with hs | hw
  · exact State.fld_setFld_beside hs hf ha hr hd v
  · rw [State.fld_of_put (State.setFld_regs_of_ne hw), if_pos ha, s.wordWith_beside hf ha hr hd]

end

/-- Only register words and the count of free values differ. -/
def State.RegsOnly (s t : State) : Prop := t = { s with regs := t.regs, fresh := t.fresh }

theorem State.RegsOnly.trans {s t u : State} (h : s.RegsOnly t) (g : t.RegsOnly u) : s.RegsOnly u := by
  unfold State.RegsOnly at *
  exact g.trans (by rw [h])

theorem State.setFld_regsOnly (s : State) (f : Fld) (v : Nat) (ix : List Nat) : s.RegsOnly (s.setFld f v ix) := rfl

theorem State.free_regsOnly (s : State) : s.RegsOnly s.free.2 := rfl

/-- The offset of a die's pace register, 4 the hub. -/
abbrev paceOff (d : Nat) : Nat := R.GLB_PACE_CD_RATE.at [d]

theorem paceOff_eq (d : Nat) : paceOff d = 64 + 8 * d := by
  simp [paceOff, Fld.at, R.GLB_PACE_CD_RATE, dotOff, Nat.mul_comm]

/-- One die's pace register set: its rate, the least rate and the voltage. -/
def State.setPace (s : State) (d rate least mv : Nat) : State :=
  ((s.setFld R.GLB_PACE_CD_RATE rate [d]).setFld R.GLB_PACE_CD_MIN_RATE least [d]).setFld R.GLB_PACE_CD_VCORE_MV mv [d]

/-- A rate that is not 0 keeps a pace register off its reset value. -/
theorem State.lists_rate {s : State} {d rate : Nat} (h : FMap.sorted s.regs = true ∨ rate % 2 ^ 16 ≠ 0) : s.Lists R.GLB_PACE_CD_RATE rate [d] :=
  h.imp_right fun hr hw => hr ((s.wordWith_self (f := R.GLB_PACE_CD_RATE) (by decide) rate [d]).symm.trans (by rw [hw]; decide))

theorem State.lists_beside_rate {s : State} {d : Nat} (h : FMap.sorted s.regs = true ∨ s.fld R.GLB_PACE_CD_RATE [d] ≠ 0) {f : Fld}
    (hf : f.fits) (ha : R.GLB_PACE_CD_RATE.at [d] = f.at [d]) (hr : R.GLB_PACE_CD_RATE.rst = f.rst) (hl : 16 ≤ f.lo) (v : Nat) : s.Lists f v [d] :=
  h.imp_right fun h0 hw => h0 ((s.wordWith_beside (g := R.GLB_PACE_CD_RATE) hf ha hr (.inl hl) v).symm.trans (by rw [hw, ← hr]; decide))

/-- What a pace register set reads, and that no other word has changed. -/
theorem State.setPace_reads {s : State} {d rate : Nat} (h : FMap.sorted s.regs = true ∨ rate % 2 ^ 16 ≠ 0) (least mv : Nat) :
    (s.setPace d rate least mv).fld R.GLB_PACE_CD_RATE [d] = rate % 2 ^ 16 ∧
      (s.setPace d rate least mv).fld R.GLB_PACE_CD_MIN_RATE [d] = least % 2 ^ 16 ∧
      (s.setPace d rate least mv).fld R.GLB_PACE_CD_VCORE_MV [d] = mv % 2 ^ 16 ∧
      ∀ o, o ≠ paceOff d → FMap.find? o (s.setPace d rate least mv).regs = FMap.find? o s.regs := by
  have hlistsRate : s.Lists R.GLB_PACE_CD_RATE rate [d] := State.lists_rate h
  have hrate := hlistsRate.self (by decide)
  have hsorted := fun hs : FMap.sorted s.regs = true => State.setFld_sorted hs R.GLB_PACE_CD_RATE rate [d]
  have hlistsMin : (s.setFld R.GLB_PACE_CD_RATE rate [d]).Lists R.GLB_PACE_CD_MIN_RATE least [d] :=
    State.lists_beside_rate (f := R.GLB_PACE_CD_MIN_RATE) (h.imp hsorted hrate.trans_ne) (by decide) rfl rfl (by decide) least
  have hrateKept := (hlistsMin.beside (g := R.GLB_PACE_CD_RATE) (jx := [d]) (by decide) rfl rfl (by decide)).trans hrate
  have hmin := hlistsMin.self (by decide)
  have hlistsMv : ((s.setFld R.GLB_PACE_CD_RATE rate [d]).setFld R.GLB_PACE_CD_MIN_RATE least [d]).Lists R.GLB_PACE_CD_VCORE_MV mv [d] :=
    State.lists_beside_rate (f := R.GLB_PACE_CD_VCORE_MV) (h.imp (fun hs => State.setFld_sorted (hsorted hs) _ _ _) hrateKept.trans_ne)
      (by decide) rfl rfl (by decide) mv
  exact ⟨(hlistsMv.beside (g := R.GLB_PACE_CD_RATE) (jx := [d]) (by decide) rfl rfl (by decide)).trans hrateKept,
    (hlistsMv.beside (g := R.GLB_PACE_CD_MIN_RATE) (jx := [d]) (by decide) rfl rfl (by decide)).trans hmin, hlistsMv.self (by decide),
    fun o ho => (hlistsMv.frame ho).trans ((hlistsMin.frame ho).trans (hlistsRate.frame ho))⟩

theorem State.setPace_regsOnly (s : State) (d rate least mv : Nat) : s.RegsOnly (s.setPace d rate least mv) :=
  ((State.setFld_regsOnly _ _ _ _).trans (State.setFld_regsOnly _ _ _ _)).trans (State.setFld_regsOnly _ _ _ _)

theorem State.setPace_sorted {s : State} (hs : FMap.sorted s.regs = true) (d rate least mv : Nat) : FMap.sorted (s.setPace d rate least mv).regs = true :=
  State.setFld_sorted (State.setFld_sorted (State.setFld_sorted hs _ _ _) _ _ _) _ _ _

/-- The supply that a free value reads. -/
def freeSupply (w : Word) : Nat := bits w.toNat 16 16

/-- The step rate that a free value reads, where at least `least` steps a microsecond are made. -/
def freeRate (w : Word) (least : Nat) : Nat := least + bits w.toNat 0 16 % (65536 - least)

/-- The readings of one die for the window that has passed; the hub's register stands behind those of the four dies. -/
def State.paceDie (s : State) (d : Nat) : State :=
  let w := Config.freeWord s.fresh
  let rate := freeRate w (s.leastRate d (freeSupply w))
  s.free.2.setPace d rate (min rate (s.fld R.GLB_PACE_CD_MIN_RATE [d])) (freeSupply w)

theorem State.pace_eq (s : State) : s.pace = (List.range 5).foldl State.paceDie s := by
  refine List.foldl_ext _ _ _ fun u d hd => ?_
  by_cases h : d < 4
  · exact if_pos h
  · obtain rfl : d = 4 := by have := List.mem_range.1 hd; omega
    rfl

theorem State.leastRate_le (s : State) (d mv : Nat) : s.leastRate d mv ≤ 1880 := by
  unfold State.leastRate minRate
  split_ifs <;> decide

theorem freeRate_lt {least : Nat} (h : least ≤ 1880) (w : Word) : freeRate w least < 2 ^ 16 := by
  have := Nat.mod_lt (bits w.toNat 0 16) (show 0 < 65536 - least by omega)
  unfold freeRate
  omega

/-- A free value whose low half-word is not 0 reads a rate that is not 0. -/
theorem freeRate_ne_zero {w : Word} (hw : bits w.toNat 0 16 ≠ 0) (least : Nat) : freeRate w least ≠ 0 := by
  rcases Nat.eq_zero_or_pos least with rfl | hl
  · have := bits_lt w.toNat 0 16
    unfold freeRate
    omega
  · unfold freeRate
    omega

theorem State.fld_congr {s t : State} {f : Fld} {ix : List Nat} (h : FMap.find? (f.at ix) t.regs = FMap.find? (f.at ix) s.regs) :
    t.fld f ix = s.fld f ix := by
  unfold State.fld FMap.getD
  rw [h]

theorem paceOff_mem_map {l : List Nat} {d : Nat} : paceOff d ∈ l.map paceOff ↔ d ∈ l :=
  List.mem_map_of_injective fun a b h => by rw [paceOff_eq, paceOff_eq] at h; omega

/-- The hotspots' words are none of the pace registers, so the least rates stay. -/
theorem State.leastRate_congr {s t : State} {l : List Nat} (hl : ∀ d ∈ l, d < 5)
    (h : ∀ o, o ∉ l.map paceOff → FMap.find? o t.regs = FMap.find? o s.regs) (d mv : Nat) : t.leastRate d mv = s.leastRate d mv := by
  have hoff : R.NRG_DIE_W0_HOTSPOT.at [d] ∉ l.map paceOff := by
    intro hm
    obtain ⟨e, he, heq⟩ := List.mem_map.1 hm
    have h5 := hl e he
    have hbase : 50331904 ≤ R.NRG_DIE_W0_HOTSPOT.at [d] := Nat.le_add_right _ _
    rw [paceOff_eq] at heq
    omega
  unfold State.leastRate
  rw [State.fld_congr (h _ hoff)]

/-- The windows of some dies have ended: each of their registers shows a rate, the least of it and what it last read, and a
supply that allows the rate; no other register word has changed. -/
structure State.Paced (l : List Nat) (s t : State) : Prop where
  only : s.RegsOnly t
  sorted : FMap.sorted s.regs = true → FMap.sorted t.regs = true
  frame : ∀ o, o ∉ l.map paceOff → FMap.find? o t.regs = FMap.find? o s.regs
  least : ∀ d ∈ l, t.fld R.GLB_PACE_CD_MIN_RATE [d] = min (t.fld R.GLB_PACE_CD_RATE [d]) (s.fld R.GLB_PACE_CD_MIN_RATE [d])
  bound : ∀ d ∈ l, t.leastRate d (t.fld R.GLB_PACE_CD_VCORE_MV [d]) ≤ t.fld R.GLB_PACE_CD_RATE [d]

/-- The pace registers read back what is set: the register words stand in order, or no free value reads a rate of 0. -/
def State.PaceReads (s : State) : Prop := FMap.sorted s.regs = true ∨ ∀ n, bits (Config.freeWord n).toNat 0 16 ≠ 0

theorem State.Paced.trans {l m : List Nat} {s t u : State} (h : s.Paced l t) (g : t.Paced m u) (hlm : l.Disjoint m) (hm : ∀ d ∈ m, d < 5) :
    s.Paced (l ++ m) u := by
  have kept : ∀ d ∈ l, FMap.find? (paceOff d) u.regs = FMap.find? (paceOff d) t.regs := fun d hd =>
    g.frame _ (mt paceOff_mem_map.1 (hlm hd))
  refine ⟨h.only.trans g.only, fun hs => g.sorted (h.sorted hs), fun o ho => ?_, fun d hd => ?_, fun d hd => ?_⟩
  · rw [List.map_append, List.mem_append, not_or] at ho
    exact (g.frame o ho.2).trans (h.frame o ho.1)
  · rcases List.mem_append.1 hd with hd | hd
    · rw [State.fld_congr (f := R.GLB_PACE_CD_MIN_RATE) (kept d hd), State.fld_congr (f := R.GLB_PACE_CD_RATE) (kept d hd), h.least d hd]
    · have hfirst : FMap.find? (paceOff d) t.regs = FMap.find? (paceOff d) s.regs := h.frame _ (mt paceOff_mem_map.1 fun hl => hlm hl hd)
      rw [g.least d hd, State.fld_congr (f := R.GLB_PACE_CD_MIN_RATE) hfirst]
  · rcases List.mem_append.1 hd with hd | hd
    · rw [State.leastRate_congr hm g.frame, State.fld_congr (f := R.GLB_PACE_CD_VCORE_MV) (kept d hd),
        State.fld_congr (f := R.GLB_PACE_CD_RATE) (kept d hd)]
      exact h.bound d hd
    · exact g.bound d hd

/-- A register set to a rate that its supply allows. -/
theorem State.setPace_paced {s : State} {d rate mv : Nat} (h : FMap.sorted s.regs = true ∨ rate ≠ 0) (hd : d < 5) (hr : rate < 2 ^ 16)
    (hm : mv < 2 ^ 16) (hl : s.leastRate d mv ≤ rate) : s.Paced [d] (s.free.2.setPace d rate (min rate (s.fld R.GLB_PACE_CD_MIN_RATE [d])) mv) := by
  obtain ⟨hrate, hmin, hmv, hframe⟩ := State.setPace_reads (s := s.free.2) (d := d) (h.imp_right (Nat.mod_eq_of_lt hr).trans_ne)
    (min rate (s.fld R.GLB_PACE_CD_MIN_RATE [d])) mv
  rw [Nat.mod_eq_of_lt hr] at hrate
  rw [Nat.mod_eq_of_lt (Nat.lt_of_le_of_lt (Nat.min_le_left _ _) hr)] at hmin
  rw [Nat.mod_eq_of_lt hm] at hmv
  have hother : ∀ o, o ∉ [d].map paceOff → FMap.find? o (s.free.2.setPace d rate (min rate (s.fld R.GLB_PACE_CD_MIN_RATE [d])) mv).regs =
      FMap.find? o s.regs := fun o ho => hframe o (by simpa using ho)
  refine ⟨s.free_regsOnly.trans (State.setPace_regsOnly _ _ _ _ _), fun hs => State.setPace_sorted hs _ _ _ _, hother, fun e he => ?_,
    fun e he => ?_⟩ <;> obtain rfl := List.mem_singleton.1 he
  · rw [hmin, hrate]
  · rw [State.leastRate_congr (by simpa using hd) hother, hmv, hrate]
    exact hl

theorem State.paceDie_paced {s : State} (h : s.PaceReads) {d : Nat} (hd : d < 5) : s.Paced [d] (s.paceDie d) :=
  State.setPace_paced (h.imp_right fun hw => freeRate_ne_zero (hw _) _) hd (freeRate_lt (s.leastRate_le d _) _) (bits_lt _ _ _) (Nat.le_add_right _ _)

theorem State.foldl_paceDie_paced {l : List Nat} (hn : l.Nodup) (hl : ∀ d ∈ l, d < 5) {s : State} (h : s.PaceReads) :
    s.Paced l (l.foldl State.paceDie s) := by
  induction l generalizing s with
  | nil => exact ⟨rfl, id, fun _ _ => rfl, by simp, by simp⟩
  | cons d l ih =>
    have hd := State.paceDie_paced h (hl d List.mem_cons_self)
    have hl' : ∀ e ∈ l, e < 5 := fun e he => hl e (List.mem_cons_of_mem d he)
    exact hd.trans (ih (List.nodup_cons.1 hn).2 hl' (h.imp_left hd.sorted)) (by simpa using (List.nodup_cons.1 hn).1) hl'

/-- A window of all five dies. -/
theorem State.pace_paced {s : State} (h : s.PaceReads) : s.Paced (List.range 5) s.pace :=
  s.pace_eq ▸ State.foldl_paceDie_paced List.nodup_range (fun _ hd => List.mem_range.1 hd) h

/-! The tick. -/

/-- The time by which one period moves on, in 10^-10 ns (R520). -/
def State.period (s : State) : Nat := (64000000000 + 64 * s.time.ppb).toNat

/-- Device time and elapsed count after one period (R520, R522). -/
def State.aged (s : State) : State :=
  { s with time := { s.time with now := (s.time.now + s.period) % (2 ^ 64 * 10000000000), elapsed := s.time.elapsed + s.period } }

/-- A microsecond ends in the period. -/
abbrev State.crosses (s : State) : Prop := s.time.elapsed / 10000000000000 < (s.time.elapsed + s.period) / 10000000000000

theorem State.reissueAll_of_none {s : State} (h : ∀ e ∈ s.items, e.2.phase ≠ .reissued) : s.reissueAll = s := by
  have hnone : s.items.filter (fun e => e.2.phase == .reissued) = [] := List.filter_eq_nil_iff.2 fun e he => by simpa using h e he
  unfold State.reissueAll
  rw [hnone]
  rfl

section
variable {s : State}

theorem tick_of_held (h : s.pins.modPwrgd = false ∨ s.pins.released = false) : tick s = s :=
  if_neg (by rcases h with h | h <;> simp [h])

theorem tick_of_down (hp : s.pins.modPwrgd = true) (hr : s.pins.released = true) (hu : s.up = false) : tick s = s.aged := by
  simp only [tick, hp, hr, hu, Bool.and_self, Bool.false_and, if_true, Bool.false_eq_true, if_false]
  rfl

variable (hp : s.pins.modPwrgd = true) (hr : s.pins.released = true) (hu : s.up = true) (hi : ∀ e ∈ s.items, e.2.phase ≠ .reissued)
include hp hr hu hi

theorem tick_of_up : tick s = if s.crosses then State.releaseAsks s.tagWait.length s.aged.pace else s.aged := by
  have hnow : tick s = if s.up && decide s.crosses then State.releaseAsks s.aged.tagWait.length s.aged.pace else s.aged := by
    simp only [tick, hp, hr, hu, State.reissueAll_of_none hi, Bool.and_self, if_true]
    rfl
  rw [hnow, hu, Bool.true_and]
  simp only [decide_eq_true_eq]
  rfl

theorem tick_inside (hc : ¬ s.crosses) : tick s = s.aged := (tick_of_up hp hr hu hi).trans (if_neg hc)

theorem tick_crossing (hc : s.crosses) (ht : s.tagWait = []) : tick s = s.aged.pace := by
  rw [tick_of_up hp hr hu hi, if_pos hc, ht]
  rfl

/-- The end of a microsecond ends a window of every die. A canonical state satisfies the last hypothesis (`State.canon_regs`). -/
theorem tick_paced (hc : s.crosses) (ht : s.tagWait = []) (h : s.PaceReads) : s.aged.Paced (List.range 5) (tick s) := by
  rw [tick_crossing hp hr hu hi hc ht]
  exact State.pace_paced h

end

theorem step_of_idle {s : State} (h : s.pending = []) : step s = .next (tick s) := by
  unfold step
  rw [h]

end Sys2Proof.Machine
end

section
/-! PROOFS. What a step runs (R38, R520): what the statement as it is worded comes to.

The statement asks for no canonical form. On a state whose register words do not stand in order, a pace register that a
window returns to its reset value uncovers the word behind it, and the reset value of a RATE is 0. So the statement turns
on whether a free value can read a rate of 0, and a free value has no body to tell. -/

namespace Sys2Proof.Machine
open Sys2Proof

theorem State.setFld_regs_congr {s t : State} (h : t.regs = s.regs) (f : Fld) (v : Nat) (ix : List Nat) :
    (t.setFld f v ix).regs = (s.setFld f v ix).regs := by
  unfold State.setFld
  rw [h]

/-- Die 0's rate and least rate set to 0. -/
def State.paceZero (s : State) : State := (s.setFld R.GLB_PACE_CD_RATE 0 [0]).setFld R.GLB_PACE_CD_MIN_RATE 0 [0]

/-- A window in which die 0 reads the rate 0, where no least rate holds. -/
theorem State.pace_of_zero {s : State} (h : bits (Config.freeWord s.fresh).toNat 0 16 = 0) (hleast : ∀ mv, s.leastRate 0 mv = 0)
    (hs : FMap.sorted s.paceZero.regs = true) : s.pace.fld R.GLB_PACE_CD_RATE [0] = s.paceZero.fld R.GLB_PACE_CD_RATE [0] ∧
      s.pace.fld R.GLB_PACE_CD_MIN_RATE [0] = s.paceZero.fld R.GLB_PACE_CD_MIN_RATE [0] := by
  obtain ⟨mv, hmv⟩ : ∃ mv, mv = freeSupply (Config.freeWord s.fresh) := ⟨_, rfl⟩
  have hdie : s.paceDie 0 = s.free.2.setPace 0 0 0 mv := by
    unfold State.paceDie
    dsimp only
    rw [← hmv, hleast, freeRate, h, Nat.zero_mod, Nat.zero_min]
  have hregs : (s.paceDie 0).regs = (s.paceZero.setFld R.GLB_PACE_CD_VCORE_MV mv [0]).regs := by
    rw [hdie]
    exact State.setFld_regs_congr (State.setFld_regs_congr (State.setFld_regs_congr s.free_regs _ _ _) _ _ _) _ _ _
  have hrest : (s.paceDie 0).Paced [1, 2, 3, 4] s.pace := by
    have hsorted : FMap.sorted (s.paceDie 0).regs = true := by
      rw [hregs]
      exact State.setFld_sorted hs _ _ _
    have hdies : List.range 5 = [0, 1, 2, 3, 4] := by decide
    rw [State.pace_eq, hdies, List.foldl_cons]
    exact State.foldl_paceDie_paced (by decide) (by decide) (.inl hsorted)
  have hword : FMap.find? (paceOff 0) s.pace.regs = FMap.find? (paceOff 0) (s.paceZero.setFld R.GLB_PACE_CD_VCORE_MV mv [0]).regs := by
    rw [hrest.frame (paceOff 0) (by decide), hregs]
  exact ⟨(State.fld_congr (f := R.GLB_PACE_CD_RATE) hword).trans
      (State.fld_setFld_beside hs (f := R.GLB_PACE_CD_VCORE_MV) (g := R.GLB_PACE_CD_RATE) (by decide) rfl rfl (.inl (by decide)) _),
    (State.fld_congr (f := R.GLB_PACE_CD_MIN_RATE) hword).trans
      (State.fld_setFld_beside hs (f := R.GLB_PACE_CD_VCORE_MV) (g := R.GLB_PACE_CD_MIN_RATE) (by decide) rfl rfl (.inl (by decide)) _)⟩

/-- Register words with die 0's pace register listed twice, the reset value first, and a hotspot of 2,047 °C, for which
Table 2-1 gives no least rate. -/
def strayPaceRegs : FMap Word := [(paceOff 0, R.GLB_PACE_CD_RATE.rst), (paceOff 0, 5), (R.NRG_DIE_W0_HOTSPOT.base, 0x7FFF0000)]

section
variable {s : State} (hs : s.regs = strayPaceRegs)
include hs

theorem State.stray_leastRate (mv : Nat) : s.leastRate 0 mv = 0 := by
  unfold State.leastRate State.fld
  rw [hs]
  exact if_neg (by decide +kernel)

theorem State.stray_minRate : s.fld R.GLB_PACE_CD_MIN_RATE [0] = 65535 := by
  unfold State.fld
  rw [hs]
  decide +kernel

/-- The first word goes, and the second stays with its rate. -/
theorem State.stray_paceZero : s.paceZero.regs = [(paceOff 0, 5), (R.NRG_DIE_W0_HOTSPOT.base, 0x7FFF0000)] := by
  have hbase : { State.reset with regs := strayPaceRegs }.paceZero.regs = [(paceOff 0, 5), (R.NRG_DIE_W0_HOTSPOT.base, 0x7FFF0000)] := by
    decide +kernel
  exact (State.setFld_regs_congr (State.setFld_regs_congr hs _ _ _) _ _ _).trans hbase

theorem State.stray_pace (h : bits (Config.freeWord s.fresh).toNat 0 16 = 0) :
    s.pace.fld R.GLB_PACE_CD_RATE [0] = 5 ∧ s.pace.fld R.GLB_PACE_CD_MIN_RATE [0] = 0 := by
  have hzero := State.stray_paceZero hs
  obtain ⟨hrate, hmin⟩ := State.pace_of_zero h (State.stray_leastRate hs) (by rw [hzero]; decide)
  rw [hrate, hmin]
  unfold State.fld
  rw [hzero]
  decide +kernel

end

/-- A running device with these words, where a microsecond ends within the period. -/
def State.strayPace : State := { State.idleUp with regs := strayPaceRegs, time := { State.idleUp.time with elapsed := 9999999999999 } }

/-- That device with another free value next. -/
def State.strayPaceAt (n : Nat) : State := { State.strayPace with fresh := n }

theorem State.strayPaceAt_up (n : Nat) : (State.strayPaceAt n).up = true := by
  have hup : State.strayPace.up = true := by decide +kernel
  have hfresh : ∀ s : State, { s with fresh := n }.up = s.up := fun _ => rfl
  exact (hfresh State.strayPace).trans hup

theorem State.strayPaceAt_crosses (n : Nat) : (State.strayPaceAt n).crosses := by
  have hcross : State.strayPace.crosses := by decide +kernel
  exact hcross

end Sys2Proof.Machine

namespace Sys2Proof.Claims
open Machine

/-- What the statement says of the end of a microsecond, for die 0. -/
theorem stepRunsFront_least (h : Obligations.StepRunsFront) {s : State} (hq : s.pending = []) (hp : s.pins.modPwrgd = true)
    (hr : s.pins.released = true) (hu : s.up = true) (hi : s.items = []) (hc : s.crosses) (ht : s.tagWait = []) :
    s.aged.pace.fld R.GLB_PACE_CD_MIN_RATE [0] = min (s.aged.pace.fld R.GLB_PACE_CD_RATE [0]) (s.fld R.GLB_PACE_CD_MIN_RATE [0]) := by
  have hnone : ∀ e ∈ s.items, e.2.phase ≠ .reissued := by simp [hi]
  obtain ⟨-, h⟩ := h
  obtain ⟨hrun, -⟩ := h s hq
  obtain ⟨t, hstep, -, hleast, -⟩ := ((hrun hp hr).2 hu hnone).2 hc ht
  have hpace : s.aged.pace = t := by
    rw [step_of_idle hq, tick_crossing hp hr hu hnone hc ht] at hstep
    injection hstep
  rw [hpace]
  exact hleast 0 (by decide)

/-- The statement comes to this: no free value reads a rate of 0. Nothing can be proved of a free value, so neither the
statement nor its negation can; on canonical states `tick_paced` gives what it says of the windows. -/
theorem stepRunsFront_iff : Obligations.StepRunsFront ↔ ∀ n, bits (Config.freeWord n).toNat 0 16 ≠ 0 := by
  constructor
  · intro h n h0
    have hleast := stepRunsFront_least h (s := State.strayPaceAt n) rfl rfl rfl (State.strayPaceAt_up n) rfl (State.strayPaceAt_crosses n) rfl
    have hregs : (State.strayPaceAt n).aged.regs = strayPaceRegs := rfl
    obtain ⟨hrate, hmin⟩ := State.stray_pace hregs h0
    rw [hrate, hmin, State.stray_minRate rfl] at hleast
    exact absurd hleast (by decide)
  · intro hw
    refine ⟨fun _ _ => rfl, fun s hq => ?_⟩
    intro d aged crosses
    rw [step_of_idle hq]
    refine ⟨fun hp hr => ⟨fun hu => congrArg _ (tick_of_down hp hr hu), fun hu hi =>
      ⟨fun hc => congrArg _ (tick_inside hp hr hu hi hc), fun hc ht => ?_⟩⟩, fun h => congrArg _ (tick_of_held h)⟩
    obtain ⟨honly, -, hframe, hleast, hbound⟩ := tick_paced hp hr hu hi hc ht (.inr hw)
    have hdie : ∀ {d : Nat}, d < 4 → d ∈ List.range 5 := fun h => List.mem_range.2 (Nat.lt_succ_of_lt h)
    exact ⟨tick s, rfl, honly, fun d hd => hleast d (hdie hd), hleast 4 (by decide), fun d hd => hbound d (hdie hd), hbound 4 (by decide), hframe⟩

end Sys2Proof.Claims
end

section
/-! SUPPORT. What logging, sending, interrupting and serving memory reach: register words, memory, the ports' send paths, the requests with their TAGs, the harts and what is sent. Everything else of the state is as it was. -/

namespace Sys2Proof.Machine
open Sys2Proof

/-- A state with the parts of another that logging, sending and serving memory reach. -/
def State.besides (s t : State) : State :=
  { s with regs := t.regs, hubPoison := t.hubPoison, mem := t.mem, ports := t.ports, reqs := t.reqs, nextTag := t.nextTag, tagUsed := t.tagUsed,
           tagWait := t.tagWait, harts := t.harts, out := t.out, fresh := t.fresh }

/-- A port with flits put at the end of its send path. -/
def Port.queued (p : Port) (l : List Flit) : Port := { p with txq := p.txq ++ l }

theorem Port.queued_nil (p : Port) : p.queued [] = p := by simp [Port.queued]

theorem Port.queued_queued (p : Port) (l m : List Flit) : (p.queued l).queued m = p.queued (l ++ m) := by simp [Port.queued]

theorem State.port_modPort_self (s : State) (k : Nat) (f : Port → Port) : (s.modPort k f).port k = f (s.port k) := by
  unfold State.modPort State.setPort State.port
  rw [FMap.getD, FMap.find?_put_self]; rfl

theorem State.port_modPort_ne (s : State) {k j : Nat} (h : j ≠ k) (f : Port → Port) : (s.modPort k f).port j = s.port j := by
  unfold State.modPort State.setPort State.port
  rw [FMap.getD, FMap.find?_put_ne h, ← FMap.getD]

/-- The register words that satisfy `W` may differ, and flits may have been put on their way; the parts of the state that sending and serving memory do not reach are as they were. -/
structure State.Aside (W : Nat → Prop) (s t : State) : Prop where
  sorted : FMap.sorted t.regs = true
  regs : ∀ o, ¬ W o → FMap.find? o t.regs = FMap.find? o s.regs
  only : t = s.besides t
  ports : ∀ j, ∃ l, t.port j = (s.port j).queued l

namespace State.Aside
variable {W V : Nat → Prop} {s t u : State}

theorem refl (hs : FMap.sorted s.regs = true) : s.Aside W s := ⟨hs, fun _ _ => rfl, rfl, fun _ => ⟨[], (Port.queued_nil _).symm⟩⟩

theorem trans (h : s.Aside W t) (g : t.Aside W u) : s.Aside W u where
  sorted := g.sorted
  regs o ho := (g.regs o ho).trans (h.regs o ho)
  only := g.only.trans ((congrArg (State.besides · u) h.only).trans rfl)
  ports j := by
    obtain ⟨l, hl⟩ := h.ports j
    obtain ⟨m, hm⟩ := g.ports j
    exact ⟨l ++ m, by rw [hm, hl, Port.queued_queued]⟩

theorem mono (h : s.Aside W t) (hW : ∀ o, W o → V o) : s.Aside V t := { h with regs := fun o ho => h.regs o fun hw => ho (hW o hw) }

/-- Of a state reached, parts that sending and serving memory reach may differ further, but for the registers and the ports. -/
theorem congr (h : s.Aside W t) (hr : u.regs = t.regs) (hp : u.ports = t.ports) (ho : u = t.besides u) : s.Aside W u :=
  h.trans ⟨hr ▸ h.sorted, fun _ _ => by rw [hr], ho, fun j => ⟨[], by rw [Port.queued_nil, State.port, hp]; rfl⟩⟩

theorem setFld (h : s.Aside W t) (f : Fld) (v : Nat) (ix : List Nat) (hf : W (f.at ix)) : s.Aside W (t.setFld f v ix) :=
  h.trans ⟨State.setFld_sorted h.sorted f v ix, fun _ ho => State.setFld_find? h.sorted f v ix fun e => ho (e ▸ hf), rfl, fun _ => ⟨[], (Port.queued_nil _).symm⟩⟩

theorem bump (h : s.Aside W t) (f : Fld) (ix : List Nat) (d : Nat) (hf : W (f.at ix)) : s.Aside W (t.bump f ix d) := h.setFld f _ ix hf

theorem bumpSat (h : s.Aside W t) (f : Fld) (ix : List Nat) (d : Nat) (hf : W (f.at ix)) : s.Aside W (t.bumpSat f ix d) := h.setFld f _ ix hf

theorem setFldBit (h : s.Aside W t) (f : Fld) (i : Nat) (b : Bool) (ix : List Nat) (hf : W (f.at ix)) : s.Aside W (t.setFldBit f i b ix) :=
  h.setFld f _ ix hf

theorem free (h : s.Aside W t) : s.Aside W t.free.2 := h.congr rfl rfl rfl

theorem withMem (h : s.Aside W t) (m : Mem) : s.Aside W { t with mem := m } := h.congr rfl rfl rfl

theorem withReqs (h : s.Aside W t) (r : FMap Req) : s.Aside W { t with reqs := r } := h.congr rfl rfl rfl

theorem withTagWait (h : s.Aside W t) (l : List Ask) : s.Aside W { t with tagWait := l } := h.congr rfl rfl rfl

theorem takeTag (h : s.Aside W t) (tag : Nat) : s.Aside W (t.takeTag tag) := h.congr rfl rfl rfl

/-- A flit at the end of a port's send path. -/
theorem sent (h : s.Aside W t) (k : Nat) (f : Flit) : s.Aside W (t.modPort k fun p => { p with txq := p.txq ++ [f] }) :=
  h.trans ⟨h.sorted, fun _ _ => rfl, rfl, fun j => by
    by_cases hj : j = k
    · subst hj
      exact ⟨[f], State.port_modPort_self t j _⟩
    · exact ⟨[], (State.port_modPort_ne t hj _).trans (Port.queued_nil _).symm⟩⟩

theorem ite {p : Prop} [Decidable p] (h : p → s.Aside W t) (g : ¬ p → s.Aside W u) : s.Aside W (if p then t else u) := by
  split
  · exact h ‹_›
  · exact g ‹_›

theorem foldl {α : Type} {f : State → α → State} {l : List α} (hf : ∀ u : State, FMap.sorted u.regs = true → ∀ a ∈ l, u.Aside W (f u a))
    (h : s.Aside W t) : s.Aside W (l.foldl f t) := by
  induction l generalizing t with
  | nil => exact h
  | cons a l ih => exact ih (fun u hu b hb => hf u hu b (List.mem_cons_of_mem _ hb)) (h.trans (hf t h.sorted a List.mem_cons_self))

/-- A field of a word that stays reads as before. -/
theorem fld (h : s.Aside W t) (f : Fld) (ix : List Nat) (hf : ¬ W (f.at ix)) : t.fld f ix = s.fld f ix := State.fld_congr (h.regs _ hf)

theorem flag (h : s.Aside W t) (f : Fld) (ix : List Nat) (hf : ¬ W (f.at ix)) : t.flag f ix = s.flag f ix := by
  unfold State.flag
  rw [h.fld f ix hf]

theorem items (h : s.Aside W t) : t.items = s.items := (congrArg State.items h.only).trans rfl
theorem reeds (h : s.Aside W t) : t.reeds = s.reeds := (congrArg State.reeds h.only).trans rfl
theorem staged (h : s.Aside W t) : t.staged = s.staged := (congrArg State.staged h.only).trans rfl
theorem atBoundary (h : s.Aside W t) : t.atBoundary = s.atBoundary := (congrArg State.atBoundary h.only).trans rfl
theorem epo (h : s.Aside W t) : t.epo = s.epo := (congrArg State.epo h.only).trans rfl
theorem train (h : s.Aside W t) : t.train = s.train := (congrArg State.train h.only).trans rfl
theorem time (h : s.Aside W t) : t.time = s.time := (congrArg State.time h.only).trans rfl
theorem cols (h : s.Aside W t) : t.cols = s.cols := (congrArg State.cols h.only).trans rfl
theorem gates (h : s.Aside W t) : t.gates = s.gates := (congrArg State.gates h.only).trans rfl
theorem fw (h : s.Aside W t) : t.fw = s.fw := (congrArg State.fw h.only).trans rfl
theorem roster (h : s.Aside W t) : t.roster = s.roster := (congrArg State.roster h.only).trans rfl
theorem job (h : s.Aside W t) : t.job = s.job := (congrArg State.job h.only).trans rfl

end State.Aside

/-! The error log with its mirror and its interrupt, and flits put on their way. -/

theorem logTouches_of_logControl {o : Nat} (h : LogControl o) : Claims.LogTouches o = true := logTouches_of_logWord (i := 0) (by decide) (.inr (.inl h))

theorem logTouches_of_trafficWord {o : Nat} (h : TrafficWord o) : Claims.LogTouches o = true :=
  logTouches_of_logWord (i := 0) (by decide) (.inr (.inr (.inr h)))

section
variable {s : State} (hs : FMap.sorted s.regs = true)
include hs

theorem State.logEntry_aside (code unit sev epoch addr detail : Nat) (m : Bool) :
    s.Aside (Claims.LogTouches · = true) (s.logEntry code unit sev epoch addr detail m) := by
  rw [State.logEntry_eq]
  have word : ∀ u : State, FMap.sorted u.regs = true → ∀ k ∈ List.range 8, ∀ x, u.Aside (Claims.LogTouches · = true)
      ((u.markReg (R.ERL_ENTRY_WORD.at [s.fld R.ERL_HEAD_INDEX, k]) false).setFld R.ERL_ENTRY_WORD x [s.fld R.ERL_HEAD_INDEX, k]) :=
    fun u hu k hk x => ((State.Aside.refl hu).congr (u := u.markReg _ false) rfl rfl rfl).setFld _ _ _
      (logTouches_of_logWord s.head_lt (.inl (entryWord_at _ (List.mem_range.1 hk))))
  have hp : s.Aside (Claims.LogTouches · = true) (s.putEntry (s.fld R.ERL_HEAD_INDEX) (s.entryBytes code unit sev epoch addr detail m) (List.range 8)) :=
    .foldl (fun u hu k hk => word u hu k hk _) (.refl hs)
  refine hp.trans ?_
  have hs := hp.sorted
  generalize s.putEntry _ _ _ = u at hs
  unfold State.advanceLog
  extract_lets u1 u2 u3
  have control {f : Fld} (h : LogControl (f.at [])) := logTouches_of_logControl h
  have h3 : u.Aside (Claims.LogTouches · = true) u3 :=
    (((State.Aside.refl hs).setFld R.ERL_HEAD_INDEX _ [] (control (.inr (.inl rfl)))).bump R.ERL_HEAD_SEQ [] _ (control (.inr (.inl rfl)))).setFld
      R.ERL_STATUS_LAST_CODE _ [] (control (.inl rfl))
  clear_value u3
  exact .ite (fun _ => (h3.setFld R.ERL_TAIL_INDEX _ [] (control (.inr (.inr rfl)))).bumpSat R.ERL_STATUS_LOST [] _ (control (.inl rfl)))
    fun _ => h3.bump R.ERL_STATUS_COUNT [] _ (control (.inl rfl))

theorem State.tierAccess_aside (sp : Spot) : s.Aside TrafficWord (s.tierAccess sp) := by
  unfold State.tierAccess
  refine .ite (fun hkey => ?_) fun _ => .refl hs
  have hix := trafficWord_of_key hkey
  have h1 := (State.Aside.refl (W := TrafficWord) hs).bump R.STK_TRAFFIC_LINES _ 1 hix
  exact .ite (fun _ => .ite (fun _ => h1.free.bumpSat R.STK_TRAFFIC_CAP_HOLDS _ 1 hix) fun _ => h1.free) fun _ => h1

theorem State.injected_aside (W : Nat → Prop) (line : Nat) : s.Aside W (s.injected line).2 := by
  unfold State.injected
  split
  · split
    · exact (State.Aside.refl hs).congr rfl rfl rfl
    · exact .refl hs
  · exact .refl hs

theorem State.storeHome_aside (a : Nat) (data : List Byte) (p : Nat) : s.Aside TrafficWord (s.storeHome a data p) := by
  unfold State.storeHome
  extract_lets b m1 m2
  clear_value m2
  split
  · exact (State.Aside.refl hs).withMem _
  · next sp _ =>
    split
    · exact .refl hs
    · extract_lets s1 inj s2 errs m3 m4
      clear_value m4 errs
      have h1 : s.Aside TrafficWord s1 := State.tierAccess_aside hs sp
      have h2 : s.Aside TrafficWord s2 := h1.trans (State.injected_aside h1.sorted _ _)
      exact h2.withMem _

theorem State.logMirrored_aside (code unit sev epoch addr detail : Nat) :
    s.Aside (Claims.LogTouches · = true) (s.logMirrored code unit sev epoch addr detail) := by
  unfold State.logMirrored
  extract_lets base i ma mir u
  have h : s.Aside (Claims.LogTouches · = true) u := State.logEntry_aside hs ..
  exact .ite (fun _ => h.trans ((State.storeHome_aside h.sorted _ _ _).mono fun _ => logTouches_of_trafficWord)) fun _ => h

theorem State.sendRaw_aside (f : Flit) : s.Aside ForwardWord (s.sendRaw f).1 := by
  have drop : s.Aside ForwardWord (s.bumpSat R.NLK_ROUTE_DROP_NO_ROUTE) := (State.Aside.refl hs).bumpSat _ _ _ (.inr rfl)
  unfold State.sendRaw
  split
  · exact drop
  · split
    · exact drop
    · exact (State.Aside.refl hs).sent _ _

theorem State.deliver_aside (W : Nat → Prop) (v : Nat) : s.Aside W (s.deliver v) := by
  unfold State.deliver
  dsimp only
  exact .ite (fun _ => .refl hs) fun _ => (State.Aside.refl hs).congr rfl rfl rfl

theorem State.interruptRaw_aside (src v : Nat) : s.Aside ForwardWord (s.interruptRaw src v).1 := by
  unfold State.interruptRaw
  split
  · split
    · exact .refl hs
    · extract_lets a vec dst f req
      have ha : s.Aside ForwardWord a := (State.Aside.refl hs).setFld R.HRT_PENDING_SOURCES _ [] (.inl rfl)
      clear_value a
      split
      · exact ha.withTagWait _
      · next tag _ =>
        have ht := ha.takeTag tag
        have hz := ht.trans (State.sendRaw_aside ht.sorted { f tag with age := req.age })
        generalize (a.takeTag tag).sendRaw { f tag with age := req.age } = z at hz
        obtain ⟨z1, dropped⟩ := z
        cases dropped
        · exact hz.withReqs _
        · exact hz
  · exact State.deliver_aside hs _ v

theorem State.interruptOnce_aside (src v : Nat) : s.Aside (Claims.LogTouches · = true) (s.interruptOnce src v).1 := by
  unfold State.interruptOnce
  have hz := (State.interruptRaw_aside hs src v).mono fun _ => logTouches_of_forwardWord
  generalize s.interruptRaw src v = z at hz
  obtain ⟨z1, dropped⟩ := z
  exact .ite (fun _ => hz.trans (State.logMirrored_aside hz.sorted _ _ _ _ _ _)) fun _ => hz

theorem State.logInterrupt_aside (sev : Nat) : s.Aside (Claims.LogTouches · = true) (s.logInterrupt sev) :=
  .ite (fun _ => State.interruptOnce_aside hs _ _) fun _ => .refl hs

theorem State.interrupt_aside (src v : Nat) : s.Aside (Claims.LogTouches · = true) (s.interrupt src v) := by
  unfold State.interrupt
  have hz := State.interruptOnce_aside hs src v
  generalize s.interruptOnce src v = z at hz
  exact .ite (fun _ => hz.trans (State.logInterrupt_aside hz.sorted _)) fun _ => hz

theorem State.logFull_aside (code unit sev epoch addr detail : Nat) :
    s.Aside (Claims.LogTouches · = true) (s.logFull code unit sev epoch addr detail) :=
  have h := State.logMirrored_aside hs code unit sev epoch addr detail
  h.trans (State.logInterrupt_aside h.sorted sev)

theorem State.log_aside (code unit addr detail : Nat) : s.Aside (Claims.LogTouches · = true) (s.log code unit addr detail) := by
  have full := fun sev => State.logFull_aside hs code unit sev (s.fld R.EPO_CUR_EPOCH) addr detail
  unfold State.log State.logAt
  refine .ite (fun _ => .ite (fun _ => ?_) fun _ => .refl hs) fun _ => full _
  refine .ite (fun _ => (State.Aside.refl hs).setFld R.ERL_ENTRY_WORD _ _ ?_) fun _ => full _
  exact logTouches_of_logWord (i := s.newest) (Nat.mod_lt _ (by decide)) (.inl (entryWord_at _ (by decide)))

theorem State.sendFlit_aside (f : Flit) : s.Aside (Claims.LogTouches · = true) (s.sendFlit f) := by
  unfold State.sendFlit
  have hz := (State.sendRaw_aside hs (f.stamped s)).mono fun _ => logTouches_of_forwardWord
  generalize s.sendRaw (f.stamped s) = z at hz
  exact .ite (fun _ => hz.trans (State.log_aside hz.sorted _ _ _ _)) fun _ => hz

end

end Sys2Proof.Machine
end

section
/-! SUPPORT. The epoch block: what each part of a change of the mode epoch writes, the switch of a whole staging, and its abandonment (R73 to R77, Table 3-15). -/

namespace Sys2Proof.Machine
open Sys2Proof

/-- Two fields share no bit: they lie in different words, or beside each other in one. -/
abbrev Fld.Apart (g : Fld) (jx : List Nat) (f : Fld) (ix : List Nat) : Prop :=
  g.at jx ≠ f.at ix ∨ f.fits ∧ g.rst = f.rst ∧ (g.lo + g.w ≤ f.lo ∨ f.lo + f.w ≤ g.lo)

theorem State.fld_setFld_apart {s : State} (hs : FMap.sorted s.regs = true) {f g : Fld} {ix jx : List Nat} (h : g.Apart jx f ix) (v : Nat) :
    (s.setFld f v ix).fld g jx = s.fld g jx := by
  by_cases ha : g.at jx = f.at ix
  · obtain hne | ⟨hf, hr, hb⟩ := h
    · exact absurd ha hne
    · exact State.fld_setFld_beside hs hf ha hr hb v
  · exact State.fld_setFld_ne hs ha v

/-- The state with another record of the change of the mode epoch. -/
def State.withEpo (s : State) (e : EpochSt) : State := { s with epo := e }

@[simp] theorem State.withEpo_fld (s : State) (e : EpochSt) (f : Fld) (ix : List Nat) : (s.withEpo e).fld f ix = s.fld f ix := rfl
@[simp] theorem State.withEpo_staged (s : State) (e : EpochSt) : (s.withEpo e).staged = s.staged := rfl
@[simp] theorem State.withEpo_epo (s : State) (e : EpochSt) : (s.withEpo e).epo = e := rfl
@[simp] theorem State.withEpo_regs (s : State) (e : EpochSt) : (s.withEpo e).regs = s.regs := rfl

/-- The state with another staging, and other register words. -/
def State.withStaged (s : State) (l : FMap (Word × Word)) (r : FMap Word) : State := { s with staged := l, regs := r }

@[simp] theorem State.barrierTime_epo (s : State) : s.barrierTime.epo = s.epo := by
  rw [State.barrierTime, State.maxFld_epo, State.setFld_epo]
@[simp] theorem State.showParticipants_epo (s : State) : s.showParticipants.epo = s.epo := State.setFld_epo ..
@[simp] theorem State.barrierTime_staged (s : State) : s.barrierTime.staged = s.staged := by
  rw [State.barrierTime, State.maxFld_staged, State.setFld_staged]
@[simp] theorem State.showParticipants_staged (s : State) : s.showParticipants.staged = s.staged := State.setFld_staged ..

@[simp] theorem State.withStaged_staged (s : State) (l : FMap (Word × Word)) (r : FMap Word) : (s.withStaged l r).staged = l := rfl
@[simp] theorem State.withStaged_epo (s : State) (l : FMap (Word × Word)) (r : FMap Word) : (s.withStaged l r).epo = s.epo := rfl
theorem State.withStaged_fld (s : State) (l : FMap (Word × Word)) (f : Fld) (ix : List Nat) : (s.withStaged l s.regs).fld f ix = s.fld f ix := rfl

end Sys2Proof.Machine

namespace Sys2Proof.Claims.OnlyRegs
open Machine
variable {offs : List Nat} {s t : State}

theorem refl (s : State) : OnlyRegs offs s s := ⟨rfl, id, fun _ _ => rfl⟩

theorem setFld (h : OnlyRegs offs s t) (ht : FMap.sorted t.regs = true) (f : Fld) (v : Nat) (ix : List Nat) (hf : f.at ix ∈ offs) :
    OnlyRegs offs s (t.setFld f v ix) := by
  obtain ⟨he, hp, hr⟩ := h
  refine ⟨?_, hp, fun o ho => (State.setFld_find? ht f v ix fun e => ho (by rw [e]; exact hf)).trans (hr o ho)⟩
  exact congrArg (fun x : State => { x with regs := (t.setFld f v ix).regs, hubPoison := t.hubPoison }) he

end Sys2Proof.Claims.OnlyRegs

namespace Sys2Proof.Claims.WorkKept
open Machine
variable {s t : State}

theorem refl (s : State) : WorkKept s s := ⟨rfl, rfl, rfl, rfl, rfl, rfl⟩
theorem withEpo (h : WorkKept s t) (e : EpochSt) : WorkKept s (t.withEpo e) := h
theorem withStaged (h : WorkKept s t) (l : FMap (Word × Word)) (r : FMap Word) : WorkKept s (t.withStaged l r) := h
theorem setFld (h : WorkKept s t) (f : Fld) (v : Nat) (ix : List Nat) : WorkKept s (t.setFld f v ix) := h
theorem bump (h : WorkKept s t) (f : Fld) (ix : List Nat) (d : Nat) : WorkKept s (t.bump f ix d) := h
theorem maxFld (h : WorkKept s t) (f : Fld) (v : Nat) (ix : List Nat) : WorkKept s (t.maxFld f v ix) := h

theorem barrierShown (h : WorkKept s t) : WorkKept s t.barrierTime.showParticipants :=
  ((h.setFld _ _ _).maxFld _ _ _).setFld _ _ _

end Sys2Proof.Claims.WorkKept

namespace Sys2Proof.Machine
open Sys2Proof

theorem State.whenUp_of_up {s : State} (hup : s.up = true) (f : State → State) : s.whenUp f = f s := if_pos hup

/-- A word of the epoch block. -/
abbrev EpoWord (o : Nat) : Prop := o / 0x1000000 = 1

theorem EpoWord.not_logTouches {o : Nat} (h : EpoWord o) : ¬ Claims.LogTouches o = true := by
  intro hl
  simp only [Claims.LogTouches, Bool.or_eq_true, beq_iff_eq, List.any_eq_true, List.mem_range] at hl
  unfold EpoWord at h
  rcases hl with ((hl | rfl) | rfl) | ⟨k, -, rfl⟩
  · omega
  · exact absurd h (by decide)
  · exact absurd h (by decide)
  · simp only [Fld.at, R.STK_TRAFFIC_LINES, dotOff] at h
    omega

section
variable {s : State} (hs : FMap.sorted s.regs = true)
include hs

/-- A logged code leaves the epoch block. -/
theorem State.log_fld_epo (code unit addr detail : Nat) (f : Fld) (hf : EpoWord (f.at [])) : (s.log code unit addr detail).fld f = s.fld f :=
  (State.log_aside hs code unit addr detail).fld f [] hf.not_logTouches

theorem State.showParticipants_fld {g : Fld} {jx : List Nat} (h : g.Apart jx R.EPO_STATUS_PARTICIPANTS []) : s.showParticipants.fld g jx = s.fld g jx :=
  State.fld_setFld_apart hs h _

theorem State.showParticipants_sorted : FMap.sorted s.showParticipants.regs = true := State.setFld_sorted hs _ _ _

theorem State.barrierTime_sorted : FMap.sorted s.barrierTime.regs = true := State.setFld_sorted (State.setFld_sorted hs _ _ _) _ _ _

/-- The barrier's duration and the count of participants are words of the epoch block. -/
theorem State.barrierShown_keptBut : s.KeptBut EpoWord s.barrierTime.showParticipants :=
  (((State.KeptBut.refl hs).setFld R.EPO_TIMES_LAST_NS _ [] (by decide)).setFld R.EPO_TIMES_MAX_NS _ [] (by decide)).setFld
    R.EPO_STATUS_PARTICIPANTS _ [] (by decide)

theorem State.barrierShown_fld {g : Fld} (h1 : g.at [] ≠ R.EPO_TIMES_LAST_NS.at []) (h2 : g.Apart [] R.EPO_STATUS_PARTICIPANTS []) :
    s.barrierTime.showParticipants.fld g = s.fld g :=
  (State.showParticipants_fld (State.barrierTime_sorted hs) h2).trans
    ((State.fld_setFld_ne (State.setFld_sorted hs _ _ _) (f := R.EPO_TIMES_MAX_NS) (ix := []) h1 _).trans
      (State.fld_setFld_ne hs (f := R.EPO_TIMES_LAST_NS) (ix := []) h1 _))

/-- A staging opens: the participants are shown, STATE is OPEN and ABANDONED stays. -/
theorem State.showOpen_fld :
    (s.showParticipants.setFld R.EPO_STATUS_STATE 1).fld R.EPO_STATUS_STATE = 1 ∧
    (s.showParticipants.setFld R.EPO_STATUS_STATE 1).fld R.EPO_STATUS_ABANDONED = s.fld R.EPO_STATUS_ABANDONED ∧
    (s.showParticipants.setFld R.EPO_STATUS_STATE 1).fld R.EPO_STATUS_PARTICIPANTS = s.participants.length % 65536 := by
  have kp := State.showParticipants_sorted hs
  refine ⟨State.fld_setFld_self kp _ (by decide) _ _, ?_, ?_⟩
  · rw [State.fld_setFld_apart kp (by decide), State.showParticipants_fld hs (by decide)]
  · rw [State.fld_setFld_apart kp (by decide)]
    exact State.fld_setFld_self hs R.EPO_STATUS_PARTICIPANTS (by decide) _ _

end

/-- What waited for a work-item boundary is the staging that opens. -/
def State.opened (s : State) : State :=
  let off := R.TRN_CTL_CLEAR_EVAL_RUNGS.base
  let st := s.atBoundary
  let st := if s.train.clearEval then let e := st.getD off (0, 0); st.put off (e.1 ||| 2, e.2 ||| 2) else st
  { s with staged := st, atBoundary := [], train := { s.train with clearEval := false } }

theorem State.stagePending_eq (s : State) : s.stagePending = s.opened.showParticipants := rfl

/-- A G write of CLEAR_EVAL_RUNGS that waited joins the staging that opens. -/
theorem State.opened_clearEval {s : State} (h : s.train.clearEval = true) :
    ∃ m v, FMap.find? R.TRN_CTL.base s.opened.staged = some (m, v) ∧ bit m.toNat 1 = true ∧ bit v.toNat 1 = true := by
  have hb (x : Word) : bit (x ||| 2).toNat 1 = true := by
    have : (x ||| 2).toNat.testBit 1 = true := by
      rw [BitVec.toNat_or, Nat.testBit_or, show Nat.testBit (BitVec.toNat (2 : Word)) 1 = true by decide, Bool.or_true]
    simpa [bit, Nat.testBit_eq_decide_div_mod_eq] using this
  refine ⟨(s.atBoundary.getD R.TRN_CTL.base (0, 0)).1 ||| 2, (s.atBoundary.getD R.TRN_CTL.base (0, 0)).2 ||| 2, ?_, hb _, hb _⟩
  unfold State.opened
  simp only [h, if_true]
  exact FMap.find?_put_self ..

/-! Maps with rising keys, and the barrier with its end. -/

theorem FMap.mem_of_find? {α : Type} {k : Nat} {v : α} {m : FMap α} (h : FMap.find? k m = some v) : (k, v) ∈ m := by
  induction m with
  | nil => cases h
  | cons e m ih =>
    obtain ⟨k', v'⟩ := e
    unfold FMap.find? at h
    split at h
    · next hk => exact List.mem_cons.2 (.inl (by rw [← hk, ← Option.some.inj h]))
    · split at h
      · cases h
      · exact List.mem_cons_of_mem _ (ih h)

theorem FMap.lt_of_mem {α : Type} {lo : Nat} {m : FMap α} (h : FMap.sortedFrom (some lo) m = true) {e : Nat × α} (he : e ∈ m) : lo < e.1 := by
  induction m generalizing lo with
  | nil => cases he
  | cons x m ih =>
    simp only [FMap.sortedFrom, Bool.and_eq_true, decide_eq_true_eq] at h
    obtain rfl | he := List.mem_cons.1 he
    · exact h.1
    · exact Nat.lt_trans h.1 (ih h.2 he)

/-- An entry that is not the first is found in the rest. -/
theorem FMap.find?_cons_ne {α : Type} {k o : Nat} (hk : k ≠ o) {v w : α} {m : FMap α} (h : FMap.find? o ((k, v) :: m) = some w) : FMap.find? o m = some w := by
  simp only [FMap.find?, hk, if_false] at h
  split at h
  · cases h
  · exact h

/-- PREPARE goes to every participant. -/
def State.prepared (s : State) : State :=
  let u := (s.setFld R.EPO_STATUS_STATE 3).setFld R.EPO_STATUS_ACK_PENDING s.participants.length
  u.withEpo { u.epo with acked := [], t0 := u.elapsedNs }

theorem State.epochBarrier_eq (s : State) : s.epochBarrier = if s.participants.length = 0 then s.prepared.epochSwitch else s.prepared := rfl

/-- With participants the barrier waits for all of them. -/
theorem State.prepared_status {s : State} (hs : FMap.sorted s.regs = true) :
    s.prepared.fld R.EPO_STATUS_STATE = 3 ∧ s.prepared.fld R.EPO_STATUS_ACK_PENDING = s.participants.length % 65536 ∧ s.prepared.epo.acked = [] ∧
      s.prepared.staged = s.staged ∧ Claims.WorkKept s s.prepared := by
  have k1 := State.setFld_sorted hs R.EPO_STATUS_STATE 3 []
  unfold State.prepared
  refine ⟨?_, ?_, by rw [State.withEpo_epo], by rw [State.withEpo_staged, State.setFld_staged, State.setFld_staged], ((Claims.WorkKept.refl s).setFld _ _ _).setFld _ _ _ |>.withEpo _⟩
  · rw [State.withEpo_fld, State.fld_setFld_apart k1 (by decide), State.fld_setFld_self hs R.EPO_STATUS_STATE (by decide)]
    rfl
  · rw [State.withEpo_fld, State.fld_setFld_self k1 R.EPO_STATUS_ACK_PENDING (by decide)]
    simp [R.EPO_STATUS_ACK_PENDING]

theorem State.prepared_items (s : State) : s.prepared.epo.items = s.epo.items := by
  rw [State.prepared, State.withEpo_epo, State.setFld_epo, State.setFld_epo]

section
variable {s : State} (hs : FMap.sorted s.regs = true)
include hs

theorem State.prepared_sorted : FMap.sorted s.prepared.regs = true := by
  rw [State.prepared, State.withEpo_regs]
  exact State.setFld_sorted (State.setFld_sorted hs _ _ _) _ _ _

theorem State.prepared_epoch : s.prepared.fld R.EPO_CUR_EPOCH = s.fld R.EPO_CUR_EPOCH := by
  rw [State.prepared, State.withEpo_fld, State.fld_setFld_apart (State.setFld_sorted hs _ _ _) (by decide), State.fld_setFld_apart hs (by decide)]

end

/-- The live words after some staged ones have gone live. -/
def mergeStaged (l : FMap (Word × Word)) (regs : FMap Word) : FMap Word :=
  l.foldl (fun r e => r.setD e.1 (rstAt e.1) (mergeWord (r.getD e.1 (rstAt e.1)) e.2.1 e.2.2)) regs

theorem mergeStaged_sorted (l : FMap (Word × Word)) {r : FMap Word} (hr : FMap.sorted r = true) : FMap.sorted (mergeStaged l r) = true := by
  induction l generalizing r with
  | nil => exact hr
  | cons e l ih => exact ih (FMap.sorted_setD hr _ _ _)

theorem mergeStaged_find? {l : FMap (Word × Word)} {r : FMap Word} (hr : FMap.sorted r = true) {o : Nat} (ho : ∀ e ∈ l, e.1 ≠ o) :
    FMap.find? o (mergeStaged l r) = FMap.find? o r := by
  induction l generalizing r with
  | nil => rfl
  | cons e l ih =>
    exact (ih (FMap.sorted_setD hr _ _ _) fun x hx => ho x (List.mem_cons_of_mem _ hx)).trans
      (FMap.find?_setD_ne hr (ho e List.mem_cons_self).symm _ _)

/-- A staged word is live with the bits of its mask, the others as they were. -/
theorem mergeStaged_getD {l : FMap (Word × Word)} {r : FMap Word} (hr : FMap.sorted r = true) (hl : FMap.sorted l = true) {o : Nat} {m v : Word}
    (ho : FMap.find? o l = some (m, v)) : FMap.getD (mergeStaged l r) o (rstAt o) = mergeWord (FMap.getD r o (rstAt o)) m v := by
  induction l generalizing r with
  | nil => cases ho
  | cons e l ih =>
    obtain ⟨k, m', v'⟩ := e
    have hr' := FMap.sorted_setD hr k (rstAt k) (mergeWord (r.getD k (rstAt k)) m' v')
    by_cases hk : k = o
    · subst hk
      have hmv : (m', v') = (m, v) := by simpa [FMap.find?] using ho
      obtain ⟨rfl, rfl⟩ := Prod.mk.inj hmv
      have hrest : ∀ x ∈ l, x.1 ≠ k := fun x hx => (FMap.lt_of_mem (FMap.sortedFrom_tail hl) hx).ne'
      unfold FMap.getD
      rw [mergeStaged, List.foldl_cons, ← mergeStaged, mergeStaged_find? hr' hrest]
      exact FMap.getD_setD_self hr k (rstAt k) _
    · rw [mergeStaged, List.foldl_cons, ← mergeStaged]
      refine (ih hr' (FMap.sorted_of_from (FMap.sortedFrom_tail hl)) (FMap.find?_cons_ne hk ho)).trans ?_
      rw [FMap.getD_setD_ne hr (Ne.symm hk)]

/-- A staging without CLEAR_EVAL_RUNGS goes live as its words alone. -/
theorem State.foldl_goLive {l : FMap (Word × Word)} (hl : ∀ e ∈ l, e.1 ≠ R.TRN_CTL.base) (s : State) :
    l.foldl (fun s e => s.goLive e.1 e.2.1 e.2.2) s = { s with regs := mergeStaged l s.regs } := by
  induction l generalizing s with
  | nil => rfl
  | cons e l ih =>
    have he : s.goLive e.1 e.2.1 e.2.2 = s.mergeReg e.1 e.2.1 e.2.2 := if_neg (hl e List.mem_cons_self)
    rw [List.foldl_cons, he, ih (fun x hx => hl x (List.mem_cons_of_mem _ hx))]
    rfl

theorem State.endEpochItems_of_none {s : State} (h : s.epo.items = []) (code : Nat) :
    s.endEpochItems code = s.withEpo { s.epo with items := [], acked := [] } := by
  unfold State.endEpochItems
  rw [h]
  rfl

/-- The state in which the staged words have gone live and EPO_CUR has moved on. -/
def State.switched (s : State) : State := (s.bump R.EPO_CUR_EPOCH).withStaged [] (mergeStaged s.staged (s.bump R.EPO_CUR_EPOCH).regs)

theorem State.switched_staged (s : State) : s.switched.staged = [] := State.withStaged_staged ..

theorem State.switched_epo (s : State) : s.switched.epo = s.epo := by
  rw [State.switched, State.withStaged_epo, State.bump_epo]

section
variable {s : State} (hs : FMap.sorted s.regs = true) (hi : s.epo.items = []) (hst : ∀ e ∈ s.staged, e.1 / 0x1000000 ≠ 1 ∧ e.1 ≠ R.TRN_CTL.base)
include hs

theorem State.switched_sorted : FMap.sorted s.switched.regs = true := mergeStaged_sorted _ (State.setFld_sorted hs _ _ _)

include hst in
theorem State.switched_fld (f : Fld) (hf : EpoWord (f.at [])) : s.switched.fld f = (s.bump R.EPO_CUR_EPOCH).fld f :=
  State.fld_congr (mergeStaged_find? (State.setFld_sorted hs _ _ _) fun e he h => (hst e he).1 (h ▸ hf))

omit hs in
include hi hst in
theorem State.epochSwitch_eq : s.epochSwitch =
    ((s.switched.barrierTime.showParticipants.setFld R.EPO_STATUS_STATE 0).setFld R.EPO_STATUS_ACK_PENDING 0).withEpo { s.epo with items := [], acked := [] } := by
  have hlive : (s.bump R.EPO_CUR_EPOCH).staged.foldl (fun s e => s.goLive e.1 e.2.1 e.2.2) { s.bump R.EPO_CUR_EPOCH with staged := [] } = s.switched := by
    rw [State.bump_staged]
    exact State.foldl_goLive (fun e he => (hst e he).2) _
  have hepo : ((s.switched.barrierTime.showParticipants.setFld R.EPO_STATUS_STATE 0).setFld R.EPO_STATUS_ACK_PENDING 0).epo = s.epo := by
    rw [State.setFld_epo, State.setFld_epo, State.showParticipants_epo, State.barrierTime_epo, State.switched_epo]
  unfold State.epochSwitch
  dsimp only
  rw [hlive, State.endEpochItems_of_none (by rw [hepo, hi]), hepo]

include hi hst in
/-- The switch: EPO_CUR moves on, nothing is staged or pending (R76). -/
theorem State.epochSwitch_status : s.epochSwitch.fld R.EPO_CUR_EPOCH = (s.fld R.EPO_CUR_EPOCH + 1) % 2 ^ 32 ∧ s.epochSwitch.fld R.EPO_STATUS_STATE = 0 ∧
    s.epochSwitch.fld R.EPO_STATUS_ACK_PENDING = 0 ∧ s.epochSwitch.staged = [] ∧ Claims.WorkKept s s.epochSwitch := by
  rw [State.epochSwitch_eq hi hst]
  have ku := State.switched_sorted hs
  have hcur : s.switched.fld R.EPO_CUR_EPOCH = (s.fld R.EPO_CUR_EPOCH + 1) % 2 ^ 32 :=
    (State.switched_fld hs hst _ (by decide)).trans (State.fld_setFld_self hs R.EPO_CUR_EPOCH (by decide) _ [])
  have k1 : FMap.sorted s.switched.barrierTime.showParticipants.regs = true := (State.barrierShown_keptBut ku).sorted
  have k2 := State.setFld_sorted k1 R.EPO_STATUS_STATE 0 []
  refine ⟨?_, ?_, ?_, by
    rw [State.withEpo_staged, State.setFld_staged, State.setFld_staged, State.showParticipants_staged, State.barrierTime_staged, State.switched_staged],
    ((((((Claims.WorkKept.refl s).bump _ _ _).withStaged _ _).barrierShown).setFld _ _ _).setFld _ _ _).withEpo _⟩
  · rw [State.withEpo_fld, State.fld_setFld_apart k2 (by decide), State.fld_setFld_apart k1 (by decide),
      State.barrierShown_fld ku (by decide) (by decide), hcur]
  · rw [State.withEpo_fld, State.fld_setFld_apart k2 (by decide), State.fld_setFld_self k1 R.EPO_STATUS_STATE (by decide), Nat.zero_mod]
  · rw [State.withEpo_fld, State.fld_setFld_self k2 R.EPO_STATUS_ACK_PENDING (by decide), Nat.zero_mod]

include hi hst in
/-- Every staged bit of a word is live, its other bits as they were. -/
theorem State.epochSwitch_live (hl : FMap.sorted s.staged = true) {off : Nat} {mask val : Word} (h : FMap.find? off s.staged = some (mask, val)) :
    FMap.getD s.epochSwitch.regs off (rstAt off) = mergeWord (FMap.getD s.regs off (rstAt off)) mask val := by
  have hoff : ¬ EpoWord off := fun ho => (hst _ (FMap.mem_of_find? h)).1 ho
  have hcur : EpoWord (R.EPO_CUR_EPOCH.at []) := by decide
  have hkept := (((State.barrierShown_keptBut (State.switched_sorted hs)).setFld R.EPO_STATUS_STATE 0 [] (by decide)).setFld
    R.EPO_STATUS_ACK_PENDING 0 [] (by decide)).regs off hoff
  have hb := State.setFld_find? hs R.EPO_CUR_EPOCH (s.fld R.EPO_CUR_EPOCH + 1) [] (o := off) fun e => hoff (e ▸ hcur)
  have hm := mergeStaged_getD (State.setFld_sorted hs R.EPO_CUR_EPOCH (s.fld R.EPO_CUR_EPOCH + 1) []) hl h
  rw [State.epochSwitch_eq hi hst, State.withEpo_regs]
  calc FMap.getD _ off (rstAt off)
      = FMap.getD s.switched.regs off (rstAt off) := congrArg (Option.getD · _) hkept
    _ = mergeWord (FMap.getD (s.bump R.EPO_CUR_EPOCH).regs off (rstAt off)) mask val := hm
    _ = mergeWord (FMap.getD s.regs off (rstAt off)) mask val := congrArg (fun w => mergeWord (Option.getD w (rstAt off)) mask val) hb

end

/-- The change is off: nothing is staged, and EPO_STATUS names the unit. -/
def State.abandoned (s : State) (unit : Nat) : State :=
  (((s.withStaged [] s.regs).barrierTime.showParticipants.setFld R.EPO_STATUS_STATE 4).setFlag R.EPO_STATUS_ABANDONED true).setFld R.EPO_STATUS_UNIT unit

section
variable {s : State} (hs : FMap.sorted s.regs = true)
include hs

theorem State.epochAbandon_eq (hi : s.epo.items = []) (unit : Nat) :
    ∃ e, s.epochAbandon unit = ((s.abandoned unit).log Code.EPOCH_ABANDONED unit).withEpo e := by
  have hk : FMap.sorted (s.abandoned unit).regs = true :=
    State.setFld_sorted (State.setFld_sorted (State.setFld_sorted (State.barrierShown_keptBut (s := s.withStaged [] s.regs) hs).sorted _ _ _) _ _ _) _ _ _
  have hepo : (s.abandoned unit).epo = s.epo := by
    rw [State.abandoned, State.setFld_epo, State.setFlag_epo, State.setFld_epo, State.showParticipants_epo, State.barrierTime_epo]
    rfl
  have hitems : ((s.abandoned unit).log Code.EPOCH_ABANDONED unit).epo.items = [] := by rw [(State.log_aside hk _ _ _ _).epo, hepo, hi]
  exact ⟨_, State.endEpochItems_of_none hitems _⟩

/-- EPO_STATUS and EPO_CUR once a change is abandoned (R77, Table 3-15). -/
theorem State.abandoned_status (unit : Nat) :
    (s.abandoned unit).fld R.EPO_STATUS_STATE = 4 ∧ (s.abandoned unit).fld R.EPO_STATUS_ABANDONED = 1 ∧ (s.abandoned unit).fld R.EPO_STATUS_UNIT = unit % 65536 ∧
      (s.abandoned unit).staged = [] ∧ (s.abandoned unit).fld R.EPO_CUR_EPOCH = s.fld R.EPO_CUR_EPOCH ∧
      (s.withStaged [] s.regs).KeptBut EpoWord (s.abandoned unit) := by
  have h0 := State.barrierShown_keptBut (s := s.withStaged [] s.regs) hs
  have k1 := h0.sorted
  have k2 := State.setFld_sorted k1 R.EPO_STATUS_STATE 4 []
  have k3 := State.setFld_sorted k2 R.EPO_STATUS_ABANDONED (b2n true) []
  unfold State.abandoned
  refine ⟨?_, ?_, ?_, ?_, ?_, ((h0.setFld _ _ [] (by decide)).setFld R.EPO_STATUS_ABANDONED (b2n true) [] (by decide)).setFld _ _ [] (by decide)⟩
  · rw [State.setFlag_eq, State.fld_setFld_apart k3 (by decide), State.fld_setFld_apart k2 (by decide), State.fld_setFld_self k1 R.EPO_STATUS_STATE (by decide)]
    rfl
  · rw [State.setFlag_eq, State.fld_setFld_apart k3 (by decide), State.fld_setFld_self k2 R.EPO_STATUS_ABANDONED (by decide)]
    rfl
  · rw [State.setFlag_eq, State.fld_setFld_self k3 R.EPO_STATUS_UNIT (by decide)]
    simp [R.EPO_STATUS_UNIT]
  · rw [State.setFld_staged, State.setFlag_staged, State.setFld_staged, State.showParticipants_staged, State.barrierTime_staged]
    rfl
  · rw [State.setFlag_eq, State.fld_setFld_apart k3 (by decide), State.fld_setFld_apart k2 (by decide), State.fld_setFld_apart k1 (by decide),
      State.barrierShown_fld (s := s.withStaged [] s.regs) hs (by decide) (by decide)]
    rfl

/-- An abandoned change: nothing is staged, EPO_CUR stays, the unit is named and the code logged (R77). -/
theorem State.epochAbandon_status (hi : s.epo.items = []) (unit : Nat) :
    (s.epochAbandon unit).fld R.EPO_STATUS_STATE = 4 ∧ (s.epochAbandon unit).flag R.EPO_STATUS_ABANDONED = true ∧
      (s.epochAbandon unit).fld R.EPO_STATUS_UNIT = unit % 65536 ∧ (s.epochAbandon unit).staged = [] ∧
      (s.epochAbandon unit).fld R.EPO_CUR_EPOCH = s.fld R.EPO_CUR_EPOCH ∧
      Claims.LoggedAt s (s.epochAbandon unit) Code.EPOCH_ABANDONED (unit % 65536) := by
  obtain ⟨e, he⟩ := State.epochAbandon_eq hs hi unit
  obtain ⟨hstate, hab, hunit, hstaged, hcur, hkept⟩ := State.abandoned_status hs unit
  have hk := hkept.sorted
  have keep : ∀ f : Fld, EpoWord (f.at []) → (s.epochAbandon unit).fld f = (s.abandoned unit).fld f := fun f hf => by
    rw [he, State.withEpo_fld, State.log_fld_epo hk _ _ _ _ f hf]
  have hhead : (s.abandoned unit).fld R.ERL_HEAD_INDEX = s.fld R.ERL_HEAD_INDEX := (hkept.fld R.ERL_HEAD_INDEX [] (by decide)).trans rfl
  refine ⟨(keep _ (by decide)).trans hstate, State.flag_eq_true_iff.2 ((keep _ (by decide)).trans hab), (keep _ (by decide)).trans hunit, ?_,
    (keep _ (by decide)).trans hcur, ?_⟩
  · rw [he, State.withEpo_staged, (State.log_aside hk _ _ _ _).staged, hstaged]
  · have hl := State.logFull_loggedAt hk (code := Code.EPOCH_ABANDONED) (by decide) unit (severityOf Code.EPOCH_ABANDONED)
      ((s.abandoned unit).fld R.EPO_CUR_EPOCH) 0 0
    rw [← State.log_eq_logFull _ (by decide) (by decide)] at hl
    unfold Claims.LoggedAt at hl ⊢
    rw [he, State.withEpo_fld, ← hhead]
    exact hl

end

/-! The commands of a device that is up. -/

section
variable {s : State} (hup : s.up = true)
include hup

theorem exec_epochOpen_of_up : exec .epochOpen s = .next s.epochOpen := congrArg _ (State.whenUp_of_up hup _)
theorem exec_epochCommit_of_up : exec .epochCommit s = .next s.epochCommit := congrArg _ (State.whenUp_of_up hup _)
theorem exec_epochCancel_of_up : exec .epochCancel s = .next s.epochCancel := congrArg _ (State.whenUp_of_up hup _)
theorem exec_epochAbandonClear_of_up : exec .epochAbandonClear s = .next s.epochClear := congrArg _ (State.whenUp_of_up hup _)

theorem exec_epochDrainEnd_of_up : exec .epochDrainEnd s = .next (if s.fld R.EPO_STATUS_STATE = 2 ∧ s.oldItems = 0 then s.epochBarrier else s) :=
  congrArg _ (State.whenUp_of_up hup _)

theorem exec_epochPrepareRefusal_of_up (u : Nat) : exec (.epochPrepareRefusal u) s =
    .next (if s.fld R.EPO_STATUS_STATE = 3 ∧ s.participants.contains u ∧ !s.epo.acked.contains u then s.epochAbandon u else s) :=
  congrArg _ (State.whenUp_of_up hup _)

theorem exec_epochAckTimeout_of_up {u : Nat} (h : (s.participants.filter fun u => !s.epo.acked.contains u).min? = some u) :
    exec .epochAckTimeout s = .next (if s.fld R.EPO_STATUS_STATE = 3 then s.epochAbandon u else s) := by
  refine congrArg Host.Outcome.next ((State.whenUp_of_up hup _).trans ?_)
  rw [h]

end

/-- The lowest participant that has not acknowledged is the one a timeout names. -/
theorem State.lowestWaiting {s : State} {u : Nat} (hu : u ∈ s.participants) (hn : u ∉ s.epo.acked)
    (hmin : ∀ v ∈ s.participants, v ∉ s.epo.acked → u ≤ v) : (s.participants.filter fun u => !s.epo.acked.contains u).min? = some u := by
  refine List.min?_eq_some_iff.2 ⟨by simp [hu, hn], fun v hv => ?_⟩
  obtain ⟨hvp, hva⟩ := List.mem_filter.1 hv
  exact hmin v hvp (by simpa using hva)

/-- With no participant nothing is staged. -/
theorem State.staged_of_participants {s : State} (h : s.participants = []) : s.staged = [] := by
  cases hst : s.staged with
  | nil => rfl
  | cons e l =>
    unfold State.participants at h
    rw [hst, List.map_cons, List.eraseDups_cons] at h
    cases h

/-- A command that is EPOCH_BUSY leaves STATE and the staging. -/
theorem State.epochBusy_status {s : State} (hs : FMap.sorted s.regs = true) :
    (s.log Code.EPOCH_BUSY 0x0100).fld R.EPO_STATUS_STATE = s.fld R.EPO_STATUS_STATE ∧ (s.log Code.EPOCH_BUSY 0x0100).staged = s.staged ∧
      Claims.LoggedAt s (s.log Code.EPOCH_BUSY 0x0100) Code.EPOCH_BUSY 0x0100 := by
  refine ⟨State.log_fld_epo hs _ _ _ _ _ (by decide), (State.log_aside hs _ _ _ _).staged, ?_⟩
  rw [State.log_eq_logFull _ (by decide) (by decide)]
  exact State.logFull_loggedAt hs (by decide) 0x0100 _ _ _ _

/-- The commands that leave the device as it is, or raise EPOCH_BUSY, by STATE (R73, Table 3-15). -/
theorem State.epochCancel_eq (s : State) : s.epochCancel =
    if s.fld R.EPO_STATUS_STATE = 1 then ((s.withStaged [] s.regs).showParticipants).setFld R.EPO_STATUS_STATE 0
    else if s.fld R.EPO_STATUS_STATE = 2 ∨ s.fld R.EPO_STATUS_STATE = 3 then s.log Code.EPOCH_BUSY 0x0100 else s := by
  unfold State.epochCancel
  split
  case h_1 h => rw [if_pos h]; rfl
  case h_2 h => rw [h, if_neg (by decide), if_pos (.inl rfl)]
  case h_3 h => rw [h, if_neg (by decide), if_pos (.inr rfl)]
  case h_4 h1 h2 h3 => rw [if_neg h1, if_neg (not_or.2 ⟨h2, h3⟩)]

/-- CANCEL of an open staging. -/
theorem State.cancelled_status {s : State} (hs : FMap.sorted s.regs = true) :
    (((s.withStaged [] s.regs).showParticipants).setFld R.EPO_STATUS_STATE 0).fld R.EPO_STATUS_STATE = 0 ∧
    (((s.withStaged [] s.regs).showParticipants).setFld R.EPO_STATUS_STATE 0).staged = [] ∧
    (((s.withStaged [] s.regs).showParticipants).setFld R.EPO_STATUS_STATE 0).fld R.EPO_CUR_EPOCH = s.fld R.EPO_CUR_EPOCH ∧
    Claims.WorkKept s (((s.withStaged [] s.regs).showParticipants).setFld R.EPO_STATUS_STATE 0) := by
  have k0 : FMap.sorted (s.withStaged [] s.regs).regs = true := hs
  have k1 := State.showParticipants_sorted k0
  refine ⟨?_, ?_, ?_, (((Claims.WorkKept.refl s).withStaged _ _).setFld _ _ _).setFld _ _ _⟩
  · rw [State.fld_setFld_self k1 R.EPO_STATUS_STATE (by decide), Nat.zero_mod]
  · rw [State.setFld_staged, State.showParticipants_staged]
    rfl
  · rw [State.fld_setFld_apart k1 (by decide), State.showParticipants_fld k0 (by decide)]
    rfl

/-- ABANDONED written with 1 (R77). -/
theorem State.epochClear_status {s : State} (hs : FMap.sorted s.regs = true) :
    s.epochClear.flag R.EPO_STATUS_ABANDONED = false ∧ Claims.OnlyRegs [R.EPO_STATUS.base] s s.epochClear ∧
      s.epochClear.fld R.EPO_STATUS_STATE = if s.fld R.EPO_STATUS_STATE = 4 then 0 else s.fld R.EPO_STATUS_STATE := by
  have k1 : FMap.sorted (s.setFlag R.EPO_STATUS_ABANDONED false).regs = true := State.setFld_sorted hs _ _ _
  have hflag : (s.setFlag R.EPO_STATUS_ABANDONED false).flag R.EPO_STATUS_ABANDONED = false := State.flag_setFlag_self hs _ (by decide) (by decide) _ _
  have hstate : (s.setFlag R.EPO_STATUS_ABANDONED false).fld R.EPO_STATUS_STATE = s.fld R.EPO_STATUS_STATE := by
    rw [State.setFlag_eq, State.fld_setFld_apart hs (by decide)]
  have honly : Claims.OnlyRegs [R.EPO_STATUS.base] s (s.setFlag R.EPO_STATUS_ABANDONED false) :=
    (Claims.OnlyRegs.refl s).setFld hs R.EPO_STATUS_ABANDONED _ [] (by decide)
  unfold State.epochClear
  dsimp only
  rw [hstate]
  split
  · refine ⟨?_, honly.setFld k1 R.EPO_STATUS_STATE 0 [] (by decide), ?_⟩
    · rw [State.flag, State.fld_setFld_apart k1 (by decide)]
      exact hflag
    · rw [State.fld_setFld_self k1 R.EPO_STATUS_STATE (by decide), Nat.zero_mod]
  · exact ⟨hflag, honly, hstate⟩

end Sys2Proof.Machine

namespace Sys2Proof.Claims
open Machine

/-- Settles O9: each command in each state of the staging. -/
theorem epochCommands : Obligations.EpochCommands := by
  unfold Obligations.EpochCommands
  intro s hcanon hup
  have hs := State.canon_regs hcanon
  rw [exec_epochOpen_of_up hup, exec_epochCommit_of_up hup, exec_epochCancel_of_up hup, exec_epochDrainEnd_of_up hup, exec_epochAbandonClear_of_up hup]
  refine ⟨fun h => ?_, fun h => ?_, fun h ho => ?_, fun h ho hp => ?_, fun h ho hp hi _ => ?_, fun h => ?_, fun h => ?_, fun h => ?_, fun h => ?_,
    fun h ho hp => ?_, fun u h hp ha hi => ?_, fun u h hi hu hn hmin => ?_, ?_⟩
  case refine_1 =>
    have he : s.epochOpen = s.opened.showParticipants.setFld R.EPO_STATUS_STATE 1 := if_pos h
    have hso : FMap.sorted s.opened.regs = true := hs
    obtain ⟨hstate, hab, hparts⟩ := State.showOpen_fld hso
    have hstaged : s.epochOpen.staged = s.opened.staged := by rw [he, State.setFld_staged, State.showParticipants_staged]
    have honly : OnlyRegs [R.EPO_STATUS.base] s.opened s.epochOpen := by
      rw [he]
      exact ((OnlyRegs.refl s.opened).setFld hso R.EPO_STATUS_PARTICIPANTS _ [] (by decide)).setFld (State.showParticipants_sorted hso) _ _ [] (by decide)
    refine ⟨_, rfl, by rw [he, hstate], by rw [he, hab]; rfl, ?_, ?_, fun hc => ?_, fun hc => ?_, ?_, ?_⟩
    · rw [he, State.setFld_atBoundary]; exact State.setFld_atBoundary ..
    · rw [he, State.setFld_train]; exact State.setFld_train ..
    · rw [hstaged]; exact if_neg (by simp [hc])
    · rw [hstaged]; exact State.opened_clearEval hc
    · rw [State.participants, hstaged, ← State.participants, he, hparts]
    · have htrain : s.epochOpen.train = s.opened.train := by rw [he, State.setFld_train]; exact State.setFld_train ..
      rw [hstaged, htrain]
      exact honly
  case refine_2 =>
    have he : s.epochOpen = s.log Code.EPOCH_BUSY 0x0100 := if_neg (by omega)
    exact ⟨_, rfl, he ▸ State.epochBusy_status hs⟩
  case refine_3 =>
    have he : s.epochCommit = s.setFld R.EPO_STATUS_STATE 2 := (if_pos h).trans (if_neg ho)
    rw [he]
    refine ⟨_, rfl, State.fld_setFld_self hs _ (by decide) _ _, rfl, id, fun o ho => State.setFld_find? hs _ _ _ fun h => ho (by rw [h]; decide)⟩
  case refine_4 =>
    have he : s.epochCommit = s.prepared :=
      (if_pos h).trans ((if_pos ho).trans ((State.epochBarrier_eq s).trans (if_neg (by simpa using hp))))
    exact ⟨_, rfl, he ▸ State.prepared_status hs⟩
  case refine_5 =>
    obtain ⟨-, -, -, hstaged, hprepared⟩ := State.prepared_status hs
    have hst : s.prepared.staged = [] := hstaged.trans (State.staged_of_participants hp)
    have he : s.epochCommit = s.prepared.epochSwitch :=
      (if_pos h).trans ((if_pos ho).trans ((State.epochBarrier_eq s).trans (if_pos (by simp [hp]))))
    obtain ⟨hcur, hstate, hack, hempty, hkept⟩ :=
      State.epochSwitch_status (State.prepared_sorted hs) (by rw [State.prepared_items, hi]) (by rw [hst]; exact fun _ hm => absurd hm (by simp))
    rw [he]
    exact ⟨_, rfl, by rw [hcur, State.prepared_epoch hs], hstate, hack, hempty, State.workKept_trans hprepared hkept⟩
  case refine_6 => exact congrArg _ (if_neg h)
  case refine_7 => rw [State.epochCancel_eq, if_neg (by omega), if_neg (by omega)]
  case refine_8 =>
    have he := (State.epochCancel_eq s).trans (if_pos h)
    exact ⟨_, rfl, he ▸ State.cancelled_status hs⟩
  case refine_9 =>
    have he : s.epochCancel = s.log Code.EPOCH_BUSY 0x0100 := (State.epochCancel_eq s).trans ((if_neg (by omega)).trans (if_pos h))
    exact ⟨_, rfl, he ▸ State.epochBusy_status hs⟩
  case refine_10 =>
    rw [if_pos ⟨h, ho⟩, State.epochBarrier_eq, if_neg (by simpa using hp)]
    obtain ⟨h1, h2, -, h4, -⟩ := State.prepared_status hs
    exact ⟨_, rfl, h1, h2, h4⟩
  case refine_11 =>
    rw [exec_epochPrepareRefusal_of_up hup, if_pos ⟨h, hp, by rw [ha]; rfl⟩]
    exact ⟨_, rfl, State.epochAbandon_status hs hi u⟩
  case refine_12 =>
    rw [exec_epochAckTimeout_of_up hup (State.lowestWaiting hu hn hmin), if_pos h]
    exact ⟨_, rfl, State.epochAbandon_status hs hi u⟩
  case refine_13 => exact ⟨_, rfl, State.epochClear_status hs⟩

end Sys2Proof.Claims

namespace Sys2Proof.Machine
open Sys2Proof

/-- A participant has acknowledged. -/
def State.acknowledged (s : State) (u : Nat) : State :=
  (s.withEpo { s.epo with acked := u :: s.epo.acked }).setFld R.EPO_STATUS_ACK_PENDING (s.participants.length - (u :: s.epo.acked).length)

theorem exec_epochPrepareAck_of_up {s : State} {u : Nat} (hup : s.up = true) (h3 : s.fld R.EPO_STATUS_STATE = 3) (hp : s.participants.contains u = true)
    (ha : s.epo.acked.contains u = false) : exec (.epochPrepareAck u) s =
      .next (if s.participants.length - (u :: s.epo.acked).length = 0 then (s.acknowledged u).epochSwitch else s.acknowledged u) :=
  congrArg Host.Outcome.next ((State.whenUp_of_up hup _).trans (if_pos ⟨h3, hp, by rw [ha]; rfl⟩))

theorem State.acknowledged_epo (s : State) (u : Nat) : (s.acknowledged u).epo = { s.epo with acked := u :: s.epo.acked } := by
  rw [State.acknowledged, State.setFld_epo, State.withEpo_epo]

theorem State.acknowledged_staged (s : State) (u : Nat) : (s.acknowledged u).staged = s.staged := by
  rw [State.acknowledged, State.setFld_staged, State.withEpo_staged]

theorem State.acknowledged_workKept (s : State) (u : Nat) : Claims.WorkKept s (s.acknowledged u) := ((Claims.WorkKept.refl s).withEpo _).setFld _ _ _

section
variable {s : State} (hs : FMap.sorted s.regs = true) (u : Nat)
include hs

theorem State.acknowledged_sorted : FMap.sorted (s.acknowledged u).regs = true := State.setFld_sorted (s := s.withEpo _) hs _ _ _

theorem State.acknowledged_fld {g : Fld} (h : g.Apart [] R.EPO_STATUS_ACK_PENDING []) : (s.acknowledged u).fld g = s.fld g := by
  have k : ∀ e, FMap.sorted (s.withEpo e).regs = true := fun _ => hs
  rw [State.acknowledged, State.fld_setFld_apart (k _) h, State.withEpo_fld]

theorem State.acknowledged_pending : (s.acknowledged u).fld R.EPO_STATUS_ACK_PENDING = (s.participants.length - (u :: s.epo.acked).length) % 2 ^ 16 :=
  State.fld_setFld_self (s := s.withEpo _) hs R.EPO_STATUS_ACK_PENDING (by decide) _ []

theorem State.acknowledged_word {off : Nat} (h : ¬ EpoWord off) : FMap.find? off (s.acknowledged u).regs = FMap.find? off s.regs :=
  have hw : EpoWord (R.EPO_STATUS_ACK_PENDING.at []) := by decide
  State.setFld_find? (s := s.withEpo _) hs _ _ _ fun e => h (e ▸ hw)

end

end Sys2Proof.Machine

namespace Sys2Proof.Claims
open Machine

/-- Settles O10: the barrier waits for the others, and the last one's acknowledgement is the switch of every staged word. -/
theorem epochSwitch : Obligations.EpochSwitch := by
  unfold Obligations.EpochSwitch
  intro s u hcanon hup h3 hp ha
  have hs := State.canon_regs hcanon
  have kept := State.acknowledged_workKept s u
  rw [exec_epochPrepareAck_of_up hup h3 hp ha]
  refine ⟨fun hmore hlt => ?_, fun hlast hi hsorted hst => ?_⟩
  · rw [if_neg (by simp only [List.length_cons]; omega)]
    refine ⟨_, rfl, by rw [State.acknowledged_fld hs u (by decide), h3], ?_, by rw [State.acknowledged_epo], State.acknowledged_staged s u,
      State.acknowledged_fld hs u (by decide), kept⟩
    rw [State.acknowledged_pending hs, List.length_cons]
    omega
  · rw [if_pos (by simp only [List.length_cons]; omega)]
    have ks := State.acknowledged_sorted hs u
    have ki : (s.acknowledged u).epo.items = [] := by rw [State.acknowledged_epo, hi]
    have kst : ∀ e ∈ (s.acknowledged u).staged, e.1 / 0x1000000 ≠ 1 ∧ e.1 ≠ R.TRN_CTL.base := by rwa [State.acknowledged_staged]
    obtain ⟨hcur, hstate, hack, hempty, hkept⟩ := State.epochSwitch_status ks ki kst
    refine ⟨_, rfl, by rw [hcur, State.acknowledged_fld hs u (by decide)], hempty, hstate, hack, State.workKept_trans kept hkept, fun off mask val hoff => ?_⟩
    have hnot : ¬ EpoWord off := fun he => (hst _ (FMap.mem_of_find? hoff)).1 he
    rw [State.epochSwitch_live ks ki kst (by rwa [State.acknowledged_staged]) (by rwa [State.acknowledged_staged]), FMap.getD,
      State.acknowledged_word hs u hnot, ← FMap.getD]
    rfl

end Sys2Proof.Claims
end

section
/-! SUPPORT. The link layer: what a received flit leaves of a port before it is delivered, and a replay (R326, R331 to R336, R340, R341). -/

namespace Sys2Proof.Machine
open Sys2Proof

@[simp] theorem State.setFld_port (s : State) (f : Fld) (v : Nat) (ix : List Nat) (j : Nat) : (s.setFld f v ix).port j = s.port j := rfl
@[simp] theorem State.bump_port (s : State) (f : Fld) (ix : List Nat) (d j : Nat) : (s.bump f ix d).port j = s.port j := rfl
@[simp] theorem State.bumpSat_port (s : State) (f : Fld) (ix : List Nat) (d j : Nat) : (s.bumpSat f ix d).port j = s.port j := rfl
@[simp] theorem State.modPort_fld (s : State) (k : Nat) (g : Port → Port) (f : Fld) (ix : List Nat) : (s.modPort k g).fld f ix = s.fld f ix := rfl
@[simp] theorem State.free_fld (s : State) (f : Fld) (ix : List Nat) : s.free.2.fld f ix = s.fld f ix := rfl
@[simp] theorem State.free_port (s : State) (j : Nat) : s.free.2.port j = s.port j := rfl

/-- The counters of the ports: register words of NLK past the pools. -/
def LinkCount (o : Nat) : Prop := 0x20000000 ≤ o ∧ o < 0x20C00000 ∧ 0x28 ≤ o % 0x100000

theorem linkCount_at {f : Fld} {k : Nat} (hk : k < 12) (hst : f.strides = [0x100000]) (hlo : 0x20000028 ≤ f.base) (hhi : f.base < 0x20100000) :
    LinkCount (f.at [k]) := by
  simp only [LinkCount, Fld.at, hst, dotOff]
  omega

theorem linkCount_returned {k q : Nat} (hk : k < 12) (hq : q ≤ 16) : LinkCount (R.NLK_LEDGER_RETURNED.at [k, q]) := by
  simp only [LinkCount, Fld.at, R.NLK_LEDGER_RETURNED, dotOff]
  omega

theorem LinkCount.ne_state {o : Nat} (h : LinkCount o) (k : Nat) : o ≠ R.NLK_STATUS_STATE.at [k] := by
  simp only [LinkCount, Fld.at, R.NLK_STATUS_STATE, dotOff] at *
  omega

/-- Counters of the ports and one port may differ; everything else of the state is as it was. -/
structure State.PortMoved (k : Nat) (s t : State) : Prop where
  sorted : FMap.sorted t.regs = true
  regs : ∀ o, ¬ LinkCount o → FMap.find? o t.regs = FMap.find? o s.regs
  only : t = { s with regs := t.regs, ports := t.ports, fresh := t.fresh }
  others : ∀ j, j ≠ k → t.port j = s.port j

namespace State.PortMoved
variable {k : Nat} {s t u : State}

theorem refl (hs : FMap.sorted s.regs = true) : s.PortMoved k s := ⟨hs, fun _ _ => rfl, rfl, fun _ _ => rfl⟩

theorem trans (h : s.PortMoved k t) (g : t.PortMoved k u) : s.PortMoved k u where
  sorted := g.sorted
  regs o ho := (g.regs o ho).trans (h.regs o ho)
  only := g.only.trans (congrArg (fun x : State => { x with regs := u.regs, ports := u.ports, fresh := u.fresh }) h.only)
  others j hj := (g.others j hj).trans (h.others j hj)

theorem free (h : s.PortMoved k t) : s.PortMoved k t.free.2 := h.trans ⟨h.sorted, fun _ _ => rfl, rfl, fun _ _ => rfl⟩

theorem setFld (h : s.PortMoved k t) (f : Fld) (v : Nat) (ix : List Nat) (hf : LinkCount (f.at ix)) : s.PortMoved k (t.setFld f v ix) :=
  h.trans ⟨State.setFld_sorted h.sorted f v ix, fun _ ho => State.setFld_find? h.sorted f v ix fun e => ho (e ▸ hf), rfl, fun _ _ => rfl⟩

theorem bump (h : s.PortMoved k t) (f : Fld) (ix : List Nat) (d : Nat) (hf : LinkCount (f.at ix)) : s.PortMoved k (t.bump f ix d) := h.setFld f _ ix hf

theorem bumpSat (h : s.PortMoved k t) (f : Fld) (ix : List Nat) (d : Nat) (hf : LinkCount (f.at ix)) : s.PortMoved k (t.bumpSat f ix d) := h.setFld f _ ix hf

theorem modPort (h : s.PortMoved k t) (f : Port → Port) : s.PortMoved k (t.modPort k f) :=
  h.trans ⟨h.sorted, fun _ _ => rfl, rfl, fun _ hj => State.port_modPort_ne t hj f⟩

theorem fld (h : s.PortMoved k t) (f : Fld) (ix : List Nat) (hf : ¬ LinkCount (f.at ix)) : t.fld f ix = s.fld f ix := State.fld_congr (h.regs _ hf)

theorem flag (h : s.PortMoved k t) (f : Fld) (ix : List Nat) (hf : ¬ LinkCount (f.at ix)) : t.flag f ix = s.flag f ix := by
  unfold State.flag
  rw [h.fld f ix hf]

theorem items (h : s.PortMoved k t) : t.items = s.items := (congrArg State.items h.only).trans rfl
theorem mem (h : s.PortMoved k t) : t.mem = s.mem := (congrArg State.mem h.only).trans rfl
theorem time (h : s.PortMoved k t) : t.time = s.time := (congrArg State.time h.only).trans rfl

theorem ageStamp (h : s.PortMoved k t) : t.ageStamp = s.ageStamp := by
  unfold State.ageStamp State.elapsedNs
  rw [h.time]

theorem state (h : s.PortMoved k t) (j : Nat) : t.fld R.NLK_STATUS_STATE [j] = s.fld R.NLK_STATUS_STATE [j] :=
  h.fld _ _ fun hc => hc.ne_state j rfl

theorem node (h : s.PortMoved k t) : t.node = s.node := h.fld _ _ (by unfold LinkCount; decide)

theorem hasPort (h : s.PortMoved k t) (j : Nat) : t.hasPort j = s.hasPort j := by
  unfold State.hasPort
  rw [h.fld R.GLB_CAPS_NLK_PORTS [] (by unfold LinkCount; decide)]

theorem route (h : s.PortMoved k t) (dst : Nat) : t.route dst = s.route dst := by
  have hw : ∀ f : Fld, f.base = 0x20C10000 → f.strides = [8] → ¬ LinkCount (f.at [dst]) := fun f hb hst hc => by
    simp only [LinkCount, Fld.at, hb, hst, dotOff] at hc
    omega
  unfold State.route
  simp only [h.flag R.NLK_ROUTE_VALID _ (hw _ rfl rfl), h.flag R.NLK_ROUTE_ALT_EN _ (hw _ rfl rfl), h.fld R.NLK_ROUTE_PORT _ (hw _ rfl rfl),
    h.fld R.NLK_ROUTE_ALT_PORT _ (hw _ rfl rfl), h.state]

/-- Free buffers are as they were where as many hold a flit. -/
theorem poolFree (h : s.PortMoved k t) (hu : (t.port k).used = (s.port k).used) (q : Nat) : t.poolFree k q = s.poolFree k q := by
  have hw : ∀ f : Fld, f.strides = [0x100000] → f.base = 0x20000018 ∨ f.base = 0x20000020 →
      FMap.getD t.regs (f.at [k]) f.rst = FMap.getD s.regs (f.at [k]) f.rst := fun f hst hb => by
    unfold FMap.getD
    rw [h.regs _ fun hc => by
      simp only [LinkCount, Fld.at, hst, dotOff] at hc
      omega]
  have hword : ∀ v : Nat, FMap.getD t.regs ((if v < 8 then R.NLK_POOL_LO_VC0 else R.NLK_POOL_HI_VC8).at [k]) (if v < 8 then R.NLK_POOL_LO_VC0 else R.NLK_POOL_HI_VC8).rst =
      FMap.getD s.regs ((if v < 8 then R.NLK_POOL_LO_VC0 else R.NLK_POOL_HI_VC8).at [k]) (if v < 8 then R.NLK_POOL_LO_VC0 else R.NLK_POOL_HI_VC8).rst := fun v => by
    split
    · exact hw _ rfl (.inl rfl)
    · exact hw _ rfl (.inr rfl)
  unfold State.poolFree State.poolSize
  simp only [hword, hu]

end State.PortMoved

/-! The port's part of a good flit. -/

/-- A port after the link fields of a flit: acknowledgement and credits (R332, R335). -/
def Port.linked (p : Port) (f : Flit) : Port :=
  let pool := if f.crSh then 16 else f.crVc
  { p with replay := dropAcked f.ack p.replay, resend := dropAcked f.ack p.resend, credits := p.credits.setD pool 0 (p.credits.getD pool 0 + f.crCount)
           replayed := FMap.keep (fun q _ => decide ((q + 4096 - f.ack % 4096) % 4096 < 2048)) p.replayed }

section
variable {s : State} (hs : FMap.sorted s.regs = true) {k : Nat} (hk : k < 12)
include hs hk

theorem State.fecCount_portMoved (bad : Bool) : s.PortMoved k (s.fecCount k bad) := by
  have hc : ∀ f : Fld, f.strides = [0x100000] → f.base = 0x20000028 → LinkCount (f.at [k]) := fun f hst hb => linkCount_at hk hst (by omega) (by omega)
  have h : s.PortMoved k (s.free.2.bumpSat R.NLK_FEC_CW_CORR [k] (s.free.1.toNat % (if bad then 2 else 3))) :=
    (State.PortMoved.refl hs).free.bumpSat _ _ _ (hc _ rfl rfl)
  unfold State.fecCount
  cases bad
  · exact h
  · exact h.bumpSat _ _ _ (hc _ rfl rfl)

omit hs hk in
theorem State.fecCount_bad : s.fecCount k true = (s.free.2.bumpSat R.NLK_FEC_CW_CORR [k] (s.free.1.toNat % 2)).bumpSat R.NLK_FEC_CW_UNCORR [k] := rfl

omit hs hk in
theorem State.fecCount_good : s.fecCount k false = s.free.2.bumpSat R.NLK_FEC_CW_CORR [k] (s.free.1.toNat % 3) := rfl

omit hk in
theorem State.fecCount_fld (bad : Bool) {g : Fld} {jx : List Nat} (hg : ∀ f : Fld, f.base = 0x20000028 → f.strides = [0x100000] → g.at jx ≠ f.at [k]) :
    (s.fecCount k bad).fld g jx = s.fld g jx := by
  have h (n : Nat) : (s.free.2.bumpSat R.NLK_FEC_CW_CORR [k] n).fld g jx = s.fld g jx := by
    rw [State.bumpSat_eq, State.fld_setFld_ne (s := s.free.2) hs (hg _ rfl rfl), State.free_fld]
  cases bad
  · exact h _
  · have hc : FMap.sorted (s.free.2.bumpSat R.NLK_FEC_CW_CORR [k] (s.free.1.toNat % 2)).regs = true := State.setFld_sorted (s := s.free.2) hs _ _ _
    rw [State.fecCount_bad, State.bumpSat_eq _ R.NLK_FEC_CW_UNCORR, State.fld_setFld_ne hc (hg _ rfl rfl), h]

omit hs hk in
theorem State.fecCount_port (bad : Bool) (j : Nat) : (s.fecCount k bad).port j = s.port j := by
  unfold State.fecCount
  cases bad
  · exact (State.bumpSat_port ..).trans (State.free_port ..)
  · exact (State.bumpSat_port ..).trans ((State.bumpSat_port ..).trans (State.free_port ..))

theorem State.linkFields_portMoved {f : Flit} (hf : f.crVc < 16) : s.PortMoved k (s.linkFields k f) := by
  unfold State.linkFields
  refine ((State.PortMoved.refl hs).modPort _).bump _ _ _ (linkCount_returned hk ?_)
  split <;> omega

omit hs hk in
theorem State.linkFields_port (f : Flit) : (s.linkFields k f).port k = (s.port k).linked f := by
  unfold State.linkFields
  rw [State.bump_port, State.port_modPort_self]
  rfl

end

/-- The fields of the header that a received flit carries have their widths (Table 12-2). -/
theorem parseFlit_crVc {l : List Byte} {f : Flit} (h : parseFlit l = some f) : f.crVc < 16 := by
  unfold parseFlit at h
  dsimp only at h
  split at h
  · cases h
    exact bits_lt _ _ _
  · cases h

theorem State.portRuns_iff {s : State} {k : Nat} : s.portRuns k = true ↔
    s.up = true ∧ s.hasPort k = true ∧ (s.fld R.NLK_STATUS_STATE [k] = 2 ∨ s.fld R.NLK_STATUS_STATE [k] = 5) := by
  simp [State.portRuns, and_assoc]

theorem State.hasPort_lt {s : State} {k : Nat} (h : s.hasPort k = true) : k < 12 := by
  simp only [State.hasPort, Bool.and_eq_true, decide_eq_true_eq] at h
  exact h.1

/-- The state in which a good flit's link fields have been taken. -/
def State.linkTaken (s : State) (k : Nat) (f : Flit) : State := (s.fecCount k false).linkFields k (f.stamped s)

section
variable {s : State} (hs : FMap.sorted s.regs = true) {k : Nat} (hr : s.portRuns k = true) {l : List Byte} {f : Flit} (hl : parseFlit l = some f)
include hs hr hl

theorem State.linkTaken_portMoved : s.PortMoved k (s.linkTaken k f) := by
  obtain ⟨-, hp, -⟩ := State.portRuns_iff.1 hr
  have h := State.fecCount_portMoved hs (State.hasPort_lt hp) false
  exact h.trans (State.linkFields_portMoved h.sorted (State.hasPort_lt hp) (f := f.stamped s) (show f.crVc < 16 from parseFlit_crVc hl))

omit hs hr hl in
theorem State.linkTaken_port : (s.linkTaken k f).port k = (s.port k).linked f := by
  rw [State.linkTaken, State.linkFields_port, State.fecCount_port]
  rfl

/-- What a good sequenced flit does once its link fields are taken (R331, R332). -/
theorem exec_flitReceive_good (hq : 3 ≤ f.ftype) (hv : vcOk f.ftype f.vc = true) :
    exec (.flitReceive k l false) s = .next
      (if f.seq ≠ (s.port k).expSeq ∨ s.poolFree k f.pool = 0 then (s.linkTaken k f).askNak k
       else (((s.linkTaken k f).modPort k fun p => { p with expSeq := (p.expSeq + 1) % 4096, nakSent := false }).bump R.NLK_FLITS_RX [k]).acceptFlit k
         (f.stamped s)) := by
  obtain ⟨-, hp, -⟩ := State.portRuns_iff.1 hr
  have hage : (s.fecCount k false).ageStamp = s.ageStamp := (State.fecCount_portMoved hs (State.hasPort_lt hp) false).ageStamp
  have hfree : (s.linkTaken k f).poolFree k f.pool = s.poolFree k f.pool :=
    (State.linkTaken_portMoved hs hr hl).poolFree (by rw [State.linkTaken_port]; rfl) _
  have hexp : ((s.linkTaken k f).port k).expSeq = (s.port k).expSeq := by rw [State.linkTaken_port]; rfl
  have hseq : isSequenced f.ftype = true := decide_eq_true hq
  show execFlitReceive k l false s = _
  unfold execFlitReceive
  rw [if_neg (by simp [hr])]
  simp only [Bool.false_eq_true, if_false, hl, hage, hv, if_true, hseq, Bool.not_true, true_and]
  rw [← hexp, ← hfree]
  split
  · exact congrArg Host.Outcome.next (if_pos ‹_›).symm
  · exact congrArg Host.Outcome.next (if_neg ‹_›).symm

omit hs hl in
/-- A flit that fails its CRC or its FEC is counted, and a NAK falls due (R326, R332). -/
theorem exec_flitReceive_bad {bad : Bool} (hb : bad = true ∨ parseFlit l = none) : exec (.flitReceive k l bad) s =
    .next (((s.fecCount k bad).bumpSat R.NLK_RETRY_CRC_FAIL [k]).askNak k) := by
  have hnone : (if bad then none else parseFlit l) = none := by
    obtain rfl | h := hb
    · rfl
    · rw [h, ite_self]
  show execFlitReceive k l bad s = _
  unfold execFlitReceive
  rw [if_neg (by simp [hr])]
  dsimp only
  rw [hnone]

end

/-- The state in which a flit in sequence is accepted. -/
def State.expected (s : State) (k : Nat) (f : Flit) : State :=
  ((s.linkTaken k f).modPort k fun p => { p with expSeq := (p.expSeq + 1) % 4096, nakSent := false }).bump R.NLK_FLITS_RX [k]

section
variable {s : State} (hs : FMap.sorted s.regs = true) {k : Nat} (hr : s.portRuns k = true) {l : List Byte} {f : Flit} (hl : parseFlit l = some f)
include hs hr hl

theorem State.expected_portMoved : s.PortMoved k (s.expected k f) := by
  obtain ⟨-, hp, -⟩ := State.portRuns_iff.1 hr
  exact ((State.linkTaken_portMoved hs hr hl).modPort _).bump _ _ _ (linkCount_at (State.hasPort_lt hp) rfl (by decide) (by decide))

omit hs hr hl in
theorem State.expected_port : (s.expected k f).port k = { (s.port k).linked f with expSeq := ((s.port k).expSeq + 1) % 4096, nakSent := false } := by
  rw [State.expected, State.bump_port, State.port_modPort_self, State.linkTaken_port]
  rfl

/-- The flit is counted (R331). -/
theorem State.expected_counted : (s.expected k f).fld R.NLK_FLITS_RX [k] = (s.fld R.NLK_FLITS_RX [k] + 1) % 2 ^ 32 := by
  obtain ⟨-, hp, -⟩ := State.portRuns_iff.1 hr
  have hk := State.hasPort_lt hp
  have hne : ∀ {f : Fld} {ix : List Nat}, (∃ q, f.at ix = R.NLK_LEDGER_RETURNED.at [k, q]) ∨ f.at ix = R.NLK_FEC_CW_CORR.at [k] →
      R.NLK_FLITS_RX.at [k] ≠ f.at ix := by
    rintro f ix (⟨q, h⟩ | h) <;> rw [h] <;> simp only [Fld.at, R.NLK_FLITS_RX, R.NLK_LEDGER_RETURNED, R.NLK_FEC_CW_CORR, dotOff, ne_eq] <;> omega
  have hf : ∀ g, FMap.sorted ((s.fecCount k false).modPort k g).regs = true := fun _ => (State.fecCount_portMoved hs hk false).sorted
  have h1 : (s.fecCount k false).fld R.NLK_FLITS_RX [k] = s.fld R.NLK_FLITS_RX [k] := by
    rw [State.fecCount_good, State.bumpSat_eq, State.fld_setFld_ne (s := s.free.2) hs (hne (.inr rfl)), State.free_fld]
  have h2 : (s.linkTaken k f).fld R.NLK_FLITS_RX [k] = (s.fecCount k false).fld R.NLK_FLITS_RX [k] := by
    rw [State.linkTaken, State.linkFields, State.bump_eq, State.fld_setFld_ne (hf _) (hne (.inl ⟨_, rfl⟩)), State.modPort_fld]
  have hm : ∀ g, FMap.sorted ((s.linkTaken k f).modPort k g).regs = true := fun _ => (State.linkTaken_portMoved hs hr hl).sorted
  rw [State.expected, State.bump_eq, State.fld_setFld_self (hm _) R.NLK_FLITS_RX (by decide), State.modPort_fld, h2, h1]
  rfl

end

theorem State.askNak_port (s : State) (k : Nat) (h : (s.port k).nakSent = false) : (s.askNak k).port k = { s.port k with nakDue := true, nakSent := true } := by
  rw [State.askNak, State.port_modPort_self, if_neg (by simp [h])]

/-- A port with a flit in its buffer, and one that owes the credit of a buffer. -/
def Port.buffered (p : Port) (f : Flit) : Port := { p with rxq := p.rxq ++ [f], used := p.used.setD f.pool 0 (p.used.getD f.pool 0 + 1) }
def Port.owing (p : Port) (pool : Nat) : Port := { p with owed := p.owed.setD pool 0 (p.owed.getD pool 0 + 1) }

/-- A flit for this device goes into the port's buffer (R335). -/
theorem State.acceptFlit_here {s : State} {k : Nat} {f : Flit} (hd : f.dst = s.node) (hsh : f.ftype ≠ 8 ∨ s.fld R.NLK_STATUS_STATE [k] ≠ 5) :
    s.acceptFlit k f = s.modPort k fun p => p.buffered f := by
  unfold State.acceptFlit
  exact if_pos (by simpa [hd, or_iff_not_imp_left] using hsh)

/-- A flit for another node leaves its buffer at once and goes on (R340). -/
theorem State.acceptFlit_on {s : State} {k : Nat} {f : Flit} (hd : f.dst ≠ s.node) (hsh : f.ftype ≠ 8 ∨ s.fld R.NLK_STATUS_STATE [k] ≠ 5) :
    s.acceptFlit k f = (s.modPort k fun p => p.owing f.pool).forward f := by
  have hh : (f.dst == s.node) = false := by simpa using hd
  have hs : (f.ftype == 8 && s.fld R.NLK_STATUS_STATE [k] == 5) = false := by simpa [or_iff_not_imp_left] using hsh
  unfold State.acceptFlit
  rw [hh, hs]
  rfl

/-! What a log entry and a flit sent leave of the counts of links. -/

theorem Port.queued_fields (p : Port) (l : List Flit) : (p.queued l).replay = p.replay ∧ (p.queued l).resend = p.resend ∧ (p.queued l).credits = p.credits ∧
    (p.queued l).expSeq = p.expSeq ∧ (p.queued l).rxq = p.rxq := ⟨rfl, rfl, rfl, rfl, rfl⟩

/-- No log entry and no flit sent reaches a register word of a port. -/
theorem portWord_not_logTouches {o : Nat} (h1 : 0x20000000 ≤ o) (h2 : o < 0x20C00000) : ¬ Claims.LogTouches o = true := by
  intro hl
  simp only [Claims.LogTouches, Bool.or_eq_true, beq_iff_eq, List.any_eq_true, List.mem_range] at hl
  rcases hl with ((hl | rfl) | rfl) | ⟨k, hk, rfl⟩
  · omega
  · exact absurd h2 (by decide)
  · exact absurd h1 (by decide)
  · simp only [Fld.at, R.STK_TRAFFIC_LINES, dotOff] at h1
    omega

theorem portFld_not_logTouches {f : Fld} {k : Nat} (hk : k < 12) (hst : f.strides = [0x100000]) (hlo : 0x20000000 ≤ f.base) (hhi : f.base < 0x20100000) :
    ¬ Claims.LogTouches (f.at [k]) = true := by
  apply portWord_not_logTouches <;> simp only [Fld.at, hst, dotOff] <;> omega

section
variable {s : State} (hs : FMap.sorted s.regs = true)
include hs

/-- The count of flits whose hops have ended stays. -/
theorem State.sendRaw_ttl (f : Flit) : (s.sendRaw f).1.fld R.NLK_ROUTE_DROP_TTL = s.fld R.NLK_ROUTE_DROP_TTL := by
  have drop : (s.bumpSat R.NLK_ROUTE_DROP_NO_ROUTE).fld R.NLK_ROUTE_DROP_TTL = s.fld R.NLK_ROUTE_DROP_TTL := by
    rw [State.bumpSat_eq, State.fld_setFld_apart hs (by decide)]
  unfold State.sendRaw
  split
  · exact drop
  · split
    · exact drop
    · exact State.modPort_fld ..

theorem State.logMirrored_ttl (code unit sev epoch addr detail : Nat) :
    (s.logMirrored code unit sev epoch addr detail).fld R.NLK_ROUTE_DROP_TTL = s.fld R.NLK_ROUTE_DROP_TTL := by
  obtain ⟨m, h⟩ := State.logMirrored_after_entry hs code unit sev epoch addr detail TrafficWord fun _ => id
  have htraffic : ¬ TrafficWord (R.NLK_ROUTE_DROP_TTL.at []) := by
    rintro ⟨k, hk, h⟩
    simp only [Fld.at, R.NLK_ROUTE_DROP_TTL, R.STK_TRAFFIC_LINES, dotOff] at h
    omega
  have hentry : ¬ (EntryWord (s.fld R.ERL_HEAD_INDEX) (R.NLK_ROUTE_DROP_TTL.at []) ∨ LogControl (R.NLK_ROUTE_DROP_TTL.at [])) := by
    have hi := s.head_lt
    rintro (⟨k, hk, h⟩ | h)
    · simp only [Fld.at, R.NLK_ROUTE_DROP_TTL, R.ERL_ENTRY_WORD, dotOff] at h
      omega
    · exact absurd h (by unfold LogControl; decide)
  exact (h.fld _ _ htraffic).trans ((State.logEntry_keptBut hs code unit sev epoch addr detail m).fld _ _ hentry)

theorem State.interruptRaw_ttl (src v : Nat) : (s.interruptRaw src v).1.fld R.NLK_ROUTE_DROP_TTL = s.fld R.NLK_ROUTE_DROP_TTL := by
  unfold State.interruptRaw
  split
  · split
    · rfl
    · extract_lets a vec dst f req
      have ka : FMap.sorted a.regs = true := State.setFld_sorted hs _ _ _
      have ha : a.fld R.NLK_ROUTE_DROP_TTL = s.fld R.NLK_ROUTE_DROP_TTL := State.fld_setFld_ne hs (f := R.HRT_PENDING_SOURCES) (by decide) _
      rw [← ha]
      clear_value a
      split
      · rfl
      · next tag _ =>
        have hz := State.sendRaw_ttl (s := a.takeTag tag) ka { f tag with age := req.age }
        generalize (a.takeTag tag).sendRaw { f tag with age := req.age } = z at hz
        obtain ⟨z, dropped⟩ := z
        cases dropped <;> exact hz
  · exact (State.deliver_keptBut hs (fun _ => False) v).fld _ _ id

theorem State.logInterrupt_ttl (sev : Nat) : (s.logInterrupt sev).fld R.NLK_ROUTE_DROP_TTL = s.fld R.NLK_ROUTE_DROP_TTL := by
  unfold State.logInterrupt
  split
  · unfold State.interruptOnce
    have hk := (State.interruptRaw_keptBut hs 0 (s.fld R.HRT_ROUTE_VECTOR [0])).sorted
    have hz := State.interruptRaw_ttl hs 0 (s.fld R.HRT_ROUTE_VECTOR [0])
    generalize s.interruptRaw 0 (s.fld R.HRT_ROUTE_VECTOR [0]) = z at hk hz
    obtain ⟨z, dropped⟩ := z
    dsimp only
    split
    · exact (State.logMirrored_ttl hk ..).trans hz
    · exact hz
  · rfl

/-- A drop logged leaves the count of flits whose hops have ended (R341). -/
theorem State.logDrop_ttl (unit : Nat) : (s.log Code.ROUTE_DROP unit).fld R.NLK_ROUTE_DROP_TTL = s.fld R.NLK_ROUTE_DROP_TTL := by
  rw [State.log_eq_logFull _ (by decide) (by decide), State.logFull, State.logInterrupt_ttl (State.logMirrored_keptBut hs ..).sorted, State.logMirrored_ttl hs]

theorem State.sendFlit_ttl (f : Flit) : (s.sendFlit f).fld R.NLK_ROUTE_DROP_TTL = s.fld R.NLK_ROUTE_DROP_TTL := by
  unfold State.sendFlit
  have hk := (State.sendRaw_keptBut hs (f.stamped s)).sorted
  have hz := State.sendRaw_ttl hs (f.stamped s)
  generalize s.sendRaw (f.stamped s) = z at hk hz
  obtain ⟨z, dropped⟩ := z
  dsimp only
  split
  · exact (State.logDrop_ttl hk _).trans hz
  · exact hz

theorem State.answerDrop_aside (f : Flit) : s.Aside (Claims.LogTouches · = true) (s.answerDrop f) :=
  .ite (fun _ => State.sendFlit_aside hs _) fun _ => .refl hs

theorem State.answerDrop_ttl (f : Flit) : (s.answerDrop f).fld R.NLK_ROUTE_DROP_TTL = s.fld R.NLK_ROUTE_DROP_TTL := by
  unfold State.answerDrop
  split
  · exact State.sendFlit_ttl hs _
  · rfl

/-- A flit whose hops end is counted and dropped (R341). -/
theorem State.forward_dropped {f : Flit} (ht : f.ttl ≤ 1) : s.Aside (Claims.LogTouches · = true) (s.forward f) ∧
    (s.forward f).fld R.NLK_ROUTE_DROP_TTL = min (s.fld R.NLK_ROUTE_DROP_TTL + 1) (2 ^ R.NLK_ROUTE_DROP_TTL.w - 1) := by
  have he : s.forward f = ((s.bumpSat R.NLK_ROUTE_DROP_TTL).log Code.ROUTE_DROP linkUnit).answerDrop f := if_pos ht
  have h1 : s.Aside (Claims.LogTouches · = true) (s.bumpSat R.NLK_ROUTE_DROP_TTL) := (State.Aside.refl hs).bumpSat _ _ _ (by decide)
  have h2 := h1.trans (State.log_aside h1.sorted Code.ROUTE_DROP linkUnit 0 0)
  have hlt : satInc R.NLK_ROUTE_DROP_TTL.w (s.fld R.NLK_ROUTE_DROP_TTL) < 2 ^ R.NLK_ROUTE_DROP_TTL.w := by
    have := Nat.two_pow_pos R.NLK_ROUTE_DROP_TTL.w
    unfold satInc
    omega
  rw [he]
  refine ⟨h2.trans (State.answerDrop_aside h2.sorted f), ?_⟩
  rw [State.answerDrop_ttl h2.sorted, State.logDrop_ttl h1.sorted, State.bumpSat_eq, State.fld_setFld_self hs R.NLK_ROUTE_DROP_TTL (by decide),
    Nat.mod_eq_of_lt hlt]
  rfl

end

/-- A flit as it goes on: with one hop less. -/
def Flit.onward (f : Flit) : Flit := { f with ttl := f.ttl - 1, sh := false }

theorem State.port_modPort_queued (s : State) (q : Nat) (l : List Flit) (j : Nat) :
    ∃ m, (s.modPort q fun p => p.queued l).port j = (s.port j).queued m := by
  by_cases hj : j = q
  · subst hj
    exact ⟨l, State.port_modPort_self ..⟩
  · exact ⟨[], (State.port_modPort_ne s hj _).trans (Port.queued_nil _).symm⟩

/-- A flit with a way out goes on with one hop less (R340). -/
theorem State.forward_sent {s : State} {f : Flit} {q : Nat} (ht : 2 ≤ f.ttl) (hq : s.route f.dst = some q) (hst : s.fld R.NLK_STATUS_STATE [q] ≠ 4)
    (hp : s.hasPort q = true) : s.forward f = s.modPort q fun p => p.queued [f.onward] := by
  have hraw : s.sendRaw { f with ttl := f.ttl - 1, sh := false } =
      (s.modPort q fun p => p.queued [f.onward], false) := by
    unfold State.sendRaw
    dsimp only
    rw [hq]
    exact if_neg (by simp [hst, hp])
  unfold State.forward
  rw [if_neg (by omega), hraw]
  rfl

/-! Replays (R333, R334). -/

/-- A port whose flits from a SEQ on are sent again; a flit that an earlier replay has still to send counts once. -/
def Port.replayFrom (p : Port) (seq : Nat) : Port :=
  let keep := dropAcked seq p.replay
  { p with replay := keep, resend := keep
           replayed := keep.foldl (fun m f => if p.resend.any (·.seq == f.seq) then m else m.put f.seq (FMap.getD m f.seq 0 + 1)) p.replayed }

theorem any_congr_mem {α : Type} {p q : α → Bool} {l : List α} (h : ∀ a ∈ l, p a = q a) : l.any p = l.any q := by
  induction l with
  | nil => rfl
  | cons a l ih => rw [List.any_cons, List.any_cons, h a List.mem_cons_self, ih fun b hb => h b (List.mem_cons_of_mem _ hb)]

/-- Each flit of a replay is counted once, but for one that an earlier replay has still to send. -/
theorem replayed_getD (wait : Flit → Bool) {l : List Flit} (hn : (l.map (·.seq)).Nodup) (m : FMap Nat)
    {g : Flit} (hg : g ∈ l) : FMap.getD (l.foldl (fun m f => if wait f then m else m.put f.seq (FMap.getD m f.seq 0 + 1)) m) g.seq 0 =
      FMap.getD m g.seq 0 + if wait g then 0 else 1 := by
  have other : ∀ (l : List Flit) (m : FMap Nat), g.seq ∉ l.map (·.seq) →
      FMap.getD (l.foldl (fun m f => if wait f then m else m.put f.seq (FMap.getD m f.seq 0 + 1)) m) g.seq 0 = FMap.getD m g.seq 0 := by
    intro l
    induction l with
    | nil => exact fun _ _ => rfl
    | cons f l ih =>
      intro m hnot
      obtain ⟨hf, hl⟩ := List.ne_and_not_mem_of_not_mem_cons (List.map_cons .. ▸ hnot)
      rw [List.foldl_cons, ih _ hl]
      split
      · rfl
      · rw [FMap.getD, FMap.find?_put_ne hf, ← FMap.getD]
  induction l generalizing m with
  | nil => cases hg
  | cons f l ih =>
    obtain ⟨hf, hl⟩ := List.nodup_cons.1 (List.map_cons .. ▸ hn)
    rw [List.foldl_cons]
    obtain rfl | hg := List.mem_cons.1 hg
    · rw [other l _ hf]
      split
      · rfl
      · rw [FMap.getD, FMap.find?_put_self]
        rfl
    · have hne : g.seq ≠ f.seq := fun e => hf (e ▸ List.mem_map_of_mem hg)
      rw [ih hl _ hg]
      split
      · rfl
      · rw [FMap.getD, FMap.find?_put_ne hne, ← FMap.getD]

theorem State.PortMoved.up {k : Nat} {s t : State} (h : s.PortMoved k t) : t.up = s.up := by
  have hpins : t.pins = s.pins := (congrArg State.pins h.only).trans rfl
  have hboot : t.boot = s.boot := (congrArg State.boot h.only).trans rfl
  unfold State.up
  rw [hpins, hboot, h.fld R.BSU_REWEAVE_STATUS_STATE [] (by unfold LinkCount; decide)]

theorem State.PortMoved.portRuns {k : Nat} {s t : State} (h : s.PortMoved k t) : t.portRuns k = s.portRuns k := by
  unfold State.portRuns
  rw [h.up, h.hasPort, h.state]

/-- The state in which a replay of a port has begun and been counted. -/
def State.replaying (s : State) (k seq : Nat) : State := (s.setPort k ((s.port k).replayFrom seq)).bumpSat R.NLK_RETRY_REPLAYS [k]

theorem State.replayFrom_eq (s : State) (k seq : Nat) : s.replayFrom k seq =
    if (dropAcked seq (s.port k).replay).any fun f => decide (2 ≤ ((s.port k).replayFrom seq).replayed.getD f.seq 0) then (s.replaying k seq).enterRetrain k
    else s.replaying k seq := rfl

section
variable {s : State} (hs : FMap.sorted s.regs = true) {k : Nat} (hr : s.portRuns k = true) (seq : Nat)
include hs hr

theorem State.replaying_portMoved : s.PortMoved k (s.replaying k seq) := by
  obtain ⟨-, hp, -⟩ := State.portRuns_iff.1 hr
  exact ((State.PortMoved.refl hs).modPort fun _ => (s.port k).replayFrom seq).bumpSat _ _ _ (linkCount_at (State.hasPort_lt hp) rfl (by decide) (by decide))

omit hs hr in
theorem State.replaying_port : (s.replaying k seq).port k = (s.port k).replayFrom seq := by
  rw [State.replaying, State.bumpSat_port]
  exact State.port_modPort_self s k fun _ => (s.port k).replayFrom seq

omit hr in
theorem State.replaying_counted : (s.replaying k seq).fld R.NLK_RETRY_REPLAYS [k] = min (s.fld R.NLK_RETRY_REPLAYS [k] + 1) (2 ^ 16 - 1) := by
  have hm : ∀ p, FMap.sorted (s.setPort k p).regs = true := fun _ => hs
  rw [State.replaying, State.bumpSat_eq, State.fld_setFld_self (hm _) R.NLK_RETRY_REPLAYS (by decide)]
  show satInc 16 (s.fld R.NLK_RETRY_REPLAYS [k]) 1 % 2 ^ 16 = _
  unfold satInc
  omega

/-- RETRAIN is entered and logged; the port keeps its flits and the count of its replays (R336). -/
theorem State.enterRetrain_spec : ∃ l, (s.enterRetrain k).port k = (s.port k).queued l ∧ (s.enterRetrain k).fld R.NLK_STATUS_STATE [k] = 3 ∧
    (s.enterRetrain k).fld R.NLK_RETRY_REPLAYS [k] = s.fld R.NLK_RETRY_REPLAYS [k] ∧ (s.enterRetrain k).items = s.items := by
  obtain ⟨-, hp, -⟩ := State.portRuns_iff.1 hr
  have hk := State.hasPort_lt hp
  have h1 := State.setFld_sorted hs R.NLK_STATUS_STATE 3 [k]
  have h2 := State.setFld_sorted h1 R.NLK_RETRY_RETRAINS (satInc 16 ((s.setFld R.NLK_STATUS_STATE 3 [k]).fld R.NLK_RETRY_RETRAINS [k])) [k]
  have h3 : FMap.sorted ((s.setFld R.NLK_STATUS_STATE 3 [k]).bumpSat R.NLK_RETRY_RETRAINS [k]).regs = true := h2
  have ha := State.log_aside h3 Code.LINK_RETRAIN (portUnit k) 0 0
  have hsr : R.NLK_RETRY_REPLAYS.at [k] ≠ R.NLK_STATUS_STATE.at [k] ∧ R.NLK_STATUS_STATE.at [k] ≠ R.NLK_RETRY_RETRAINS.at [k] := by
    simp only [Fld.at, R.NLK_RETRY_REPLAYS, R.NLK_STATUS_STATE, R.NLK_RETRY_RETRAINS, dotOff]
    omega
  have he : s.enterRetrain k = ((s.setFld R.NLK_STATUS_STATE 3 [k]).bumpSat R.NLK_RETRY_RETRAINS [k]).log Code.LINK_RETRAIN (portUnit k) := if_pos hr
  obtain ⟨l, hl⟩ := ha.ports k
  rw [he]
  refine ⟨l, ?_, ?_, ?_, ?_⟩
  · rw [hl, State.bumpSat_port, State.setFld_port]
  · rw [ha.fld _ _ (portFld_not_logTouches hk rfl (by decide) (by decide)), State.bumpSat_eq, State.fld_setFld_ne h1 hsr.2,
      State.fld_setFld_self hs R.NLK_STATUS_STATE (by decide)]
    rfl
  · rw [ha.fld _ _ (portFld_not_logTouches hk rfl (by decide) (by decide)), State.bumpSat_eq,
      State.fld_setFld_apart h1 (f := R.NLK_RETRY_RETRAINS) (g := R.NLK_RETRY_REPLAYS) (.inr ⟨by decide, rfl, .inl (by decide)⟩),
      State.fld_setFld_ne hs hsr.1]
  · rw [ha.items, State.bumpSat_items, State.setFld_items]

/-- A replay of a running port: the flits from the SEQ on are sent again, and a second replay of one enters RETRAIN. -/
theorem State.replayFrom_spec (hn : ((s.port k).replay.map (·.seq)).Nodup) :
    ((s.replayFrom k seq).port k).rxq = (s.port k).rxq ∧ ((s.replayFrom k seq).port k).resend = dropAcked seq (s.port k).replay ∧
      ((s.replayFrom k seq).port k).replay = ((s.replayFrom k seq).port k).resend ∧
      (s.replayFrom k seq).fld R.NLK_RETRY_REPLAYS [k] = min (s.fld R.NLK_RETRY_REPLAYS [k] + 1) (2 ^ 16 - 1) ∧
      (s.replayFrom k seq).fld R.NLK_STATUS_STATE [k] = (if ((s.replayFrom k seq).port k).replay.any
        (fun g => decide (2 ≤ (s.port k).replayed.getD g.seq 0 + if (s.port k).resend.any (·.seq == g.seq) then 0 else 1)) then 3
        else s.fld R.NLK_STATUS_STATE [k]) ∧ (s.replayFrom k seq).items = s.items := by
  have hm := State.replaying_portMoved hs hr seq
  have hport := State.replaying_port (s := s) (k := k) seq
  have hkeep : ((dropAcked seq (s.port k).replay).map (·.seq)).Nodup := hn.sublist (List.Sublist.map _ List.filter_sublist)
  have hany : ((dropAcked seq (s.port k).replay).any fun f => decide (2 ≤ ((s.port k).replayFrom seq).replayed.getD f.seq 0)) =
      (dropAcked seq (s.port k).replay).any fun g => decide (2 ≤ (s.port k).replayed.getD g.seq 0 + if (s.port k).resend.any (·.seq == g.seq) then 0 else 1) :=
    any_congr_mem fun g hg => by
      rw [← replayed_getD (fun f => (s.port k).resend.any (·.seq == f.seq)) hkeep _ hg]
      rfl
  rw [State.replayFrom_eq, hany]
  split
  · next h =>
    obtain ⟨l, hl, hstate, hcount, hitems⟩ := State.enterRetrain_spec hm.sorted (hm.portRuns.trans hr)
    rw [hl, hport]
    refine ⟨rfl, rfl, rfl, by rw [hcount, State.replaying_counted hs], ?_, hitems.trans hm.items⟩
    exact hstate.trans (if_pos h).symm
  · next h =>
    rw [hport]
    refine ⟨rfl, rfl, rfl, State.replaying_counted hs seq, ?_, hm.items⟩
    exact (hm.state k).trans (if_neg h).symm

end

theorem exec_nakReceive_first {s : State} {k : Nat} {n : Flit} {rest : List Flit} (hr : s.portRuns k = true) (hrx : (s.port k).rxq = n :: rest)
    (hn : n.ftype = 1) :
    exec (.nakReceive k) s = .next ((s.modPort k fun p => { p with rxq := rest }).replayFrom k (fieldAt n.payload 0 2 % 4096)) := by
  have hpick : pickFlit (fun f => f.ftype == 1) (s.port k).rxq = some (n, rest) := by
    rw [hrx]
    exact if_pos (by simp [hn])
  show execNakReceive k s = _
  unfold execNakReceive
  rw [hpick]
  exact if_pos hr

theorem exec_replayTimerExpire_first {s : State} {k : Nat} {f : Flit} {rest : List Flit} (hr : s.portRuns k = true) (hrep : (s.port k).replay = f :: rest) :
    exec (.replayTimerExpire k) s = .next (s.replayFrom k f.seq) := by
  show execReplayTimerExpire k s = _
  unfold execReplayTimerExpire
  rw [hrep]
  exact if_pos hr

end Sys2Proof.Machine

namespace Sys2Proof.Claims
open Machine

/-- What a good flit's link fields leave of a port, and of the items. -/
def LinkFieldsTaken (s t : State) (k : Nat) (f : Flit) : Prop :=
  (t.port k).replay = (s.port k).replay.filter (fun g => decide ((g.seq + 4096 - f.ack % 4096) % 4096 < 2048)) ∧
    (t.port k).credits.getD (if f.crSh then 16 else f.crVc) 0 = (s.port k).credits.getD (if f.crSh then 16 else f.crVc) 0 + f.crCount ∧
    (∀ q, q ≠ (if f.crSh then 16 else f.crVc) → (t.port k).credits.getD q 0 = (s.port k).credits.getD q 0) ∧ t.items = s.items

section
variable {s : State} (hs : FMap.sorted s.regs = true) {k : Nat} (hr : s.portRuns k = true) {l : List Byte} {f : Flit} (hl : parseFlit l = some f)
  (hc : FMap.sorted (s.port k).credits = true)

include hc in
/-- The acknowledgement and the credits of a good flit have been taken at the port. -/
theorem linkFieldsTaken_of_port {t : State} (hrep : (t.port k).replay = ((s.port k).linked f).replay)
    (hcr : (t.port k).credits = ((s.port k).linked f).credits) (hi : t.items = s.items) : LinkFieldsTaken s t k f := by
  unfold LinkFieldsTaken
  rw [hrep, hcr]
  exact ⟨rfl, FMap.getD_setD_self hc _ _ _, fun q hq => FMap.getD_setD_ne hc hq _ _ _, hi⟩

include hs hr hl hc

/-- A flit in sequence for this device is buffered with the age stamp of its entry. -/
theorem accepted_here (hd : f.dst = s.node) (hsh : f.ftype ≠ 8 ∨ s.fld R.NLK_STATUS_STATE [k] ≠ 5) :
    LinkFieldsTaken s ((s.expected k f).acceptFlit k (f.stamped s)) k f ∧
      (((s.expected k f).acceptFlit k (f.stamped s)).port k).expSeq = ((s.port k).expSeq + 1) % 4096 ∧
      (((s.expected k f).acceptFlit k (f.stamped s)).port k).rxq = (s.port k).rxq ++ [f.stamped s] ∧
      ((s.expected k f).acceptFlit k (f.stamped s)).fld R.NLK_FLITS_RX [k] = (s.fld R.NLK_FLITS_RX [k] + 1) % 2 ^ 32 ∧
      ((s.expected k f).acceptFlit k (f.stamped s)).mem = s.mem ∧ ∀ j, j ≠ k → ((s.expected k f).acceptFlit k (f.stamped s)).port j = s.port j := by
  have hm := State.expected_portMoved hs hr hl
  have hm' := hm.modPort fun p => p.buffered (f.stamped s)
  have hport : ((s.expected k f).modPort k fun p => p.buffered (f.stamped s)).port k =
      { ((s.port k).linked f).buffered (f.stamped s) with expSeq := ((s.port k).expSeq + 1) % 4096, nakSent := false } := by
    rw [State.port_modPort_self, State.expected_port]
    rfl
  rw [State.acceptFlit_here (f := f.stamped s) (hd.trans hm.node.symm) (hsh.imp_right fun h => hm.state k ▸ h)]
  refine ⟨linkFieldsTaken_of_port hc (by rw [hport]; rfl) (by rw [hport]; rfl) hm'.items, by rw [hport], by rw [hport]; rfl, ?_, hm'.mem, hm'.others⟩
  rw [State.modPort_fld, State.expected_counted hs hr hl]

/-- A flit in sequence for another node whose hops end is dropped and counted. -/
theorem accepted_dropped (hd : f.dst ≠ s.node) (ht : f.ttl ≤ 1) (hsh : f.ftype ≠ 8 ∨ s.fld R.NLK_STATUS_STATE [k] ≠ 5) :
    LinkFieldsTaken s ((s.expected k f).acceptFlit k (f.stamped s)) k f ∧
      (((s.expected k f).acceptFlit k (f.stamped s)).port k).expSeq = ((s.port k).expSeq + 1) % 4096 ∧
      (((s.expected k f).acceptFlit k (f.stamped s)).port k).rxq = (s.port k).rxq ∧
      ((s.expected k f).acceptFlit k (f.stamped s)).fld R.NLK_ROUTE_DROP_TTL = min (s.fld R.NLK_ROUTE_DROP_TTL + 1) (2 ^ R.NLK_ROUTE_DROP_TTL.w - 1) := by
  have hm := State.expected_portMoved hs hr hl
  have hm' := hm.modPort fun p => p.owing (f.stamped s).pool
  rw [State.acceptFlit_on (f := f.stamped s) (fun h => hd (h.trans hm.node)) (hsh.imp_right fun h => hm.state k ▸ h)]
  obtain ⟨ha, httl⟩ := State.forward_dropped hm'.sorted (f := f.stamped s) ht
  obtain ⟨m, hport⟩ := ha.ports k
  rw [State.port_modPort_self, State.expected_port] at hport
  refine ⟨linkFieldsTaken_of_port hc (by rw [hport]; rfl) (by rw [hport]; rfl) (ha.items.trans hm'.items), by rw [hport]; rfl, by rw [hport]; rfl, ?_⟩
  rw [httl, hm'.fld _ _ (by unfold LinkCount; decide)]

/-- A flit in sequence for another node goes on with one hop less. -/
theorem accepted_on {q : Nat} (hd : f.dst ≠ s.node) (ht : 2 ≤ f.ttl) (hsh : f.ftype ≠ 8 ∨ s.fld R.NLK_STATUS_STATE [k] ≠ 5) (hroute : s.route f.dst = some q)
    (hq4 : s.fld R.NLK_STATUS_STATE [q] ≠ 4) (hpq : s.hasPort q = true) :
    LinkFieldsTaken s ((s.expected k f).acceptFlit k (f.stamped s)) k f ∧
      (((s.expected k f).acceptFlit k (f.stamped s)).port k).expSeq = ((s.port k).expSeq + 1) % 4096 ∧
      (((s.expected k f).acceptFlit k (f.stamped s)).port k).rxq = (s.port k).rxq ∧
      (((s.expected k f).acceptFlit k (f.stamped s)).port q).txq = (s.port q).txq ++ [(f.stamped s).onward] := by
  have hm := State.expected_portMoved hs hr hl
  have hm' := hm.modPort fun p => p.owing (f.stamped s).pool
  have howing : ((s.expected k f).modPort k fun p => p.owing (f.stamped s).pool).port k =
      { ((s.port k).linked f).owing (f.stamped s).pool with expSeq := ((s.port k).expSeq + 1) % 4096, nakSent := false } := by
    rw [State.port_modPort_self, State.expected_port]
    rfl
  have htxq : (((s.expected k f).modPort k fun p => p.owing (f.stamped s).pool).port q).txq = (s.port q).txq := by
    by_cases hqk : q = k
    · subst hqk
      rw [howing]
      rfl
    · rw [hm'.others q hqk]
  rw [State.acceptFlit_on (f := f.stamped s) (fun h => hd (h.trans hm.node)) (hsh.imp_right fun h => hm.state k ▸ h),
    State.forward_sent (f := f.stamped s) ht ((hm'.route _).trans hroute) (fun h => hq4 ((hm'.state q).symm.trans h)) ((hm'.hasPort q).trans hpq)]
  obtain ⟨m, hport⟩ := State.port_modPort_queued ((s.expected k f).modPort k fun p => p.owing (f.stamped s).pool) q [(f.stamped s).onward] k
  rw [howing] at hport
  refine ⟨linkFieldsTaken_of_port hc (by rw [hport]; rfl) (by rw [hport]; rfl) hm'.items, by rw [hport]; rfl, by rw [hport]; rfl, ?_⟩
  rw [State.port_modPort_self, ← htxq]
  rfl

/-- A good flit out of sequence makes a NAK due. -/
theorem outOfSequence (hn : (s.port k).nakSent = false) :
    LinkFieldsTaken s ((s.linkTaken k f).askNak k) k f ∧ (((s.linkTaken k f).askNak k).port k).expSeq = (s.port k).expSeq ∧
      (((s.linkTaken k f).askNak k).port k).rxq = (s.port k).rxq ∧ (((s.linkTaken k f).askNak k).port k).nakDue = true ∧
      (((s.linkTaken k f).askNak k).port k).nakSent = true := by
  have hm := State.linkTaken_portMoved hs hr hl
  have hpt : (s.linkTaken k f).port k = (s.port k).linked f := State.linkTaken_port
  have hport := State.askNak_port (s.linkTaken k f) k (by rw [hpt]; exact hn)
  rw [hpt] at hport
  rw [hport]
  exact ⟨linkFieldsTaken_of_port hc (by rw [hport]) (by rw [hport]) (hm.modPort _).items, rfl, rfl, rfl, rfl⟩

end

/-- A flit that fails a check: it is counted, and a NAK is due. -/
theorem badFlit {s : State} (hs : FMap.sorted s.regs = true) {k : Nat} (hk : k < 12) (bad : Bool) (hn : (s.port k).nakSent = false) :
    (((s.fecCount k bad).bumpSat R.NLK_RETRY_CRC_FAIL [k]).askNak k).port k = { s.port k with nakDue := true, nakSent := true } ∧
      (((s.fecCount k bad).bumpSat R.NLK_RETRY_CRC_FAIL [k]).askNak k).items = s.items ∧
      (((s.fecCount k bad).bumpSat R.NLK_RETRY_CRC_FAIL [k]).askNak k).fld R.NLK_RETRY_CRC_FAIL [k] =
        min (s.fld R.NLK_RETRY_CRC_FAIL [k] + 1) (2 ^ 32 - 1) := by
  have hm := State.fecCount_portMoved hs hk bad
  have hcount : LinkCount (R.NLK_RETRY_CRC_FAIL.at [k]) := linkCount_at hk rfl (by decide) (by decide)
  have hne : ∀ f : Fld, f.base = 0x20000028 → f.strides = [0x100000] → R.NLK_RETRY_CRC_FAIL.at [k] ≠ f.at [k] := fun f hb hst => by
    simp only [Fld.at, hb, hst, R.NLK_RETRY_CRC_FAIL, dotOff]
    omega
  have hpt : ((s.fecCount k bad).bumpSat R.NLK_RETRY_CRC_FAIL [k]).port k = s.port k := by rw [State.bumpSat_port, State.fecCount_port]
  have hold : (s.fecCount k bad).fld R.NLK_RETRY_CRC_FAIL [k] = s.fld R.NLK_RETRY_CRC_FAIL [k] := State.fecCount_fld hs bad hne
  refine ⟨?_, ((hm.bumpSat _ _ 1 hcount).modPort _).items, ?_⟩
  · rw [State.askNak_port _ _ (by rw [hpt]; exact hn), hpt]
  · rw [State.askNak, State.modPort_fld, State.bumpSat_eq, State.fld_setFld_self hm.sorted R.NLK_RETRY_CRC_FAIL (by decide), hold]
    show satInc 32 (s.fld R.NLK_RETRY_CRC_FAIL [k]) 1 % 2 ^ 32 = _
    unfold satInc
    omega

/-- Settles O49: the link fields first, then what becomes of the flit, and the two ways a replay begins. -/
theorem linkReceive : Obligations.LinkReceive := by
  unfold Obligations.LinkReceive
  intro s k p l hcanon hr hp
  subst hp
  have hs := State.canon_regs hcanon
  obtain ⟨-, hport, -⟩ := State.portRuns_iff.1 hr
  dsimp only
  refine ⟨fun f hl hq hv hc => ?_, fun bad hb hn => ?_, fun hn => ?_⟩
  · rw [exec_flitReceive_good hs hr hl hq hv]
    refine ⟨fun hseq hd hsh hf => ?_, fun hseq hd ht hsh hf => ?_, fun q hseq hd ht hsh hf hroute hq4 hpq => ?_, fun hseq hnak => ?_⟩
    · rw [if_neg (by simp [hseq, hf]), ← State.expected]
      exact ⟨_, rfl, accepted_here hs hr hl hc hd hsh⟩
    · rw [if_neg (by simp [hseq, hf]), ← State.expected]
      exact ⟨_, rfl, accepted_dropped hs hr hl hc hd ht hsh⟩
    · rw [if_neg (by simp [hseq, hf]), ← State.expected]
      exact ⟨_, rfl, accepted_on hs hr hl hc hd ht hsh hroute hq4 hpq⟩
    · rw [if_pos (.inl hseq)]
      exact ⟨_, rfl, outOfSequence hs hr hl hc hnak⟩
  · exact ⟨_, exec_flitReceive_bad hr hb, badFlit hs (State.hasPort_lt hport) bad hn⟩
  · refine ⟨fun n rest hrx hnak => ?_, fun f rest hrep => ?_⟩
    · have hpop : FMap.sorted (s.modPort k fun p => { p with rxq := rest }).regs = true := hs
      have hpt := State.port_modPort_self s k fun p => { p with rxq := rest }
      have hspec := State.replayFrom_spec hpop (k := k) hr (fieldAt n.payload 0 2 % 4096) (by rw [hpt]; exact hn)
      rw [hpt] at hspec
      exact ⟨_, exec_nakReceive_first hr hrx hnak, hspec⟩
    · exact ⟨_, exec_replayTimerExpire_first hr hrep, State.replayFrom_spec hs hr f.seq hn⟩

end Sys2Proof.Claims
end

section
/-! PROOFS. A lost peer and the reply that FW0 holds: the roster's event posts what waits for OUT mailbox 0, and a held reply longer than register space before the ports' STATUS words replaces them (R346, R435, R442, R512). -/

namespace Sys2Proof.Machine
open Sys2Proof

/-! The words of a message in a mailbox slot. -/

/-- `n` times the eight bytes of a word whose lower half is 254 and whose upper half is all ones. -/
def longMessage (n : Nat) : List Byte := (List.replicate n [0xFE, 0, 0, 0, 0xFF, 0xFF, 0xFF, 0xFF]).flatten

/-- The word that a long message repeats. -/
def longWord : Word := 0xFFFFFFFF000000FE

theorem longMessage_length (n : Nat) : (longMessage n).length = 8 * n := by
  simp [longMessage, Nat.mul_comm]

theorem longMessage_word (n j : Nat) (h : j < n) : BitVec.ofNat 64 (fieldAt (longMessage n) (8 * j) 8) = longWord := by
  have hdrop : (longMessage n).drop (8 * j) = longMessage (n - j) := by
    induction j generalizing n with
    | zero => rfl
    | succ j ih =>
      obtain ⟨n, rfl⟩ : ∃ m, n = m + 1 := ⟨n - 1, by omega⟩
      have hcons : longMessage (n + 1) = [0xFE, 0, 0, 0, 0xFF, 0xFF, 0xFF, 0xFF] ++ longMessage n := by
        simp [longMessage, List.replicate_succ]
      rw [hcons, Nat.mul_succ, Nat.add_comm, ← List.drop_drop]
      rw [show (([0xFE, 0, 0, 0, 0xFF, 0xFF, 0xFF, 0xFF] : List Byte) ++ longMessage n).drop 8 = longMessage n from rfl, ih n (by omega)]
      congr 1
      omega
  obtain ⟨m, hm⟩ : ∃ m, n - j = m + 1 := ⟨n - j - 1, by omega⟩
  have htake : (longMessage (m + 1)).take 8 = [0xFE, 0, 0, 0, 0xFF, 0xFF, 0xFF, 0xFF] := by
    simp [longMessage, List.replicate_succ]
  rw [fieldAt, hdrop, hm, htake]
  decide

/-- A message whose words are all one word, put in a slot: the words that it covers hold it, and no other register word differs. -/
theorem State.fillSlot_words {s : State} (hs : FMap.sorted s.regs = true) {m : List Byte} {n : Nat} {w : Word} (hn : m.length = 8 * n) (hw : w ≠ 0)
    (hm : ∀ j < n, BitVec.ofNat 64 (fieldAt m (8 * j) 8) = w) (p d slot : Nat) :
    FMap.sorted (s.fillSlot p d slot m).regs = true ∧ (∀ j < n, FMap.find? (mbxSlot p d slot + 8 * j) (s.fillSlot p d slot m).regs = some w) ∧
      (∀ o, (∀ j < n, o ≠ mbxSlot p d slot + 8 * j) → FMap.find? o (s.fillSlot p d slot m).regs = FMap.find? o s.regs) ∧
      (s.fillSlot p d slot m).fw = s.fw := by
  have hcount : (m.length + 7) / 8 = n := by omega
  unfold State.fillSlot
  rw [hcount]
  clear hcount hn
  induction n with
  | zero => exact ⟨hs, fun _ h => absurd h (by omega), fun _ _ => rfl, rfl⟩
  | succ n ih =>
    obtain ⟨h1, h2, h3, h4⟩ := ih fun j hj => hm j (by omega)
    rw [List.range_succ, List.foldl_append, List.foldl_cons, List.foldl_nil]
    generalize (List.range n).foldl _ s = u at h1 h2 h3 h4
    have hput : ({ u with regs := u.regs.setD (mbxSlot p d slot + 8 * n) 0 (BitVec.ofNat 64 (fieldAt m (8 * n) 8)) }.markReg
        (mbxSlot p d slot + 8 * n) false).regs = FMap.put (mbxSlot p d slot + 8 * n) w u.regs := by
      rw [hm n (by omega)]
      exact if_neg hw
    rw [hput]
    refine ⟨FMap.sorted_put _ _ h1, fun j hj => ?_, fun o ho => ?_, h4⟩
    · rw [FMap.find?_put]
      split
      · rfl
      · exact h2 j (by omega)
    · rw [FMap.find?_put_ne (ho n (by omega)), h3 o fun j hj => ho j (by omega)]

/-! Posting it. -/

theorem State.emit_fld (s : State) (o : Out) (f : Fld) (ix : List Nat) : (s.emit o).fld f ix = s.fld f ix := rfl
theorem State.setPort_fld (s : State) (k : Nat) (p : Port) (f : Fld) (ix : List Nat) : (s.setPort k p).fld f ix = s.fld f ix := rfl
theorem State.modFw_fld (s : State) (p : Nat) (g : FwProc → FwProc) (f : Fld) (ix : List Nat) : (s.modFw p g).fld f ix = s.fld f ix := rfl

theorem State.foldl_of_fixed {f : State → State} {s : State} (h : f s = s) (l : List Nat) : l.foldl (fun s _ => f s) s = s := by
  induction l with
  | nil => rfl
  | cons _ l ih => rw [List.foldl_cons, h, ih]

/-- Without a relay enabled nothing leaves a mailbox by the management port. -/
theorem State.relayAll_of_disabled {s : State} (h : s.fld R.MGT_CTL_MBX_EN = 0) (p : Nat) : s.relayAll p = s := by
  have hb : bit 0 p = false := by simp [bit]
  exact State.foldl_of_fixed (f := fun s => s.relayOut p) (if_neg (by simp [h, hb])) _

/-- FW0 runs, holds the long reply with room in its OUT mailbox, has no RESTARTED event, and no mailbox is relayed. -/
structure State.HoldsLong (s : State) (m : List Byte) : Prop where
  sorted : FMap.sorted s.regs = true
  held : (s.fwp 0).heldReply = some m
  events : (s.fwp 0).events.find? restartedType = none
  runs : s.fwRuns 0 = true
  outPi : s.fld R.QMC_MBX_W1_OUT_PI [0] = 0
  outCi : s.fld R.QMC_MBX_W1_OUT_CI [0] = 0
  relay : s.fld R.MGT_CTL_MBX_EN = 0

/-- A message of long words that reaches from OUT slot 0 of FW0 past the STATUS word of port 0, and not to the management port. -/
structure LongWords (m : List Byte) (n : Nat) : Prop where
  length : m.length = 8 * n
  words : ∀ j < n, BitVec.ofNat 64 (fieldAt m (8 * j) 8) = longWord
  reaches : 0x20000010 ≤ 0x05100000 + 8 * n
  ends : 0x05100000 + 8 * n ≤ 0x24000000

/-- The state in which a held reply has been posted to OUT slot 0 of FW0. -/
def State.postedHeld (s : State) (m : List Byte) : State :=
  ((((s.fillSlot 0 1 0 m).bump R.QMC_MBX_W1_OUT_PI [0]).emit (.mailbox 0 0)).bump R.QMC_MBX_W0_IN_CI [0]).modFw 0 fun f => { f with heldReply := none }

section
variable {s : State} {m : List Byte} {n : Nat} (hs : s.HoldsLong m) (hm : LongWords m n)
include hs hm

theorem State.HoldsLong.fillSlot : FMap.sorted (s.fillSlot 0 1 0 m).regs = true ∧
    (∀ (f : Fld) (ix : List Nat), f.at ix % 8 = 0 → 0x05100000 ≤ f.at ix → f.at ix < 0x20000010 → (s.fillSlot 0 1 0 m).fld f ix = bits longWord.toNat f.lo f.w) ∧
    (s.fillSlot 0 1 0 m).fld R.MGT_CTL_MBX_EN = 0 := by
  obtain ⟨h1, h2, h3, -⟩ := State.fillSlot_words hs.sorted hm.length (by decide) hm.words 0 1 0
  have hslot : mbxSlot 0 1 0 = 0x05100000 := by decide
  rw [hslot] at h2 h3
  have hr := hm.reaches
  have he := hm.ends
  refine ⟨h1, fun f ix h8 hlo hhi => ?_, ?_⟩
  · have hj := h2 ((f.at ix - 0x05100000) / 8) (by omega)
    rw [show 0x05100000 + 8 * ((f.at ix - 0x05100000) / 8) = f.at ix by omega] at hj
    unfold State.fld FMap.getD
    rw [hj]
    rfl
  · have hat : R.MGT_CTL_MBX_EN.at [] = 0x24000000 := by decide
    have hkept := h3 (R.MGT_CTL_MBX_EN.at []) fun j hj => by
      rw [hat]
      omega
    exact (State.fld_congr hkept).trans hs.relay

theorem State.HoldsLong.postWaiting : s.postWaiting 0 = s.postedHeld m := by
  obtain ⟨k1, hword, hrelay⟩ := hs.fillSlot hm
  have hroom : s.outRoom 0 = true := by simp [State.outRoom, hs.outPi, hs.outCi]
  have hirq : (((s.fillSlot 0 1 0 m).bump R.QMC_MBX_W1_OUT_PI [0]).emit (.mailbox 0 0)).flag R.QMC_MBX_W3_OUT_IRQ_EN [0] = false := by
    rw [State.flag, State.emit_fld, State.bump_eq, State.fld_setFld_ne k1 (by decide), hword R.QMC_MBX_W3_OUT_IRQ_EN [0] (by decide) (by decide) (by decide)]
    decide
  have hoff : (((s.fillSlot 0 1 0 m).bump R.QMC_MBX_W1_OUT_PI [0]).emit (.mailbox 0 0)).fld R.MGT_CTL_MBX_EN = 0 := by
    rw [State.emit_fld, State.bump_eq, State.fld_setFld_ne k1 (by decide), hrelay]
  have hpost : s.postNow 0 m = ((s.fillSlot 0 1 0 m).bump R.QMC_MBX_W1_OUT_PI [0]).emit (.mailbox 0 0) := by
    unfold State.postNow
    dsimp only
    rw [hs.outPi, hirq, if_neg (by decide), State.relayAll_of_disabled hoff]
  unfold State.postWaiting
  dsimp only
  rw [hroom, hs.runs, hs.events, hs.held, State.postedHeld, ← hpost]
  rfl

/-- Words of register space that the reply covers, but for those of FW0's mailbox, hold the long word. -/
theorem State.HoldsLong.postedHeld_fld : FMap.sorted (s.postedHeld m).regs = true ∧
    (∀ (f : Fld) (ix : List Nat), f.at ix % 8 = 0 → 0x05100000 ≤ f.at ix → f.at ix < 0x20000010 → f.at ix ≠ 0xB001000 → f.at ix ≠ 0xB001008 →
      (s.postedHeld m).fld f ix = bits longWord.toNat f.lo f.w) ∧
    (s.postedHeld m).fld R.QMC_MBX_W1_OUT_PI [0] = 255 ∧ (s.postedHeld m).fld R.QMC_MBX_W1_OUT_CI [0] = 2 ^ 32 - 1 := by
  obtain ⟨k1, hword, -⟩ := hs.fillSlot hm
  have k2 : FMap.sorted (((s.fillSlot 0 1 0 m).bump R.QMC_MBX_W1_OUT_PI [0]).emit (.mailbox 0 0)).regs = true := State.setFld_sorted k1 _ _ _
  have ci : R.QMC_MBX_W0_IN_CI.at [0] = 0xB001000 := by decide
  have pi : R.QMC_MBX_W1_OUT_PI.at [0] = 0xB001008 := by decide
  refine ⟨State.setFld_sorted k2 R.QMC_MBX_W0_IN_CI _ [0], fun f ix h8 hlo hhi h0 h1 => ?_, ?_, ?_⟩
  · rw [State.postedHeld, State.modFw_fld, State.bump_eq, State.fld_setFld_ne k2 (by rw [ci]; exact h0), State.emit_fld, State.bump_eq,
      State.fld_setFld_ne k1 (by rw [pi]; exact h1), hword f ix h8 hlo hhi]
  · rw [State.postedHeld, State.modFw_fld, State.bump_eq, State.fld_setFld_ne k2 (by decide), State.emit_fld, State.bump_eq,
      State.fld_setFld_self k1 R.QMC_MBX_W1_OUT_PI (by decide), hword R.QMC_MBX_W1_OUT_PI [0] (by decide) (by decide) (by decide)]
    decide
  · rw [State.postedHeld, State.modFw_fld, State.bump_eq, State.fld_setFld_ne k2 (by decide), State.emit_fld, State.bump_eq,
      State.fld_setFld_apart k1 (by decide), hword R.QMC_MBX_W1_OUT_CI [0] (by decide) (by decide) (by decide)]
    decide

/-- The reply leaves no room for more: its own words stand in FW0's indices. -/
theorem State.HoldsLong.drainOut : s.drainOut 0 = (s.postedHeld m).showPending 0 := by
  obtain ⟨-, -, hpi, hci⟩ := hs.postedHeld_fld hm
  have hfull : (s.postedHeld m).outRoom 0 = false := by simp [State.outRoom, hpi, hci]
  have hfix : (s.postedHeld m).postWaiting 0 = s.postedHeld m := if_pos (by rw [hfull]; rfl)
  unfold State.drainOut
  rw [show List.range 16 = 0 :: (List.range 16).tail from rfl, List.foldl_cons, hs.postWaiting hm, State.foldl_of_fixed (f := fun s => s.postWaiting 0) hfix]

end

/-- Once FW0 has posted the long reply with the roster's event, STATE of port 0 shows three bits of it. -/
theorem State.rosterTell_long {s : State} {m : List Byte} {n : Nat} (hm : LongWords m n) (hr : s.roster.state ≠ s.roster.told)
    (hs : ({ s with roster := { s.roster with told := s.roster.state, gen := (s.roster.gen + 1) % 2 ^ 32 } }.modFw 0 fun f =>
      { f with events := f.events.put 0x0010 ({ s with roster := { s.roster with told := s.roster.state, gen := (s.roster.gen + 1) % 2 ^ 32 } } : State).rosterBody }).HoldsLong m) :
    s.rosterTell.fld R.NLK_STATUS_STATE [0] = 6 := by
  obtain ⟨k1, hword, -⟩ := hs.postedHeld_fld hm
  have hd := hs.drainOut hm
  unfold State.rosterTell
  rw [if_neg hr]
  unfold State.postEvent
  dsimp only
  rw [hd]
  generalize State.postedHeld _ m = u at k1 hword
  have k2 : FMap.sorted (u.showPending 0).regs = true := State.setFld_sorted k1 _ _ _
  have hflag : (u.showPending 0).flag R.HRT_ROUTE_EN [6] = false := by
    rw [State.flag, State.showPending, State.setFlag_eq, State.fld_setFld_ne k1 (by decide), hword R.HRT_ROUTE_EN [6] (by decide) (by decide) (by decide) (by decide)
      (by decide)]
    decide
  rw [State.interruptRoute, hflag, if_neg (by decide), State.setFldBit, State.fld_setFld_ne k2 (by decide), State.showPending, State.setFlag_eq,
    State.fld_setFld_ne k1 (by decide), hword R.NLK_STATUS_STATE [0] (by decide) (by decide) (by decide) (by decide) (by decide)]
  decide

/-! A port that holds nothing goes DOWN. -/

theorem State.logEntry_ports (s : State) (code unit sev epoch addr detail : Nat) (m : Bool) : (s.logEntry code unit sev epoch addr detail m).ports = s.ports := by
  have hput : ∀ (l : List Nat) (u : State) i bytes, (u.putEntry i bytes l).ports = u.ports := by
    intro l
    induction l with
    | nil => exact fun _ _ _ => rfl
    | cons k l ih => exact fun u i bytes => (ih _ i bytes).trans ((State.setFld_ports ..).trans (State.markReg_ports ..))
  rw [State.logEntry_eq]
  unfold State.advanceLog
  dsimp only
  split
  · rw [State.bumpSat_ports, State.setFld_ports, State.setFld_ports, State.bump_ports, State.setFld_ports, hput]
  · rw [State.bump_ports, State.setFld_ports, State.bump_ports, State.setFld_ports, hput]

/-- An entry that is not mirrored and raises no interrupt sends nothing. -/
theorem State.log_ports {s : State} (hs : FMap.sorted s.regs = true) {code : Nat} (h1 : code ≠ Code.MEM_CE) (h2 : code ≠ Code.WORD_CE)
    (hm : s.flag R.ERL_CTL_MIRROR_EN = false) (hr : s.flag R.HRT_ROUTE_EN [0] = false) (unit : Nat) : (s.log code unit).ports = s.ports := by
  have hw : ¬ LogWord (s.fld R.ERL_HEAD_INDEX) (R.HRT_ROUTE_EN.at [0]) := fun h => absurd (logTouches_of_logWord s.head_lt h) (by decide)
  have hkeep : (s.logMirrored code unit (severityOf code) (s.fld R.EPO_CUR_EPOCH) 0 0).flag R.HRT_ROUTE_EN [0] = false := by
    unfold State.flag at hr ⊢
    rw [(State.logMirrored_keptBut hs ..).fld R.HRT_ROUTE_EN _ hw, hr]
  rw [State.log_eq_logFull _ h1 h2, State.logFull, State.logInterrupt, if_neg (by rw [hkeep]; exact fun h => Bool.false_ne_true h.2)]
  unfold State.logMirrored
  simp only [hm, Bool.false_and, Bool.false_eq_true, if_false]
  exact State.logEntry_ports ..

theorem State.reapSteps_of_noCols {s : State} (h : s.cols = []) : s.reapSteps = s := by
  unfold State.reapSteps
  rw [h]
  rfl

theorem State.activeGroups_of_noCols {s : State} (h : s.cols = []) : s.activeGroups = [] := by
  simp [State.activeGroups, h]

/-- A port whose buffers are empty goes DOWN: nothing is sent again, and no step is in flight. -/
theorem State.downPort_idle {s : State} {k : Nat} (ht : (s.port k).txq = []) (hr : (s.port k).replay = []) (hx : (s.port k).rxq = []) (hc : s.cols = [])
    (detail : Nat) : ∃ p d, s.downPort k 4 detail =
      ((((s.setPort k p).bump R.NLK_RECOVERED_DISCARDED [k] d).setFld R.NLK_STATUS_STATE 4 [k]).setFld R.NLK_STATUS_WIDTH_ACT 0 [k]).rosterTell := by
  have hcols : ∀ p d, ((((s.setPort k p).bump R.NLK_RECOVERED_DISCARDED [k] d).setFld R.NLK_STATUS_STATE 4 [k]).setFld R.NLK_STATUS_WIDTH_ACT 0 [k]).cols = [] :=
    fun p d => by
      rw [State.setFld_cols, State.setFld_cols, State.bump_cols, State.setPort_cols, hc]
  unfold State.downPort
  extract_lets p gone waits peer s1 s2 s3 s4 s5 stuck s6 held
  have h5 : s5 = s4 := by
    show s4.failRequestsIn (if 4 = 4 then (s.port k).replay ++ (s.port k).rxq else _) = s4
    rw [if_pos rfl, hr, hx]
    rfl
  have h6 : s6 = s4 := by
    show (if 4 = 4 then (s.port k).txq else []).foldl State.reroute s5 = s4
    rw [if_pos rfl, ht, h5]
    rfl
  have hstuck : stuck = [] := by
    show (if 4 = 4 then (s.port k).txq.filter _ else _) = []
    rw [if_pos rfl, ht]
    rfl
  have hheld : held = [] := by
    show ((s.port k).replay ++ stuck).filterMap (·.step) ++ ((s.port k).rxq.filter fun f => f.ftype == 8).filterMap _ = []
    rw [hr, hx, hstuck]
    rfl
  rw [hheld, h6]
  exact ⟨_, _, congrArg State.rosterTell (State.reapSteps_of_noCols (hcols _ _))⟩

/-- Port 0, UP and holding nothing, loses its peer: it goes DOWN before FW0 tells the roster. -/
theorem exec_peerLossTimeout_idle {s : State} (hs : FMap.sorted s.regs = true) (hup : s.up = true) (hst : s.fld R.NLK_STATUS_STATE [0] = 2)
    (hlast : (s.port 0).lastHb.isSome = true) (hlost : (s.port 0).lost = false) (ht : (s.port 0).txq = []) (hr : (s.port 0).replay = [])
    (hx : (s.port 0).rxq = []) (hc : s.cols = []) (hm : s.flag R.ERL_CTL_MIRROR_EN = false) (hroute : s.flag R.HRT_ROUTE_EN [0] = false) :
    ∃ u : State, exec (.peerLossTimeout 0) s = .next u.rosterTell ∧ FMap.sorted u.regs = true ∧ u.fw = s.fw ∧ u.roster = s.roster ∧
      ∀ (f : Fld) (ix : List Nat), Claims.LogTouches (f.at ix) = false → f.at ix / 0x1000000 ≠ 0x20 → u.fld f ix = s.fld f ix := by
  have hports := State.port_modPort_self s 0 fun p => { p with lost := true }
  generalize hu1 : (s.modPort 0 fun p => { p with lost := true }) = u1 at hports
  have hreg1 : u1.regs = s.regs := by rw [← hu1]; rfl
  have hs1 : FMap.sorted u1.regs = true := hreg1 ▸ hs
  have hfld1 : ∀ f ix, u1.fld f ix = s.fld f ix := fun f ix => State.fld_congr (by rw [hreg1])
  have hs2 : FMap.sorted (u1.setFlag R.NLK_STATUS_PEER_LOST true [0]).regs = true := State.setFld_sorted hs1 _ _ _
  have ha := State.log_aside hs2 Code.PEER_LOST (portUnit 0) 0 0
  have hflag : ∀ f ix, f.at ix ≠ R.NLK_STATUS_PEER_LOST.at [0] → (u1.setFlag R.NLK_STATUS_PEER_LOST true [0]).flag f ix = s.flag f ix := fun f ix hne => by
    rw [State.flag, State.setFlag_eq, State.fld_setFld_ne hs1 hne, hfld1, ← State.flag]
  have hp3 := State.log_ports hs2 (code := Code.PEER_LOST) (by decide) (by decide) ((hflag _ [] (by decide)).trans hm) ((hflag _ [0] (by decide)).trans hroute) (portUnit 0)
  have hc3 : ((u1.setFlag R.NLK_STATUS_PEER_LOST true [0]).log Code.PEER_LOST (portUnit 0)).cols = [] := by
    rw [ha.cols, State.setFlag_cols, ← hu1]
    exact hc
  have hport3 : ((u1.setFlag R.NLK_STATUS_PEER_LOST true [0]).log Code.PEER_LOST (portUnit 0)).port 0 = { s.port 0 with lost := true } := by
    rw [State.port, hp3, State.setFlag_ports, ← State.port, hports]
  have hexec : exec (.peerLossTimeout 0) s = .next (((u1.setFlag R.NLK_STATUS_PEER_LOST true [0]).log Code.PEER_LOST (portUnit 0)).downPort 0 4 Code.PEER_LOST) := by
    show execPeerLossTimeout 0 s = _
    unfold execPeerLossTimeout
    dsimp only
    rw [if_neg (by simp [hup, hst, hlost, Option.isSome_iff_ne_none.1 hlast]), hu1, if_neg (by rw [hst]; decide), State.abortFor,
      State.activeGroups_of_noCols hc3, List.foldl_nil]
  have hfw : ((u1.setFlag R.NLK_STATUS_PEER_LOST true [0]).log Code.PEER_LOST (portUnit 0)).fw = s.fw := by
    rw [ha.fw, State.setFlag_fw, ← hu1, State.modPort_fw]
  have hro : ((u1.setFlag R.NLK_STATUS_PEER_LOST true [0]).log Code.PEER_LOST (portUnit 0)).roster = s.roster := by
    rw [ha.roster, State.setFlag_roster, ← hu1, State.modPort_roster]
  have hfld3 : ∀ (f : Fld) (ix : List Nat), Claims.LogTouches (f.at ix) = false → f.at ix ≠ R.NLK_STATUS_PEER_LOST.at [0] →
      ((u1.setFlag R.NLK_STATUS_PEER_LOST true [0]).log Code.PEER_LOST (portUnit 0)).fld f ix = s.fld f ix := fun f ix hl hne => by
    rw [ha.fld f ix (by simp [hl]), State.setFlag_eq, State.fld_setFld_ne hs1 hne, hfld1]
  have k2 := ha.sorted
  generalize (u1.setFlag R.NLK_STATUS_PEER_LOST true [0]).log Code.PEER_LOST (portUnit 0) = v at hexec hfw hro hfld3 k2 hc3 hport3
  obtain ⟨p, d, hd⟩ := State.downPort_idle (s := v) (k := 0) (by rw [hport3]; exact ht) (by rw [hport3]; exact hr) (by rw [hport3]; exact hx) hc3 Code.PEER_LOST
  have k3 : FMap.sorted (v.setPort 0 p).regs = true := by rw [State.setPort_regs, k2]
  have k4 : FMap.sorted ((v.setPort 0 p).bump R.NLK_RECOVERED_DISCARDED [0] d).regs = true := by
    rw [State.bump_eq, State.setFld_sorted k3]
  have k5 := State.setFld_sorted k4 R.NLK_STATUS_STATE 4 [0]
  refine ⟨_, hexec.trans (congrArg _ hd), State.setFld_sorted k5 _ _ _, ?_, ?_, fun f ix hl hb => ?_⟩
  · rw [State.setFld_fw, State.setFld_fw, State.bump_fw, State.setPort_fw, hfw]
  · rw [State.setFld_roster, State.setFld_roster, State.bump_roster, State.setPort_roster, hro]
  · have hne : ∀ g : Fld, g.at [0] / 0x1000000 = 0x20 → f.at ix ≠ g.at [0] := fun g hg he => hb (he ▸ hg)
    rw [State.fld_setFld_ne k5 (hne _ (by decide)), State.fld_setFld_ne k4 (hne _ (by decide)), State.bump_eq, State.fld_setFld_ne k3 (hne _ (by decide)),
      State.setPort_fld, hfld3 f ix hl (hne _ (by decide))]

/-! The counterexample. -/

/-- A device that is up: port 0 is UP and has had a heartbeat, and the roster has a state that it has not told. -/
def State.untold : State := { State.idleUp with
  regs := [(0x20000008, 2)]
  ports := [(0, { Port.fresh with lastHb := some 0 })]
  roster := { state := [(0, 1)], told := [], gen := 0 } }

/-- FW0 of that device holds a reply. -/
def State.holding (m : List Byte) : State := { State.untold with
  fw := [(0, { crashes := [], heldReply := some m, events := [], seq := 0, cause := 0, kicked := 0 })] }

theorem State.holding_fld (m : List Byte) (f : Fld) (ix : List Nat) : (State.holding m).fld f ix = State.untold.fld f ix := rfl

theorem State.holding_flag (m : List Byte) (f : Fld) (ix : List Nat) : (State.holding m).flag f ix = State.untold.flag f ix := rfl

/-- Where the register fields are those of that device and FW0 holds its reply, the reply is held after the roster's event has been put down. -/
theorem State.holdsLong_of_event {u : State} {m : List Byte} (hs : FMap.sorted u.regs = true) (hfw : u.fw = (State.holding m).fw)
    (hstate : u.fld R.FWP_STATUS_STATE [0] = 0) (hpi : u.fld R.QMC_MBX_W1_OUT_PI [0] = 0) (hci : u.fld R.QMC_MBX_W1_OUT_CI [0] = 0)
    (hrelay : u.fld R.MGT_CTL_MBX_EN = 0) (r : Roster) (b : List Byte) :
    (State.modFw { u with roster := r } 0 fun f => { f with events := f.events.put 0x0010 b }).HoldsLong m where
  sorted := hs
  held := by
    unfold State.modFw State.fwp
    dsimp only
    rw [hfw]
    rfl
  events := by
    unfold State.modFw State.fwp
    dsimp only
    rw [hfw]
    rfl
  runs := by
    rw [State.fwRuns, State.modFw_fld]
    exact beq_iff_eq.2 hstate
  outPi := hpi
  outCi := hci
  relay := hrelay

theorem State.untold_sorted : FMap.sorted State.untold.regs = true := rfl
theorem State.untold_up : State.untold.up = true := by decide +kernel

/-- Port 0 of that device does not end in DOWN. -/
theorem State.holding_peerLoss {m : List Byte} {n : Nat} (hm : LongWords m n) :
    ∃ t, exec (.peerLossTimeout 0) (State.holding m) = .next t ∧ t.fld R.NLK_STATUS_STATE [0] = 6 := by
  obtain ⟨u, hexec, hsorted, hfw, hroster, hfld⟩ := exec_peerLossTimeout_idle (s := State.holding m) State.untold_sorted State.untold_up
    (by rw [State.holding_fld]; decide +kernel) rfl rfl rfl rfl rfl rfl (by rw [State.holding_flag]; decide +kernel) (by rw [State.holding_flag]; decide +kernel)
  have hreset : ∀ (f : Fld) (ix : List Nat), Claims.LogTouches (f.at ix) = false → f.at ix / 0x1000000 ≠ 0x20 → State.untold.fld f ix = 0 → u.fld f ix = 0 :=
    fun f ix hl hb h0 => (hfld f ix hl hb).trans h0
  refine ⟨_, hexec, State.rosterTell_long hm ?_ ?_⟩
  · rw [hroster]
    show State.untold.roster.state ≠ State.untold.roster.told
    decide
  · exact State.holdsLong_of_event hsorted hfw (hreset _ [0] (by decide) (by decide) (by decide +kernel)) (hreset _ [0] (by decide) (by decide) (by decide +kernel))
      (hreset _ [0] (by decide) (by decide) (by decide +kernel)) (hreset _ [] (by decide) (by decide) (by decide +kernel)) _ _

end Sys2Proof.Machine

namespace Sys2Proof.Claims
open Machine

/-- Refutes O51: FW0 holds a reply of more bytes than a mailbox slot has, which the roster's event posts to OUT slot 0, and its words take the place of
    all register words up to port 0's STATUS, so that STATE does not show DOWN. -/
theorem not_linkServices : ¬ Obligations.LinkServices := by
  intro h
  have hlong : LongWords (longMessage 56492034) 56492034 :=
    ⟨longMessage_length _, fun j hj => longMessage_word _ j hj, by decide, by decide⟩
  generalize longMessage 56492034 = m at hlong
  obtain ⟨t, hexec, h6⟩ := State.holding_peerLoss hlong
  have hst : (State.holding m).fld R.NLK_STATUS_STATE [0] = 2 := by
    rw [State.holding_fld]
    decide +kernel
  have hcanon : (State.holding m).canon = State.untold.canon := rfl
  have hport : (State.holding m).hasPort 0 = State.untold.hasPort 0 := rfl
  obtain ⟨-, -, hloss, -⟩ := h (State.holding m) 0 _ (hcanon.trans (by decide +kernel)) State.untold_up (hport.trans (by decide +kernel)) rfl
  obtain ⟨t', hexec', -, -, h4⟩ := hloss rfl rfl (by rw [hst]; decide) (by rw [hst]; decide) rfl
  obtain rfl : t = t' := by
    rw [hexec] at hexec'
    injection hexec'
  rw [h6] at h4
  exact absurd h4 (by decide)

end Sys2Proof.Claims
end

section
/-! PROOFS. Lines of this device read and written where nothing disturbs the access (R258, R270, R287, R288). -/

namespace Sys2Proof.Machine
open Sys2Proof

/-! Where a line lies. -/

theorem nthBit_le (mask fuel i n : Nat) : nthBit mask fuel i n ≤ i + fuel := by
  induction fuel generalizing i n with
  | zero => exact Nat.le_refl _
  | succ fuel ih =>
    unfold nthBit
    split
    · split
      · omega
      · exact (ih _ _).trans (by omega)
    · exact (ih _ _).trans (by omega)

theorem State.localDie_lt {s : State} {o fuel d base e b : Nat} (h : s.localDie o fuel d base = some (e, b)) : e < d + fuel := by
  induction fuel generalizing d base with
  | zero => exact absurd h (by simp [State.localDie])
  | succ fuel ih =>
    unfold State.localDie at h
    dsimp only at h
    split at h
    · cases h
      omega
    · have := ih h
      omega

/-- A line of a channel lies in stack or rim memory. -/
theorem State.region_of_spot {s : State} {a : Nat} {sp : Spot} (h : s.spot a = some sp) : (∃ o, s.regionOf a = .stack o) ∨ ∃ o, s.regionOf a = .rim o := by
  unfold State.spot at h
  split at h
  · next o ho => exact .inl ⟨o, ho⟩
  · next o ho => exact .inr ⟨o, ho⟩
  · cases h

theorem State.spot_key_le {s : State} {a : Nat} {sp : Spot} (h : s.spot a = some sp) : sp.key ≤ 544 := by
  unfold State.spot at h
  split at h
  · split at h
    · cases h
      exact (nthBit_le ..).trans (by decide)
    · split at h
      · cases h
      · next d _ hd =>
        cases h
        have hlt := State.localDie_lt hd
        have hbit := nthBit_le (bits s.boot.stkMask (128 * d) 128) 128 0
        exact (Nat.add_le_add_left (hbit _) _).trans (by omega)
  · split at h
    · cases h
    · cases h
      exact (Nat.add_le_add_left (nthBit_le ..) _).trans (by decide)
  · cases h

/-- The counts of memory accesses: words of the shared cache's slices and of the stacks after the first of each. -/
def CountWord (o : Nat) : Prop := 0x11000000 ≤ o ∧ o < 0x20000000 ∧ o % 0x10000 ≠ 0

theorem countWord_of_trafficWord {o : Nat} : TrafficWord o → CountWord o := by
  rintro ⟨k, hk, rfl⟩
  simp only [CountWord, Fld.at, R.STK_TRAFFIC_LINES, dotOff]
  omega

theorem State.countWord_of_spot {s : State} {a : Nat} {sp : Spot} (h : s.spot a = some sp) {f : Fld} (hb : f.base = 0x11100008)
    (hst : f.strides = [67108864, 65536]) : CountWord (f.at [homeDie sp, homeSlice sp]) := by
  have hk := State.spot_key_le h
  have hd : homeDie sp < 4 := by
    unfold homeDie
    split <;> omega
  have hl : homeSlice sp ≤ 16 := by
    unfold homeSlice
    split <;> omega
  simp only [CountWord, Fld.at, hb, hst, dotOff]
  omega

/-! What decides where an address lies, and whether its channel is in reach. -/

/-- Nothing differs that the place of an address or the reach of its channel depends on. -/
structure State.SamePlaces (s t : State) : Prop where
  boot : t.boot = s.boot
  member : t.fld R.GLB_WEAVE_MEMBER = s.fld R.GLB_WEAVE_MEMBER
  valid : ∀ m, t.flag R.NLK_MEMBER_VALID [m] = s.flag R.NLK_MEMBER_VALID [m]
  fenced : ∀ key, t.chanFenced key = s.chanFenced key
  tripped : t.mem.tripped = s.mem.tripped
  banks : t.mem.fencedBanks = s.mem.fencedBanks
  lanes : t.mem.lanes = s.mem.lanes
  era : t.mem.era = s.mem.era
  remote : t.mem.remote = s.mem.remote

namespace State.SamePlaces
variable {s t : State} (h : s.SamePlaces t) (a : Nat)
include h

theorem localAddr : t.localAddr a = s.localAddr a := by
  unfold State.localAddr
  rw [h.member]

theorem regionOf : t.regionOf a = s.regionOf a := by
  unfold State.regionOf
  rw [h.localAddr]
  dsimp only
  rw [h.valid]

theorem farLine : t.farLine a = s.farLine a := by
  unfold State.farLine State.farByte
  rw [h.regionOf]

omit a in
theorem chanN : t.chanN = s.chanN := by rw [State.chanN, State.chanN, h.boot]

omit a in
theorem chanNd : State.chanNd t = State.chanNd s := by
  funext d
  rw [State.chanNd, State.chanNd, h.boot]

omit a in
theorem rimN : t.rimN = s.rimN := by rw [State.rimN, State.rimN, h.boot]

omit a in
theorem globalBytes : t.globalBytes = s.globalBytes := by rw [State.globalBytes, State.globalBytes, h.boot, h.chanN]

omit a in
theorem localDie : State.localDie t = State.localDie s := by
  funext o fuel d base
  induction fuel generalizing d base with
  | zero => rw [State.localDie, State.localDie]
  | succ fuel ih => rw [State.localDie, State.localDie, h.chanNd, h.boot, ih]

theorem spot : t.spot a = s.spot a := by
  unfold State.spot
  rw [h.regionOf, h.globalBytes, h.chanN, h.rimN, h.boot, h.localDie, h.chanNd]

theorem spotShut (sp : Spot) : t.spotShut sp = s.spotShut sp := by
  unfold State.spotShut State.chanTripped
  rw [h.fenced, h.tripped, h.banks]

end State.SamePlaces

/-! What a read delivers, without the slices' own copies. -/

/-- What a read gives of a line that lies elsewhere. -/
def State.farView (s : State) (a : Nat) : LineView :=
  match s.mem.remote.find? (a / 64) with
  | some (d, p) => ⟨0, d, p, []⟩
  | none => ⟨0, zeros 64, 255, []⟩

/-- What a read gives of a line that lies here, where no slice holds it and the L3 does not. -/
def State.homeView (s : State) (a : Nat) : LineView :=
  match s.spot a with
  | none => s.mem.chipView a
  | some sp => if s.spotShut sp then ⟨5, s.mem.bytesAt a 64, 255, []⟩ else s.tierView sp a

theorem State.localAddr_mod (s : State) (a : Nat) : s.localAddr a % 64 = a % 64 := by
  unfold State.localAddr
  split <;> omega

theorem State.localAddr_of_low (s : State) {a : Nat} (h : a < 0x800000000000) : s.localAddr a = a := if_neg fun hn => Nat.not_lt.2 hn.1 h

theorem State.localAddr_localAddr (s : State) (a : Nat) : s.localAddr (s.localAddr a) = s.localAddr a := by
  by_cases h : 0x800000000000 ≤ a ∧ a < 0x1000000000000 ∧ bits a 41 6 = s.fld R.GLB_WEAVE_MEMBER
  · rw [show s.localAddr a = a % 2 ^ 41 from if_pos h]
    exact s.localAddr_of_low (by omega)
  · have hne : s.localAddr a = a := if_neg h
    rw [hne, hne]

/-- A byte lies in the line that its address names. -/
theorem State.localAddr_line (s : State) (a : Nat) : s.localAddr a = s.localAddr (a / 64 * 64) + a % 64 := by
  have hbits : bits (a / 64 * 64) 41 6 = bits a 41 6 := by
    unfold bits
    omega
  unfold State.localAddr
  rw [hbits]
  by_cases h : 0x800000000000 ≤ a ∧ a < 0x1000000000000 ∧ bits a 41 6 = s.fld R.GLB_WEAVE_MEMBER
  · rw [if_pos h, if_pos (by omega)]
    omega
  · rw [if_neg h, if_neg (by omega)]
    omega

theorem State.farLine_far {s : State} {a : Nat} (h : (∃ m o, s.regionOf a = .remote m o) ∨ ∃ o, s.regionOf a = .pcie o) : s.farLine a = true := by
  unfold State.farLine State.farByte
  obtain ⟨m, o, h⟩ | ⟨o, h⟩ := h <;> rw [h]

theorem State.farLine_near {s : State} {a : Nat} (hr : ∀ m o, s.regionOf a ≠ .remote m o) (hp : ∀ o, s.regionOf a ≠ .pcie o) : s.farLine a = false := by
  unfold State.farLine State.farByte
  split
  · next m o h => exact absurd h (hr m o)
  · next o h => exact absurd h (hp o)
  · rfl

/-- A read of a line: far, or as its home gives it, which the slice's copy agrees with. -/
theorem State.lineView_eq {s : State} (hl3 : s.mem.l3 = []) (hchk : s.mem.checks = []) (hag : Claims.SlicesAgree s) {a : Nat} (ha : a % 64 = 0) :
    s.lineView a = if s.farLine a then s.farView (s.localAddr a) else s.homeView (s.localAddr a) := by
  have hloc : s.regionOf (s.localAddr a) = s.regionOf a := by
    unfold State.regionOf
    rw [s.localAddr_localAddr]
  have hmod := s.localAddr_mod a
  have hcopy : ∀ sp, s.spot (s.localAddr a) = some sp → ∀ d p, s.mem.slices.find? (s.localAddr a / 64) = some (d, p) →
      s.tierView sp (s.localAddr a) = ⟨0, d, p, []⟩ :=
    fun sp hsp d p hf => by
      obtain ⟨sp', hsp', hview⟩ := hag.2 _ _ _ hf
      rw [show 64 * (s.localAddr a / 64) = s.localAddr a by omega] at hsp' hview
      rw [hsp] at hsp'
      cases hsp'
      exact hview
  unfold State.lineView
  dsimp only
  rw [hloc, hl3, hchk]
  split
  · next m o h =>
    rw [if_pos (State.farLine_far (.inl ⟨m, o, h⟩))]
    rfl
  · next o h =>
    rw [if_pos (State.farLine_far (.inr ⟨o, h⟩))]
    rfl
  · next hr hp =>
    rw [State.farLine_near hr hp, if_neg Bool.false_ne_true, State.homeView]
    cases hsp : s.spot (s.localAddr a) with
    | none => rfl
    | some sp =>
      dsimp only
      split
      · rfl
      · rw [FMap.getD, FMap.find?_nil]
        cases hf : s.mem.slices.find? (s.localAddr a / 64) with
        | none => rfl
        | some e => exact (hcopy sp hsp e.1 e.2 hf).symm

/-! Reads. -/

/-- Lines have been read: counts have moved on, and slices have taken copies that agree with the tiers, or have given them up. -/
structure State.Fetched (s t : State) : Prop where
  aside : s.Aside CountWord t
  ports : t.ports = s.ports
  mem : t.mem = { s.mem with slices := t.mem.slices }
  agree : Claims.SlicesAgree t

theorem State.Aside.boot {W : Nat → Prop} {s t : State} (h : s.Aside W t) : t.boot = s.boot := (congrArg State.boot h.only).trans rfl

theorem State.Aside.samePlaces {s t : State} (h : s.Aside CountWord t) (h1 : t.mem.tripped = s.mem.tripped) (h2 : t.mem.fencedBanks = s.mem.fencedBanks)
    (h3 : t.mem.lanes = s.mem.lanes) (h4 : t.mem.era = s.mem.era) (h5 : t.mem.remote = s.mem.remote) : s.SamePlaces t where
  boot := h.boot
  member := h.fld _ _ (by unfold CountWord; decide)
  valid m := h.flag _ _ (by simp only [CountWord, Fld.at, R.NLK_MEMBER_VALID, dotOff]; omega)
  fenced key := by
    unfold State.chanFenced
    rw [h.fld R.STK_CHMAP_LIVE _ (by simp only [CountWord, Fld.at, R.STK_CHMAP_LIVE, dotOff]; omega),
      h.fld R.RIM_STATUS_LIVE _ (by simp only [CountWord, Fld.at, R.RIM_STATUS_LIVE, dotOff]; omega)]
  tripped := h1
  banks := h2
  lanes := h3
  era := h4
  remote := h5

/-- What a tier gives depends on the line's own bytes, marks and stored errors. -/
theorem State.tierView_congr {s t : State} (h : s.SamePlaces t) {a : Nat} (hw : t.mem.written a = s.mem.written a) (hb : t.mem.bytesAt a 64 = s.mem.bytesAt a 64)
    (hp : t.mem.wordPoison (a / 8) = s.mem.wordPoison (a / 8)) (he : t.mem.errs = s.mem.errs) (sp : Spot) : t.tierView sp a = s.tierView sp a := by
  unfold State.tierView State.erasures
  rw [hw, hb, hp, he, h.lanes, h.era]

/-- An access of a stack's DRAM leaves memory and the ports. -/
theorem State.tierAccess_mem (s : State) (sp : Spot) : (s.tierAccess sp).mem = s.mem ∧ (s.tierAccess sp).ports = s.ports := by
  unfold State.tierAccess
  dsimp only
  split
  · split
    · split
      · rw [State.bumpSat_mem, State.bumpSat_ports, State.free_mem, State.free_ports, State.bump_mem, State.bump_ports]
        exact ⟨rfl, rfl⟩
      · rw [State.free_mem, State.free_ports, State.bump_mem, State.bump_ports]
        exact ⟨rfl, rfl⟩
    · rw [State.bump_mem, State.bump_ports]
      exact ⟨rfl, rfl⟩
  · exact ⟨rfl, rfl⟩

theorem State.Fetched.refl {s : State} (hs : FMap.sorted s.regs = true) (hag : Claims.SlicesAgree s) : s.Fetched s := ⟨.refl hs, rfl, rfl, hag⟩

theorem State.Aside.samePlaces_of_slices {s t : State} (ha : s.Aside CountWord t) (hm : t.mem = { s.mem with slices := t.mem.slices }) : s.SamePlaces t :=
  ha.samePlaces (by rw [hm]) (by rw [hm]) (by rw [hm]) (by rw [hm]) (by rw [hm])

theorem State.tierView_of_slices {s t : State} (h : s.SamePlaces t) (hm : t.mem = { s.mem with slices := t.mem.slices }) (sp : Spot) (a : Nat) :
    t.tierView sp a = s.tierView sp a := State.tierView_congr h (by rw [hm]; rfl) (by rw [hm]; rfl) (by rw [hm]; rfl) (by rw [hm]) sp

theorem State.Fetched.samePlaces {s t : State} (h : s.Fetched t) : s.SamePlaces t := h.aside.samePlaces_of_slices h.mem

/-- A slice's copies after a step: those from before, or what the tier gives. -/
theorem State.Fetched.step {s t u : State} (h : s.Fetched t) (ha : t.Aside CountWord u) (hp : u.ports = t.ports) (hm : u.mem = { t.mem with slices := u.mem.slices })
    (hsort : FMap.sorted u.mem.slices = true)
    (hsub : ∀ k d p, FMap.find? k u.mem.slices = some (d, p) →
      FMap.find? k t.mem.slices = some (d, p) ∨ ∃ sp, t.spot (64 * k) = some sp ∧ t.tierView sp (64 * k) = ⟨0, d, p, []⟩) : s.Fetched u where
  aside := h.aside.trans ha
  ports := hp.trans h.ports
  mem := by rw [hm, h.mem]
  agree := by
    have hpl := ha.samePlaces_of_slices hm
    refine ⟨hsort, fun k d p hf => ?_⟩
    obtain ⟨sp, hsp, hv⟩ := (hsub k d p hf).elim (h.agree.2 k d p) id
    exact ⟨sp, (hpl.spot _).trans hsp, (State.tierView_of_slices hpl hm sp _).trans hv⟩

/-- A step that leaves memory. -/
theorem State.Fetched.count {s t u : State} (h : s.Fetched t) (ha : t.Aside CountWord u) (hp : u.ports = t.ports) (hm : u.mem = t.mem) : s.Fetched u :=
  h.step ha hp (by rw [hm]) (hm ▸ h.agree.1) fun k d p hf => .inl (hm ▸ hf)

theorem State.Fetched.bumpSat {s t : State} (h : s.Fetched t) (f : Fld) (ix : List Nat) (hf : CountWord (f.at ix)) : s.Fetched (t.bumpSat f ix) :=
  h.count ((State.Aside.refl h.aside.sorted).bumpSat f ix 1 hf) (State.bumpSat_ports ..) (State.bumpSat_mem ..)

theorem State.Fetched.free {s t : State} (h : s.Fetched t) : s.Fetched t.free.2 :=
  h.count (State.Aside.refl h.aside.sorted).free (State.free_ports t) (State.free_mem t)

/-- The slices hold other lines. -/
theorem State.Fetched.withSlices {s t : State} (h : s.Fetched t) (hchk : t.mem.checks = []) {m : FMap (List Byte × Nat)} {c : FMap Nat} (hc : c = [])
    (hm : FMap.sorted m = true) (hsub : ∀ k d p, FMap.find? k m = some (d, p) →
      FMap.find? k t.mem.slices = some (d, p) ∨ ∃ sp, t.spot (64 * k) = some sp ∧ t.tierView sp (64 * k) = ⟨0, d, p, []⟩) :
    s.Fetched { t with mem := { t.mem with slices := m, checks := c } } := by
  subst hc
  exact h.step ((State.Aside.refl h.aside.sorted).withMem _) rfl (congrArg (fun c => ({ t.mem with slices := m, checks := c } : Mem)) hchk.symm) hm hsub

theorem State.Fetched.trans {s t u : State} (h : s.Fetched t) (g : t.Fetched u) : s.Fetched u :=
  h.step g.aside g.ports g.mem g.agree.1 fun k d p hk => by
    obtain ⟨sp, hsp, hv⟩ := g.agree.2 k d p hk
    exact .inr ⟨sp, (g.samePlaces.spot _).symm.trans hsp, (State.tierView_of_slices g.samePlaces g.mem _ _).symm.trans hv⟩

theorem FMap.del_of_nil {α : Type} {m : FMap α} (h : m = []) (k : Nat) : FMap.del k m = [] := by
  subst h
  rfl

/-- A slice gives up a line. -/
theorem State.Fetched.dropLine {s t : State} (h : s.Fetched t) (hchk : t.mem.checks = []) (l : Nat) :
    s.Fetched { t with mem := { t.mem with slices := FMap.del l t.mem.slices, checks := FMap.del l t.mem.checks } } :=
  h.withSlices hchk (FMap.del_of_nil hchk l) (FMap.sorted_del l h.agree.1) fun k d p hk => by
    by_cases hkl : k = l
    · rw [hkl, FMap.find?_del_self l h.agree.1] at hk
      cases hk
    · exact .inl ((FMap.find?_del_ne hkl h.agree.1).symm.trans hk)

/-- A slice takes a line as its tier gives it. -/
theorem State.Fetched.takeLine {s t : State} (h : s.Fetched t) (hchk : t.mem.checks = []) {a : Nat} {sp : Spot} {d : List Byte} {p : Nat} (ha : a % 64 = 0)
    (hsp : t.spot a = some sp) (hv : t.tierView sp a = ⟨0, d, p, []⟩) :
    s.Fetched { t with mem := { t.mem with slices := t.mem.slices.put (a / 64) (d, p), checks := FMap.del (a / 64) t.mem.checks } } :=
  h.withSlices hchk (FMap.del_of_nil hchk _) (FMap.sorted_put _ _ h.agree.1) fun k d' p' hk => by
    by_cases hka : k = a / 64
    · rw [hka, FMap.find?_put_self] at hk
      cases hk
      rw [hka, show 64 * (a / 64) = a by omega]
      exact .inr ⟨sp, hsp, hv⟩
    · exact .inl ((FMap.find?_put_ne hka _ _).symm.trans hk)

/-- A line filled from its tier is kept by its slice. -/
theorem State.Fetched.keepLine {s t : State} (h : s.Fetched t) (hchk : t.mem.checks = []) {a : Nat} {sp : Spot} {v : LineView} (ha : a % 64 = 0)
    (hsp : t.spot a = some sp) (hv : t.tierView sp a = ⟨0, v.data, v.poison, []⟩) : s.Fetched (t.keepLine sp a v) := by
  unfold State.keepLine
  extract_lets ls ways u
  have hu : t.Fetched u ∧ u.mem.checks = [] := by
    dsimp only [u]
    split
    · exact ⟨.refl h.aside.sorted h.agree, hchk⟩
    · have hfree := (State.Fetched.refl h.aside.sorted h.agree).free
      have hfchk : t.free.2.mem.checks = [] := by rw [State.free_mem, hchk]
      exact ⟨hfree.dropLine hfchk _, FMap.del_of_nil hfchk _⟩
  obtain ⟨hu, huchk⟩ := hu
  clear_value u
  exact h.trans (hu.takeLine huchk ha ((hu.samePlaces.spot _).trans hsp) ((State.tierView_of_slices hu.samePlaces hu.mem _ _).trans hv))

section
variable {s : State} (hc : Claims.Clean s) {a : Nat} {sp : Spot} (ha : a % 64 = 0) (hlow : a < 0x800000000000)
  (hsp : s.spot a = some sp) (hshut : s.spotShut sp = false)
include hc ha hlow hsp hshut

/-- A written line that is not marked reads as its bytes. -/
theorem State.lineView_written (hw : s.mem.written a = true) (hp : s.mem.wordPoison (a / 8) = false) : s.lineView a = ⟨0, s.mem.bytesAt a 64, 0, []⟩ := by
  obtain ⟨-, hl3, herr, hchk, -, -, -, hag⟩ := hc
  have hfar : s.farLine a = false := by
    obtain ⟨o, h⟩ | ⟨o, h⟩ := State.region_of_spot hsp <;> exact State.farLine_near (by simp [h]) (by simp [h])
  rw [State.lineView_eq hl3 hchk hag ha, hfar, s.localAddr_of_low hlow, if_neg Bool.false_ne_true, State.homeView, hsp]
  dsimp only
  rw [if_neg (by simp [hshut]), State.tierView, if_pos hw, herr, hp]
  rfl

/-- A written line that is not marked is read as its bytes, and nothing but counts and a slice's copies differs. -/
theorem State.readLine_written (hs : FMap.sorted s.regs = true) (hw : s.mem.written a = true) (hp : s.mem.wordPoison (a / 8) = false) (src : Nat) :
    ∃ t, s.readLine a src = (⟨0, s.mem.bytesAt a 64, 0, []⟩, t) ∧ s.Fetched t := by
  have hview := State.lineView_written hc ha hlow hsp hshut hw hp
  obtain ⟨-, hl3, herr, hchk, -, -, -, hag⟩ := hc
  have hrecall : s.recall a false = s := by
    unfold State.recall
    rw [hl3]
    rfl
  have h0 := State.Fetched.refl hs hag
  unfold State.readLine
  dsimp only
  rw [s.localAddr_of_low hlow, hrecall, hsp, hview]
  dsimp only
  rw [if_neg (by simp [hshut])]
  split
  · exact ⟨_, rfl, h0.bumpSat _ _ (State.countWord_of_spot hsp rfl rfl)⟩
  · refine ⟨_, rfl, ?_⟩
    rw [if_pos (by decide)]
    unfold State.noteRead
    rw [hsp]
    dsimp only
    obtain ⟨hmem, hports⟩ := s.tierAccess_mem sp
    have h1 := (h0.count ((State.tierAccess_aside hs sp).mono fun _ => countWord_of_trafficWord) hports hmem).bumpSat R.SCA_STAT_MISSES _
      (State.countWord_of_spot hsp rfl rfl)
    have htier : s.tierView sp a = ⟨0, s.mem.bytesAt a 64, 0, []⟩ := by
      rw [State.tierView, if_pos hw, herr, hp]
      rfl
    exact h1.keepLine (by rw [h1.mem, hchk]) ha ((h1.samePlaces.spot a).trans hsp) ((State.tierView_of_slices h1.samePlaces h1.mem sp a).trans htier)

end

/-! What stays of memory. -/

theorem State.farView_congr {s t : State} (h : s.SamePlaces t) (a : Nat) : t.farView a = s.farView a := by rw [State.farView, State.farView, h.remote]

/-- A byte reads as before where its line's home gives the same. -/
theorem State.byteRead_congr {s t : State} (h : s.SamePlaces t) (hs : s.mem.l3 = [] ∧ s.mem.checks = [] ∧ Claims.SlicesAgree s)
    (ht : t.mem.l3 = [] ∧ t.mem.checks = [] ∧ Claims.SlicesAgree t) {a : Nat}
    (hv : t.homeView (s.localAddr (a / 64 * 64)) = s.homeView (s.localAddr (a / 64 * 64))) : Claims.byteRead t a = Claims.byteRead s a := by
  unfold Claims.byteRead
  rw [State.lineView_eq ht.1 ht.2.1 ht.2.2 (by omega), State.lineView_eq hs.1 hs.2.1 hs.2.2 (by omega), h.farLine, h.localAddr, State.farView_congr h, hv]

/-- Reads leave every byte. -/
theorem State.Fetched.onlyBytes {s t : State} (h : s.Fetched t) (hl3 : s.mem.l3 = []) (hchk : s.mem.checks = []) (hag : Claims.SlicesAgree s) :
    Claims.OnlyBytes [] s t := fun a _ =>
  State.byteRead_congr h.samePlaces ⟨hl3, hchk, hag⟩ ⟨by rw [h.mem, hl3], by rw [h.mem, hchk], h.agree⟩ (by
    generalize s.localAddr (a / 64 * 64) = b
    have hchip : t.mem.chipView b = s.mem.chipView b := by rw [h.mem]; rfl
    have hbytes : t.mem.bytesAt b 64 = s.mem.bytesAt b 64 := by rw [h.mem]; rfl
    unfold State.homeView
    rw [h.samePlaces.spot, hchip, hbytes]
    split
    · rfl
    · next sp _ => rw [h.samePlaces.spotShut, State.tierView_of_slices h.samePlaces h.mem])

/-! Writes. -/

/-- Marks of consecutive words taken away. -/
theorem Mem.unmark_range {m : Mem} (hm : FMap.sorted m.poison = true) (w0 n : Nat) :
    ∃ p, (List.range n).foldl (fun m i => m.mark (w0 + i) false) m = { m with poison := p } ∧
    FMap.sorted p = true ∧ ∀ w, FMap.find? w p = if w0 ≤ w ∧ w < w0 + n then none else FMap.find? w m.poison := by
  induction n with
  | zero => exact ⟨m.poison, rfl, hm, fun w => (if_neg (by omega)).symm⟩
  | succ n ih =>
    obtain ⟨p, hp, hs, hf⟩ := ih
    rw [List.range_succ, List.foldl_append, hp]
    refine ⟨FMap.del (w0 + n) p, rfl, FMap.sorted_del _ hs, fun w => ?_⟩
    by_cases hw : w = w0 + n
    · rw [hw, FMap.find?_del_self _ hs, if_pos (by omega)]
    · rw [FMap.find?_del_ne hw hs, hf]
      by_cases hin : w0 ≤ w ∧ w < w0 + n
      · rw [if_pos hin, if_pos (by omega)]
      · rw [if_neg hin, if_neg (by omega)]

/-- A line of 64 bytes has been written, unmarked: counts have moved on, and the line's slice keeps no copy. -/
structure State.Stored (s : State) (a : Nat) (data : List Byte) (t : State) : Prop where
  aside : s.Aside CountWord t
  ports : t.ports = s.ports
  mem : t.mem = { s.mem with cells := (s.mem.putBytes a data).cells, poison := t.mem.poison, reserved := t.mem.reserved, slices := FMap.del (a / 64) s.mem.slices }
  marks : ∀ w, FMap.find? w t.mem.poison = if a / 8 ≤ w ∧ w < a / 8 + 8 then none else FMap.find? w s.mem.poison

theorem padTo_length (n : Nat) (l : List Byte) : (padTo n l).length = n := by
  simp [padTo, zeros]
  omega

/-- Memory holds no stored symbol errors, no stale travel check and nothing of the L3, and no injection is armed. -/
structure Mem.Plain (m : Mem) : Prop where
  l3 : m.l3 = []
  errs : m.errs = []
  checks : m.checks = []
  inject : m.inject = none

theorem Mem.plain_of_clean {s : State} (hc : Claims.Clean s) : s.mem.Plain := by
  obtain ⟨-, hl3, herr, hchk, hinj, -⟩ := hc
  exact ⟨hl3, herr, hchk, hinj⟩

theorem State.storeHome_stored {s : State} (hs : FMap.sorted s.regs = true) (hp : FMap.sorted s.mem.poison = true) (hc : s.mem.Plain) {a : Nat} {sp : Spot}
    (hlow : a < 0x800000000000) (hsp : s.spot a = some sp) (hshut : s.spotShut sp = false) (data : List Byte) :
    s.Stored a (padTo 64 data) (s.storeHome a data 0) := by
  obtain ⟨hl3, herr, hchk, hinj⟩ := hc
  obtain ⟨hmem, hports⟩ := s.tierAccess_mem sp
  have h1 := (State.tierAccess_aside hs sp).mono fun _ => countWord_of_trafficWord
  unfold State.storeHome
  dsimp only
  rw [s.localAddr_of_low hlow, hsp]
  dsimp only
  rw [if_neg (by simp [hshut])]
  generalize s.tierAccess sp = u at hmem hports h1
  have hnone : u.injected (a / 64) = ([], u) := by
    unfold State.injected
    rw [hmem, hinj]
  rw [hnone, hmem]
  dsimp only
  have hframe := Mem.putBytes_frame (padTo 64 data) s.mem a
  have hpoison : FMap.sorted ((s.mem.putBytes a (padTo 64 data)).dropReservations a 64).poison = true := by
    rw [Mem.dropReservations, hframe]
    exact hp
  obtain ⟨p, hfold, -, hfind⟩ := Mem.unmark_range hpoison (a / 8) 8
  have hfold' : (List.range 8).foldl (fun m i => m.mark (a / 8 + i) (0 % 256 != 0)) ((s.mem.putBytes a (padTo 64 data)).dropReservations a 64) = _ := hfold
  rw [hfold', hframe]
  refine ⟨h1.withMem _, hports, ?_, fun w => (hfind w).trans ?_⟩
  · have kept : ∀ {α : Type} {m : FMap α}, m = [] → FMap.del (a / 64) m = m := fun h => (FMap.del_of_nil h _).trans h.symm
    show ({ s.mem with
      cells := _, poison := p, reserved := _, errs := FMap.setD s.mem.errs (a / 64) [] []
      l3 := FMap.del (a / 64) s.mem.l3, slices := FMap.del (a / 64) s.mem.slices, checks := FMap.del (a / 64) s.mem.checks } : Mem) = _
    rw [FMap.setD, if_pos rfl, kept herr, kept hl3, kept hchk]
    rfl
  · rw [hframe]
    rfl

namespace State.Stored
variable {s t : State} {a : Nat} {data : List Byte} (h : s.Stored a data t)
include h

theorem samePlaces : s.SamePlaces t := h.aside.samePlaces (by rw [h.mem]) (by rw [h.mem]) (by rw [h.mem]) (by rw [h.mem]) (by rw [h.mem])

theorem written (x : Nat) : t.mem.written x = (decide (a ≤ x ∧ x < a + data.length) || s.mem.written x) := by
  rw [← Mem.written_putBytes, h.mem]
  rfl

theorem byteAt (x : Nat) : t.mem.byteAt x = if a ≤ x ∧ x < a + data.length then data.getD (x - a) 0 else s.mem.byteAt x := by
  rw [← Mem.byteAt_putBytes, h.mem]
  rfl

variable (ha : a % 64 = 0) (hlen : data.length = 64)
include ha hlen

/-- Another line's bytes and marks. -/
theorem line_ne {b : Nat} (hb : b % 64 = 0) (hne : b ≠ a) : t.mem.written b = s.mem.written b ∧ t.mem.bytesAt b 64 = s.mem.bytesAt b 64 ∧
    ∀ i < 8, t.mem.wordPoison (b / 8 + i) = s.mem.wordPoison (b / 8 + i) := by
  have hw : ∀ x, b ≤ x → x < b + 64 → t.mem.written x = s.mem.written x := fun x h1 h2 => by
    rw [h.written, hlen, decide_eq_false (by omega), Bool.false_or]
  refine ⟨hw b (Nat.le_refl _) (by omega), ?_, fun i hi => ?_⟩
  · unfold Mem.bytesAt
    refine List.map_congr_left fun i hi => ?_
    have := List.mem_range.1 hi
    rw [h.byteAt, hlen, if_neg (by omega)]
  · unfold Mem.wordPoison
    rw [h.marks, if_neg (by omega), hw _ (by omega) (by omega)]

/-- Another line reads as before. -/
theorem homeView_ne {b : Nat} (hb : b % 64 = 0) (hne : b ≠ a) : t.homeView b = s.homeView b := by
  obtain ⟨hw, hbytes, hmarks⟩ := h.line_ne ha hlen hb hne
  have hchip : t.mem.chipView b = s.mem.chipView b := by
    have hp : (List.range 8).foldl (fun p i => p + b2n (t.mem.wordPoison (b / 8 + i)) * 2 ^ i) 0 =
        (List.range 8).foldl (fun p i => p + b2n (s.mem.wordPoison (b / 8 + i)) * 2 ^ i) 0 :=
      List.foldl_ext _ _ _ fun p i hi => by rw [hmarks i (List.mem_range.1 hi)]
    have hchecks : t.mem.checks = s.mem.checks := by rw [h.mem]
    unfold Mem.chipView
    rw [hp, hbytes, hchecks]
  have herrs : t.mem.errs = s.mem.errs := by rw [h.mem]
  unfold State.homeView
  rw [h.samePlaces.spot, hchip, hbytes]
  split
  · rfl
  · next sp _ => rw [h.samePlaces.spotShut, State.tierView_congr h.samePlaces hw hbytes (hmarks 0 (by decide)) herrs]

/-- The slices still agree: the line's own copy has gone. -/
theorem agree (hag : Claims.SlicesAgree s) : Claims.SlicesAgree t := by
  have hsl : t.mem.slices = FMap.del (a / 64) s.mem.slices := by rw [h.mem]
  have herrs : t.mem.errs = s.mem.errs := by rw [h.mem]
  refine ⟨hsl ▸ FMap.sorted_del _ hag.1, fun k d p hf => ?_⟩
  rw [hsl] at hf
  by_cases hk : k = a / 64
  · rw [hk, FMap.find?_del_self _ hag.1] at hf
    cases hf
  · rw [FMap.find?_del_ne hk hag.1] at hf
    obtain ⟨sp, hsp, hv⟩ := hag.2 k d p hf
    obtain ⟨hw, hbytes, hmarks⟩ := h.line_ne ha hlen (b := 64 * k) (by omega) (by omega)
    exact ⟨sp, (h.samePlaces.spot _).trans hsp, (State.tierView_congr h.samePlaces hw hbytes (hmarks 0 (by decide)) herrs sp).trans hv⟩

/-- The line reads as what was written. -/
theorem lineView_self {sp : Spot} (hlow : a < 0x800000000000) (hsp : s.spot a = some sp) (hshut : s.spotShut sp = false) (hc : Claims.Clean s) :
    t.lineView a = ⟨0, data, 0, []⟩ := by
  obtain ⟨-, hl3, herr, hchk, -, -, -, hag⟩ := hc
  have hfar : t.farLine a = false := by
    rw [h.samePlaces.farLine]
    obtain ⟨o, h⟩ | ⟨o, h⟩ := State.region_of_spot hsp <;> exact State.farLine_near (by simp [h]) (by simp [h])
  have hw : t.mem.written a = true := by
    rw [h.written, hlen, decide_eq_true (by omega), Bool.true_or]
  have hbytes : t.mem.bytesAt a 64 = data := by
    refine List.ext_getElem (by simp [Mem.bytesAt, hlen]) fun i h1 h2 => ?_
    simp only [Mem.bytesAt, List.getElem_map, List.getElem_range]
    rw [h.byteAt, if_pos (by omega), Nat.add_sub_cancel_left, List.getD_eq_getElem _ _ h2]
  have hpois : t.mem.wordPoison (a / 8) = false := by
    rw [Mem.wordPoison, h.marks, if_pos (by omega), show 8 * (a / 8) = a by omega, hw]
    rfl
  rw [State.lineView_eq (by rw [h.mem, hl3]) (by rw [h.mem, hchk]) (h.agree ha hlen hag) ha, hfar, t.localAddr_of_low hlow,
    if_neg Bool.false_ne_true, State.homeView, h.samePlaces.spot, hsp]
  dsimp only
  rw [h.samePlaces.spotShut, if_neg (by simp [hshut]), State.tierView, if_pos hw, hbytes, hpois, h.mem]
  dsimp only
  rw [herr]
  rfl

/-- Every byte of another line reads as before. -/
theorem onlyBytes (hlow : a < 0x800000000000) (hc : Claims.Clean s) : Claims.OnlyBytes [(a, 64)] s t := by
  obtain ⟨-, hl3, -, hchk, -, -, -, hag⟩ := hc
  intro x hx
  refine State.byteRead_congr h.samePlaces ⟨hl3, hchk, hag⟩ ⟨by rw [h.mem, hl3], by rw [h.mem, hchk], h.agree ha hlen hag⟩ ?_
  refine h.homeView_ne ha hlen (by rw [s.localAddr_mod]; omega) fun he => ?_
  refine hx (a, 64) List.mem_cons_self (x % 64) (Nat.mod_lt _ (by decide)) ?_
  rw [s.localAddr_line x, he]
  exact s.localAddr_of_low (by show a + x % 64 < _; omega)

end State.Stored

/-- A line is written after an access has been counted. -/
theorem State.Stored.after {s u t : State} {a : Nat} {data : List Byte} (hu : s.Aside CountWord u) (hports : u.ports = s.ports) (hmem : u.mem = s.mem)
    (h : u.Stored a data t) : s.Stored a data t :=
  ⟨hu.trans h.aside, h.ports.trans hports, h.mem.trans (by rw [hmem]), fun w => (h.marks w).trans (by rw [hmem])⟩

theorem State.writeLine_stored {s : State} (hs : FMap.sorted s.regs = true) (hp : FMap.sorted s.mem.poison = true) (hc : s.mem.Plain) {a : Nat} {sp : Spot}
    (hlow : a < 0x800000000000) (hsp : s.spot a = some sp) (hshut : s.spotShut sp = false) (data : List Byte) :
    s.Stored a (padTo 64 data) (s.writeLine a data 0) := by
  have hrecall : s.recall a true = s := by
    unfold State.recall
    rw [hc.l3]
    rfl
  unfold State.writeLine
  dsimp only
  rw [s.localAddr_of_low hlow, hrecall, hsp]
  dsimp only
  split
  · have ha := (State.Aside.refl hs).bumpSat R.SCA_STAT_HITS _ 1 (State.countWord_of_spot hsp rfl rfl)
    have hmem := State.bumpSat_mem s R.SCA_STAT_HITS [homeDie sp, homeSlice sp] 1
    have hports := State.bumpSat_ports s R.SCA_STAT_HITS [homeDie sp, homeSlice sp] 1
    generalize s.bumpSat R.SCA_STAT_HITS [homeDie sp, homeSlice sp] = u at ha hmem hports
    have hpl : s.SamePlaces u := ha.samePlaces_of_slices (by rw [hmem])
    exact .after ha hports hmem (State.storeHome_stored ha.sorted (hmem ▸ hp) (hmem ▸ hc) hlow ((hpl.spot a).trans hsp) ((hpl.spotShut sp).trans hshut) data)
  · exact State.storeHome_stored hs hp hc hlow hsp hshut data

end Sys2Proof.Machine
end

section
/-! PROOFS. Requests of other members served, and the answers to this device's own requests (R327, R329, R341, R342). -/

namespace Sys2Proof.Machine
open Sys2Proof

/-! Other ports, and a received flit taken from its port's buffer. -/

/-- The device with other ports. -/
def State.withPorts (s : State) (ps : FMap Port) : State := { s with ports := ps }

theorem State.samePlaces_withPorts (s : State) (ps : FMap Port) : s.SamePlaces (s.withPorts ps) :=
  ⟨rfl, rfl, fun _ => rfl, fun _ => rfl, rfl, rfl, rfl, rfl, rfl⟩

theorem State.mapped_withPorts (s : State) (ps : FMap Port) (a : Nat) : (s.withPorts ps).mapped a = s.mapped a := by
  unfold State.mapped
  rw [(s.samePlaces_withPorts ps).regionOf]
  rfl

theorem State.hitsRegion_withPorts (s : State) (ps : FMap Port) (a n : Nat) : (s.withPorts ps).hitsRegion a n = s.hitsRegion a n := by
  have hrgn : State.regionsOf (s.withPorts ps) = State.regionsOf s := by
    have hflag : @State.flag (s.withPorts ps) = @State.flag s := rfl
    have hfld : @State.fld (s.withPorts ps) = @State.fld s := rfl
    have hoff : (s.withPorts ps).lmtOff = s.lmtOff := by rw [State.lmtOff, State.lmtOff, hfld]
    have hon : (s.withPorts ps).lmtOn = s.lmtOn := by rw [State.lmtOn, State.lmtOn, s.mapped_withPorts, hoff]
    have hentry : State.lmtEntry (s.withPorts ps) = State.lmtEntry s := by
      funext d l e
      rw [State.lmtEntry, State.lmtEntry, hon, hoff]
    have hone : (s.withPorts ps).lmtRgn = s.lmtRgn := by rw [State.lmtRgn, State.lmtRgn, hoff]
    funext d l
    rw [State.regionsOf, State.regionsOf, hentry, hone, hflag, hfld]
  rw [State.hitsRegion, State.hitsRegion, (s.samePlaces_withPorts ps).regionOf, hrgn]

theorem State.lineView_withPorts (s : State) (ps : FMap Port) (a : Nat) : (s.withPorts ps).lineView a = s.lineView a := by
  have h := s.samePlaces_withPorts ps
  have hmem : (s.withPorts ps).mem = s.mem := rfl
  unfold State.lineView
  dsimp only
  rw [h.localAddr, h.regionOf, h.spot, hmem, show State.spotShut (s.withPorts ps) = State.spotShut s from funext h.spotShut]
  rfl

theorem State.slicesAgree_withPorts {s : State} (ps : FMap Port) (h : Claims.SlicesAgree s) : Claims.SlicesAgree (s.withPorts ps) := by
  have hp := s.samePlaces_withPorts ps
  refine ⟨h.1, fun k d p hf => ?_⟩
  obtain ⟨sp, hsp, hv⟩ := h.2 k d p hf
  exact ⟨sp, (hp.spot _).trans hsp, (State.tierView_of_slices hp rfl sp _).trans hv⟩

theorem State.clean_withPorts {s : State} (ps : FMap Port) (h : Claims.Clean s) : Claims.Clean (s.withPorts ps) := by
  obtain ⟨h1, h2, h3, h4, h5, h6, h7, h8⟩ := h
  exact ⟨h1, h2, h3, h4, h5, h6, h7, State.slicesAgree_withPorts ps h8⟩

theorem State.storable_withPorts {s : State} (ps : FMap Port) {a : Nat} (h : Claims.Storable s a) : Claims.Storable (s.withPorts ps) a := by
  have hp := s.samePlaces_withPorts ps
  obtain ⟨h1, h2, h3, h4, h5, h6⟩ := h
  exact ⟨h1, h2, (s.mapped_withPorts ps a).trans h3, (hp.farLine a).trans h4, (s.hitsRegion_withPorts ps a 64).trans h5,
    fun sp hsp => (hp.spotShut sp).trans (h6 sp ((hp.spot a).symm.trans hsp))⟩

theorem State.onlyBytes_withPorts {s t : State} {ps qs : FMap Port} {rs : List (Nat × Nat)} (h : Claims.OnlyBytes rs (s.withPorts ps) t) :
    Claims.OnlyBytes rs s (t.withPorts qs) := by
  intro a ha
  have hloc := (s.samePlaces_withPorts ps).localAddr
  have hb := h a fun r hr i hi => by
    rw [hloc, hloc]
    exact ha r hr i hi
  unfold Claims.byteRead at hb ⊢
  rw [State.lineView_withPorts, hb, State.lineView_withPorts]

/-- A port after its oldest flit has been taken. -/
def Port.taken (q : Port) (f : Flit) (rest : List Flit) : Port :=
  { q with rxq := rest, used := q.used.setD f.pool 0 (q.used.getD f.pool 0 - 1), owed := q.owed.setD f.pool 0 (q.owed.getD f.pool 0 + 1) }

/-- The oldest flit of a port, where an operation takes it. -/
theorem State.popRx_oldest {s : State} {k : Nat} {f : Flit} {rest : List Flit} (hrx : (s.port k).rxq = f :: rest) {p : Flit → Bool} (hp : p f = true) :
    ∃ ps, s.popRx k p = some (f, s.withPorts ps) ∧ ((s.withPorts ps).port k).rxq = rest ∧
      ∀ j, ((s.withPorts ps).port j).txq = (s.port j).txq := by
  have hpick : pickFlit p (s.port k).rxq = some (f, rest) := by
    rw [hrx, pickFlit, if_pos hp]
  have hpop : s.popRx k p = some (f, s.modPort k fun q => q.taken f rest) := by
    unfold State.popRx
    rw [hpick]
    rfl
  have hself := State.port_modPort_self s k fun q => q.taken f rest
  have hne := fun j (hj : j ≠ k) => State.port_modPort_ne s hj fun q => q.taken f rest
  obtain ⟨ps, hps⟩ : ∃ ps, (s.modPort k fun q => q.taken f rest) = s.withPorts ps := ⟨_, rfl⟩
  rw [hps] at hpop hself hne
  refine ⟨ps, hpop, by rw [hself]; rfl, fun j => ?_⟩
  by_cases hj : j = k
  · rw [hj, hself]
    rfl
  · rw [hne j hj]

/-! Responses. -/

/-- A flit with a way out is put at the end of its port's send path, with the stamp of now. -/
theorem State.sendFlit_routed {s : State} {f : Flit} {p : Nat} (hr : s.route f.dst = some p) (hst : s.fld R.NLK_STATUS_STATE [p] ≠ 4) (hp : s.hasPort p = true) :
    s.sendFlit f = s.modPort p fun q => { q with txq := q.txq ++ [f.stamped s] } := by
  have hraw : s.sendRaw (f.stamped s) = (s.modPort p fun q => { q with txq := q.txq ++ [f.stamped s] }, false) := by
    unfold State.sendRaw
    rw [show s.route (f.stamped s).dst = some p from hr]
    dsimp only
    rw [if_neg (by simp [hst, hp])]
  rw [State.sendFlit, hraw]
  rfl

/-- What a response to a request holds. -/
def State.answerTo (s : State) (f : Flit) (op lines pmark status : Nat) (data : List Byte) : Flit :=
  { Flit.mk' 7 f.vc (txSrc f) (txnPayload (txOff f) (txTag f) s.node op lines pmark status 0 data) with ttl := s.fld R.NLK_NODE_TTL_INIT, age := s.ageStamp }

theorem State.answerTo_withPorts (s : State) (ps : FMap Port) (f : Flit) (op lines pmark status : Nat) (data : List Byte) :
    (s.withPorts ps).answerTo f op lines pmark status data = s.answerTo f op lines pmark status data := by
  have hfld : ∀ (g : Fld) (ix : List Nat), (s.withPorts ps).fld g ix = s.fld g ix := fun _ _ => rfl
  have htime : (s.withPorts ps).time = s.time := rfl
  unfold State.answerTo State.node State.ageStamp State.elapsedNs
  rw [hfld, hfld, htime]

/-- A port leads toward a node and is not DOWN. -/
def State.Leads (s : State) (node p : Nat) : Prop := s.route node = some p ∧ s.fld R.NLK_STATUS_STATE [p] ≠ 4 ∧ s.hasPort p = true

theorem State.respond_routed {s : State} {f : Flit} {p : Nat} (h : s.Leads (txSrc f) p) (op lines pmark status : Nat) (data : List Byte) :
    s.respond f op lines pmark status data = s.modPort p fun q => { q with txq := q.txq ++ [s.answerTo f op lines pmark status data] } := by
  obtain ⟨hr, hst, hp⟩ := h
  exact State.sendFlit_routed hr hst hp

theorem State.modPort_rxq (s : State) (p j : Nat) (f : Flit) : ((s.modPort p fun q => { q with txq := q.txq ++ [f] }).port j).rxq = (s.port j).rxq := by
  by_cases hj : j = p
  · rw [hj, State.port_modPort_self]
  · rw [State.port_modPort_ne s hj]

theorem not_countWord_of_low {o : Nat} (h : o < 0x11000000) : ¬ CountWord o := fun hw => Nat.not_le.2 h hw.1

theorem not_countWord_of_high {f : Fld} (h : 0x20000000 ≤ f.base) (ix : List Nat) : ¬ CountWord (f.at ix) :=
  fun hw => Nat.not_le.2 hw.2.1 (h.trans (Nat.le_add_right _ _))

namespace State.Aside
variable {s t : State} (h : s.Aside CountWord t)
include h

theorem route (dst : Nat) : t.route dst = s.route dst := by
  have hf : ∀ (f : Fld) (ix : List Nat), 0x20000000 ≤ f.base → t.fld f ix = s.fld f ix := fun f ix hb => h.fld f ix (not_countWord_of_high hb ix)
  unfold State.route State.flag
  simp only [hf R.NLK_ROUTE_VALID _ (by decide), hf R.NLK_ROUTE_PORT _ (by decide), hf R.NLK_ROUTE_ALT_EN _ (by decide), hf R.NLK_STATUS_STATE _ (by decide),
    hf R.NLK_ROUTE_ALT_PORT _ (by decide)]

theorem leads {node p : Nat} (hl : s.Leads node p) : t.Leads node p := by
  obtain ⟨hr, hst, hp⟩ := hl
  refine ⟨(h.route node).trans hr, ?_, ?_⟩
  · rw [h.fld _ _ (not_countWord_of_high (by decide) _)]
    exact hst
  · rw [State.hasPort, h.fld R.GLB_CAPS_NLK_PORTS _ (not_countWord_of_low (by decide)), ← State.hasPort, hp]

theorem answerTo (f : Flit) (op lines pmark status : Nat) (data : List Byte) :
    t.answerTo f op lines pmark status data = s.answerTo f op lines pmark status data := by
  unfold State.answerTo State.node State.ageStamp State.elapsedNs
  rw [h.fld R.NLK_NODE_NODE_ID _ (not_countWord_of_high (by decide) _), h.fld R.NLK_NODE_TTL_INIT _ (not_countWord_of_high (by decide) _), h.time]

end State.Aside

/-- A request has been served and its answer queued: no port's buffer differs, and the port toward the source has the answer at the end of its send path. -/
theorem State.answered_ports {s t : State} (h : s.Aside CountWord t) (hports : t.ports = s.ports) {f : Flit} {p : Nat} (hl : s.Leads (txSrc f) p)
    (op lines pmark status : Nat) (data : List Byte) :
    (∃ ps, t.respond f op lines pmark status data = t.withPorts ps) ∧
    (∀ j, ((t.respond f op lines pmark status data).port j).rxq = (s.port j).rxq) ∧
      ((t.respond f op lines pmark status data).port p).txq = (s.port p).txq ++ [s.answerTo f op lines pmark status data] := by
  have hport : ∀ j, t.port j = s.port j := fun j => by rw [State.port, hports, ← State.port]
  rw [State.respond_routed (h.leads hl), h.answerTo]
  refine ⟨⟨_, rfl⟩, fun j => ?_, ?_⟩
  · rw [State.modPort_rxq, hport]
  · rw [State.port_modPort_self, hport]

/-! Line requests. -/

theorem State.mappedRange_line {s : State} {a : Nat} (ha : a % 64 = 0) (hm : s.mapped a = true) : s.mappedRange a 64 = true := by
  have hone : (a + 64 - 1) / 64 + 1 - a / 64 = 1 := by omega
  have hline : (a / 64 + 0) * 64 = a := by omega
  rw [State.mappedRange, hone, List.range_one, List.all_cons, List.all_nil, hline, hm]
  rfl

theorem txOff_lt (f : Flit) : txOff f < 0x800000000000 := (Nat.mod_lt _ (by decide)).trans (by decide)

theorem State.localRegion_of_spot {s : State} {a : Nat} {sp : Spot} (hlow : a < 0x800000000000) (hsp : s.spot a = some sp) :
    (∃ o, localRegion a = .stack o) ∨ ∃ o, localRegion a = .rim o := by
  have hreg : s.regionOf a = localRegion a := by
    unfold State.regionOf
    rw [s.localAddr_of_low hlow]
    exact if_neg fun h => Nat.not_lt.2 h.1 hlow
  rw [← hreg]
  exact State.region_of_spot hsp

/-- A line of a stack or of the rim is in reach of a peer while no job-fatal sequence runs (R347). -/
theorem State.peerStatus_near {s : State} {a : Nat} {sp : Spot} (ha : a % 64 = 0) (hlow : a < 0x800000000000) (hsp : s.spot a = some sp) (hm : s.mapped a = true)
    (hj : s.job.running = false) (w : Bool) : s.peerStatus a 64 w = 0 := by
  unfold State.peerStatus
  rw [hj, State.mappedRange_line ha hm, Bool.and_false, if_neg Bool.false_ne_true]
  obtain ⟨o, h⟩ | ⟨o, h⟩ := State.localRegion_of_spot hlow hsp <;> rw [h] <;> rfl

section
variable {s : State} {f : Flit} {sp : Spot} (hs : FMap.sorted s.regs = true) (hc : Claims.Clean s) (hj : s.job.running = false) (ha : txOff f % 64 = 0)
  (hn : txLines f = 1) (hst : Claims.Storable s (txOff f)) (hsp : s.spot (txOff f) = some sp)
include hs hc hj ha hn hst hsp

theorem State.serveLineRead_near (hw : s.mem.written (txOff f) = true) (hp : s.mem.wordPoison (txOff f / 8) = false) :
    ∃ t, s.Fetched t ∧ s.serveLineRead f = t.respond f 2 1 0 0 (s.mem.bytesAt (txOff f) 64) := by
  have hlow := txOff_lt f
  obtain ⟨-, -, hmap, -, -, hshut⟩ := hst
  obtain ⟨t, hread, hf⟩ := State.readLine_written hc ha hlow hsp (hshut sp hsp) hs hw hp 4
  refine ⟨t, hf, ?_⟩
  have hline : txOff f / 64 * 64 = txOff f := by omega
  have hpad : padTo 64 (s.mem.bytesAt (txOff f) 64) = s.mem.bytesAt (txOff f) 64 := by
    have hlen : (s.mem.bytesAt (txOff f) 64).length = 64 := by simp [Mem.bytesAt]
    rw [padTo, hlen, List.take_left' hlen]
  unfold State.serveLineRead
  dsimp only
  rw [hline, hn, State.peerStatus_near ha hlow hsp hmap hj, if_neg (by simp)]
  have hfold : (List.range 1).foldl (fun (acc : List Byte × Nat × State) i =>
        let (v, t) := acc.2.2.readLine (txOff f + 64 * i) 4
        if v.poison ≠ 0 then (acc.1 ++ zeros 64, acc.2.1 + 2 ^ i, t.logPoison 0x08 linkUnit 0 (txOff f + 64 * i) 0)
        else (acc.1 ++ padTo 64 v.data, acc.2.1, t)) ([], 0, s) = (s.mem.bytesAt (txOff f) 64, 0, t) := by
    rw [List.range_one, List.foldl_cons, List.foldl_nil, Nat.mul_zero, Nat.add_zero, hread]
    dsimp only
    rw [if_neg (by simp), hpad, List.nil_append]
  obtain ⟨o, h⟩ | ⟨o, h⟩ := State.localRegion_of_spot hlow hsp <;> rw [h, hfold]

theorem State.serveLineWrite_near (hmem : FMap.sorted s.mem.poison = true) (hp : txPmark f = 0) :
    ∃ t, s.Stored (txOff f) (padTo 64 ((txData f).take 64)) t ∧ s.serveLineWrite f = t.respond f 3 0 0 0 [] := by
  have hlow := txOff_lt f
  obtain ⟨-, -, hmap, -, hrgn, hshut⟩ := hst
  refine ⟨_, State.writeLine_stored hs hmem (Mem.plain_of_clean hc) hlow hsp (hshut sp hsp) _, ?_⟩
  have hline : txOff f / 64 * 64 = txOff f := by omega
  have hrx : ¬ (txOff f = abortRxOff ∧ f.vc = 2) := fun h => by
    have hreg : ∃ o, localRegion abortRxOff = .regs o := ⟨abortRxOff - 0x0F000000000, by decide⟩
    obtain ⟨o, ho⟩ := hreg
    obtain ⟨o', h'⟩ | ⟨o', h'⟩ := State.localRegion_of_spot hlow hsp <;> rw [h.1, ho] at h' <;> cases h'
  have htake : (((txData f).take (64 * 1)).drop (64 * 0)).take 64 = (txData f).take 64 := by
    rw [Nat.mul_one, Nat.mul_zero, List.drop_zero, List.take_take, Nat.min_self]
  unfold State.serveLineWrite
  dsimp only
  rw [hline, hn, if_neg hrx, State.peerStatus_near ha hlow hsp hmap hj, if_neg (by simp), hrgn,
    if_neg Bool.false_ne_true, List.range_one, List.foldl_cons, List.foldl_nil, htake, hp, if_neg (by simp [bit]), Nat.mul_zero, Nat.add_zero]
  obtain ⟨o, h⟩ | ⟨o, h⟩ := State.localRegion_of_spot hlow hsp <;> rw [h]

end

/-! Answers to an item's own requests. -/

/-- The one item in flight changes. -/
theorem State.modItem_lone {s : State} {id : Nat} {it : Item} (h : s.items = [(id, it)]) (g : Item → Item) :
    s.modItem id g = { s with items := [(id, g it)] } := by
  unfold State.modItem
  rw [h]
  simp [FMap.find?, FMap.put]

/-- An item that still waits for answers goes on waiting. -/
theorem State.answered_waits {s : State} {id : Nat} {it : Item} (h : s.items = [(id, it)]) (hp : it.pendingRemote ≠ 0) : s.answered id = s := by
  have hf : FMap.find? id s.items = some it := by
    rw [h]
    exact if_pos rfl
  unfold State.answered
  rw [hf]
  exact if_pos (.inl hp)

/-- An item with one answer less to wait for. -/
def Item.oneLess (it : Item) : Item := { it with pendingRemote := it.pendingRemote - 1 }

/-- An item that keeps a line read for it. -/
def Item.keeps (it : Item) (l : Nat) (data : List Byte) : Item := { it.oneLess with remote := it.remote.put l (padTo 64 data, 0) }

/-- An item whose request has found no answer (R342). -/
def Item.unanswered (it : Item) : Item := { it.oneLess with status := if it.status = 0 then Code.REMOTE_UNREACHABLE else it.status }

section
variable {s : State} {id : Nat} {it : Item} {r : Req} (hi : s.items = [(id, it)]) (hc : s.cols = []) (hp : 2 ≤ it.pendingRemote) (hw : r.waiter = .item id)
include hi hw hp

theorem State.deliverRead_item {f : Flit} (hop : r.op = 0) (hm : txPmark f = 0) :
    s.deliverRead r f = { s with items := [(id, it.keeps (r.addr / 64) ((txData f).take 64))] } := by
  have hbit : bit 0 0 = false := by decide
  have hlen : ¬ (r.len = 8 ∧ r.op = 5) := fun h => by
    rw [hop] at h
    exact absurd h.2 (by decide)
  unfold State.deliverRead
  rw [hw, hm, hbit, if_neg Bool.false_ne_true, if_neg hlen]
  dsimp only
  unfold State.giveLine
  rw [hw]
  dsimp only
  rw [State.modItem_lone hi]
  exact State.answered_waits (it := it.keeps (r.addr / 64) ((txData f).take 64)) rfl (by show it.pendingRemote - 1 ≠ 0; omega)

include hc

theorem State.requestFails_item {tag : Nat} (ho : FMap.find? tag s.outStreams = none) (status : Nat) :
    s.requestFails tag r status = { s with items := [(id, it.unanswered)] } := by
  have hf : FMap.find? id s.items = some it := by
    rw [hi]
    exact if_pos rfl
  have hcol : FMap.find? id s.cols = none := by rw [hc, FMap.find?_nil]
  have hfail : s.failRequest r = { s with items := [(id, it.unanswered)] } := by
    unfold State.failRequest
    rw [hw]
    dsimp only
    rw [hf, hcol, hi]
    simp [FMap.put, Item.unanswered, Item.oneLess]
  unfold State.requestFails
  rw [ho, hw]
  dsimp only
  unfold State.requestOver
  rw [hfail, hw]
  dsimp only
  rw [State.answered_waits (it := it.unanswered) rfl (by show it.pendingRemote - 1 ≠ 0; omega)]
  exact State.reapSteps_of_noCols hc

end

/-! The events. -/

section
variable {s : State} {k : Nat} {f : Flit} {rest : List Flit} (hup : s.up = true) (hrx : (s.port k).rxq = f :: rest) (hf : f.ftype = 7)
include hup hrx hf

theorem exec_txnRequestReceive (hop : txOp f = 0 ∨ txOp f = 1) :
    ∃ ps, ((s.withPorts ps).port k).rxq = rest ∧ (∀ j, ((s.withPorts ps).port j).txq = (s.port j).txq) ∧
      (txOp f = 0 → exec (.txnRequestReceive k) s = .next ((s.withPorts ps).serveLineRead f)) ∧
      (txOp f = 1 → exec (.txnRequestReceive k) s = .next ((s.withPorts ps).serveLineWrite f)) := by
  obtain ⟨ps, hpop, hk, htx⟩ := State.popRx_oldest hrx (p := fun f => f.ftype == 7 && (txOp f == 0 || txOp f == 1 || txOp f == 5 || txOp f == 6))
    (by obtain h | h := hop <;> simp [hf, h])
  have hexec : exec (.txnRequestReceive k) s = .next (match txOp f with
      | 0 => (s.withPorts ps).serveLineRead f
      | 1 => (s.withPorts ps).serveLineWrite f
      | 5 => (s.withPorts ps).serveNarrowRead f
      | _ => (s.withPorts ps).serveNarrowWrite f) := by
    show execTxnRequestReceive k s = _
    unfold execTxnRequestReceive
    rw [hpop, hup]
    rfl
  exact ⟨ps, hk, htx, fun h => hexec.trans (by rw [h]; rfl), fun h => hexec.trans (by rw [h]; rfl)⟩

theorem exec_txnResponseReceive (hop : txOp f = 2 ∨ txOp f = 3) :
    ∃ ps, ((s.withPorts ps).port k).rxq = rest ∧
      (FMap.find? (txTag f) s.reqs = none → exec (.txnResponseReceive k) s = .next (s.withPorts ps)) ∧
      (∀ r, FMap.find? (txTag f) s.reqs = some r → txOp f = 2 → txStatus f = 0 →
        exec (.txnResponseReceive k) s = .next (State.deliverRead { s.withPorts ps with reqs := FMap.del (txTag f) s.reqs } r f)) := by
  obtain ⟨ps, hpop, hk, -⟩ := State.popRx_oldest hrx (p := fun f => f.ftype == 7 && (txOp f == 2 || txOp f == 3 || txOp f == 4))
    (by obtain h | h := hop <;> simp [hf, h])
  refine ⟨ps, hk, fun hnone => ?_, fun r hr h2 hst => ?_⟩
  · show execTxnResponseReceive k s = _
    unfold execTxnResponseReceive
    rw [hpop, hup]
    dsimp only
    rw [show (s.withPorts ps).reqs = s.reqs from rfl, hnone]
    rfl
  · show execTxnResponseReceive k s = _
    unfold execTxnResponseReceive
    rw [hpop, hup]
    dsimp only
    rw [show (s.withPorts ps).reqs = s.reqs from rfl, hr]
    dsimp only
    rw [h2, hst]
    rfl

end

end Sys2Proof.Machine

namespace Sys2Proof.Claims
open Machine

/-- Settles O25: a line request is served by the rules for near lines and its answer routed; an answer to an item's request changes the item alone. -/
theorem requestsAndResponses : Obligations.RequestsAndResponses := by
  intro s k f rest hcanon hup hclean hjob hrx hft
  have hs := State.canon_regs hcanon
  refine ⟨fun p sp hroute hst4 hport ha hn hst hsp => ⟨fun hop hw hp => ?_, fun hop hp => ?_⟩,
    fun id it r hi hcols hphase hclass hpend hreqs hr hwait hout => ⟨fun hop hstat hrop hpm => ?_, ?_⟩, fun hop hnone => ?_⟩
  · obtain ⟨ps, hk, htx, hexec, -⟩ := exec_txnRequestReceive hup hrx hft (.inl hop)
    have hspot := ((s.samePlaces_withPorts ps).spot _).trans hsp
    obtain ⟨t, hf, hserve⟩ := State.serveLineRead_near (s := s.withPorts ps) hs (State.clean_withPorts ps hclean) hjob ha hn
      (State.storable_withPorts ps hst) hspot hw hp
    obtain ⟨⟨qs, hqs⟩, hrxq, htxq⟩ := State.answered_ports hf.aside hf.ports (p := p) ⟨hroute, hst4, hport⟩ 2 1 0 0 ((s.withPorts ps).mem.bytesAt (txOff f) 64)
    refine ⟨_, (hexec hop).trans (congrArg _ hserve), (hrxq k).trans hk, htxq.trans (by rw [htx, State.answerTo_withPorts]; rfl), ?_⟩
    rw [hqs]
    exact State.onlyBytes_withPorts (hf.onlyBytes hclean.2.1 hclean.2.2.2.1 (State.slicesAgree_withPorts ps hclean.2.2.2.2.2.2.2))
  · obtain ⟨ps, hk, htx, -, hexec⟩ := exec_txnRequestReceive hup hrx hft (.inr hop)
    have hspot := ((s.samePlaces_withPorts ps).spot _).trans hsp
    have hshut := ((s.samePlaces_withPorts ps).spotShut sp).trans (hst.2.2.2.2.2 sp hsp)
    have hcl := State.clean_withPorts ps hclean
    obtain ⟨t, hw, hserve⟩ := State.serveLineWrite_near (s := s.withPorts ps) hs hcl hjob ha hn (State.storable_withPorts ps hst) hspot
      (Bool.and_eq_true_iff.1 (State.canon_mem hcanon)).2 hp
    obtain ⟨⟨qs, hqs⟩, -, htxq⟩ := State.answered_ports hw.aside hw.ports (p := p) ⟨hroute, hst4, hport⟩ 3 0 0 0 []
    have hline : ((t.respond f 3 0 0 0 []).lineView (txOff f)) = ⟨0, padTo 64 ((txData f).take 64), 0, []⟩ := by
      rw [hqs, State.lineView_withPorts]
      exact hw.lineView_self ha (padTo_length 64 _) (txOff_lt f) hspot hshut hcl
    refine ⟨_, (hexec hop).trans (congrArg _ hserve), by rw [hline], by rw [hline], ?_, htxq.trans (by rw [htx, State.answerTo_withPorts]; rfl)⟩
    rw [hqs]
    exact State.onlyBytes_withPorts (hw.onlyBytes ha (padTo_length 64 _) (txOff_lt f) hcl)
  · obtain ⟨ps, -, -, hexec⟩ := exec_txnResponseReceive hup hrx hft (.inl hop)
    have hdeliver := State.deliverRead_item (s := { s.withPorts ps with reqs := FMap.del (txTag f) s.reqs }) hi hpend hwait hrop hpm
    exact ⟨_, it.keeps (r.addr / 64) ((txData f).take 64), (hexec r hr hop hstat).trans (congrArg _ hdeliver), FMap.find?_del_self _ hreqs, rfl, rfl,
      FMap.find?_put_self _ _ _⟩
  · have hfails := State.requestFails_item (s := { s with reqs := FMap.del (txTag f) s.reqs }) hi hcols hpend hwait hout 4
    refine ⟨{ s with reqs := FMap.del (txTag f) s.reqs, items := [(id, it.unanswered)] }, it.unanswered, ?_, FMap.find?_del_self _ hreqs, rfl, rfl, rfl⟩
    show execRequestTimeout (txTag f) s = _
    unfold execRequestTimeout
    rw [show s.hubUp = true from (Bool.and_eq_true_iff.1 hup).1, hr]
    exact congrArg _ hfails
  · obtain ⟨ps, hk, hexec, -⟩ := exec_txnResponseReceive hup hrx hft (.inr hop)
    exact ⟨_, hexec hnone, rfl, hk⟩

end Sys2Proof.Claims
end

section
/-! SUPPORT. What reading and writing memory of this device reaches, its errors included: counters, the error log, the maps of channels and the lanes that the log marks. -/

namespace Sys2Proof.Machine
open Sys2Proof

/-- The words that an access of memory may write: those of a log entry, of the tiles, stacks and shared-cache slices, and of the rim. -/
def AccessWord (o : Nat) : Prop := Claims.LogTouches o = true ∨ (0x10000000 ≤ o ∧ o < 0x20000000) ∨ o / 0x1000000 = 0x22

theorem accessWord_of_log {o : Nat} (h : Claims.LogTouches o = true) : AccessWord o := .inl h

theorem accessWord_of_ras {o : Nat} (h : o / 0x1000000 = 6) : AccessWord o := .inl (by simp [Claims.LogTouches, h])

theorem accessWord_of_countWord {o : Nat} (h : CountWord o) : AccessWord o := by
  obtain ⟨h1, h2, -⟩ := h
  exact .inr (.inl ⟨by omega, h2⟩)

/-- Words of the blocks below the tiles, but for the error log and the forwarded interrupts, are none of them. -/
theorem not_accessWord_of_low {o : Nat} (hlow : o < 0x10000000) (h6 : o / 0x1000000 ≠ 6) (hp : o ≠ R.HRT_PENDING.base) : ¬ AccessWord o := by
  rintro (h | h | h)
  · simp only [Claims.LogTouches, Bool.or_eq_true, beq_iff_eq, List.any_eq_true, List.mem_range] at h
    rcases h with ((h | rfl) | h) | ⟨k, -, rfl⟩
    · exact h6 h
    · exact absurd hlow (by decide)
    · exact hp h
    · simp only [Fld.at, R.STK_TRAFFIC_LINES, dotOff] at hlow
      omega
  · omega
  · omega

theorem accessWord_lane {f : Fld} (hb : f.base = R.ERL_LANE_CHANNEL.base) (hst : f.strides = [8]) {i : Nat} (hi : i < 64) : AccessWord (f.at [i]) :=
  accessWord_of_ras (by simp only [Fld.at, hb, hst, R.ERL_LANE_CHANNEL, dotOff]; omega)

theorem accessWord_live {key : Nat} (hk : key ≤ 544) :
    (key < 512 → AccessWord (R.STK_CHMAP_LIVE.at [key / 128, key / 32 % 4])) ∧ AccessWord (R.RIM_STATUS_LIVE.at [(key - 512) / 2]) := by
  refine ⟨fun h => .inr (.inl ?_), .inr (.inr ?_)⟩
  · simp only [Fld.at, R.STK_CHMAP_LIVE, dotOff]
    omega
  · simp only [Fld.at, R.RIM_STATUS_LIVE, dotOff]
    omega

section
variable {s : State} (hs : FMap.sorted s.regs = true)
include hs

theorem State.log_accesses (code unit addr detail : Nat) : s.Aside AccessWord (s.log code unit addr detail) :=
  (State.log_aside hs code unit addr detail).mono fun _ => accessWord_of_log

theorem State.tierAccess_accesses (sp : Spot) : s.Aside AccessWord (s.tierAccess sp) :=
  (State.tierAccess_aside hs sp).mono fun _ h => accessWord_of_log (logTouches_of_trafficWord h)

theorem State.storeHome_accesses (a : Nat) (data : List Byte) (p : Nat) : s.Aside AccessWord (s.storeHome a data p) :=
  (State.storeHome_aside hs a data p).mono fun _ h => accessWord_of_log (logTouches_of_trafficWord h)

/-- An error counts in the log's block and is logged. -/
theorem State.errorLogged_accesses {f : Fld} (hf : f.at [] / 0x1000000 = 6) (code unit addr detail : Nat) :
    s.Aside AccessWord ((s.bumpSat f).log code unit addr detail) := by
  have h := (State.Aside.refl hs).bumpSat f [] 1 (accessWord_of_ras hf)
  exact h.trans (State.log_accesses h.sorted _ _ _ _)

/-! Fences and lane marks. -/

theorem State.fenceChannel_accesses {key : Nat} (hk : key ≤ 544) (cause : Nat) : s.Aside AccessWord (s.fenceChannel key cause) := by
  unfold State.fenceChannel
  refine .ite (fun _ => .refl hs) fun _ => ?_
  extract_lets u
  have hu : s.Aside AccessWord u := .ite (fun h => (State.Aside.refl hs).setFldBit _ _ _ _ ((accessWord_live hk).1 h))
    fun _ => (State.Aside.refl hs).setFldBit _ _ _ _ (accessWord_live hk).2
  exact hu.trans (State.log_accesses hu.sorted _ _ _ _)

theorem State.putLane_accesses (key lane : Nat) (hc : s.laneCount < 64) : s.Aside AccessWord (s.putLane key lane) := by
  have hm := (State.Aside.refl (W := AccessWord) hs).withMem { s.mem with lanes := s.mem.lanes.put key (s.mem.lanes.getD key [] ++ [lane]) }
  have hl := (((hm.setFld R.ERL_LANE_CHANNEL (key % 512) [s.laneCount] (accessWord_lane rfl rfl hc)).setFld R.ERL_LANE_TIER (key / 512) [s.laneCount]
    (accessWord_lane rfl rfl hc)).setFld R.ERL_LANE_LANE lane [s.laneCount] (accessWord_lane rfl rfl hc)).setFld R.ERL_LANE_VALID 1 [s.laneCount] (accessWord_lane rfl rfl hc)
  exact hl.trans (State.log_accesses hl.sorted _ _ _ _)

theorem State.markLane_accesses {key : Nat} (hk : key ≤ 544) (lane : Nat) (fence : Bool) : s.Aside AccessWord (s.markLane key lane fence) := by
  unfold State.markLane
  refine .ite (fun _ => .refl hs) fun _ => ?_
  by_cases hroom : s.laneRoom key = true
  · have hc : s.laneCount < 64 := by
      simp only [State.laneRoom, decide_eq_true_eq] at hroom
      omega
    simp only [hroom, Bool.not_true, Bool.false_eq_true, if_false]
    exact .ite (fun _ => State.putLane_accesses hs _ _ hc) fun _ => (State.Aside.refl hs).withMem _
  · simp only [hroom, Bool.not_false, if_true]
    exact .ite (fun _ => State.fenceChannel_accesses hs hk _) fun _ => .refl hs

theorem State.countCe_accesses {key : Nat} (hk : key ≤ 544) (l : List Nat) (f : Bool) : s.Aside AccessWord (s.countCe key l f) := by
  unfold State.countCe
  dsimp only
  split
  · refine .ite (fun _ => ?_) fun _ => (State.Aside.refl hs).withMem _
    have hm := (State.Aside.refl (W := AccessWord) hs).withMem
    exact (hm _).trans (State.markLane_accesses (hm _).sorted hk _ _)
  · exact .refl hs

theorem State.countUe_accesses {key : Nat} (hk : key ≤ 544) (src : Nat) : s.Aside AccessWord (s.countUe key src) := by
  unfold State.countUe
  refine .ite (fun _ => ?_) fun _ => .refl hs
  have hm := (State.Aside.refl (W := AccessWord) hs).withMem
  exact .ite (fun _ => (hm _).trans (State.fenceChannel_accesses (hm _).sorted hk _)) fun _ => hm _

/-! Lines read and written at their home. -/

theorem State.noteRead_accesses (a : Nat) (v : LineView) (src : Nat) : s.Aside AccessWord (s.noteRead a v src) := by
  unfold State.noteRead
  split
  · exact .refl hs
  · next sp hsp =>
    extract_lets u er d w
    have hk := State.spot_key_le hsp
    have hu : s.Aside AccessWord u := (State.tierAccess_accesses hs sp).bumpSat R.SCA_STAT_MISSES _ _ (accessWord_of_countWord (State.countWord_of_spot hsp rfl rfl))
    clear_value u
    have ce := fun d => hu.trans (State.errorLogged_accesses hu.sorted (f := R.ERL_COUNTS_CE) (by decide) Code.MEM_CE w a d)
    have ue := fun code d => hu.trans (State.errorLogged_accesses hu.sorted (f := R.ERL_COUNTS_UE) (by decide) code w a d)
    split
    · exact (ce _).trans (State.countCe_accesses (ce _).sorted hk _ _)
    · exact (ue _ _).trans (State.countUe_accesses (ue _ _).sorted hk _)
    · exact ue _ _
    · exact (ue _ _).trans (State.countUe_accesses (ue _ _).sorted hk _)
    · exact hu

theorem State.recall_accesses (a : Nat) (inv : Bool) : s.Aside AccessWord (s.recall a inv) := by
  unfold State.recall
  dsimp only
  split
  · exact .refl hs
  · next held _ =>
    cases held with
    | none => exact (State.Aside.refl hs).withMem _
    | some e => exact (State.storeHome_accesses hs (a / 64 * 64) e.1 e.2).withMem _

theorem State.noteChip_accesses (a : Nat) (v : LineView) : s.Aside AccessWord (s.noteChip a v) :=
  .ite (fun _ => State.errorLogged_accesses hs (f := R.ERL_COUNTS_UE) (by decide) _ _ _ _) fun _ => .refl hs

theorem State.keepLine_accesses (sp : Spot) (a : Nat) (v : LineView) : s.Aside AccessWord (s.keepLine sp a v) := by
  unfold State.keepLine
  extract_lets ls ways u
  have hu : s.Aside AccessWord u := .ite (fun _ => .refl hs) fun _ => (State.Aside.refl hs).free.withMem _
  exact hu.withMem _

theorem State.readLine_accesses (a src : Nat) : s.Aside AccessWord (s.readLine a src).2 := by
  unfold State.readLine
  extract_lets b u v
  have hu : s.Aside AccessWord u := State.recall_accesses hs _ _
  clear_value u
  split
  · exact hu.trans (State.noteChip_accesses hu.sorted _ _)
  · next sp hsp =>
    split
    · exact hu
    · split
      · have hh := hu.bumpSat R.SCA_STAT_HITS [homeDie sp, homeSlice sp] 1 (accessWord_of_countWord (State.countWord_of_spot hsp rfl rfl))
        exact hh.trans (State.noteChip_accesses hh.sorted _ _)
      · have hn := hu.trans (State.noteRead_accesses hu.sorted b v src)
        exact .ite (fun _ => hn.trans (State.keepLine_accesses hn.sorted _ _ _)) fun _ => hn

theorem State.touchLines_accesses (a n src : Nat) : s.Aside AccessWord (s.touchLines a n src) :=
  .ite (fun _ => .refl hs) fun _ => .foldl (fun _ hu _ _ => State.readLine_accesses hu _ _) (.refl hs)

theorem State.writeLine_accesses (a : Nat) (data : List Byte) (p : Nat) : s.Aside AccessWord (s.writeLine a data p) := by
  unfold State.writeLine
  extract_lets b u v
  have hu : s.Aside AccessWord u := State.recall_accesses hs _ _
  have hv : s.Aside AccessWord v := by
    dsimp only [v]
    split
    · next sp hsp => exact .ite (fun _ => hu.bumpSat _ _ _ (accessWord_of_countWord (State.countWord_of_spot hsp rfl rfl))) fun _ => hu
    · exact hu
  exact hv.trans (State.storeHome_accesses hv.sorted _ _ _)

theorem State.settleLine_accesses (a : Nat) : s.Aside AccessWord (s.settleLine a) := (State.noteChip_accesses hs a (s.mem.chipView a)).withMem _

/-- Bytes of a line that does not lie elsewhere are written. -/
theorem State.storePart_accesses {a : Nat} (hr : ∀ m o, s.regionOf (s.localAddr a) ≠ .remote m o) (hp : ∀ o, s.regionOf (s.localAddr a) ≠ .pcie o) (data : List Byte)
    (p : Bool) (src : Nat) : s.Aside AccessWord (s.storePart a data p src) := by
  unfold State.storePart
  dsimp only
  split
  · exact .refl hs
  · split
    · next m o h => exact absurd h (hr m o)
    · next o h => exact absurd h (hp o)
    · refine .ite (fun _ => State.writeLine_accesses hs _ _ _) fun _ => ?_
      have hu := State.recall_accesses hs (s.localAddr a / 64 * 64) true
      split
      · have hl := hu.trans (State.readLine_accesses hu.sorted (s.localAddr a / 64 * 64) src)
        exact hl.trans (State.storeHome_accesses hl.sorted _ _ _)
      · exact (hu.trans (State.settleLine_accesses hu.sorted (s.localAddr a / 64 * 64))).withMem _

end

end Sys2Proof.Machine
end

section
/-! SUPPORT. A work item's way through dispatch and completion: the counts of its queue, its context and its tokens, its energy, its record (R409 to R412, R416 to R419, R467). -/

namespace Sys2Proof.Machine
open Sys2Proof

/-! The line of a completion record lies here. -/

theorem State.regionOf_of_local {s : State} {a : Nat} (h : s.localAddr a < 0x800000000000) : s.regionOf a = localRegion (s.localAddr a) :=
  if_neg fun hn => Nat.not_lt.2 hn.1 h

theorem localRegion_stack_iff {a o : Nat} : localRegion a = .stack o ↔ a < 0x09000000000 ∧ o = a := by
  unfold localRegion
  split_ifs <;> simp <;> omega

theorem localRegion_rim_iff {a o : Nat} : localRegion a = .rim o ↔ 0x10000000000 ≤ a ∧ a < 0x20000000000 ∧ o = a - 0x10000000000 := by
  unfold localRegion
  split_ifs <;> simp <;> omega

/-- A byte of a line of a channel lies neither with another member nor behind the PCIe port. -/
theorem State.near_of_spot {s : State} {a : Nat} {sp : Spot} (h : s.spot (a / 64 * 64) = some sp) :
    (∀ m o, s.regionOf (s.localAddr a) ≠ .remote m o) ∧ ∀ o, s.regionOf (s.localAddr a) ≠ .pcie o := by
  have hline := s.localAddr_line a
  have hmod : s.localAddr (a / 64 * 64) % 64 = 0 := by
    rw [s.localAddr_mod]
    omega
  have hbase : s.localAddr (a / 64 * 64) < 0x09000000000 ∨ 0x10000000000 ≤ s.localAddr (a / 64 * 64) ∧ s.localAddr (a / 64 * 64) < 0x20000000000 := by
    have hreg := State.region_of_spot h
    unfold State.regionOf at hreg
    dsimp only at hreg
    split at hreg
    · split at hreg <;> simp at hreg
    · simp only [localRegion_stack_iff, localRegion_rim_iff] at hreg
      obtain ⟨o, h1, -⟩ | ⟨o, h1, h2, -⟩ := hreg
      · exact .inl h1
      · exact .inr ⟨h1, h2⟩
  rw [State.regionOf_of_local (by rw [s.localAddr_localAddr]; omega), s.localAddr_localAddr]
  obtain h1 | h1 := hbase
  · rw [localRegion_stack_iff.2 ⟨by omega, rfl⟩]
    exact ⟨by simp, by simp⟩
  · rw [localRegion_rim_iff.2 ⟨by omega, by omega, rfl⟩]
    exact ⟨by simp, by simp⟩

/-! What booking an item reaches. -/

/-- The words that book the work of a queue: accesses of memory, the counts of contexts and tokens, the energy ledger, and the words of other queues. -/
def BookWord (q o : Nat) : Prop :=
  AccessWord o ∨ o / 0x1000000 = 0xB ∨ (0x3000050 ≤ o ∧ o < 0x3000068) ∨ (o / 0x1000000 = 9 ∧ o / 64 ≠ 0x240000 + q)

/-- Register words that satisfy `W` may differ, the items in flight too; the epoch, what is staged or waits for a boundary, frozen marks and item numbers are as they were. -/
structure State.Booked (W : Nat → Prop) (s t : State) : Prop where
  sorted : FMap.sorted t.regs = true
  regs : ∀ o, ¬ W o → FMap.find? o t.regs = FMap.find? o s.regs
  epo : t.epo = s.epo
  staged : t.staged = s.staged
  atBoundary : t.atBoundary = s.atBoundary
  clearEval : t.train.clearEval = s.train.clearEval
  frozen : t.train.frozenStep = s.train.frozenStep
  nextItem : t.nextItem = s.nextItem

namespace State.Booked
variable {W V : Nat → Prop} {s t u : State}

theorem refl (hs : FMap.sorted s.regs = true) : s.Booked W s := ⟨hs, fun _ _ => rfl, rfl, rfl, rfl, rfl, rfl, rfl⟩

theorem trans (h : s.Booked W t) (g : t.Booked W u) : s.Booked W u where
  sorted := g.sorted
  regs o ho := (g.regs o ho).trans (h.regs o ho)
  epo := g.epo.trans h.epo
  staged := g.staged.trans h.staged
  atBoundary := g.atBoundary.trans h.atBoundary
  clearEval := g.clearEval.trans h.clearEval
  frozen := g.frozen.trans h.frozen
  nextItem := g.nextItem.trans h.nextItem

theorem mono (h : s.Booked W t) (hW : ∀ o, W o → V o) : s.Booked V t := { h with regs := fun o ho => h.regs o fun hw => ho (hW o hw) }

theorem of_aside (h : s.Aside W t) : s.Booked W t where
  sorted := h.sorted
  regs := h.regs
  epo := h.epo
  staged := h.staged
  atBoundary := h.atBoundary
  clearEval := congrArg Train.clearEval h.train
  frozen := congrArg Train.frozenStep h.train
  nextItem := (congrArg State.nextItem h.only).trans rfl

theorem setFld (h : s.Booked W t) (f : Fld) (v : Nat) (ix : List Nat) (hf : W (f.at ix)) : s.Booked W (t.setFld f v ix) :=
  h.trans (of_aside ((State.Aside.refl h.sorted).setFld f v ix hf))

theorem bump (h : s.Booked W t) (f : Fld) (ix : List Nat) (d : Nat) (hf : W (f.at ix)) : s.Booked W (t.bump f ix d) := h.setFld f _ ix hf

theorem bumpSat (h : s.Booked W t) (f : Fld) (ix : List Nat) (d : Nat) (hf : W (f.at ix)) : s.Booked W (t.bumpSat f ix d) := h.setFld f _ ix hf

theorem withItems (h : s.Booked W t) (l : FMap Item) : s.Booked W { t with items := l } := { h with }

theorem withNrg (h : s.Booked W t) (n : Energy) : s.Booked W { t with nrg := n } := { h with }

theorem fld (h : s.Booked W t) (f : Fld) (ix : List Nat) (hf : ¬ W (f.at ix)) : t.fld f ix = s.fld f ix := State.fld_congr (h.regs _ hf)

end State.Booked

theorem bookWord_of_access {q o : Nat} (h : AccessWord o) : BookWord q o := .inl h

theorem bookWord_of_qmc {q : Nat} {f : Fld} {ix : List Nat} (h : f.at ix / 0x1000000 = 0xB) : BookWord q (f.at ix) := .inr (.inl h)

theorem bookWord_of_other {q c : Nat} (hc : c < 262144) (hne : c ≠ q) {f : Fld} (hst : f.strides = [64]) (hlo : 0x9000000 ≤ f.base) (hhi : f.base < 0x9000040) :
    BookWord q (f.at [c]) := by
  refine .inr (.inr (.inr ?_))
  simp only [Fld.at, hst, dotOff]
  omega

/-- Words of EVC, TRN, EPO and of queue `q` are no such words. -/
theorem not_bookWord {q o : Nat} (h : (0x1000000 ≤ o ∧ o < 0x3000050) ∨ (0x3000068 ≤ o ∧ o < 0x6000000) ∨ (0x7000000 ≤ o ∧ o < 0x9000000) ∨ (0xA000000 ≤ o ∧ o < 0xB000000) ∨
    (0x9000000 + 64 * q ≤ o ∧ o < 0x9000040 + 64 * q ∧ q < 262144)) : ¬ BookWord q o := by
  rintro (hw | hw | hw | hw)
  · refine not_accessWord_of_low ?_ ?_ ?_ hw
    · omega
    · omega
    · show o ≠ 0xc000088
      omega
  · omega
  · omega
  · omega

/-! A head taken. -/

/-- The words of a dispatch: those that book the work of its queue, and the queue's own indices. -/
def HeadWord (q o : Nat) : Prop := BookWord q o ∨ o = R.WQS_W2_CI.at [q]

/-- The words of a completion: those that book the work of its queue, and the queue's own counts. -/
def DoneWord (q o : Nat) : Prop := BookWord q o ∨ o = R.WQS_W4_DONE.at [q]

/-- The device with one more item number given out. -/
def State.numbered (s : State) : State := { s with nextItem := s.nextItem + 1 }

theorem State.numbered_fld (s : State) (f : Fld) (ix : List Nat) : s.numbered.fld f ix = s.fld f ix := rfl

theorem State.Booked.numbered {W : Nat → Prop} {s t : State} (h : s.Booked W t) : s.numbered.Booked W t.numbered := { h with nextItem := congrArg (· + 1) h.nextItem }

theorem wqsFld_at (f : Fld) (hst : f.strides = [64]) (q : Nat) : f.at [q] = f.base + 64 * q := by
  simp only [Fld.at, hst, dotOff]
  omega

theorem State.cqOf_lt (s : State) (q : Nat) : s.cqOf q < 262144 := s.fld_lt R.WQS_W3_CQ [q]

theorem State.takeHead_ungated {s : State} (hs : FMap.sorted s.regs = true) (hi : s.items = []) {q : Nat} {it : Item} (hq : q < 262144) (hcq : s.cqOf q ≠ q)
    (hg : hGate it.desc = false) (hd : it.die < 4) :
    ∃ t, s.takeHead q it = (s.nextItem, t) ∧ t.items = [(s.nextItem, it)] ∧ t.nextItem = s.nextItem + 1 ∧
      t.fld R.WQS_W2_CI [q] = (s.fld R.WQS_W2_CI [q] + 1) % 2 ^ 32 ∧ t.train = s.train ∧ s.numbered.Booked (HeadWord q) t := by
  have hctx : R.QMC_CTX_W0_INFLIGHT.at [hContext it.desc] / 0x1000000 = 0xB := by
    have hlt : hContext it.desc < 4096 := bits_lt _ _ _
    simp only [Fld.at, R.QMC_CTX_W0_INFLIGHT, dotOff]
    omega
  have hdie : R.QMC_LEDGER_DIE_ISSUED.at [it.die] / 0x1000000 = 0xB := by
    simp only [Fld.at, R.QMC_LEDGER_DIE_ISSUED, dotOff]
    omega
  let x : State := { s with items := s.items.put s.nextItem it, nextItem := s.nextItem + 1, cqMarks := FMap.del q s.cqMarks }
  have hx : FMap.sorted x.regs = true := hs
  have hy : FMap.sorted (x.bump R.WQS_W2_CI [q]).regs = true := State.setFld_sorted hs _ _ _
  have hz := ((((((State.Aside.refl (W := BookWord q) hy).bump R.QMC_STATUS_INFLIGHT [] 1 (bookWord_of_qmc (by decide))).bump R.QMC_CTX_W0_INFLIGHT [hContext it.desc] 1
    (bookWord_of_qmc hctx)).bump R.WQS_W4_RESERVED [s.cqOf q] 1 (bookWord_of_other (s.cqOf_lt q) hcq rfl (by decide) (by decide))).bump R.QMC_LEDGER_DIE_ISSUED [it.die] 1
    (bookWord_of_qmc hdie)).bump R.QMC_LEDGER_CQE_ISSUED [] 1 (bookWord_of_qmc (by decide))).bump R.QMC_LEDGER_SIG_ISSUED [] (signalsOf it.desc).length
    (bookWord_of_qmc (by decide))
  have htake : s.takeHead q it = (s.nextItem, ((((((x.bump R.WQS_W2_CI [q]).bump R.QMC_STATUS_INFLIGHT).bump R.QMC_CTX_W0_INFLIGHT [hContext it.desc]).bump
      R.WQS_W4_RESERVED [s.cqOf q]).bump R.QMC_LEDGER_DIE_ISSUED [it.die]).bump R.QMC_LEDGER_CQE_ISSUED).bump R.QMC_LEDGER_SIG_ISSUED [] (signalsOf it.desc).length) := by
    unfold State.takeHead State.joinGate
    dsimp only
    rw [if_neg (by simp [hg])]
  refine ⟨_, htake, ?_, ?_, ?_, hz.train.trans (State.bump_train ..), ?_⟩
  · rw [hz.items, State.bump_items]
    show s.items.put s.nextItem it = _
    rw [hi]
    rfl
  · rw [(State.Booked.of_aside hz).nextItem, State.bump_nextItem]
  · rw [hz.fld R.WQS_W2_CI [q] (not_bookWord (by rw [wqsFld_at _ rfl]; simp only [R.WQS_W2_CI]; omega)), State.bump_eq,
      State.fld_setFld_self hx R.WQS_W2_CI (by decide)]
    rfl
  · have h0 : s.numbered.Booked (HeadWord q) x := ⟨hs, fun _ _ => rfl, rfl, rfl, rfl, rfl, rfl, rfl⟩
    exact (h0.bump R.WQS_W2_CI [q] 1 (.inr rfl)).trans ((State.Booked.of_aside hz).mono fun _ => .inl)

theorem bookWord_nrg {q o : Nat} (h : 0x3000050 ≤ o ∧ o < 0x3000068) : BookWord q o := .inr (.inr (.inl h))

/-- An item with the energy debited for its run. -/
def Item.letIn (it : Item) (e : Nat) : Item := { it with debited := e, admitted := true }

/-- The energy of the one item in flight is debited. -/
theorem State.letIn_lone {s : State} (hs : FMap.sorted s.regs = true) {id : Nat} {it : Item} (hi : s.items = [(id, it)]) (q : Nat) :
    (s.letIn id).items = [(id, it.letIn (s.corrected it.desc))] ∧ s.Booked (BookWord q) (s.letIn id) := by
  have hfind : FMap.find? id s.items = some it := by
    rw [hi]
    exact if_pos rfl
  have hd : (s.debit it.desc).items = [(id, it)] ∧ s.Booked (BookWord q) (s.debit it.desc) := by
    unfold State.debit
    dsimp only
    refine ⟨?_, ((State.Booked.refl hs).withNrg _).bump R.NRG_LEDGER_DEBITED_UJ [] _ (bookWord_nrg (by decide))⟩
    rw [State.bump_items]
    exact hi
  have hl : s.letIn id = { s.debit it.desc with items := [(id, it.letIn (s.corrected it.desc))] } := by
    unfold State.letIn
    rw [hfind]
    exact State.modItem_lone hd.1 fun it' => { it' with debited := s.corrected it'.desc, admitted := true }
  rw [hl]
  exact ⟨rfl, hd.2.withItems _⟩

/-! Completion. -/

/-- An item of queue `q` that completes by itself with nothing but its record: no signals, no gate, no failure, nothing of a step, of a snapshot or of a frozen layer. -/
structure Item.Simple (it : Item) (q : Nat) : Prop where
  queue : it.queue = q
  status : it.status = 0
  frozenSkip : it.frozenSkip = false
  evc : it.evc = []
  bound : it.bound = []
  gate : it.gate = none
  overflow : it.overflow = false
  die : it.die < 4
  signals : signalsOf it.desc = []
  step : isStep it.desc = false
  snapshot : hSnapshot it.desc = false

section
variable {s : State} (hs : FMap.sorted s.regs = true) {q : Nat} (hq : q < 262144) (hcq : s.cqOf q ≠ q)
include hs hcq

/-- A record changes no word of its work queue. -/
theorem State.postRecord_aside {it : Item} (hit : it.queue = q) : s.Aside (BookWord q) (s.postRecord it) := by
  have other : ∀ {f : Fld}, f.strides = [64] → 0x9000000 ≤ f.base → f.base < 0x9000040 → BookWord q (f.at [s.cqOf q]) :=
    fun hst h1 h2 => bookWord_of_other (s.cqOf_lt q) hcq hst h1 h2
  have h2 := ((State.Aside.refl (W := BookWord q) hs).setFld R.WQS_W4_RESERVED (s.fld R.WQS_W4_RESERVED [s.cqOf q] - 1) [s.cqOf q] (other rfl (by decide) (by decide))).bump
    R.QMC_LEDGER_CQE_RETURNED [] 1 (bookWord_of_qmc (by decide))
  unfold State.postRecord
  rw [hit]
  dsimp only
  refine .ite (fun _ => h2) fun _ => ?_
  generalize (s.setFld R.WQS_W4_RESERVED (s.fld R.WQS_W4_RESERVED [s.cqOf q] - 1) [s.cqOf q]).bump R.QMC_LEDGER_CQE_RETURNED = u at h2
  cases hsp : u.spot (u.ringAddr (s.cqOf q) (u.fld R.WQS_W2_PI [s.cqOf q]) 32 / 64 * 64) with
  | none => exact h2
  | some sp =>
    refine .ite (fun _ => h2) fun _ => ?_
    obtain ⟨hr, hp⟩ := State.near_of_spot hsp
    have h3 := fun b => (h2.trans ((State.storePart_accesses h2.sorted hr hp b false 0).mono fun _ => bookWord_of_access)).bump R.WQS_W2_PI [s.cqOf q] 1
      (other rfl (by decide) (by decide))
    exact .ite (fun _ => (h3 _).trans ((State.interrupt_aside (h3 _).sorted _ _).mono fun _ h => bookWord_of_access (accessWord_of_log h))) fun _ => h3 _

end

theorem not_bookWord_own {f : Fld} {q : Nat} (hq : q < 262144) (hst : f.strides = [64]) (hlo : 0x9000000 ≤ f.base) (hhi : f.base < 0x9000040) : ¬ BookWord q (f.at [q]) :=
  not_bookWord (by rw [wqsFld_at f hst]; omega)

/-- An item of a die and a context in flight no longer. -/
def State.tokensBack (s : State) (die c : Nat) : State :=
  let s := s.bump R.QMC_LEDGER_DIE_RETURNED [die]
  let s := s.setFld R.QMC_STATUS_INFLIGHT (s.fld R.QMC_STATUS_INFLIGHT - 1)
  s.setFld R.QMC_CTX_W0_INFLIGHT (s.fld R.QMC_CTX_W0_INFLIGHT [c] - 1) [c]

theorem State.tokensBack_aside {s : State} (hs : FMap.sorted s.regs = true) (q : Nat) {die : Nat} (hd : die < 4) (d : Desc) :
    s.Aside (BookWord q) (s.tokensBack die (hContext d)) := by
  have hctx : R.QMC_CTX_W0_INFLIGHT.at [hContext d] / 0x1000000 = 0xB := by
    have hlt : hContext d < 4096 := bits_lt _ _ _
    simp only [Fld.at, R.QMC_CTX_W0_INFLIGHT, dotOff]
    omega
  have hdie : R.QMC_LEDGER_DIE_RETURNED.at [die] / 0x1000000 = 0xB := by
    simp only [Fld.at, R.QMC_LEDGER_DIE_RETURNED, dotOff]
    omega
  exact (((State.Aside.refl hs).bump R.QMC_LEDGER_DIE_RETURNED [die] 1 (bookWord_of_qmc hdie)).setFld R.QMC_STATUS_INFLIGHT _ [] (bookWord_of_qmc (by decide))).setFld
    R.QMC_CTX_W0_INFLIGHT _ _ (bookWord_of_qmc hctx)

/-- The marks that an item which is no snapshot leaves in the training registers. -/
theorem State.trainMarks_booked {s : State} (hs : FMap.sorted s.regs = true) {it : Item} (hsn : hSnapshot it.desc = false) (W : Nat → Prop) :
    (s.trainMarks it).items = s.items ∧ s.Booked W (s.trainMarks it) := by
  unfold State.trainMarks
  dsimp only
  rw [if_neg (by simp [hsn])]
  split
  · exact ⟨rfl, hs, fun _ _ => rfl, rfl, rfl, rfl, rfl, rfl, rfl⟩
  · exact ⟨rfl, .refl hs⟩

/-- Where nothing waits for a work-item boundary, none acts. -/
theorem State.boundary_idle {s : State} (hs : FMap.sorted s.regs = true) (hb : s.atBoundary = []) (hc : s.train.clearEval = false) (it : Item) (W : Nat → Prop) :
    (s.boundary it).items = s.items ∧ s.Booked W (s.boundary it) := by
  have hrest : ∀ p : Nat × Word × Word → Bool, s.atBoundary.filter p = [] := fun p => by rw [hb]; rfl
  have hbound : s.boundary it = { s with atBoundary := [] } := by
    unfold State.boundary
    dsimp only
    rw [hrest, hrest, List.foldl_nil, if_neg (by simp [hc])]
  rw [hbound]
  exact ⟨rfl, hs, fun _ _ => rfl, rfl, rfl, hb.symm, rfl, rfl, rfl⟩

section
variable {s : State} (hs : FMap.sorted s.regs = true) {q id : Nat} {it : Item} (hq : q < 262144) (hcq : s.cqOf q ≠ q) (hi : s.items = [(id, it)]) (hit : it.Simple q)
  (hb : s.atBoundary = []) (hc : s.train.clearEval = false)
include hs hq hcq hi hit hb hc

theorem State.releaseItem_simple : (s.releaseItem id).items = [] ∧ (s.releaseItem id).fld R.WQS_W4_DONE [q] = (s.fld R.WQS_W4_DONE [q] + 1) % 2 ^ 32 ∧
    s.Booked (DoneWord q) (s.releaseItem id) := by
  have hfind : FMap.find? id s.items = some it := by
    rw [hi]
    exact if_pos rfl
  have hown : ¬ BookWord q (R.WQS_W4_DONE.at [q]) := not_bookWord_own hq rfl (by decide) (by decide)
  have h1 := (State.Aside.refl (W := BookWord q) hs).bump R.QMC_LEDGER_SIG_RETURNED [] 0 (bookWord_of_qmc (by decide))
  have h2 := h1.trans (State.postRecord_aside h1.sorted (by rw [State.cqOf, h1.fld _ _ (not_bookWord_own hq rfl (by decide) (by decide))]; exact hcq) hit.queue)
  generalize hu : (s.bump R.QMC_LEDGER_SIG_RETURNED [] 0).postRecord it = u at h2
  have h3 : FMap.sorted (u.bump R.WQS_W4_DONE [q]).regs = true := State.setFld_sorted h2.sorted _ _ _
  have hdone : (u.bump R.WQS_W4_DONE [q]).fld R.WQS_W4_DONE [q] = (s.fld R.WQS_W4_DONE [q] + 1) % 2 ^ 32 := by
    rw [State.bump_eq, State.fld_setFld_self h2.sorted R.WQS_W4_DONE (by decide), h2.fld _ _ hown]
    rfl
  have h03 : s.Booked (DoneWord q) (u.bump R.WQS_W4_DONE [q]) := ((State.Booked.of_aside h2).mono fun _ => .inl).bump R.WQS_W4_DONE [q] 1 (.inr rfl)
  have h4 := State.tokensBack_aside h3 q hit.die it.desc
  generalize hv : (u.bump R.WQS_W4_DONE [q]).tokensBack it.die (hContext it.desc) = v at h4
  obtain ⟨h5i, h5⟩ := State.trainMarks_booked h4.sorted hit.snapshot (BookWord q)
  have hrel : s.releaseItem id = ({ v.trainMarks it with items := FMap.del id (v.trainMarks it).items } : State).boundary it := by
    unfold State.releaseItem
    rw [hfind]
    dsimp only
    rw [hit.evc, hit.status, if_pos rfl, hit.signals, List.foldl_nil, List.foldl_nil, List.length_nil, hit.queue, hu, ← hv]
    rfl
  have h35 := (State.Booked.of_aside h4).trans (h5.withItems (FMap.del id (v.trainMarks it).items))
  have h05 := h03.trans (h35.mono fun _ => .inl)
  obtain ⟨h6i, h6⟩ := State.boundary_idle h35.sorted (h05.atBoundary.trans hb) (h05.clearEval.trans hc) it (BookWord q)
  rw [hrel]
  refine ⟨h6i.trans ?_, ?_, h05.trans (h6.mono fun _ => .inl)⟩
  · show FMap.del id (v.trainMarks it).items = []
    rw [h5i, h4.items, State.bump_items, h2.items, hi]
    simp [FMap.del]
  · rw [(h35.trans h6).fld _ _ hown, hdone]

end

/-- A run's energy is reconciled in the balance and the ledger. -/
theorem State.reconcile_booked {s : State} (hs : FMap.sorted s.regs = true) (it : Item) (m q : Nat) :
    (s.reconcile it m).items = s.items ∧ s.Booked (BookWord q) (s.reconcile it m) := by
  have hn := fun n => (State.Booked.refl (W := BookWord q) hs).withNrg n
  unfold State.reconcile
  dsimp only
  split
  · split
    · exact ⟨State.bump_items .., (hn _).bump R.NRG_LEDGER_DRAWN_UJ [] _ (bookWord_nrg (by decide))⟩
    · exact ⟨State.bump_items .., (hn _).bump R.NRG_LEDGER_RETURNED_UJ [] _ (bookWord_nrg (by decide))⟩
  · exact ⟨rfl, .refl hs⟩

/-- An item whose run has ended, with the energy measured for it. -/
def Item.ranFor (it : Item) (m : Nat) : Item := { it with bound := [], measured := if it.admitted then m else 0 }

theorem Item.Simple.ranFor {it : Item} {q : Nat} (h : it.Simple q) (m : Nat) : (it.ranFor m).Simple q := { h with bound := rfl }

section
variable {s : State} (hs : FMap.sorted s.regs = true) {q id : Nat} {it : Item} (hq : q < 262144) (hcq : s.cqOf q ≠ q) (hi : s.items = [(id, it)]) (hit : it.Simple q)
  (hb : s.atBoundary = []) (hc : s.train.clearEval = false)
include hs hq hcq hi hit hb hc

/-- A simple item completes: it is no longer in flight, and its queue counts it. -/
theorem State.endRun_simple (m : Nat) : (s.endRun id m).items = [] ∧ (s.endRun id m).fld R.WQS_W4_DONE [q] = (s.fld R.WQS_W4_DONE [q] + 1) % 2 ^ 32 ∧
    s.Booked (DoneWord q) (s.endRun id m) := by
  have hfind : FMap.find? id s.items = some it := by
    rw [hi]
    exact if_pos rfl
  have own : ∀ {f : Fld}, f.strides = [64] → 0x9000000 ≤ f.base → f.base < 0x9000040 → ¬ BookWord q (f.at [q]) := fun h1 h2 h3 => not_bookWord_own hq h1 h2 h3
  obtain ⟨h1i, h1⟩ := State.reconcile_booked hs it m q
  have hrun : s.endRun id m = ({ s.reconcile it m with items := [(id, it.ranFor m)] } : State).releaseItem id := by
    unfold State.endRun
    rw [hfind]
    dsimp only
    generalize s.reconcile it m = u at h1i h1
    have hfrozen : u.markFrozen it = u := if_neg (by simp [hit.frozenSkip])
    have hunbind : u.unbind it = u := by
      unfold State.unbind
      rw [hit.bound]
      rfl
    have hcol : u.colMarks it = u := if_neg (by simp [hit.step])
    rw [hfrozen, hunbind, hcol, State.modItem_lone (h1i.trans hi)]
    split
    · rw [if_neg (by simp [hit.overflow])]
      rfl
    · next g hg => exact absurd (hit.gate.symm.trans hg) (by simp)
  have h2 := h1.withItems [(id, it.ranFor m)]
  have hcq2 : ({ s.reconcile it m with items := [(id, it.ranFor m)] } : State).cqOf q ≠ q := by
    rw [State.cqOf, h2.fld _ _ (own rfl (by decide) (by decide))]
    exact hcq
  obtain ⟨h3i, h3d, h3⟩ := State.releaseItem_simple h2.sorted hq hcq2 rfl (hit.ranFor m) (h2.atBoundary.trans hb) (h2.clearEval.trans hc)
  rw [hrun]
  exact ⟨h3i, by rw [h3d, h2.fld _ _ (own rfl (by decide) (by decide))], (h2.mono fun _ => .inl).trans h3⟩

theorem State.endNow_simple : (s.endNow id).items = [] ∧ (s.endNow id).fld R.WQS_W4_DONE [q] = (s.fld R.WQS_W4_DONE [q] + 1) % 2 ^ 32 ∧
    s.Booked (DoneWord q) (s.endNow id) := by
  have hf := (State.Aside.refl (W := BookWord q) hs).free
  unfold State.endNow
  dsimp only
  generalize bits s.free.1.toNat 0 32 = m
  generalize s.free.2 = u at hf
  have own : ∀ {f : Fld}, f.strides = [64] → 0x9000000 ≤ f.base → f.base < 0x9000040 → ¬ BookWord q (f.at [q]) := fun h1 h2 h3 => not_bookWord_own hq h1 h2 h3
  have hcq2 : u.cqOf q ≠ q := by
    rw [State.cqOf, hf.fld _ _ (own rfl (by decide) (by decide))]
    exact hcq
  obtain ⟨h1, h2, h3⟩ := State.endRun_simple hf.sorted hq hcq2 (hf.items.trans hi) hit (hf.atBoundary.trans hb) ((congrArg Train.clearEval hf.train).trans hc) m
  exact ⟨h1, by rw [h2, hf.fld _ _ (own rfl (by decide) (by decide))], ((State.Booked.of_aside hf).mono fun _ => .inl).trans h3⟩

end

end Sys2Proof.Machine
end

section
/-! PROOFS. EVENT, BARRIER, STEP_COMMIT and EPOCH items (R74, R247, R409, R422, R423, R424). -/

namespace Sys2Proof.Machine
open Sys2Proof

/-! A head dispatched. -/

/-- What the presented head of a queue says of the queue: it is a work queue that is served, and its completion queue is another one. -/
theorem State.presented_queue {s : State} {q : Nat} (h : s.presented q = true) : s.served q = true ∧ s.presentable q = true ∧ q < 262144 ∧ s.cqOf q ≠ q := by
  obtain ⟨hp, -⟩ := Bool.and_eq_true_iff.1 h
  obtain ⟨hready, -⟩ := Bool.and_eq_true_iff.1 hp
  simp only [State.ready, Bool.and_eq_true] at hready
  obtain ⟨⟨⟨hserved, -⟩, -⟩, hroom⟩ := hready
  refine ⟨hserved, hp, ?_, fun he => ?_⟩
  · simp only [State.served, Bool.and_eq_true, decide_eq_true_eq] at hserved
    exact hserved.1.1.1.1.1.1.1
  · have hk0 : s.fld R.WQS_W0_KIND [q] = 0 := by
      simp only [State.served, Bool.and_eq_true, beq_iff_eq] at hserved
      exact hserved.1.2
    have hk1 : s.fld R.WQS_W0_KIND [s.cqOf q] = 1 := by
      simp only [State.cqRoom, Bool.and_eq_true, beq_iff_eq] at hroom
      exact hroom.1.1
    rw [he, hk0] at hk1
    exact absurd hk1 (by decide)

/-- The item that a starting head becomes. -/
def State.begun (s : State) (q : Nat) : Item := (s.newItem q (s.headDesc q)).letIn (s.corrected (s.headDesc q))

theorem State.unhold_train (s : State) (q : Nat) : (s.unhold q).train = s.train := by
  unfold State.unhold
  dsimp only
  split <;> rfl

theorem State.modItem_train (s : State) (id : Nat) (f : Item → Item) : (s.modItem id f).train = s.train := by
  unfold State.modItem
  split <;> rfl

theorem State.debit_train (s : State) (d : Desc) : (s.debit d).train = s.train := by
  unfold State.debit
  exact State.bump_train ..

theorem State.letIn_train (s : State) (id : Nat) : (s.letIn id).train = s.train := by
  unfold State.letIn
  split
  · rfl
  · rw [State.modItem_train, State.debit_train]

theorem State.unhold_booked {s : State} (hs : FMap.sorted s.regs = true) (q : Nat) (W : Nat → Prop) : (s.unhold q).items = s.items ∧ s.Booked W (s.unhold q) := by
  unfold State.unhold
  dsimp only
  split
  · exact ⟨rfl, (State.Booked.refl hs).withNrg _⟩
  · exact ⟨rfl, .refl hs⟩

/-- A head whose dispatch begins a run is taken, with its energy debited, and its run begins. -/
theorem State.dispatchIf_starts {s : State} {q : Nat} (h : Claims.Starts s q) (hg : hGate (s.headDesc q) = false) {mine : Desc → Bool} (hm : mine (s.headDesc q) = true) :
    ∃ u, s.dispatchIf q mine = u.startItem s.nextItem ∧ u.items = [(s.nextItem, s.begun q)] ∧ u.nextItem = s.nextItem + 1 ∧
      u.fld R.WQS_W2_CI [q] = (s.fld R.WQS_W2_CI [q] + 1) % 2 ^ 32 ∧ u.train = s.train ∧ s.numbered.Booked (HeadWord q) u := by
  obtain ⟨hcanon, hup, ⟨hi, hgates, hcols, hb, hce, hj⟩, hpres, hout, hv, hadm⟩ := h
  have hs := State.canon_regs hcanon
  obtain ⟨hserved, hable, hq, hcq⟩ := State.presented_queue hpres
  have h1 := State.touchLines_accesses hs (s.headAddr q) 128 0
  have hdisp : s.dispatchIf q mine = ((((s.touchLines (s.headAddr q) 128 0).unhold q).takeHead q (s.newItem q (s.headDesc q))).2.letIn
      (((s.touchLines (s.headAddr q) 128 0).unhold q).takeHead q (s.newItem q (s.headDesc q))).1).startItem
      (((s.touchLines (s.headAddr q) 128 0).unhold q).takeHead q (s.newItem q (s.headDesc q))).1 := by
    unfold State.dispatchIf State.dispatch
    dsimp only
    rw [hm, hserved, hable, hpres, hout, hv, show (s.newItem q (s.headDesc q)).desc = s.headDesc q from rfl, hadm]
    rfl
  rw [hdisp]
  generalize s.touchLines (s.headAddr q) 128 0 = u1 at h1
  have htrain := (State.unhold_train u1 q).trans h1.train
  obtain ⟨h2i, h2⟩ := State.unhold_booked h1.sorted q (BookWord q)
  have h02 := ((State.Booked.of_aside h1).mono fun _ => bookWord_of_access).trans h2
  generalize u1.unhold q = u2 at h2i h02 htrain
  have hown : ∀ {f : Fld}, f.strides = [64] → 0x9000000 ≤ f.base → f.base < 0x9000040 → ¬ BookWord q (f.at [q]) := fun h1 h2 h3 => not_bookWord_own hq h1 h2 h3
  have hcq2 : u2.cqOf q ≠ q := by
    rw [State.cqOf, h02.fld _ _ (hown rfl (by decide) (by decide))]
    exact hcq
  have hdie : (s.newItem q (s.headDesc q)).die < 4 := s.fld_lt R.WQS_W0_HOME [q]
  obtain ⟨u3, htake, h3i, h3n, h3c, h3t, h3⟩ := State.takeHead_ungated h02.sorted (h2i.trans (h1.items.trans hi)) (it := s.newItem q (s.headDesc q)) hq hcq2 hg hdie
  have hnext : u2.nextItem = s.nextItem := h02.nextItem
  rw [htake, hnext]
  rw [hnext] at h3i h3n
  obtain ⟨h4i, h4⟩ := State.letIn_lone h3.sorted h3i q
  have hcoef : u3.corrected (s.headDesc q) = s.corrected (s.headDesc q) := by
    have hw : ¬ BookWord q (R.NRG_COEF_COEF.at [hClass (s.headDesc q) - 1]) := not_bookWord (.inr (.inl (by
      have hlt : hClass (s.headDesc q) < 256 := bits_lt _ _ _
      simp only [Fld.at, R.NRG_COEF_COEF, dotOff]
      omega)))
    have hne : R.NRG_COEF_COEF.at [hClass (s.headDesc q) - 1] ≠ R.WQS_W2_CI.at [q] := by
      have hlt : hClass (s.headDesc q) < 256 := bits_lt _ _ _
      simp only [Fld.at, R.NRG_COEF_COEF, R.WQS_W2_CI, dotOff]
      omega
    unfold State.corrected
    rw [h3.fld _ _ (fun h => h.elim hw hne), State.numbered_fld, h02.fld _ _ hw]
  refine ⟨_, rfl, ?_, ?_, ?_, (State.letIn_train ..).trans (h3t.trans htrain), ?_⟩
  · rw [h4i, show (s.newItem q (s.headDesc q)).desc = s.headDesc q from rfl, hcoef]
    rfl
  · exact h4.nextItem.trans h3n
  · rw [h4.fld _ _ (hown rfl (by decide) (by decide)), h3c, h02.fld _ _ (hown rfl (by decide) (by decide))]
  · exact (h02.numbered.mono fun _ => .inl).trans (h3.trans (h4.mono fun _ => .inl))

/-- The head of `q` has been taken and is the one item in flight, and its queue's count of completed items has not moved. -/
structure State.Running (s : State) (q : Nat) (it : Item) (t : State) : Prop where
  sorted : FMap.sorted t.regs = true
  queue : q < 262144
  items : t.items = [(s.nextItem, it)]
  nextItem : t.nextItem = s.nextItem + 1
  ci : t.fld R.WQS_W2_CI [q] = (s.fld R.WQS_W2_CI [q] + 1) % 2 ^ 32
  done : t.fld R.WQS_W4_DONE [q] = s.fld R.WQS_W4_DONE [q]
  cq : t.cqOf q ≠ q
  atBoundary : t.atBoundary = []
  clearEval : t.train.clearEval = false

theorem State.dispatchIf_running {s : State} {q : Nat} (h : Claims.Starts s q) (hg : hGate (s.headDesc q) = false) {mine : Desc → Bool}
    (hm : mine (s.headDesc q) = true) :
    ∃ u, s.dispatchIf q mine = u.startItem s.nextItem ∧ s.Running q (s.begun q) u ∧ u.train = s.train ∧ s.numbered.Booked (HeadWord q) u := by
  obtain ⟨u, hd, hi, hn, hci, htrain, hbook⟩ := State.dispatchIf_starts h hg hm
  obtain ⟨hcanon, hup, ⟨-, -, -, hb, hce, -⟩, hpres, -⟩ := h
  obtain ⟨-, -, hq, hcq⟩ := State.presented_queue hpres
  have own : ∀ {f : Fld}, f.strides = [64] → 0x9000000 ≤ f.base → f.base < 0x9000040 → f.base ≠ 0x9000010 → ¬ HeadWord q (f.at [q]) := fun h1 h2 h3 h4 hw =>
    hw.elim (not_bookWord_own hq h1 h2 h3) fun he => h4 (by rw [wqsFld_at _ h1, wqsFld_at _ rfl] at he; exact Nat.add_right_cancel he)
  refine ⟨u, hd, ⟨hbook.sorted, hq, hi, hn, hci, ?_, ?_, hbook.atBoundary.trans hb, hbook.clearEval.trans hce⟩, htrain, hbook⟩
  · rw [hbook.fld _ _ (own rfl (by decide) (by decide) (by decide)), State.numbered_fld]
  · rw [State.cqOf, hbook.fld _ _ (own rfl (by decide) (by decide) (by decide))]
    exact hcq

namespace State.Running
variable {s t u : State} {q : Nat} {it it' : Item}

/-- A step that leaves the queues' words. -/
theorem step (h : s.Running q it t) {W : Nat → Prop} (g : t.Booked W u) (hw : ∀ o, W o → o / 0x1000000 ≠ 9) (hi : u.items = [(s.nextItem, it')]) :
    s.Running q it' u := by
  have hq := h.queue
  have own : ∀ {f : Fld}, f.strides = [64] → 0x9000000 ≤ f.base → f.base < 0x9000040 → ¬ W (f.at [q]) := fun h1 h2 h3 hwf =>
    hw _ hwf (by rw [wqsFld_at _ h1]; omega)
  refine ⟨g.sorted, hq, hi, g.nextItem.trans h.nextItem, ?_, ?_, ?_, g.atBoundary.trans h.atBoundary, g.clearEval.trans h.clearEval⟩
  · rw [g.fld _ _ (own rfl (by decide) (by decide)), h.ci]
  · rw [g.fld _ _ (own rfl (by decide) (by decide)), h.done]
  · rw [State.cqOf, g.fld _ _ (own rfl (by decide) (by decide))]
    exact h.cq

/-- The item completes: it has been taken and is done. -/
theorem ends (h : s.Running q it t) (hit : it.Simple q) :
    Claims.TakenAndDone s (t.endNow s.nextItem).reissueAll q ∧ t.Booked (DoneWord q) (t.endNow s.nextItem).reissueAll := by
  obtain ⟨h1, h2, h3⟩ := State.endNow_simple h.sorted h.queue h.cq h.items hit h.atBoundary h.clearEval
  have hq := h.queue
  have hre : (t.endNow s.nextItem).reissueAll = t.endNow s.nextItem := by
    unfold State.reissueAll
    rw [h1]
    rfl
  have hci : ¬ DoneWord q (R.WQS_W2_CI.at [q]) := fun hw => hw.elim (not_bookWord_own hq rfl (by decide) (by decide)) fun he => by
    rw [wqsFld_at _ rfl, wqsFld_at _ rfl] at he
    exact absurd (Nat.add_right_cancel he) (by decide)
  rw [hre]
  exact ⟨⟨h1, h3.nextItem.trans h.nextItem, by rw [h3.fld _ _ hci, h.ci], by rw [h2, h.done]⟩, h3⟩

end State.Running

/-! Simple heads. -/

/-- The checks of a head that begins a run have found nothing in its header. -/
theorem State.header_of_run {s : State} {q : Nat} {it : Item} (h : s.verdict q it = Verdict.run) : headerOk it.desc = true ∧ trnOk it.desc = true := by
  have hcode : s.headerCode q it.desc = 0 := by
    by_contra hne
    unfold State.verdict at h
    dsimp only at h
    rw [if_pos hne] at h
    exact hne (congrArg Verdict.status h)
  unfold State.headerCode at hcode
  split at hcode
  · cases hcode
  · next hok =>
    split at hcode
    · cases hcode
    · split at hcode
      · cases hcode
      · next htrn => exact ⟨by simpa using hok, by simp at htrn; exact htrn.1⟩

theorem State.begun_simple {s : State} {q : Nat} (h : Claims.Starts s q) (hsig : signalsOf (s.headDesc q) = []) (hc : 9 < hClass (s.headDesc q)) :
    (s.begun q).Simple q := by
  obtain ⟨-, -, -, -, -, hv, -⟩ := h
  obtain ⟨-, htrn⟩ := State.header_of_run hv
  have hdesc : (s.newItem q (s.headDesc q)).desc = s.headDesc q := rfl
  rw [hdesc] at htrn
  refine ⟨rfl, rfl, rfl, rfl, rfl, rfl, rfl, s.fld_lt R.WQS_W0_HOME [q], hsig, ?_, ?_⟩
  · show (hClass (s.headDesc q) == 9) = false
    simp
    omega
  · show hSnapshot (s.headDesc q) = false
    unfold trnOk at htrn
    simp only [Bool.and_eq_true, Bool.not_eq_true', Bool.and_eq_false_iff] at htrn
    obtain ⟨⟨-, hs | hs⟩, -⟩ := htrn
    · exact hs
    · simp at hs
      omega

/-! Event items. -/

/-- The counter of an operation of an EVENT item, and its number. -/
def evCounter (d : Desc) (op : Nat) : Nat := dsc d (0x30 + 16 * op) 0 16
def evAmount (d : Desc) (op : Nat) : Nat := dsc d (0x38 + 16 * op) 0 64

/-- What an operation leaves in its counter. -/
def State.evResult (s : State) (d : Desc) (op : Nat) : Nat :=
  if evOp d op = 1 then s.fld R.EVC_VALUE [evCounter d op] + evAmount d op else evAmount d op

/-- An EVENT item one of whose operations has taken effect. -/
def Item.did (it : Item) (op : Nat) : Item := { it with phase := .running, blocks := it.blocks.put op 0 }

theorem Item.Simple.did {it : Item} {q : Nat} (h : it.Simple q) (op : Nat) : (it.did op).Simple q := { h with }

/-- An operation has taken effect, its item in flight. -/
def State.afterOp (s : State) (id : Nat) (it : Item) (op : Nat) : State :=
  { s.setFld R.EVC_VALUE (s.evResult it.desc op) [evCounter it.desc op] with items := [(id, it.did op)] }

theorem State.eventOp_lone {s : State} {id op : Nat} {it : Item} (hi : s.items = [(id, it)]) (hn : it.nextOp = some op) :
    s.eventOp id = if op = ((evOps it.desc).getLast?).getD 0 then (s.afterOp id it op).endNow id else s.afterOp id it op := by
  have hfind : FMap.find? id s.items = some it := by
    rw [hi]
    exact if_pos rfl
  have hset : (if evOp it.desc op = 1 then s.evcAdd (evCounter it.desc op) (evAmount it.desc op) else s.setFld R.EVC_VALUE (evAmount it.desc op) [evCounter it.desc op]) =
      s.setFld R.EVC_VALUE (s.evResult it.desc op) [evCounter it.desc op] := by
    unfold State.evResult State.evcAdd
    split <;> rfl
  have hmod := State.modItem_lone ((State.setFld_items s R.EVC_VALUE (s.evResult it.desc op) [evCounter it.desc op]).trans hi)
    fun it => { it with phase := .running, blocks := it.blocks.put op 0 }
  unfold State.eventOp
  rw [hfind]
  dsimp only
  rw [hn]
  dsimp only
  rw [← evCounter, ← evAmount, hset, hmod]
  rfl

theorem State.withItems_fld (s : State) (l : FMap Item) (f : Fld) (ix : List Nat) : State.fld { s with items := l } f ix = s.fld f ix := rfl

theorem evCounter_block (d : Desc) (op : Nat) : R.EVC_VALUE.at [evCounter d op] / 0x1000000 = 0xA := by
  have hlt : evCounter d op < 65536 := bits_lt _ _ _
  simp only [Fld.at, R.EVC_VALUE, dotOff]
  omega

theorem State.afterOp_booked {s : State} (hs : FMap.sorted s.regs = true) (id : Nat) (it : Item) (op : Nat) :
    s.Booked (fun o => o / 0x1000000 = 0xA) (s.afterOp id it op) :=
  State.Booked.withItems ((State.Booked.refl (W := fun o => o / 0x1000000 = 0xA) hs).setFld R.EVC_VALUE (s.evResult it.desc op) [evCounter it.desc op]
    (evCounter_block it.desc op)) [(id, it.did op)]

theorem State.afterOp_counter {s : State} (hs : FMap.sorted s.regs = true) (id : Nat) (it : Item) (op : Nat) :
    (s.afterOp id it op).fld R.EVC_VALUE [evCounter it.desc op] = s.evResult it.desc op % 2 ^ 64 := by
  rw [State.afterOp, State.withItems_fld, State.fld_setFld_self hs R.EVC_VALUE (by decide)]
  rfl

theorem State.reissueAll_of_running {s : State} {id : Nat} {it : Item} (hi : s.items = [(id, it)]) (hp : it.phase ≠ .reissued) : s.reissueAll = s := by
  have hnone : s.items.filter (fun e => e.2.phase == .reissued) = [] := by
    rw [hi]
    simp [hp]
  unfold State.reissueAll
  rw [hnone]
  rfl

/-- The command of an operation, for an item in flight and for the head of a queue. -/
theorem State.eventCmd_item {s : State} {q kind op id : Nat} {it : Item} (hj : s.job.running = false) (hi : s.items = [(id, it)]) (hq : it.queue = q)
    (hc : hClass it.desc = 0x0A) (hp : it.phase = .running) (hn : it.nextOp = some op) (hk : evOp it.desc op = kind) :
    s.eventCmd q kind op = (s.eventOp id).reissueAll := by
  have hitem : s.eventItem q kind op = some id := by
    unfold State.eventItem
    rw [hi, List.find?_cons_of_pos (by simp [hq, hc, hp, hn, hk])]
    rfl
  unfold State.eventCmd
  rw [hitem]
  exact if_neg (by simp [hj])

theorem State.eventCmd_head {s : State} (hi : s.items = []) (q kind op : Nat) : s.eventCmd q kind op = s.served' q (eventHead kind op) := by
  have hitem : s.eventItem q kind op = none := by
    unfold State.eventItem
    rw [hi]
    rfl
  unfold State.eventCmd
  rw [hitem]

/-- An operation of an item in flight that is not its last takes effect, and the item goes on. -/
theorem State.eventOp_inFlight {s : State} {id op : Nat} {it : Item} (hi : s.items = [(id, it)]) (hn : it.nextOp = some op) (hlast : (evOps it.desc).getLast? ≠ some op) :
    (s.eventOp id).reissueAll = s.afterOp id it op := by
  have hne : op ≠ ((evOps it.desc).getLast?).getD 0 := fun he => by
    have hmem : op ∈ evOps it.desc := List.mem_of_find?_eq_some hn
    obtain ⟨x, hx⟩ := List.getLast?_isSome.2 (List.ne_nil_of_mem hmem) |> Option.isSome_iff_exists.1
    rw [hx] at he hlast
    exact hlast (congrArg some he.symm)
  rw [State.eventOp_lone hi hn, if_neg hne]
  exact State.reissueAll_of_running (it := it.did op) rfl (by simp [Item.did])

/-- An EVENT head with one operation completes with it. -/
theorem State.eventHead_only {s : State} {q op kind : Nat} (h : Claims.Starts s q) (hsig : signalsOf (s.headDesc q) = []) (hg : hGate (s.headDesc q) = false)
    (hc : hClass (s.headDesc q) = 0x0A) (hop : evOps (s.headDesc q) = [op]) (hk : evOp (s.headDesc q) op = kind) :
    Claims.TakenAndDone s (s.eventCmd q kind op) q ∧ (s.eventCmd q kind op).fld R.EVC_VALUE [evCounter (s.headDesc q) op] = s.evResult (s.headDesc q) op % 2 ^ 64 := by
  have hmine : eventHead kind op (s.headDesc q) = true := by
    unfold eventHead classIs
    rw [hop]
    simp [hc, hk]
  obtain ⟨u, hd, hrun, -, hbook⟩ := State.dispatchIf_running h hg hmine
  have hnext : (s.begun q).nextOp = some op := by
    have hops : evOps (s.begun q).desc = [op] := hop
    unfold Item.nextOp
    rw [hops]
    rfl
  have hdesc : (s.begun q).desc = s.headDesc q := rfl
  have hfind : FMap.find? s.nextItem u.items = some (s.begun q) := by
    rw [hrun.items]
    exact if_pos rfl
  have hstart : u.startItem s.nextItem = (u.afterOp s.nextItem (s.begun q) op).endNow s.nextItem := by
    have hev := State.eventOp_lone hrun.items hnext
    rw [if_pos (by rw [hdesc, hop]; rfl)] at hev
    rw [← hev]
    unfold State.startItem
    rw [hfind]
    dsimp only
    rw [hdesc, hc]
    rfl
  have hafter := hrun.step (State.afterOp_booked hrun.sorted s.nextItem (s.begun q) op) (fun o ho => by omega) rfl
  obtain ⟨hdone, hdb⟩ := hafter.ends ((State.begun_simple h hsig (by omega)).did op)
  have hcmd : s.eventCmd q kind op = ((u.afterOp s.nextItem (s.begun q) op).endNow s.nextItem).reissueAll := by
    obtain ⟨-, -, ⟨hi, -⟩, -⟩ := h
    rw [State.eventCmd_head hi, State.served', hd, hstart]
  rw [hcmd]
  refine ⟨hdone, ?_⟩
  have hq := hrun.queue
  have hblock := evCounter_block (s.headDesc q) op
  have hnd : ¬ DoneWord q (R.EVC_VALUE.at [evCounter (s.headDesc q) op]) := fun hw =>
    hw.elim (not_bookWord (.inr (.inr (.inr (.inl (by omega)))))) fun he => by
      rw [he, wqsFld_at _ rfl] at hblock
      simp only [R.WQS_W4_DONE] at hblock
      omega
  have hnh : ¬ HeadWord q (R.EVC_VALUE.at [evCounter (s.headDesc q) op]) := fun hw =>
    hw.elim (not_bookWord (.inr (.inr (.inr (.inl (by omega)))))) fun he => by
      rw [he, wqsFld_at _ rfl] at hblock
      simp only [R.WQS_W2_CI] at hblock
      omega
  have hres : u.evResult (s.headDesc q) op = s.evResult (s.headDesc q) op := by
    unfold State.evResult
    rw [hbook.fld _ _ hnh, State.numbered_fld]
  rw [hdb.fld _ _ hnd]
  exact (State.afterOp_counter hrun.sorted _ _ _).trans (by rw [hdesc, hres])

end Sys2Proof.Machine
end

section
/-! PROOFS. The rungs of the layers (R67, R247), BARRIER, STEP_COMMIT and EPOCH items (R423, R424). -/

namespace Sys2Proof.Machine
open Sys2Proof

/-! Register words set in order, layer by layer. -/

/-- Register words that satisfy `W` may differ, and nothing else. -/
structure State.WordsSet (W : Nat → Prop) (s t : State) : Prop where
  sorted : FMap.sorted t.regs = true
  regs : ∀ o, ¬ W o → FMap.find? o t.regs = FMap.find? o s.regs
  only : t = { s with regs := t.regs }

namespace State.WordsSet
variable {W V : Nat → Prop} {s t u : State}

theorem refl (hs : FMap.sorted s.regs = true) : s.WordsSet W s := ⟨hs, fun _ _ => rfl, rfl⟩

theorem trans (h : s.WordsSet W t) (g : t.WordsSet W u) : s.WordsSet W u where
  sorted := g.sorted
  regs o ho := (g.regs o ho).trans (h.regs o ho)
  only := g.only.trans ((congrArg (fun x : State => { x with regs := u.regs }) h.only).trans rfl)

theorem mono (h : s.WordsSet W t) (hW : ∀ o, W o → V o) : s.WordsSet V t := { h with regs := fun o ho => h.regs o fun hw => ho (hW o hw) }

theorem setFld (h : s.WordsSet W t) (f : Fld) (v : Nat) (ix : List Nat) (hf : W (f.at ix)) : s.WordsSet W (t.setFld f v ix) :=
  h.trans ⟨State.setFld_sorted h.sorted f v ix, fun _ ho => State.setFld_find? h.sorted f v ix fun e => ho (e ▸ hf), rfl⟩

theorem items (h : s.WordsSet W t) : t.items = s.items := (congrArg State.items h.only).trans rfl

theorem booked (h : s.WordsSet W t) : s.Booked W t where
  sorted := h.sorted
  regs := h.regs
  epo := (congrArg State.epo h.only).trans rfl
  staged := (congrArg State.staged h.only).trans rfl
  atBoundary := (congrArg State.atBoundary h.only).trans rfl
  clearEval := (congrArg (fun x : State => x.train.clearEval) h.only).trans rfl
  frozen := (congrArg (fun x : State => x.train.frozenStep) h.only).trans rfl
  nextItem := (congrArg State.nextItem h.only).trans rfl

end State.WordsSet

/-- The register word of a layer. -/
def layerAt (l : Nat) : Nat := 0x7100000 + 8 * l

theorem layerAt_inj {l m : Nat} (h : layerAt l = layerAt m) : l = m := by
  unfold layerAt at h
  omega

theorem layerFld_at (f : Fld) (hb : f.base = 0x7100000) (hst : f.strides = [8]) (l : Nat) : f.at [l] = layerAt l := by
  simp only [Fld.at, hb, hst, dotOff, layerAt]
  omega

/-- The first `n` layers treated one by one: each word becomes what its own step makes of it. -/
theorem State.foldl_layers {g : State → Nat → State} (hg : ∀ (u : State) l, FMap.sorted u.regs = true → u.WordsSet (· = layerAt l) (g u l))
    {s : State} (hs : FMap.sorted s.regs = true) (n : Nat) :
    s.WordsSet (fun o => ∃ l < n, o = layerAt l) ((List.range n).foldl g s) ∧
      ∀ l < n, ∃ u : State, FMap.sorted u.regs = true ∧ FMap.find? (layerAt l) u.regs = FMap.find? (layerAt l) s.regs ∧
        FMap.find? (layerAt l) ((List.range n).foldl g s).regs = FMap.find? (layerAt l) (g u l).regs := by
  induction n with
  | zero => exact ⟨.refl hs, fun l hl => absurd hl (Nat.not_lt_zero l)⟩
  | succ n ih =>
    rw [List.range_succ, List.foldl_append, List.foldl_cons, List.foldl_nil]
    generalize (List.range n).foldl g s = u at ih
    obtain ⟨h1, h2⟩ := ih
    have h3 := hg u n h1.sorted
    refine ⟨(h1.mono fun o ⟨l, hl, ho⟩ => ⟨l, by omega, ho⟩).trans (h3.mono fun o ho => ⟨n, by omega, ho⟩), fun l hl => ?_⟩
    obtain hl | rfl := Nat.lt_succ_iff_lt_or_eq.1 hl
    · obtain ⟨v, hv, hv1, hv2⟩ := h2 l hl
      exact ⟨v, hv, hv1, (h3.regs _ fun he => absurd (layerAt_inj he) (by omega)).trans hv2⟩
    · exact ⟨u, h1.sorted, h1.regs _ fun ⟨m, hm, he⟩ => absurd (layerAt_inj he) (by omega), rfl⟩

/-! CLEAR_EVAL_RUNGS. -/

/-- A layer's RUNG_E set to 0. -/
def State.clearRung (s : State) (l : Nat) : State := if s.fld R.TRN_LAYER_RUNG_E [l] = 0 then s else s.setFld R.TRN_LAYER_RUNG_E 0 [l]

theorem State.clearRung_wordsSet {s : State} (hs : FMap.sorted s.regs = true) (l : Nat) : s.WordsSet (· = layerAt l) (s.clearRung l) := by
  unfold State.clearRung
  split
  · exact .refl hs
  · exact (State.WordsSet.refl hs).setFld _ _ _ (layerFld_at R.TRN_LAYER_RUNG_E rfl rfl l)

theorem State.clearRung_rungs {s : State} (hs : FMap.sorted s.regs = true) (l : Nat) :
    (s.clearRung l).fld R.TRN_LAYER_RUNG_E [l] = 0 ∧ (s.clearRung l).fld R.TRN_LAYER_RUNG_T [l] = s.fld R.TRN_LAYER_RUNG_T [l] := by
  unfold State.clearRung
  split
  · next h => exact ⟨h, rfl⟩
  · exact ⟨State.fld_setFld_self hs R.TRN_LAYER_RUNG_E (by decide) 0 [l],
      State.fld_setFld_beside hs (f := R.TRN_LAYER_RUNG_E) (g := R.TRN_LAYER_RUNG_T) (by decide) rfl rfl (.inl (by decide)) 0⟩

theorem State.clearEvalRungs_layers {s : State} (hs : FMap.sorted s.regs = true) :
    s.clearEvalRungs = { s with regs := s.clearEvalRungs.regs } ∧
      ∀ l < 4096, s.clearEvalRungs.fld R.TRN_LAYER_RUNG_E [l] = 0 ∧ s.clearEvalRungs.fld R.TRN_LAYER_RUNG_T [l] = s.fld R.TRN_LAYER_RUNG_T [l] := by
  obtain ⟨h1, h2⟩ := State.foldl_layers (g := State.clearRung) (fun u l hu => State.clearRung_wordsSet hu l) hs 4096
  have he : s.clearEvalRungs = (List.range 4096).foldl State.clearRung s := rfl
  rw [← he] at h1 h2
  generalize s.clearEvalRungs = t at h1 h2
  refine ⟨h1.only, fun l hl => ?_⟩
  obtain ⟨u, hu, hu1, hu2⟩ := h2 l hl
  obtain ⟨hre, hrt⟩ := State.clearRung_rungs hu l
  rw [← layerFld_at R.TRN_LAYER_RUNG_E rfl rfl l] at hu1 hu2
  exact ⟨(State.fld_congr hu2).trans hre, ((State.fld_congr (f := R.TRN_LAYER_RUNG_T) hu2).trans hrt).trans (State.fld_congr (f := R.TRN_LAYER_RUNG_T) hu1)⟩

/-- With no staging open, CLEAR_EVAL_RUNGS acts at once on an idle block, and otherwise waits for the next work-item boundary. -/
theorem State.writeClearEval_of_closed {s : State} (h : s.fld R.EPO_STATUS_STATE = 0) :
    s.writeClearEval = if s.items.isEmpty then s.clearEvalRungs else { s with train := { s.train with clearEval := true } } := by
  unfold State.writeClearEval
  rw [h]
  rfl

/-! STEP_COMMIT. -/

/-- Whether a configuration holds a layer's rung over a commit. -/
def stickyIn (cfg : FMap Word) (l : Nat) : Bool :=
  decide (bits (FMap.getD cfg (R.TRN_LAYER_STICKY.at [l]) R.TRN_LAYER_STICKY.rst).toNat R.TRN_LAYER_STICKY.lo 1 = 1)

/-- A layer's rung as a commit leaves it. -/
def State.rungBack (s : State) (cfg : FMap Word) (l : Nat) : State :=
  if stickyIn cfg l || s.fld R.TRN_LAYER_RUNG_T [l] == 0 then s else s.setFld R.TRN_LAYER_RUNG_T 0 [l]

/-- A layer whose frozen mark is cleared. -/
def State.thaw (s : State) (l : Nat) : State := if s.flag R.TRN_LAYER_FROZEN_T [l] then s.setFlag R.TRN_LAYER_FROZEN_T false [l] else s

section
variable {s : State} (hs : FMap.sorted s.regs = true) (cfg : FMap Word) (l : Nat)
include hs

theorem State.rungBack_wordsSet : s.WordsSet (· = layerAt l) (s.rungBack cfg l) := by
  unfold State.rungBack
  split
  · exact .refl hs
  · exact (State.WordsSet.refl hs).setFld _ _ _ (layerFld_at R.TRN_LAYER_RUNG_T rfl rfl l)

theorem State.rungBack_rung : (s.rungBack cfg l).fld R.TRN_LAYER_RUNG_T [l] = if stickyIn cfg l then s.fld R.TRN_LAYER_RUNG_T [l] else 0 := by
  unfold State.rungBack
  cases stickyIn cfg l with
  | true => rfl
  | false =>
    rw [Bool.false_or, if_neg (by simp : ¬ false = true)]
    split
    · next h => exact beq_iff_eq.1 h
    · exact State.fld_setFld_self hs R.TRN_LAYER_RUNG_T (by decide) 0 [l]

theorem State.thaw_wordsSet : s.WordsSet (· = layerAt l) (s.thaw l) := by
  unfold State.thaw
  split
  · exact (State.WordsSet.refl hs).setFld _ _ _ (layerFld_at R.TRN_LAYER_FROZEN_T rfl rfl l)
  · exact .refl hs

theorem State.thaw_frozen : (s.thaw l).flag R.TRN_LAYER_FROZEN_T [l] = false ∧ (s.thaw l).fld R.TRN_LAYER_RUNG_T [l] = s.fld R.TRN_LAYER_RUNG_T [l] := by
  unfold State.thaw
  split
  · refine ⟨?_, State.fld_setFld_beside hs (f := R.TRN_LAYER_FROZEN_T) (g := R.TRN_LAYER_RUNG_T) (by decide) rfl rfl (.inl (by decide)) _⟩
    rw [State.flag, State.setFlag, State.fld_setFld_self hs R.TRN_LAYER_FROZEN_T (by decide)]
    rfl
  · next h => exact ⟨Bool.not_eq_true _ ▸ h, rfl⟩

end

/-- The layers as a commit leaves them. -/
def State.layersBack (s : State) (cfg : FMap Word) : State := (List.range 4096).foldl (fun s l => (s.rungBack cfg l).thaw l) s

theorem State.layersBack_layers {s : State} (hs : FMap.sorted s.regs = true) (cfg : FMap Word) :
    s.WordsSet (fun o => ∃ l < 4096, o = layerAt l) (s.layersBack cfg) ∧
      ∀ l < 4096, (s.layersBack cfg).flag R.TRN_LAYER_FROZEN_T [l] = false ∧
        (s.layersBack cfg).fld R.TRN_LAYER_RUNG_T [l] = if stickyIn cfg l then s.fld R.TRN_LAYER_RUNG_T [l] else 0 := by
  obtain ⟨h1, h2⟩ := State.foldl_layers (g := fun s l => (s.rungBack cfg l).thaw l)
    (fun u l hu => (State.rungBack_wordsSet hu cfg l).trans (State.thaw_wordsSet (State.rungBack_wordsSet hu cfg l).sorted l)) hs 4096
  rw [← State.layersBack] at h1 h2
  generalize s.layersBack cfg = t at h1 h2
  refine ⟨h1, fun l hl => ?_⟩
  obtain ⟨u, hu, hu1, hu2⟩ := h2 l hl
  obtain ⟨hf, hr⟩ := State.thaw_frozen (State.rungBack_wordsSet hu cfg l).sorted l
  rw [← layerFld_at R.TRN_LAYER_RUNG_T rfl rfl l] at hu1 hu2
  have hfrozen : t.flag R.TRN_LAYER_FROZEN_T [l] = ((u.rungBack cfg l).thaw l).flag R.TRN_LAYER_FROZEN_T [l] :=
    congrArg (· == 1) (State.fld_congr (f := R.TRN_LAYER_FROZEN_T) hu2)
  refine ⟨hfrozen.trans hf, ?_⟩
  rw [State.fld_congr hu2, hr, State.rungBack_rung hu cfg l, State.fld_congr hu1]

/-- A commit's counts and what the snapshots and the layer monitor show after it. -/
def State.committed (s : State) (step : Nat) : State :=
  ((((s.setFld R.TRN_STEP_COMMITTED step).bump R.TRN_STEP_COMMITS).setFld R.TRN_SNAP_DONE 0).setFld R.TRN_ALARM_COUNT 0).setFld R.TRN_ALARM_FIRST 0

/-- The training registers' state with no layer of a step touched and none frozen. -/
def State.stepClosed (s : State) (step : Nat) : State :=
  { s with train := { s.train with touched := s.train.touched.filter (fun e => e.1 / 4096 != step), frozenStep := [] } }

/-- A commit of a step that touched no monitored layer. -/
theorem State.commitStep_untouched {s : State} {step : Nat} (h : s.touchedIn step = []) (cfg : FMap Word) :
    s.commitStep cfg step = ((s.stepClosed step).layersBack cfg).committed step := by
  have hnone : (if s.lmtOn then (s.touchedIn step).foldl (fun (acc : State × List Nat) l =>
      let (s, a) := acc.1.lmtLayer cfg l
      (s, if a then acc.2 ++ [l] else acc.2)) (s, []) else (s, [])) = (s, []) := by
    rw [h]
    exact ite_self _
  unfold State.commitStep
  dsimp only
  rw [hnone]
  rfl

/-- The words that a commit sets: those of the layers, and of the training block's status. -/
def CommitWord (o : Nat) : Prop := 0x7000010 ≤ o ∧ o < 0x7108000

theorem State.committed_status {s : State} (hs : FMap.sorted s.regs = true) (step : Nat) :
    s.WordsSet (fun o => 0x7000010 ≤ o ∧ o < 0x7100000) (s.committed step) ∧ (s.committed step).fld R.TRN_STEP_COMMITTED = step % 2 ^ 32 ∧
      (s.committed step).fld R.TRN_STEP_COMMITS = (s.fld R.TRN_STEP_COMMITS + 1) % 2 ^ 32 ∧ (s.committed step).fld R.TRN_SNAP_DONE = 0 := by
  have h1 := State.setFld_sorted hs R.TRN_STEP_COMMITTED step []
  have h2 := State.setFld_sorted h1 R.TRN_STEP_COMMITS ((s.setFld R.TRN_STEP_COMMITTED step).fld R.TRN_STEP_COMMITS + 1) []
  have h3 := State.setFld_sorted h2 R.TRN_SNAP_DONE 0 []
  have h4 := State.setFld_sorted h3 R.TRN_ALARM_COUNT 0 []
  unfold State.committed
  rw [State.bump_eq]
  refine ⟨?_, ?_, ?_, ?_⟩
  · exact (((((State.WordsSet.refl hs).setFld _ _ _ (by decide)).setFld _ _ _ (by decide)).setFld _ _ _ (by decide)).setFld _ _ _ (by decide)).setFld _ _ _ (by decide)
  · rw [State.fld_setFld_ne h4 (by decide), State.fld_setFld_ne h3 (by decide), State.fld_setFld_ne h2 (by decide),
      State.fld_setFld_beside h1 (f := R.TRN_STEP_COMMITS) (g := R.TRN_STEP_COMMITTED) (by decide) rfl rfl (.inl (by decide)),
      State.fld_setFld_self hs R.TRN_STEP_COMMITTED (by decide)]
    rfl
  · rw [State.fld_setFld_ne h4 (by decide), State.fld_setFld_ne h3 (by decide), State.fld_setFld_ne h2 (by decide),
      State.fld_setFld_self h1 R.TRN_STEP_COMMITS (by decide), 
      State.fld_setFld_beside hs (f := R.TRN_STEP_COMMITTED) (g := R.TRN_STEP_COMMITS) (by decide) rfl rfl (.inr (by decide))]
    rfl
  · rw [State.fld_setFld_ne h4 (by decide), State.fld_setFld_ne h3 (by decide), State.fld_setFld_self h2 R.TRN_SNAP_DONE (by decide)]
    rfl

theorem FMap.find?_keep {α : Type} {p : Nat → α → Bool} {k : Nat} (hp : ∀ v, p k v = true) {m : FMap α} (h : FMap.sorted m = true) :
    FMap.find? k (FMap.keep p m) = FMap.find? k m := by
  induction m with
  | nil => rfl
  | cons e m ih =>
    obtain ⟨k', v⟩ := e
    have ih := ih (FMap.sorted_of_from h)
    show FMap.find? k (List.filter _ ((k', v) :: m)) = if k' = k then some v else if k < k' then none else FMap.find? k m
    rw [List.filter_cons]
    by_cases hk : k' = k
    · subst hk
      rw [if_pos (hp v), if_pos rfl]
      exact if_pos rfl
    · rw [if_neg hk]
      by_cases hlt : k < k'
      · rw [if_pos hlt]
        split
        · exact (if_neg hk).trans (if_pos hlt)
        · exact FMap.find?_le (FMap.sortedFrom_filter _ h) hlt.le
      · rw [if_neg hlt, ← ih]
        split
        · exact (if_neg hk).trans (if_neg hlt)
        · rfl

/-- The configuration of an item's dispatch holds the rungs that STICKY holds. -/
theorem State.stickyIn_modeRegs {s : State} (hs : FMap.sorted s.regs = true) {l : Nat} (hl : l < 4096) : stickyIn s.modeRegs l = s.flag R.TRN_LAYER_STICKY [l] := by
  have hat := layerFld_at R.TRN_LAYER_STICKY rfl rfl l
  have hmode : isModeReg (layerAt l) = true := by
    unfold isModeReg layerAt
    simp only [Bool.or_eq_true, decide_eq_true_eq]
    omega
  have hfind : FMap.getD s.modeRegs (R.TRN_LAYER_STICKY.at [l]) R.TRN_LAYER_STICKY.rst = FMap.getD s.regs (R.TRN_LAYER_STICKY.at [l]) R.TRN_LAYER_STICKY.rst := by
    rw [hat]
    exact congrArg (Option.getD · _) (FMap.find?_keep (fun _ => hmode) hs)
  unfold stickyIn State.flag State.fld
  rw [hfind]
  rfl

/-- What a commit of a step that touched no monitored layer leaves. -/
structure State.Commits (s t : State) (cfg : FMap Word) (step : Nat) : Prop where
  sorted : FMap.sorted t.regs = true
  regs : ∀ o, ¬ CommitWord o → FMap.find? o t.regs = FMap.find? o s.regs
  step : t.fld R.TRN_STEP_COMMITTED = step % 2 ^ 32
  commits : t.fld R.TRN_STEP_COMMITS = (s.fld R.TRN_STEP_COMMITS + 1) % 2 ^ 32
  snapshots : t.fld R.TRN_SNAP_DONE = 0
  frozen : t.train.frozenStep = []
  layers : ∀ l < 4096, t.flag R.TRN_LAYER_FROZEN_T [l] = false ∧ t.fld R.TRN_LAYER_RUNG_T [l] = if stickyIn cfg l then s.fld R.TRN_LAYER_RUNG_T [l] else 0
  only : t = { s with regs := t.regs, train := t.train }
  clearEval : t.train.clearEval = s.train.clearEval

theorem State.commitStep_commits {s : State} (hs : FMap.sorted s.regs = true) {step : Nat} (h : s.touchedIn step = []) (cfg : FMap Word) :
    s.Commits (s.commitStep cfg step) cfg step := by
  have hs1 : FMap.sorted (s.stepClosed step).regs = true := hs
  have hfld : ∀ (f : Fld) ix, (s.stepClosed step).fld f ix = s.fld f ix := fun _ _ => rfl
  obtain ⟨h1, hl⟩ := State.layersBack_layers hs1 cfg
  rw [State.commitStep_untouched h cfg]
  generalize hu : (s.stepClosed step).layersBack cfg = u at h1 hl
  obtain ⟨h2, hst, hco, hsn⟩ := State.committed_status h1.sorted step
  generalize u.committed step = t at h2 hst hco hsn
  have h02 : (s.stepClosed step).WordsSet CommitWord t := (h1.mono fun o ⟨l, hl, ho⟩ => by unfold layerAt at ho; unfold CommitWord; omega).trans
    (h2.mono fun o ho => by unfold CommitWord; omega)
  have hlow : ∀ {l : Nat}, ¬ (0x7000010 ≤ layerAt l ∧ layerAt l < 0x7100000) := fun hw => by unfold layerAt at hw; omega
  refine ⟨h02.sorted, h02.regs, hst, ?_, hsn, h02.booked.frozen, fun l hl4 => ?_, ?_, h02.booked.clearEval⟩
  · rw [hco, State.fld_congr (h1.regs _ fun ⟨l, _, ho⟩ => by simp [layerAt, R.TRN_STEP_COMMITS, Fld.at, dotOff] at ho; omega), hfld]
  · obtain ⟨hf, hr⟩ := hl l hl4
    have hword := h2.regs (layerAt l) hlow
    rw [← layerFld_at R.TRN_LAYER_FROZEN_T rfl rfl l] at hword
    refine ⟨?_, ?_⟩
    · rw [← hf]
      exact congrArg (· == 1) (State.fld_congr (f := R.TRN_LAYER_FROZEN_T) hword)
    · rw [State.fld_congr (f := R.TRN_LAYER_RUNG_T) hword, hr, hfld]
  · have htrain : t.train = (s.stepClosed step).train := (congrArg State.train h02.only).trans rfl
    rw [htrain]
    exact h02.only

/-- A commit leaves the item that runs it in flight. -/
theorem State.Running.commit {s t u : State} {q : Nat} {it : Item} {cfg : FMap Word} {step : Nat} (h : s.Running q it t) (g : t.Commits u cfg step) : s.Running q it u := by
  have own : ∀ {f : Fld}, f.strides = [64] → 0x9000000 ≤ f.base → u.fld f [q] = t.fld f [q] := fun hst hb =>
    State.fld_congr (g.regs _ fun hw => by
      rw [wqsFld_at _ hst] at hw
      unfold CommitWord at hw
      omega)
  refine ⟨g.sorted, h.queue, ?_, ?_, ?_, ?_, ?_, ?_, g.clearEval.trans h.clearEval⟩
  · exact ((congrArg State.items g.only).trans rfl).trans h.items
  · exact ((congrArg State.nextItem g.only).trans rfl).trans h.nextItem
  · rw [own rfl (by decide), h.ci]
  · rw [own rfl (by decide), h.done]
  · rw [State.cqOf, own rfl (by decide)]
    exact h.cq
  · exact ((congrArg State.atBoundary g.only).trans rfl).trans h.atBoundary

/-! Heads of class BARRIER and EPOCH. -/

section
variable {u : State} {id : Nat} {it : Item} (hi : u.items = [(id, it)])
include hi

theorem State.startItem_barrier (hc : hClass it.desc = 0x0B) :
    u.startItem id = (if hStepCommit it.desc then u.commitStep it.cfg (hStep it.desc) else u).endNow id := by
  have hfind : FMap.find? id u.items = some it := by
    rw [hi]
    exact if_pos rfl
  unfold State.startItem
  rw [hfind]
  dsimp only
  rw [hc]
  rfl

theorem State.startItem_epoch (hc : hClass it.desc = 0x0C) : u.startItem id = u.epochItem id := by
  have hfind : FMap.find? id u.items = some it := by
    rw [hi]
    exact if_pos rfl
  unfold State.startItem
  rw [hfind]
  dsimp only
  rw [hc]
  rfl

end

/-- The drain waits for no EPOCH item. -/
theorem State.oldItems_lone {s : State} {id : Nat} {it : Item} (hi : s.items = [(id, it)]) (hc : hClass it.desc = 0x0C) : s.oldItems = 0 := by
  have hnone : ∀ p : Nat × Item → Bool, s.items.filter (fun e => p e && hClass e.2.desc != 0x0C) = [] := fun p => by
    rw [hi, List.filter_cons_of_neg (by simp [hc]), List.filter_nil]
  exact congrArg List.length (hnone fun e => e.2.epoch == (s.fld R.EPO_CUR_EPOCH + 2 ^ 32 - 1) % 2 ^ 32)

/-- An EPOCH item waits for the outcome of the change. -/
def State.epochWaits (s : State) (id : Nat) : State := s.withEpo { s.epo with items := s.epo.items ++ [id] }

theorem State.epochItem_open {s : State} (h : s.fld R.EPO_STATUS_STATE = 1) (id : Nat) : s.epochItem id = (s.epochWaits id).epochCommit := by
  unfold State.epochItem
  dsimp only
  rw [h, if_neg (by decide)]
  rfl

theorem State.Running.epochWaits {s u : State} {q : Nat} {it : Item} (h : s.Running q it u) (id : Nat) : s.Running q it (u.epochWaits id) := { h with }

theorem State.prepared_nextItem (s : State) : s.prepared.nextItem = s.nextItem := by
  have hepo : ∀ (u : State) (e : EpochSt), (u.withEpo e).nextItem = u.nextItem := fun _ _ => rfl
  unfold State.prepared
  rw [hepo, State.setFld_nextItem, State.setFld_nextItem]

theorem State.prepared_other {s : State} (hs : FMap.sorted s.regs = true) {f : Fld} {ix : List Nat} (h : 0x2000000 ≤ f.at ix) : s.prepared.fld f ix = s.fld f ix := by
  have hne : ∀ g : Fld, g.at [] < 0x2000000 → f.at ix ≠ g.at [] := fun g hg he => absurd (he ▸ h) (Nat.not_le.2 hg)
  unfold State.prepared
  rw [State.withEpo_fld, State.fld_setFld_ne (State.setFld_sorted hs _ _ _) (hne _ (by decide)), State.fld_setFld_ne hs (hne _ (by decide))]

/-- The words of training and of the mode epoch are neither a dispatch's nor a completion's. -/
theorem not_headWord {q o : Nat} (h : (0x1000000 ≤ o ∧ o < 0x3000050) ∨ (0x7000000 ≤ o ∧ o < 0x9000000)) : ¬ HeadWord q o := fun hw =>
  hw.elim (not_bookWord (h.imp id fun h => .inr (.inl h))) fun he => by
    rw [wqsFld_at _ rfl] at he
    simp only [R.WQS_W2_CI] at he
    omega

theorem not_doneWord {q o : Nat} (h : (0x1000000 ≤ o ∧ o < 0x3000050) ∨ (0x7000000 ≤ o ∧ o < 0x9000000)) : ¬ DoneWord q o := fun hw =>
  hw.elim (not_bookWord (h.imp id fun h => .inr (.inl h))) fun he => by
    rw [wqsFld_at _ rfl] at he
    simp only [R.WQS_W4_DONE] at he
    omega

section
variable {s : State} {q : Nat} (h : Claims.Starts s q) (hg : hGate (s.headDesc q) = false)
include h hg

/-- A barrier without a commit completes. -/
theorem State.barrier_head (hsig : signalsOf (s.headDesc q) = []) (hc : hClass (s.headDesc q) = 0x0B) (hsc : hStepCommit (s.headDesc q) = false) :
    Claims.TakenAndDone s (s.served' q fun d => classIs 0x0B d && !hStepCommit d) q ∧
      (s.served' q fun d => classIs 0x0B d && !hStepCommit d).fld R.TRN_STEP_COMMITTED = s.fld R.TRN_STEP_COMMITTED := by
  obtain ⟨u, hd, hrun, -, hbook⟩ := State.dispatchIf_running h hg (mine := fun d => classIs 0x0B d && !hStepCommit d) (by simp [classIs, hc, hsc])
  obtain ⟨hdone, hdb⟩ := hrun.ends (State.begun_simple h hsig (by omega))
  have hdesc : (s.begun q).desc = s.headDesc q := rfl
  rw [State.served', hd, State.startItem_barrier hrun.items (by rw [hdesc, hc]), hdesc, if_neg (by simp [hsc])]
  exact ⟨hdone, by rw [hdb.fld _ _ (not_doneWord (by decide)), hbook.fld _ _ (not_headWord (by decide)), State.numbered_fld]⟩

/-- A step commit of a step that touched no monitored layer. -/
theorem State.commit_head (hsig : signalsOf (s.headDesc q) = []) (hc : hClass (s.headDesc q) = 0x0B) (hsc : hStepCommit (s.headDesc q) = true)
    (htouch : s.touchedIn (hStep (s.headDesc q)) = []) :
    ∃ t, s.served' q (fun d => classIs 0x0B d && hStepCommit d) = t ∧ Claims.TakenAndDone s t q ∧ t.fld R.TRN_STEP_COMMITTED = hStep (s.headDesc q) ∧
      t.fld R.TRN_STEP_COMMITS = (s.fld R.TRN_STEP_COMMITS + 1) % 2 ^ 32 ∧ t.fld R.TRN_SNAP_DONE = 0 ∧ t.train.frozenStep = [] ∧
      ∀ l < 4096, t.flag R.TRN_LAYER_FROZEN_T [l] = false ∧
        t.fld R.TRN_LAYER_RUNG_T [l] = (if s.flag R.TRN_LAYER_STICKY [l] then s.fld R.TRN_LAYER_RUNG_T [l] else 0) := by
  obtain ⟨u, hd, hrun, htrain, hbook⟩ := State.dispatchIf_running h hg (mine := fun d => classIs 0x0B d && hStepCommit d) (by simp [classIs, hc, hsc])
  have ⟨hcanon, _⟩ := h
  have hdesc : (s.begun q).desc = s.headDesc q := rfl
  have hcfg : (s.begun q).cfg = s.modeRegs := rfl
  have hut : u.touchedIn (hStep (s.headDesc q)) = [] := by rw [State.touchedIn, htrain, ← State.touchedIn, htouch]
  have hcom := State.commitStep_commits hrun.sorted hut s.modeRegs
  rw [State.served', hd, State.startItem_barrier hrun.items (by rw [hdesc, hc]), hdesc, if_pos hsc, hcfg]
  generalize u.commitStep s.modeRegs (hStep (s.headDesc q)) = v at hcom
  obtain ⟨hdone, hdb⟩ := (hrun.commit hcom).ends (State.begun_simple h hsig (by omega))
  have hkept : ∀ {f : Fld} {ix : List Nat}, 0x7000000 ≤ f.at ix → f.at ix < 0x9000000 → (v.endNow s.nextItem).reissueAll.fld f ix = v.fld f ix :=
    fun h1 h2 => hdb.fld _ _ (not_doneWord (.inr ⟨h1, h2⟩))
  have hold : ∀ {f : Fld} {ix : List Nat}, 0x7000000 ≤ f.at ix → f.at ix < 0x9000000 → u.fld f ix = s.fld f ix :=
    fun h1 h2 => hbook.fld _ _ (not_headWord (.inr ⟨h1, h2⟩))
  have hlayer : ∀ {f : Fld} {l : Nat}, f.base = 0x7100000 → f.strides = [8] → l < 4096 → 0x7000000 ≤ f.at [l] ∧ f.at [l] < 0x9000000 := fun hb hst hl => by
    rw [layerFld_at _ hb hst, layerAt]
    omega
  refine ⟨_, rfl, hdone, ?_, ?_, ?_, hdb.frozen.trans hcom.frozen, fun l hl => ?_⟩
  · rw [hkept (by decide) (by decide), hcom.step]
    exact Nat.mod_eq_of_lt (bits_lt _ _ _)
  · rw [hkept (by decide) (by decide), hcom.commits, hold (by decide) (by decide)]
  · rw [hkept (by decide) (by decide), hcom.snapshots]
  · obtain ⟨hf, hr⟩ := hcom.layers l hl
    obtain ⟨f1, f2⟩ := hlayer (f := R.TRN_LAYER_FROZEN_T) rfl rfl hl
    obtain ⟨r1, r2⟩ := hlayer (f := R.TRN_LAYER_RUNG_T) rfl rfl hl
    refine ⟨?_, ?_⟩
    · rw [State.flag, hkept f1 f2]
      exact hf
    · rw [hkept r1 r2, hr, hold r1 r2, State.stickyIn_modeRegs (State.canon_regs hcanon) hl]

/-- An EPOCH item with no staging open completes. -/
theorem State.epoch_head_closed (hsig : signalsOf (s.headDesc q) = []) (hc : hClass (s.headDesc q) = 0x0C) (h0 : s.fld R.EPO_STATUS_STATE = 0) :
    Claims.TakenAndDone s (s.served' q (classIs 0x0C)) q ∧ (s.served' q (classIs 0x0C)).fld R.EPO_STATUS_STATE = 0 := by
  obtain ⟨u, hd, hrun, -, hbook⟩ := State.dispatchIf_running h hg (mine := classIs 0x0C) (by simp [classIs, hc])
  obtain ⟨hdone, hdb⟩ := hrun.ends (State.begun_simple h hsig (by omega))
  have hdesc : (s.begun q).desc = s.headDesc q := rfl
  have hu : u.fld R.EPO_STATUS_STATE = 0 := by rw [hbook.fld _ _ (not_headWord (by decide)), State.numbered_fld, h0]
  have hep : u.epochItem s.nextItem = u.endNow s.nextItem := by
    unfold State.epochItem
    exact if_pos (.inl hu)
  rw [State.served', hd, State.startItem_epoch hrun.items (by rw [hdesc, hc]), hep]
  exact ⟨hdone, by rw [hdb.fld _ _ (not_doneWord (by decide)), hu]⟩

/-- An EPOCH item with an open staging that has participants starts the barrier and waits. -/
theorem State.epoch_head_open (hc : hClass (s.headDesc q) = 0x0C) (h1 : s.fld R.EPO_STATUS_STATE = 1) (hp : s.participants ≠ []) :
    ∃ t it, s.served' q (classIs 0x0C) = t ∧ Claims.Taken s t q it ∧ t.fld R.EPO_STATUS_STATE = 3 ∧ s.nextItem ∈ t.epo.items ∧
      t.fld R.EPO_STATUS_ACK_PENDING = s.participants.length % 65536 ∧ t.staged = s.staged := by
  obtain ⟨u, hd, hrun, -, hbook⟩ := State.dispatchIf_running h hg (mine := classIs 0x0C) (by simp [classIs, hc])
  have hdesc : (s.begun q).desc = s.headDesc q := rfl
  have hstate : u.fld R.EPO_STATUS_STATE = 1 := by rw [hbook.fld _ _ (not_headWord (by decide)), State.numbered_fld, h1]
  have hstaged : u.staged = s.staged := hbook.staged
  have hv := hrun.epochWaits s.nextItem
  have hstart : u.startItem s.nextItem = (u.epochWaits s.nextItem).epochCommit := by
    rw [State.startItem_epoch hrun.items (by rw [hdesc, hc]), State.epochItem_open hstate]
  have hid : s.nextItem ∈ (u.epochWaits s.nextItem).epo.items := by
    rw [State.epochWaits, State.withEpo_epo]
    simp
  have hvstate : (u.epochWaits s.nextItem).fld R.EPO_STATUS_STATE = 1 := (State.withEpo_fld ..).trans hstate
  have hvstaged : (u.epochWaits s.nextItem).staged = s.staged := (State.withEpo_staged ..).trans hstaged
  rw [State.served', hd, hstart]
  generalize u.epochWaits s.nextItem = v at hv hid hvstate hvstaged
  have hparts : v.participants = s.participants := by rw [State.participants, hvstaged, ← State.participants]
  have hold : v.oldItems = 0 := State.oldItems_lone hv.items (by rw [hdesc, hc])
  have hcommit : v.epochCommit = v.prepared := by
    unfold State.epochCommit
    rw [if_pos hvstate, if_pos hold, State.epochBarrier_eq, if_neg (by rw [hparts]; exact fun h0 => hp (List.length_eq_zero_iff.1 h0))]
  obtain ⟨p1, p2, -, p3, -, pitems, -⟩ := State.prepared_status hv.sorted
  have hq := hv.queue
  have hci := State.prepared_other hv.sorted (f := R.WQS_W2_CI) (ix := [q]) (by rw [wqsFld_at _ rfl]; simp only [R.WQS_W2_CI]; omega)
  have hnext := State.prepared_nextItem v
  have hpi := State.prepared_items v
  rw [hcommit]
  generalize v.prepared = t at p1 p2 p3 pitems hci hnext hpi
  have hti : t.items = [(s.nextItem, s.begun q)] := pitems.trans hv.items
  have hphase : (s.begun q).phase ≠ .reissued := by
    rw [show (s.begun q).phase = Phase.waiting from rfl]
    decide
  rw [State.reissueAll_of_running hti hphase]
  refine ⟨t, s.begun q, rfl, ⟨hti, hnext.trans hv.nextItem, rfl, rfl, rfl, rfl, rfl, hci.trans hv.ci⟩, p1, ?_, ?_, p3.trans hvstaged⟩
  · rw [hpi]
    exact hid
  · rw [p2, hparts]

end

end Sys2Proof.Machine
end

section
/-! PROOFS. The stop of items on tiles (R537): what undefines an item's outputs and ends its run leaves every item without a gate as it is in flight. -/

namespace Sys2Proof.Machine
open Sys2Proof

/-- An item, if it is in flight, is in no gate group; the register words and the items are listed in order. -/
structure State.Ungated (id : Nat) (s : State) : Prop where
  regs : FMap.sorted s.regs = true
  items : FMap.sorted s.items = true
  gate : ∀ it, FMap.find? id s.items = some it → it.gate = none

namespace State.Ungated
variable {id : Nat} {s t : State}

theorem congr (h : s.Ungated id) (hr : t.regs = s.regs) (hi : t.items = s.items) : t.Ungated id :=
  ⟨hr ▸ h.regs, hi ▸ h.items, fun it hit => h.gate it (hi ▸ hit)⟩

theorem aside (h : s.Ungated id) {W : Nat → Prop} (ha : s.Aside W t) : t.Ungated id :=
  ⟨ha.sorted, ha.items ▸ h.items, fun it hit => h.gate it (ha.items ▸ hit)⟩

theorem setFld (h : s.Ungated id) (f : Fld) (v : Nat) (ix : List Nat) : (s.setFld f v ix).Ungated id :=
  ⟨State.setFld_sorted h.regs f v ix, h.items, h.gate⟩

theorem bump (h : s.Ungated id) (f : Fld) (ix : List Nat) (d : Nat) : (s.bump f ix d).Ungated id := h.setFld f _ ix

theorem bumpSat (h : s.Ungated id) (f : Fld) (ix : List Nat) (d : Nat) : (s.bumpSat f ix d).Ungated id := h.setFld f _ ix

theorem ite {p : Prop} [Decidable p] (h : p → s.Ungated id) (g : ¬ p → t.Ungated id) : (if p then s else t).Ungated id := by
  split
  · exact h ‹_›
  · exact g ‹_›

theorem foldl {α : Type} {f : State → α → State} (hf : ∀ u a, State.Ungated id u → State.Ungated id (f u a)) (l : List α) (h : s.Ungated id) : (l.foldl f s).Ungated id := by
  induction l generalizing s with
  | nil => exact h
  | cons a l ih => exact ih (hf s a h)

/-- An item replaced by one of the same gate. -/
theorem putItem (h : s.Ungated id) {k : Nat} {it it' : Item} (hk : FMap.find? k s.items = some it) (hg : it'.gate = it.gate) :
    State.Ungated id { s with items := s.items.put k it' } := by
  refine ⟨h.regs, FMap.sorted_put _ _ h.items, fun x hx => ?_⟩
  by_cases he : id = k
  · subst he
    rw [FMap.find?_put_self] at hx
    rw [← Option.some.inj hx, hg]
    exact h.gate it hk
  · exact h.gate x ((FMap.find?_put_ne he it' s.items) ▸ hx)

theorem modItem (h : s.Ungated id) (k : Nat) {f : Item → Item} (hf : ∀ it, (f it).gate = it.gate) : (s.modItem k f).Ungated id := by
  unfold State.modItem
  split
  · next it hk => exact h.putItem hk (hf it)
  · exact h

/-! Writes. -/

theorem log (h : s.Ungated id) (code unit addr detail : Nat) : (s.log code unit addr detail).Ungated id := h.aside (State.log_aside h.regs code unit addr detail)

theorem logPoison (h : s.Ungated id) (a b c d e : Nat) : (s.logPoison a b c d e).Ungated id := h.log _ _ _ _

theorem failRequest (h : s.Ungated id) (r : Req) : (s.failRequest r).Ungated id := by
  unfold State.failRequest
  split
  · split
    · exact h
    · next k it hk =>
      extract_lets u
      have hu : u.Ungated id ∧ u.items = s.items := by
        dsimp only [u]
        split
        · exact ⟨h.congr rfl rfl, rfl⟩
        · exact ⟨h, rfl⟩
      exact hu.1.putItem (it := it) (by rw [hu.2]; exact hk) rfl
  · refine State.Ungated.congr (s := s) h ?_ ?_
    · dsimp only
      split
      · rfl
      · unfold State.remoteDone
        dsimp only
        split <;> rfl
    · dsimp only
      split
      · rfl
      · unfold State.remoteDone
        dsimp only
        split <;> rfl
  · exact h.congr rfl rfl
  · exact h.congr rfl rfl
  · exact h

theorem sendReq (h : s.Ungated id) (f : Flit) (r : Req) (tag : Nat) : (s.sendReq f r tag).Ungated id := by
  unfold State.sendReq
  have h1 : (s.takeTag tag).Ungated id := h.congr rfl rfl
  have hz := h1.aside (State.sendRaw_aside h1.regs { f with age := r.age })
  generalize (s.takeTag tag).sendRaw { f with age := r.age } = z at hz
  obtain ⟨z1, z2⟩ := z
  exact .ite (fun _ => (State.Ungated.log hz _ _ _ _).failRequest r) fun _ => State.Ungated.congr hz rfl rfl

theorem sendAny (h : s.Ungated id) (f : Nat → Flit) (r : Req) : (s.sendAny f r).Ungated id := by
  unfold State.sendAny
  split
  · exact h.sendReq _ _ _
  · exact h.congr rfl rfl

theorem askRemote (h : s.Ungated id) (w : Waiter) (m off op lines pmark arg : Nat) (data : List Byte) (addr len : Nat) :
    (s.askRemote w m off op lines pmark arg data addr len).Ungated id := by
  unfold State.askRemote
  extract_lets vc dst u req f
  have hu : u.Ungated id := by
    dsimp only [u]
    split
    · split
      · next it hk => exact h.putItem hk rfl
      · exact h
    · exact h
  exact .ite (fun _ => State.Ungated.bumpSat (by exact hu.congr rfl rfl) _ _ _) fun _ => hu.sendAny _ _

theorem pcieOut (h : s.Ungated id) (off a : Nat) (data : List Byte) (p : Bool) : (s.pcieOut off a data p).Ungated id := by
  unfold State.pcieOut
  dsimp only
  split
  · exact (h.logPoison _ _ _ _ _).congr rfl rfl
  · exact h.congr rfl rfl

theorem storeLine (h : s.Ungated id) (a : Nat) (data : List Byte) (p : Nat) : (s.storeLine a data p).Ungated id := by
  unfold State.storeLine
  split
  · exact .ite (fun _ => h.askRemote ..) fun _ => (h.logPoison ..).askRemote ..
  · exact h.pcieOut ..
  · exact h.aside (State.writeLine_accesses h.regs a data p)

theorem narrowOut (h : s.Ungated id) (m off a : Nat) (data : List Byte) (p : Bool) : (s.narrowOut m off a data p).Ungated id := by
  unfold State.narrowOut
  exact .foldl (fun u i hu => .ite (fun _ => (hu.logPoison ..).askRemote ..) fun _ => hu.askRemote ..) _ h

/-- Part of a line written wherever it lies. -/
theorem storePart (h : s.Ungated id) (a : Nat) (data : List Byte) (p : Bool) (src : Nat) : (s.storePart a data p src).Ungated id := by
  by_cases hr : (∀ m o, s.regionOf (s.localAddr a) ≠ .remote m o) ∧ ∀ o, s.regionOf (s.localAddr a) ≠ .pcie o
  · exact h.aside (State.storePart_accesses h.regs hr.1 hr.2 data p src)
  · unfold State.storePart
    refine .ite (fun _ => h) fun _ => ?_
    split
    · exact .ite (fun _ => h.storeLine ..) fun _ => h.narrowOut ..
    · exact h.pcieOut ..
    · next h1 h2 => exact absurd ⟨h1, h2⟩ hr

theorem storeBytes (h : s.Ungated id) (a : Nat) (data : List Byte) (p : Bool) (src : Nat) : (s.storeBytes a data p src).Ungated id := by
  have aux : ∀ (n : Nat) (u : State) (a : Nat) (data : List Byte), u.Ungated id → (State.storeBytesAux src p n u a data).Ungated id := by
    intro n
    induction n with
    | zero => exact fun u a data hu => hu
    | succ n ih => exact fun u a data hu => .ite (fun _ => hu) fun _ => ih _ _ _ (hu.storePart ..)
  exact aux _ _ _ _ h

/-! Outputs that become undefined. -/

theorem undefine (h : s.Ungated id) (r : Nat × Nat) : (s.undefine r).Ungated id := by
  unfold State.undefine
  refine .foldl (fun u p hu => ?_) _ h
  dsimp only
  split
  · exact hu
  · split
    · exact State.Ungated.storePart (by exact hu.congr rfl rfl) ..
    · exact hu.congr rfl rfl

theorem undefineAll (h : s.Ungated id) (l : List (Nat × Nat)) : (l.foldl State.undefine s).Ungated id := .foldl (fun _ r hu => hu.undefine r) l h

theorem putTreg (h : s.Ungated id) (p i : Nat) (es : List Nat) (poison : Bool) : (s.putTreg p i es poison).Ungated id := by
  unfold State.putTreg
  exact .foldl (fun u e hu => by exact hu.congr rfl rfl) _ h

theorem writeRow (h : s.Ungated id) (p : Nat) (b : BlockPlan) (bj i : Nat) (r : RowOut) (poison : Bool) : (s.writeRow p b bj i r poison).Ungated id := by
  unfold State.writeRow
  extract_lets d row u v
  have hu : u.Ungated id := .ite (fun _ => h.putTreg ..) fun _ => h.storeBytes ..
  have hv : v.Ungated id := .ite (fun _ => hu.storePart ..) fun _ => hu
  exact .ite (fun _ => hv.storePart ..) fun _ => hv

theorem stopMatrix (h : s.Ungated id) (it : Item) : (s.stopMatrix it).Ungated id := by
  unfold State.stopMatrix
  refine .foldl (fun u n hu => ?_) _ h
  dsimp only
  split
  · exact hu
  · refine .foldl (fun v i hv => ?_) _ hu
    split
    · exact hv.congr rfl rfl
    · exact State.Ungated.writeRow (by exact hv.congr rfl rfl) ..

theorem stopOutputs (h : s.Ungated id) (k : Nat) (it : Item) : (s.stopOutputs k it).Ungated id := by
  unfold State.stopOutputs
  refine .ite (fun _ => h) fun _ => ?_
  split
  · exact h.stopMatrix it
  · exact h.undefineAll _
  · exact h.undefineAll _
  · exact h.undefineAll _
  · exact h.undefine _
  · exact h.undefine _
  · exact h.undefineAll _
  · exact h

/-! Completion. -/

theorem postRecord (h : s.Ungated id) (it : Item) : (s.postRecord it).Ungated id := by
  unfold State.postRecord
  extract_lets c u v pi a shut phase b w
  have hv : v.Ungated id := (h.setFld ..).bump ..
  have hw : w.Ungated id := (hv.storePart ..).bump ..
  exact .ite (fun _ => hv) fun _ => .ite (fun _ => hv) fun _ => .ite (fun _ => hw.aside (State.interrupt_aside hw.regs _ _)) fun _ => hw

theorem trainMarks (h : s.Ungated id) (it : Item) : (s.trainMarks it).Ungated id := by
  unfold State.trainMarks
  extract_lets d u0 u v
  have hu : u.Ungated id := .ite (fun _ => h.congr rfl rfl) fun _ => h
  have hv : v.Ungated id := .ite (fun _ => hu.setFld ..) fun _ => hu
  exact .ite (fun _ => .ite (fun _ => hv.bump ..) fun _ => hv) fun _ => hu

theorem reconcile (h : s.Ungated id) (it : Item) (m : Nat) : (s.reconcile it m).Ungated id := by
  unfold State.reconcile
  have hn : ∀ n, State.Ungated id { s with nrg := n } := fun n => h.congr rfl rfl
  exact .ite (fun _ => .ite (fun _ => (hn _).bump ..) fun _ => (hn _).bump ..) fun _ => h

theorem markFrozen (h : s.Ungated id) (it : Item) : (s.markFrozen it).Ungated id := by
  unfold State.markFrozen
  exact .ite (fun _ => State.Ungated.setFld (by exact h.congr rfl rfl) ..) fun _ => h

theorem unbind (h : s.Ungated id) (it : Item) : (s.unbind it).Ungated id := by
  unfold State.unbind
  exact .foldl (fun u k hu => hu.setFld ..) _ h

theorem colMarks (h : s.Ungated id) (it : Item) : (s.colMarks it).Ungated id := by
  unfold State.colMarks
  refine .ite (fun _ => ?_) fun _ => h
  extract_lets u v w
  have hu : u.Ungated id := h.setFld ..
  have hv : v.Ungated id := .ite (fun _ => State.Ungated.congr hu rfl rfl) fun _ => hu
  have hw : w.Ungated id := hv.bumpSat ..
  have hr : (w.interruptRoute 1).Ungated id := .ite (fun _ => hw.aside (State.interrupt_aside hw.regs _ _)) fun _ => hw
  exact .ite (fun _ => hv.bump ..) fun _ => .ite (fun _ => .ite (fun _ => hr) fun _ => hw) fun _ => hv

end State.Ungated

theorem State.foldl_items {α : Type} {f : State → α → State} (hf : ∀ u a, (f u a).items = u.items) (l : List α) (s : State) : (l.foldl f s).items = s.items := by
  induction l generalizing s with
  | nil => rfl
  | cons a l ih => exact (ih _).trans (hf s a)

theorem State.clearRung_items (s : State) (l : Nat) : (s.clearRung l).items = s.items := by
  unfold State.clearRung
  split
  · rfl
  · exact State.setFld_items ..

/-- The state with another record of training. -/
def State.withTrain (s : State) (t : Train) : State := { s with train := t }

theorem State.withTrain_items (s : State) (t : Train) : (s.withTrain t).items = s.items := rfl

/-- What waits for a work-item boundary takes no item out of flight. -/
theorem State.boundary_items (s : State) (it : Item) : (s.boundary it).items = s.items := by
  have hmerge := fun l (u : State) => State.foldl_items (f := fun s (e : Nat × Word × Word) => s.mergeReg e.1 e.2.1 e.2.2) (fun u e => State.mergeReg_items ..) l u
  unfold State.boundary
  extract_lets now u v w
  have hv : v.items = s.items := hmerge now u
  clear_value v
  have hw : w.items = v.items := State.foldl_items (f := State.clearRung) State.clearRung_items _ v
  clear_value w
  split
  · exact (w.withTrain_items _).trans (hw.trans hv)
  · exact hv

section
variable {s : State} {id : Nat} (h : s.Ungated id)
include h

/-- An item released is no longer in flight. -/
theorem State.releaseItem_gone : FMap.find? id (s.releaseItem id).items = none := by
  unfold State.releaseItem
  split
  · next hk => exact hk
  · next it hk =>
    extract_lets d sig u1 u2 u3 u4 u5 u6 u7 c u8 u9 u10
    have h1 : u1.Ungated id := .foldl (fun u k hu => hu.setFld ..) _ h
    have h2 : u2.Ungated id := .ite (fun _ => .foldl (fun u k hu => hu.setFld ..) _ h1) fun _ => .ite (fun _ => h1.setFld ..) fun _ => h1
    have h5 : u5.Ungated id := ((h2.bump R.QMC_LEDGER_SIG_RETURNED [] sig.length).postRecord it).bump R.WQS_W4_DONE [it.queue] 1
    have h8 : u8.Ungated id := ((h5.bump R.QMC_LEDGER_DIE_RETURNED [it.die] 1).setFld R.QMC_STATUS_INFLIGHT _ []).setFld R.QMC_CTX_W0_INFLIGHT _ [c]
    have h9 : u9.Ungated id := h8.trainMarks it
    show FMap.find? id (u10.boundary it).items = none
    rw [State.boundary_items]
    exact FMap.find?_del_self id h9.items

/-- The run of an item without a gate ends: it is no longer in flight. -/
theorem State.endRun_gone (m : Nat) : FMap.find? id (s.endRun id m).items = none := by
  unfold State.endRun
  split
  · next hk => exact hk
  · next it hk =>
    extract_lets u v w
    have hu : u.Ungated id := h.reconcile it m
    have hw : w.Ungated id := (((hu.markFrozen it).unbind it).colMarks it).modItem id fun _ => rfl
    rw [h.gate it hk]
    exact State.releaseItem_gone (.ite (fun _ => hw.bumpSat ..) fun _ => hw)

theorem State.endNow_gone : FMap.find? id (s.endNow id).items = none := by
  have hf : s.free.2.Ungated id := h.congr rfl rfl
  exact State.endRun_gone hf _

end

/-! The stop. -/

theorem State.find?_modItem (s : State) (id : Nat) (f : Item → Item) : FMap.find? id (s.modItem id f).items = (FMap.find? id s.items).map f := by
  unfold State.modItem
  split
  · next it hk =>
    rw [hk]
    exact FMap.find?_put_self ..
  · next hk =>
    rw [hk]
    rfl

/-- An item, if it is in flight, is in no gate group and waits for no answer. -/
structure State.Unbound (id : Nat) (s : State) : Prop extends s.Ungated id where
  answered : ∀ it, FMap.find? id s.items = some it → it.pendingRemote = 0

namespace State.Unbound
variable {id : Nat} {s t : State}

theorem congr (h : s.Unbound id) (hr : t.regs = s.regs) (hi : t.items = s.items) : t.Unbound id :=
  ⟨h.toUngated.congr hr hi, fun it hit => h.answered it (hi ▸ hit)⟩

theorem setFld (h : s.Unbound id) (f : Fld) (v : Nat) (ix : List Nat) : (s.setFld f v ix).Unbound id := ⟨h.toUngated.setFld f v ix, h.answered⟩

theorem foldl {α : Type} {f : State → α → State} (hf : ∀ u a, State.Unbound id u → State.Unbound id (f u a)) (l : List α) (h : s.Unbound id) : (l.foldl f s).Unbound id := by
  induction l generalizing s with
  | nil => exact h
  | cons a l ih => exact ih (hf s a h)

theorem modItem (h : s.Unbound id) {f : Item → Item} (hg : ∀ it, (f it).gate = it.gate) (hp : ∀ it, it.pendingRemote = 0 → (f it).pendingRemote = 0) :
    (s.modItem id f).Unbound id := by
  refine ⟨h.toUngated.modItem id hg, fun it hit => ?_⟩
  rw [State.find?_modItem] at hit
  obtain ⟨x, hx, rfl⟩ := Option.map_eq_some_iff.1 hit
  exact hp x (h.answered x hx)

theorem freeCore (h : s.Unbound id) (c : Nat) : (s.freeCore c).Unbound id := h.congr rfl rfl

theorem teardown (h : s.Unbound id) (d : Desc) (p : Nat) : (s.teardown d p).2.Unbound id := by
  unfold State.teardown
  exact (State.Unbound.foldl (fun u k hu => State.Unbound.setFld (by exact hu.congr rfl rfl) ..) _ h).setFld .. |>.setFld ..

end State.Unbound

/-- A launch stopped is no longer in flight. -/
theorem State.stopLaunch_gone {s : State} {id : Nat} (h : s.Unbound id) (code word : Nat) : FMap.find? id (s.stopLaunch id code word).items = none := by
  unfold State.stopLaunch
  split
  · next hk => exact hk
  · next it hk =>
    extract_lets tiles u v w x
    have hu : u.Unbound id := .foldl (fun y c hy => (hy.modItem (f := fun it => it.withFlags (y.reed c)) (fun _ => rfl) fun _ hp => hp).freeCore c) _ h
    have hv : v.Unbound id := by
      dsimp only [v]
      split
      · exact .foldl (fun y p hy => hy.teardown it.desc p) _ hu
      · exact hu
    have hw : w.Unbound id := .foldl (fun y p hy => hy.setFld ..) _ hv
    have hx : x.Unbound id := hw.modItem (fun _ => rfl) fun _ hp => hp
    have hlive : ∀ y, FMap.find? id x.items = some y → y.live = [] := fun y hy => by
      dsimp only [x] at hy
      rw [State.find?_modItem] at hy
      obtain ⟨z, -, rfl⟩ := Option.map_eq_some_iff.1 hy
      rfl
    clear_value x
    unfold State.launchOver
    split
    · next hn => exact hn
    · next y hy =>
      rw [if_pos ⟨by rw [hlive y hy]; rfl, hx.answered y hy⟩]
      exact State.endNow_gone hx.toUngated

/-- The stop of an item on tiles that no gate withholds takes it out of flight. -/
theorem execJobFatalItemStop_gone {s : State} {id : Nat} {it : Item} (hcanon : s.canon = true) (hup : s.up = true) (hk : FMap.find? id s.items = some it)
    (hj : s.job.running = true) (ht : usesTgroup (hClass it.desc) = true) (hp : it.phase ≠ .withheld) (hg : it.gate = none) :
    ∃ t, exec (.jobFatalItemStop id) s = .next t ∧ FMap.find? id t.items = none := by
  have h : s.Ungated id := ⟨State.canon_regs hcanon, State.canon_items hcanon, fun x hx => by rw [hk] at hx; rw [← Option.some.inj hx, hg]⟩
  have hu := h.stopOutputs id it
  show ∃ t, execJobFatalItemStop id s = .next t ∧ _
  unfold execJobFatalItemStop
  rw [hk]
  dsimp only
  rw [hup, hj, ht, if_pos (by simp [hp])]
  generalize s.stopOutputs id it = u at hu
  split
  · exact ⟨_, rfl, State.endNow_gone (hu.modItem id fun _ => rfl)⟩
  · refine ⟨_, rfl, State.stopLaunch_gone ⟨by exact hu.modItem id fun _ => rfl, fun y hy => ?_⟩ _ _⟩
    rw [State.find?_modItem] at hy
    obtain ⟨z, -, rfl⟩ := Option.map_eq_some_iff.1 hy
    rfl

end Sys2Proof.Machine
end

section
/-! PROOFS. EVENT, BARRIER, STEP_COMMIT and EPOCH items, the evaluation rungs and the stop on tiles: the statement. -/

namespace Sys2Proof.Machine
open Sys2Proof

theorem evAmount_lt (d : Desc) (op : Nat) : evAmount d op < 2 ^ 64 := bits_lt _ _ _

theorem State.evResult_add {d : Desc} {op : Nat} (s : State) (h : evOp d op = 1) :
    s.evResult d op % 2 ^ 64 = (s.fld R.EVC_VALUE [evCounter d op] + evAmount d op) % 2 ^ 64 := by
  unfold State.evResult
  rw [if_pos h]

theorem State.evResult_set {d : Desc} {op : Nat} (s : State) (h : evOp d op = 2) : s.evResult d op % 2 ^ 64 = evAmount d op := by
  unfold State.evResult
  rw [if_neg (by rw [h]; decide), Nat.mod_eq_of_lt (evAmount_lt d op)]

/-- An operation of an item in flight that is not its last, by its command. -/
theorem State.eventCmd_inFlight {s : State} {q kind op id : Nat} {it : Item} (hs : FMap.sorted s.regs = true) (hj : s.job.running = false) (hi : s.items = [(id, it)])
    (hq : it.queue = q) (hc : hClass it.desc = 0x0A) (hp : it.phase = .running) (hn : it.nextOp = some op) (hlast : (evOps it.desc).getLast? ≠ some op)
    (hk : evOp it.desc op = kind) :
    ∃ t it', s.eventCmd q kind op = t ∧ t.items = [(id, it')] ∧ it'.blocks.find? op = some 0 ∧ it'.desc = it.desc ∧
      t.fld R.EVC_VALUE [evCounter it.desc op] = s.evResult it.desc op % 2 ^ 64 := by
  rw [State.eventCmd_item hj hi hq hc hp hn hk, State.eventOp_inFlight hi hn hlast]
  exact ⟨_, it.did op, rfl, rfl, FMap.find?_put_self .., rfl, State.afterOp_counter hs id it op⟩

section
variable {s : State} (hup : s.up = true)
include hup

theorem exec_clearEvalRungs_of_up : exec .clearEvalRungs s = .next s.writeClearEval := congrArg _ (State.whenUp_of_up hup _)
theorem exec_eventOpAdd_of_up (q op : Nat) : exec (.eventOpAdd q op) s = .next (s.eventCmd q 1 op) := congrArg _ (State.whenUp_of_up hup _)
theorem exec_eventOpSet_of_up (q op : Nat) : exec (.eventOpSet q op) s = .next (s.eventCmd q 2 op) := congrArg _ (State.whenUp_of_up hup _)
theorem exec_barrierItem_of_up (q : Nat) : exec (.barrierItem q) s = .next (s.served' q fun d => classIs 0x0B d && !hStepCommit d) :=
  congrArg _ (State.whenUp_of_up hup _)
theorem exec_stepCommit_of_up (q : Nat) : exec (.stepCommit q) s = .next (s.served' q fun d => classIs 0x0B d && hStepCommit d) :=
  congrArg _ (State.whenUp_of_up hup _)
theorem exec_epochItem_of_up (q : Nat) : exec (.epochItem q) s = .next (s.served' q (classIs 0x0C)) := congrArg _ (State.whenUp_of_up hup _)

end

end Sys2Proof.Machine

namespace Sys2Proof.Claims
open Machine

/-- Settles O19: a head's dispatch and an item's completion each touch words of their own, so what the item does between them stands; a stop keeps every item without a gate as it is, and its end takes it out of flight. -/
theorem eventBarrierEpoch : Obligations.EventBarrierEpoch := by
  unfold Obligations.EventBarrierEpoch
  intro s q
  refine ⟨fun hcanon hup => ⟨fun hi h0 => ?_, fun hi h0 => ?_, fun id it hk hj ht hp hg => execJobFatalItemStop_gone hcanon hup hk hj ht hp hg⟩,
    fun id it op hcanon hup hj hi hq hc hp hn hlast => ⟨fun hk => ?_, fun hk => ?_⟩, fun h => ?_⟩
  · obtain ⟨he, hl⟩ := State.clearEvalRungs_layers (State.canon_regs hcanon)
    rw [exec_clearEvalRungs_of_up hup, State.writeClearEval_of_closed h0, if_pos (by rw [hi]; rfl)]
    exact ⟨_, rfl, he, hl⟩
  · rw [exec_clearEvalRungs_of_up hup, State.writeClearEval_of_closed h0, if_neg fun he => hi (List.isEmpty_iff.1 he)]
  · obtain ⟨t, it', ht, hti, hb, hd, hv⟩ := State.eventCmd_inFlight (State.canon_regs hcanon) hj hi hq hc hp hn hlast hk
    exact ⟨t, it', (exec_eventOpAdd_of_up hup q op).trans (congrArg _ ht), hti, hb, hd, hv.trans (s.evResult_add hk)⟩
  · obtain ⟨t, it', ht, hti, hb, hd, hv⟩ := State.eventCmd_inFlight (State.canon_regs hcanon) hj hi hq hc hp hn hlast hk
    exact ⟨t, it', (exec_eventOpSet_of_up hup q op).trans (congrArg _ ht), hti, hb, hd, hv.trans (s.evResult_set hk)⟩
  · have ⟨_, hup, _⟩ := h
    intro d hsig hg
    refine ⟨fun op hc hop => ⟨fun hk => ?_, fun hk => ?_⟩, fun hc hsc => ?_, fun hc hsc htouch => ?_, fun hc h0 => ?_, fun hc h1 hp => ?_⟩
    · obtain ⟨hdone, hv⟩ := State.eventHead_only h hsig hg hc hop hk
      exact ⟨_, exec_eventOpAdd_of_up hup q op, hdone, hv.trans (s.evResult_add hk)⟩
    · obtain ⟨hdone, hv⟩ := State.eventHead_only h hsig hg hc hop hk
      exact ⟨_, exec_eventOpSet_of_up hup q op, hdone, hv.trans (s.evResult_set hk)⟩
    · obtain ⟨hdone, hkept⟩ := State.barrier_head h hg hsig hc hsc
      exact ⟨_, exec_barrierItem_of_up hup q, hdone, hkept⟩
    · obtain ⟨t, ht, hrest⟩ := State.commit_head h hg hsig hc hsc htouch
      exact ⟨t, (exec_stepCommit_of_up hup q).trans (congrArg _ ht), hrest⟩
    · obtain ⟨hdone, hstate⟩ := State.epoch_head_closed h hg hsig hc h0
      exact ⟨_, exec_epochItem_of_up hup q, hdone, hstate⟩
    · obtain ⟨t, it, ht, hrest⟩ := State.epoch_head_open h hg hc h1 hp
      exact ⟨t, it, (exec_epochItem_of_up hup q).trans (congrArg _ ht), hrest⟩

end Sys2Proof.Claims
end

section
/-! PROOFS. What one issued instruction leaves of its core: the vector and predicate registers by element, the sticky flags, and the frame around them (R178, R181 to R183, R185, R186). -/

namespace Sys2Proof.Machine
open Sys2Proof

/-! Elements of a 512-bit register and bits of a predicate. -/

/-- A field that lies below a cut is as before the cut. -/
theorem bits_mod_two_pow {n k lo w : Nat} (h : lo + w ≤ k) : bits (n % 2 ^ k) lo w = bits n lo w := by
  unfold bits
  obtain ⟨j, rfl⟩ : ∃ j, k = lo + (w + j) := ⟨k - (lo + w), by omega⟩
  rw [Nat.pow_add, Nat.mod_mul_right_div_self, Nat.pow_add]
  exact Nat.mod_mul_right_mod _ _ _

theorem bit_mod_two_pow {n k i : Nat} (h : i < k) : bit (n % 2 ^ k) i = bit n i := by
  rw [bit_eq_bits, bit_eq_bits, bits_mod_two_pow h]

/-- An element put in place is read back, and the others stay: elements of one width do not overlap. -/
theorem bits_putBits_element (n w v i j : Nat) : bits (putBits n (w * i) w v) (w * j) w = if j = i then v % 2 ^ w else bits n (w * j) w := by
  split
  · next h => rw [h, bits_putBits_self]
  · next h =>
    rcases Nat.lt_or_gt_of_ne h with h | h
    · exact bits_putBits_below (Nat.mul_le_mul_left w h)
    · exact bits_putBits_above (Nat.mul_le_mul_left w h)

/-- Elements put in place one after the other, each with a value that goes by its index. -/
theorem bits_foldl_putBits (w : Nat) (val : Nat → Nat) (p : Nat → Bool) (l : List Nat) (n i : Nat) :
    bits ((l.map fun e => (e, val e, p e)).foldl (fun v e => putBits v (w * e.1) w e.2.1) n) (w * i) w =
      if i ∈ l then val i % 2 ^ w else bits n (w * i) w := by
  induction l generalizing n with
  | nil => simp
  | cons a l ih =>
    rw [List.map_cons, List.foldl_cons, ih, bits_putBits_element]
    by_cases hi : i = a <;> simp [hi]

/-- Bits put in place one after the other, each with a value that goes by its index. -/
theorem bit_foldl_putBit (val : Nat → Bool) (l : List Nat) (n i : Nat) :
    bit ((l.map fun e => (e, val e)).foldl (fun v e => putBit v e.1 e.2) n) i = if i ∈ l then val i else bit n i := by
  induction l generalizing n with
  | nil => simp
  | cons a l ih =>
    rw [List.map_cons, List.foldl_cons, ih]
    by_cases hi : i = a
    · simp [hi, bit_putBit_self]
    · simp [hi, bit_putBit_ne hi]

/-! One rule per register file of a core. -/

theorem Reed.sorted_v {r : Reed} (h : r.canon = true) : FMap.sorted r.v = true := by
  obtain ⟨_, _, hv, _⟩ := (Reed.canon_iff r).1 h
  exact hv

theorem Reed.sorted_p {r : Reed} (h : r.canon = true) : FMap.sorted r.p = true := by
  obtain ⟨_, _, _, _, hp, _⟩ := (Reed.canon_iff r).1 h
  exact hp

theorem Reed.gv_sv_self {r : Reed} (h : r.canon = true) (n v vp : Nat) : (r.sv n v vp).gv n = v % 2 ^ 512 :=
  FMap.getD_setD_self (Reed.sorted_v h) n 0 _

theorem Reed.gv_sv_ne {r : Reed} (h : r.canon = true) {n m : Nat} (hm : m ≠ n) (v vp : Nat) : (r.sv n v vp).gv m = r.gv m :=
  FMap.getD_setD_ne (Reed.sorted_v h) hm 0 _ 0

theorem Reed.gp_sp_self {r : Reed} (h : r.canon = true) {n : Nat} (hn : n ≠ 0) (v : Nat) (p : Bool) : (r.sp n v p).gp n = v % 2 ^ 64 := by
  rw [Reed.sp, if_neg hn, Reed.gp, if_neg hn]
  exact FMap.getD_setD_self (Reed.sorted_p h) n 0 _

theorem Reed.gp_sp_ne {r : Reed} (h : r.canon = true) {n m : Nat} (hm : m ≠ n) (v : Nat) (p : Bool) : (r.sp n v p).gp m = r.gp m := by
  unfold Reed.sp
  split
  · rfl
  · unfold Reed.gp
    dsimp only
    rw [FMap.getD_setD_ne (Reed.sorted_p h) hm]

/-- The elements listed hold their values, the others what they held. -/
theorem Reed.el_setEls {r : Reed} (h : r.canon = true) (n w : Nat) (val : Nat → Nat) (p : Nat → Bool) (l : List Nat) {i : Nat} (hi : i < 512 / w) :
    (r.setEls n w (l.map fun e => (e, val e, p e))).el n w i = if i ∈ l then val i % 2 ^ w else r.el n w i := by
  have hin : w * i + w ≤ 512 := (Nat.mul_le_mul_left w hi).trans (Nat.mul_div_le 512 w)
  unfold Reed.el Reed.setEls
  rw [Reed.gv_sv_self h, bits_mod_two_pow hin, bits_foldl_putBits]

theorem Reed.gv_setEls_ne {r : Reed} (h : r.canon = true) {n m : Nat} (hm : m ≠ n) (w : Nat) (es : List (Nat × Nat × Bool)) :
    (r.setEls n w es).gv m = r.gv m := Reed.gv_sv_ne h hm _ _

/-- The bits listed hold their values, the others what they held; p0 stays. -/
theorem Reed.bit_gp_setPreds {r : Reed} (h : r.canon = true) (n : Nat) (val : Nat → Bool) (l : List Nat) (p : Bool) {i : Nat} (hi : i < 64) :
    bit ((r.setPreds n (l.map fun e => (e, val e)) p).gp n) i = if n ≠ 0 ∧ i ∈ l then val i else bit (r.gp n) i := by
  unfold Reed.setPreds
  split
  · next hl => simp [List.map_eq_nil_iff.1 (List.isEmpty_iff.1 hl)]
  · by_cases hn : n = 0
    · simp [Reed.sp, hn]
    · rw [Reed.gp_sp_self h hn, bit_mod_two_pow hi, bit_foldl_putBit]
      simp [hn]

theorem Reed.gp_setPreds_ne {r : Reed} (h : r.canon = true) {n m : Nat} (hm : m ≠ n) (es : List (Nat × Bool)) (p : Bool) :
    (r.setPreds n es p).gp m = r.gp m := by
  unfold Reed.setPreds
  split
  · rfl
  · exact Reed.gp_sp_ne h hm _ _

/-- Writing a predicate register touches the predicate registers alone. -/
theorem Reed.setPreds_eq (r : Reed) (n : Nat) (es : List (Nat × Bool)) (p : Bool) :
    r.setPreds n es p = { r with p := (r.setPreds n es p).p, pp := (r.setPreds n es p).pp } := by
  unfold Reed.setPreds Reed.sp
  split
  · rfl
  · split <;> rfl

@[simp] theorem Reed.setPreds_gv (r : Reed) (n : Nat) (es : List (Nat × Bool)) (p : Bool) (m : Nat) : (r.setPreds n es p).gv m = r.gv m :=
  congrArg (Reed.gv · m) (r.setPreds_eq n es p) |>.trans rfl

@[simp] theorem Reed.setPreds_gx (r : Reed) (n : Nat) (es : List (Nat × Bool)) (p : Bool) (m : Nat) : (r.setPreds n es p).gx m = r.gx m :=
  congrArg (Reed.gx · m) (r.setPreds_eq n es p) |>.trans rfl

@[simp] theorem Reed.setPreds_vl (r : Reed) (n : Nat) (es : List (Nat × Bool)) (p : Bool) : (r.setPreds n es p).vl = r.vl :=
  congrArg Reed.vl (r.setPreds_eq n es p) |>.trans rfl

@[simp] theorem Reed.setPreds_vflags (r : Reed) (n : Nat) (es : List (Nat × Bool)) (p : Bool) : (r.setPreds n es p).vflags = r.vflags :=
  congrArg Reed.vflags (r.setPreds_eq n es p) |>.trans rfl

@[simp] theorem Reed.setPreds_vflush (r : Reed) (n : Nat) (es : List (Nat × Bool)) (p : Bool) : (r.setPreds n es p).vflush = r.vflush :=
  congrArg Reed.vflush (r.setPreds_eq n es p) |>.trans rfl

theorem RC.mem_actives {k : RC} {f : VFields} {e : Nat} : e ∈ k.actives f ↔ k.on f e = true := by
  simp [RC.actives, RC.on]

/-! The end of an instruction after which the next one follows. -/

theorem State.reed_setReed_self (s : State) (c : Nat) (r : Reed) : (s.setReed c r).reed c = r := by
  simp [State.reed, State.setReed, FMap.getD]

theorem State.reed_setReed_ne (s : State) {c d : Nat} (h : d ≠ c) (r : Reed) : (s.setReed c r).reed d = s.reed d := by
  simp [State.reed, State.setReed, FMap.getD, FMap.find?_put_ne h]

/-- A core's record goes by the table of cores alone. -/
theorem State.reed_congr {s t : State} (h : t.reeds = s.reeds) (c : Nat) : t.reed c = s.reed c := by
  unfold State.reed
  rw [h]

/-- Dropping far lines touches no other part of the state. -/
theorem State.dropLines_eq (s : State) (k : RC) (s0 : State) : ∃ m, s.dropLines k s0 = { s with mem := { s.mem with remote := m } } := by
  unfold State.dropLines
  dsimp only
  split
  · exact ⟨_, rfl⟩
  · exact ⟨_, rfl⟩

theorem State.runningCore_eq {s : State} {c : Nat} {k : RC} (h : s.runningCore c = some k) : k.c = c ∧ k.r = s.reed c := by
  simp only [State.runningCore] at h
  split at h
  · cases h
  · split at h
    · split at h
      · cases h; exact ⟨rfl, rfl⟩
      · cases h
    · cases h

/-- What the core is left with when the next instruction follows. -/
def Reed.advanced (r : Reed) (cost : Nat) : Reed := { r with pc := (r.pc + 4) % 2 ^ 64, steps := r.steps + cost, blocked := .no }

/-- Beside the core's own record only its tile's step count and the far lines kept differ. -/
theorem State.finish_next_eq (s : State) (k : RC) (r : Reed) (cost : Nat) : ∃ m, s.finish k (.next s r cost) =
    { s.bump R.TIL_REED_STEPS_STEPS (tix k.tile) with mem := { s.mem with remote := m } }.setReed k.c (r.advanced cost) := by
  obtain ⟨m, hm⟩ := State.dropLines_eq (s.bump R.TIL_REED_STEPS_STEPS (tix k.tile)) k s
  refine ⟨m, ?_⟩
  unfold State.finish
  dsimp only
  rw [hm, State.bump_mem, Reed.advanced]

theorem State.finish_next_reed (s : State) (k : RC) (r : Reed) (cost : Nat) : (s.finish k (.next s r cost)).reed k.c = r.advanced cost := by
  obtain ⟨m, hm⟩ := State.finish_next_eq s k r cost
  rw [hm, State.reed_setReed_self]

/-- VFLAGS and VFLUSH replaced. -/
def Reed.withSticky (r : Reed) (flags flush : Nat) : Reed := { r with vflags := flags, vflush := flush }

/-- What the frame of an instruction says of its own core: the pc and the controls (Table 7-14). -/
def Reed.control (r : Reed) : Nat × Nat × Nat × Nat × Nat × Nat × Nat := (r.pc, r.vrm, r.vfxrm, r.vtid, r.vstep, r.vsrbase, r.fcsr)

@[simp] theorem Reed.control_setEls (r : Reed) (n w : Nat) (es : List (Nat × Nat × Bool)) : (r.setEls n w es).control = r.control := rfl
@[simp] theorem Reed.control_setPreds (r : Reed) (n : Nat) (es : List (Nat × Bool)) (p : Bool) : (r.setPreds n es p).control = r.control :=
  congrArg Reed.control (r.setPreds_eq n es p) |>.trans rfl

/-! The advance and the sticky flags leave the register files. -/

section
variable (r : Reed) (a b n : Nat)

@[simp] theorem Reed.advanced_gv : (r.advanced a).gv n = r.gv n := rfl
@[simp] theorem Reed.advanced_gx : (r.advanced a).gx n = r.gx n := rfl
@[simp] theorem Reed.advanced_gp : (r.advanced a).gp n = r.gp n := rfl
@[simp] theorem Reed.advanced_el (w i : Nat) : (r.advanced a).el n w i = r.el n w i := rfl
@[simp] theorem Reed.advanced_vl : (r.advanced a).vl = r.vl := rfl
@[simp] theorem Reed.withSticky_vl : (r.withSticky a b).vl = r.vl := rfl
@[simp] theorem Reed.control_withSticky : (r.withSticky a b).control = r.control := rfl
@[simp] theorem Reed.withSticky_gv : (r.withSticky a b).gv n = r.gv n := rfl
@[simp] theorem Reed.withSticky_gx : (r.withSticky a b).gx n = r.gx n := rfl
@[simp] theorem Reed.withSticky_gp : (r.withSticky a b).gp n = r.gp n := rfl
@[simp] theorem Reed.withSticky_el (w i : Nat) : (r.withSticky a b).el n w i = r.el n w i := rfl

end

/-- Without saturation the sticky flags take the flags and the flush count alone (R188). -/
theorem Reed.addFlags_float (r : Reed) (flags flush : Nat) :
    r.addFlags flags flush false = r.withSticky (r.vflags ||| flags) (min (r.vflush + flush) (2 ^ 32 - 1)) := by
  simp [Reed.addFlags, Reed.withSticky]

/-- An instruction that raises nothing leaves VFLAGS and VFLUSH as they were. -/
theorem Reed.addFlags_none {r : Reed} (h : r.vflush < 2 ^ 32) : r.addFlags 0 0 false = r := by
  rw [Reed.addFlags_float, Nat.or_zero, Nat.add_zero, Nat.min_eq_left (by omega)]
  rfl

end Sys2Proof.Machine

namespace Sys2Proof.Claims
open Machine

/-- The frame of an instruction says nothing of VFLAGS and VFLUSH. -/
theorem CoreOnly.withSticky {s t : State} {c : Nat} {r : Reed} (h : CoreOnly s t c r) (a b : Nat) : CoreOnly s t c (r.withSticky a b) := h

section
variable {s t : State} {c : Nat} {k : RC} (hr : k.r.canon = true) (hframe : CoreOnly s t c k.r)
include hr hframe

/-- Elements written under a predicate, with VFLAGS and VFLUSH as given. -/
theorem CoreOnly.vectorResult {f : VFields} {vd w fl n cost : Nat} {val : Nat → Nat} {p : Nat → Bool}
    (hreed : t.reed c = ((k.r.setEls vd w ((k.actives f).map fun e => (e, val e, p e))).withSticky fl n).advanced cost) :
    VectorResult s t c { k with r := k.r.withSticky fl n } vd w (k.on f) fun e => val e % 2 ^ w := by
  refine ⟨hframe.withSticky fl n, ?_⟩
  rw [hreed]
  refine ⟨fun e he => ?_, fun m hm => ?_, fun _ => rfl, fun _ => rfl, rfl, rfl, rfl⟩
  · simp [Reed.el_setEls hr _ _ _ _ _ he, RC.mem_actives]
  · simp [Reed.gv_setEls_ne hr hm]

/-- Bits written under a predicate, with VFLAGS and VFLUSH as given. -/
theorem CoreOnly.predicateResult {f : VFields} {pd fl n cost : Nat} {val : Nat → Bool} {p : Bool}
    (hreed : t.reed c = ((k.r.setPreds pd ((k.actives f).map fun e => (e, val e)) p).withSticky fl n).advanced cost) :
    PredicateResult s t c { k with r := k.r.withSticky fl n } pd (k.on f) val := by
  refine ⟨hframe.withSticky fl n, ?_⟩
  rw [hreed]
  refine ⟨fun e he => ?_, fun m hm => ?_, by simp, by simp, by simp, rfl, rfl⟩
  · simp [Reed.bit_gp_setPreds hr _ _ _ _ he, RC.mem_actives]
  · simp [Reed.gp_setPreds_ne hr hm]

end

/-- The frame of an instruction that moves the pc on: nothing but the step count, far lines and the core's own record differs. -/
theorem CoreOnly.of_setReed {s u : State} {k : RC} {r : Reed} {cost : Nat} {far : FMap (List Byte × Nat)}
    (hregs : ∀ o, o ≠ R.TIL_REED_STEPS_STEPS.at (tix k.tile) → FMap.find? o u.regs = FMap.find? o s.regs) (hitems : u.items = s.items) (hout : u.out = s.out)
    (hreeds : u.reeds = s.reeds) (hr : r.control = k.r.control) :
    CoreOnly s ({ u with mem := { s.mem with remote := far } }.setReed k.c (r.advanced cost)) k.c k.r := by
  simp only [Reed.control, Prod.mk.injEq] at hr
  obtain ⟨hpc, hcontrols⟩ := hr
  refine ⟨?_, ?_, rfl, rfl, hitems, hout, fun d hd => (State.reed_setReed_ne _ hd _).trans (State.reed_congr hreeds d), hregs⟩
  · rw [State.reed_setReed_self, ← hpc]
    rfl
  · unfold ControlsKept
    rw [State.reed_setReed_self]
    exact hcontrols

section
variable {s : State} {c : Nat} {k : RC} (hs : s.canon = true) (h : Issues s c k)
include h

/-- An instruction of a core that issues does what its body says. -/
theorem Issues.issue_eq (body : RC → State → Step') : s.issue c body = s.finish k (body k s) := by
  obtain ⟨hrun, hblocked, _, hfetch, hmapped⟩ := h
  simp [State.issue, hrun, hblocked, hfetch, hmapped]

/-- A legal vector instruction with elements to act on does what its body says (R185, R186, R197). -/
theorem Issues.osierW_eq {w : Nat} (hvl : 0 < k.r.vl) (hw : w * k.r.vl ≤ 512) (opcode f5 : Nat) (f : VFields) {bad : RC → Bool} (hbad : bad k = false)
    (body : RC → State → Step') : s.osierW c opcode f5 w f bad body = s.finish k (body k s) := by
  have hfits : ¬ 512 < w * k.r.vl := Nat.not_lt.2 hw
  simp [State.osierW, State.osier, h.issue_eq, hbad, hfits, Nat.ne_of_gt hvl]

theorem Issues.core_eq : k.c = c := by
  obtain ⟨hrun, _⟩ := h
  exact (State.runningCore_eq hrun).1

theorem Issues.vflush_lt : k.r.vflush < 2 ^ 32 := by
  obtain ⟨_, _, hflush, _⟩ := h
  exact hflush

/-- What the core that issues is left with. -/
theorem Issues.reed_next (r : Reed) (cost : Nat) : (s.finish k (.next s r cost)).reed c = r.advanced cost := by
  rw [← h.core_eq, State.finish_next_reed]

include hs

theorem Issues.canon_reed : k.r.canon = true := by
  obtain ⟨hrun, _⟩ := h
  rw [(State.runningCore_eq hrun).2]
  exact State.canon_reed hs c

/-- The frame of an instruction: `r` is the core's record before the pc moves on. -/
theorem Issues.coreOnly_next {r : Reed} (hr : r.control = k.r.control) (cost : Nat) : CoreOnly s (s.finish k (.next s r cost)) c k.r := by
  have hc := h.core_eq
  subst hc
  obtain ⟨m, hm⟩ := State.finish_next_eq s k r cost
  rw [hm]
  refine .of_setReed ?_ (State.bump_items ..) (State.bump_out ..) (State.bump_reeds ..) hr
  intro o ho
  rw [State.bump_eq]
  exact State.setFld_find? (State.canon_regs hs) _ _ _ ho

/-- Elements written under the instruction's predicate, with VFLAGS and VFLUSH as given. -/
theorem Issues.vectorResult_next (f : VFields) (vd w fl n : Nat) (val : Nat → Nat) (p : Nat → Bool) (cost : Nat) :
    VectorResult s (s.finish k (.next s ((k.r.setEls vd w ((k.actives f).map fun e => (e, val e, p e))).withSticky fl n) cost)) c
      { k with r := k.r.withSticky fl n } vd w (k.on f) fun e => val e % 2 ^ w :=
  (h.coreOnly_next hs (by simp) cost).vectorResult (h.canon_reed hs) (h.reed_next _ cost)

/-- Bits written under the instruction's predicate, with VFLAGS and VFLUSH as given. -/
theorem Issues.predicateResult_next (f : VFields) (pd fl n : Nat) (val : Nat → Bool) (p : Bool) (cost : Nat) :
    PredicateResult s (s.finish k (.next s ((k.r.setPreds pd ((k.actives f).map fun e => (e, val e)) p).withSticky fl n) cost)) c
      { k with r := k.r.withSticky fl n } pd (k.on f) val :=
  (h.coreOnly_next hs (by simp) cost).predicateResult (h.canon_reed hs) (h.reed_next _ cost)

/-- Elements written under the instruction's predicate, the sticky flags untouched. -/
theorem Issues.vectorResult_quiet (f : VFields) (w : Nat) (val : Nat → Nat) (p : Nat → Bool) (cost : Nat) :
    VectorResult s (s.finish k (.next s (k.r.setEls f.vd w ((k.actives f).map fun e => (e, val e, p e))) cost)) c k f.vd w (k.on f) fun e => val e % 2 ^ w :=
  h.vectorResult_next hs f f.vd w k.r.vflags k.r.vflush val p cost

/-- A result per active element from two sources, none of which saturates. -/
theorem Issues.vectorResult_intOp (f : VFields) (w : Nat) (val : Nat → Nat → Nat) :
    VectorResult s (s.finish k (k.intOp f w (fun a b => (val a b, false)) s)) c k f.vd w (k.on f) fun e => val (k.r.el f.s1 w e) (k.r.el f.s2 w e) % 2 ^ w := by
  have hflush : ∀ es, (k.r.setEls f.vd w es).vflush < 2 ^ 32 := fun _ => h.vflush_lt
  have hnone : ((k.actives f).any fun _ => false) = false := by simp
  simp only [RC.intOp, List.map_map, List.any_map, Function.comp_def, hnone, Reed.addFlags_none (hflush _)]
  exact h.vectorResult_quiet hs f w _ _ 1

/-- A comparison of two sources into a predicate. -/
theorem Issues.predicateResult_cmpOp {f : VFields} (hvd : f.vd < 8) (w : Nat) (op : Nat → Nat → Bool) (flags flush : Nat) :
    PredicateResult s (s.finish k (k.cmpOp f w op flags flush s)) c (flagged k flags flush) f.vd (k.on f) fun e => op (k.r.el f.s1 w e) (k.r.el f.s2 w e) := by
  simp only [RC.cmpOp, Nat.mod_eq_of_lt hvd, Reed.addFlags_float, Reed.setPreds_vflags, Reed.setPreds_vflush]
  exact h.predicateResult_next hs f f.vd _ _ (fun e => op (k.r.el f.s1 w e) (k.r.el f.s2 w e)) _ 1

end

end Sys2Proof.Claims
end

section
/-! PROOFS. Osier floating-point arithmetic and conversion (R99, R108, R187 to R191): one rule for results that are rounded and flagged, one per shape of instruction, and the statement. -/

namespace Sys2Proof.Machine
open Sys2Proof

/-- An element of an instruction of two sources, by the parts of what it reads. -/
theorem RC.fp2_eq (k : RC) (f : VFields) (op : Val → Val → Val × Nat) (e : Nat) :
    let a := readElem (fpEwFmt f.ew) (k.r.el f.s1 (fpEwBits f.ew) e)
    let b := readElem (fpEwFmt f.ew) (k.r.el f.s2 (fpEwBits f.ew) e)
    k.fp2 f op e = k.round (fpEwFmt f.ew) e (op a.1 b.1).1 ((op a.1 b.1).2 ||| a.2.1 ||| b.2.1) (a.2.2 + b.2.2) := by
  dsimp only [RC.fp2]

/-- The product of a multiply-add, its sign turned for VFNMSUB, added to the third value: rounded once, so exact here (R190). -/
def mulAdd (negProduct rdn : Bool) (a b d : Val) : Val × Nat :=
  let p := mulVal a b
  let v := addVal (if negProduct then p.1.negate else p.1) d rdn
  (v.1, p.2 ||| v.2)

/-- One element of a multiply-add. -/
def RC.fp3 (k : RC) (f : VFields) (op : Val → Val → Val → Val × Nat) (e : Nat) : Res :=
  let a := readElem (fpEwFmt f.ew) (k.r.el f.s1 (fpEwBits f.ew) e)
  let b := readElem (fpEwFmt f.ew) (k.r.el f.s2 (fpEwBits f.ew) e)
  let d := readElem (fpEwFmt f.ew) (k.r.el f.vd (fpEwBits f.ew) e)
  k.round (fpEwFmt f.ew) e (op a.1 b.1 d.1).1 ((op a.1 b.1 d.1).2 ||| a.2.1 ||| b.2.1 ||| d.2.1) (a.2.2 + b.2.2 + d.2.2)

/-- The smaller value, a NaN where either is one (R95). -/
theorem pickVal_smaller : pickVal false = fun x y => if x.isNan || y.isNan then (.nan false, 0) else if ordVal true x y = .lt then (x, 0) else (y, 0) := by
  funext x y
  unfold pickVal
  cases ordVal true x y <;> rfl

/-- The greater value, a NaN where either is one (R95). -/
theorem pickVal_greater : pickVal true = fun x y => if x.isNan || y.isNan then (.nan false, 0) else if ordVal true x y = .lt then (y, 0) else (x, 0) := by
  funext x y
  unfold pickVal
  cases ordVal true x y <;> rfl

end Sys2Proof.Machine

namespace Sys2Proof.Claims
open Machine

section
variable {s : State} {c : Nat} {k : RC} (hs : s.canon = true) (h : Issues s c k) (hvl : 0 < k.r.vl)
include hs h

/-- Results put in vd: each element takes its bits, the sticky flags take all flags and flushes. -/
theorem Issues.floatResult_put (f : VFields) (w cost : Nat) {res : Nat → Nat × Res × Bool} {val : Nat → Res} {p : Nat → Bool} (hres : ∀ e, res e = (e, val e, p e)) :
    FloatResult s (s.finish k (k.put f.vd w ((k.actives f).map res) s cost)) c k f w val := by
  obtain rfl : res = fun e => (e, val e, p e) := funext hres
  simp only [RC.put, List.map_map, Function.comp_def, Reed.addFlags_float]
  exact h.vectorResult_next hs f f.vd w _ _ (fun e => (val e).bits) p cost

include hvl

/-- An instruction of two sources. -/
theorem Issues.floatResult_vFp {f : VFields} (hw : fpEwBits f.ew * k.r.vl ≤ 512) (f5 cost : Nat) {op : RC → Val → Val → Val × Nat} {op' : Val → Val → Val × Nat}
    (hop : op k = op') : FloatResult s (s.vFp c f5 f cost op) c k f (fpEwBits f.ew) (k.fp2 f op') := by
  rw [State.vFp, h.osierW_eq hvl hw _ _ _ rfl, ← hop]
  exact h.floatResult_put hs f _ cost fun _ => rfl

/-- A multiply-add. -/
theorem Issues.floatResult_vFma {f : VFields} (hw : fpEwBits f.ew * k.r.vl ≤ 512) (f5 : Nat) (negProduct : Bool) :
    FloatResult s (s.vFma c f5 f negProduct) c k f (fpEwBits f.ew) (k.fp3 f (mulAdd negProduct k.rdn)) := by
  rw [State.vFma, h.osierW_eq hvl hw _ _ _ rfl]
  refine h.floatResult_put hs f _ 1 (p := fun e => k.r.elp f.s1 (fpEwBits f.ew) e || k.r.elp f.s2 (fpEwBits f.ew) e || k.r.elp f.vd (fpEwBits f.ew) e || k.r.gpp f.pg) fun e => ?_
  have hflags : ∀ fa fb fd fp fv : Nat, fa ||| fb ||| fd ||| fp ||| fv = fp ||| fv ||| fa ||| fb ||| fd := fun _ _ _ _ _ => by ac_rfl
  dsimp only [RC.fp3, mulAdd]
  rw [hflags]

/-- VFSQRT. -/
theorem Issues.floatResult_vfsqrt {f : VFields} (hw : fpEwBits f.ew * k.r.vl ≤ 512) (h2 : f.s2 = 0) :
    ∃ t, exec (.vfsqrt c f) s = .next t ∧ FloatResult s t c k f (fpEwBits f.ew) fun e =>
      let a := readElem (fpEwFmt f.ew) (k.r.el f.s1 (fpEwBits f.ew) e)
      k.round (fpEwFmt f.ew) e (sqrtVal a.1).1 (a.2.1 ||| (sqrtVal a.1).2) a.2.2 := by
  refine ⟨_, rfl, ?_⟩
  rw [h.osierW_eq hvl hw _ _ _ (by simp [h2])]
  refine h.floatResult_put hs f _ _ (p := fun e => k.r.elp f.s1 (fpEwBits f.ew) e || k.r.gpp f.pg) fun e => ?_
  dsimp only

/-- VCVT: the source format of S2, the destination format of F5 and EW. -/
theorem Issues.floatResult_vcvt {f : VFields} {f5 : Nat} (hf5 : f5 < 4) (h2 : f.s2 % 2 = 0) (hsrc : cvtFmtOk (f.s2 / 2) = true) (hdst : cvtFmtOk (f5 * 4 + f.ew) = true)
    (hw : max (fmtBits (f.s2 / 2)) (fmtBits (f5 * 4 + f.ew)) * k.r.vl ≤ 512) :
    ∃ t, exec (.vcvt c f5 f) s = .next t ∧ FloatResult s t c k f (fmtBits (f5 * 4 + f.ew)) fun e =>
      let x := readElem (f.s2 / 2) (k.r.el f.s1 (fmtBits (f.s2 / 2)) e)
      let r := encodeReed (f5 * 4 + f.ew) (k.rnd e) (fpOf (f.s2 / 2)).isSome x.1
      ⟨r.bits, r.flags ||| x.2.1, r.flush + x.2.2⟩ := by
  refine ⟨_, rfl, ?_⟩
  rw [Nat.mod_eq_of_lt hf5, h.osierW_eq hvl hw _ _ _ (by simp [h2, hsrc, hdst])]
  refine h.floatResult_put hs f _ 1 (p := fun e => k.r.elp f.s1 (fmtBits (f.s2 / 2)) e || k.r.gpp f.pg) fun e => ?_
  dsimp only

end

/-- Settles O33: the instruction does what its body says, and what it puts in vd is each active element's rounded result with the flags of all. -/
theorem vectorFloat : Obligations.VectorFloat := by
  unfold Obligations.VectorFloat
  intro s c f k hs h hvl _ fmt w a b d two three ends marked
  have htwo : two = k.fp2 f := funext fun op => funext fun e => (k.fp2_eq f op e).symm
  have hthree : three = k.fp3 f := rfl
  clear_value two three
  subst htwo hthree
  refine ⟨fun hw => ?_, fun f5 hf5 h2 hsrc hdst hfit => h.floatResult_vcvt hs hvl hf5 h2 hsrc hdst hfit⟩
  refine ⟨⟨_, rfl, ?_⟩, ⟨_, rfl, ?_⟩, ⟨_, rfl, ?_⟩, ⟨_, rfl, ?_⟩, ⟨_, rfl, ?_⟩, ⟨_, rfl, ?_⟩, ⟨_, rfl, ?_⟩, ⟨_, rfl, ?_⟩, fun h2 => h.floatResult_vfsqrt hs hvl hw h2⟩
  · exact h.floatResult_vFp hs hvl hw _ _ rfl
  · exact h.floatResult_vFp hs hvl hw _ _ rfl
  · exact h.floatResult_vFp hs hvl hw _ _ rfl
  · exact h.floatResult_vFp hs hvl hw _ _ rfl
  · exact h.floatResult_vFp hs hvl hw _ _ pickVal_smaller
  · exact h.floatResult_vFp hs hvl hw _ _ pickVal_greater
  · exact h.floatResult_vFma hs hvl hw _ false
  · exact h.floatResult_vFma hs hvl hw _ true

end Sys2Proof.Claims
end

section
/-! PROOFS. Osier sign injection, floating-point comparison and splat (R94 to R96, R181, Table 7-10): one rule per shape of instruction, and the statement. -/

namespace Sys2Proof.Machine
open Sys2Proof

theorem fpEwBits_pos (ew : Nat) : 0 < fpEwBits ew := by
  unfold fpEwBits
  split <;> decide

theorem fpEwBits_le (ew : Nat) : fpEwBits ew ≤ 64 := by
  unfold fpEwBits
  split <;> decide

/-- Magnitude bits under a sign bit fit the width. -/
theorem magnitude_sign_lt {w : Nat} (hw : 0 < w) (a : Nat) (sign : Bool) : a % 2 ^ (w - 1) + b2n sign * 2 ^ (w - 1) < 2 ^ w := by
  obtain ⟨m, rfl⟩ : ∃ m, w = m + 1 := ⟨w - 1, by omega⟩
  have hmag : a % 2 ^ m < 2 ^ m := Nat.mod_lt _ (Nat.two_pow_pos m)
  rw [Nat.add_sub_cancel, Nat.pow_succ]
  cases sign
  · rw [b2n_false]; omega
  · rw [b2n_true]; omega

/-- The low bits of f[n] are those of its vector register (R181). -/
theorem Reed.gf_mod_two_pow (r : Reed) (n : Nat) {w : Nat} (hw : w ≤ 64) : r.gf n % 2 ^ w = r.gv n % 2 ^ w := by
  rw [Reed.gf, bits, Nat.pow_zero, Nat.div_one, Nat.mod_mod_of_dvd _ (Nat.pow_dvd_pow 2 hw)]

end Sys2Proof.Machine

namespace Sys2Proof.Claims
open Machine

section
variable {s : State} {c : Nat} {k : RC} (hs : s.canon = true) (h : Issues s c k) (hvl : 0 < k.r.vl)
include hs h hvl

/-- A sign injection. -/
theorem Issues.vectorResult_vSgn {f : VFields} (hw : fpEwBits f.ew * k.r.vl ≤ 512) (f5 : Nat) (sign : Bool → Bool → Bool) :
    let w := fpEwBits f.ew
    VectorResult s (s.vSgn c f5 f sign) c k f.vd w (k.on f) fun e =>
      k.r.el f.s1 w e % 2 ^ (w - 1) + b2n (sign (bit (k.r.el f.s1 w e) (w - 1)) (bit (k.r.el f.s2 w e) (w - 1))) * 2 ^ (w - 1) := by
  intro w
  have hpos : 0 < w := fpEwBits_pos f.ew
  have hres := h.vectorResult_intOp hs f w fun a b => a % 2 ^ (w - 1) + b2n (sign (bit a (w - 1)) (bit b (w - 1))) * 2 ^ (w - 1)
  simp only [Nat.mod_eq_of_lt (magnitude_sign_lt hpos ..)] at hres
  rw [State.vSgn, h.osierW_eq hvl hw _ _ _ rfl]
  exact hres

/-- A floating-point comparison: a NaN is unordered, and the flags are those of the reads. -/
theorem Issues.predicateResult_vFpCmp {f : VFields} (hw : fpEwBits f.ew * k.r.vl ≤ 512) (hvd : f.vd < 8) (f5 : Nat) (op : Ordering → Bool) :
    let x := fun (n e : Nat) => readElem (fpEwFmt f.ew) (k.r.el n (fpEwBits f.ew) e)
    PredicateResult s (s.vFpCmp c f5 f op) c (flagged k (orFlags ((k.actives f).map fun e => (x f.s1 e).2.1 ||| (x f.s2 e).2.1))
        ((k.actives f).map fun e => (x f.s1 e).2.2 + (x f.s2 e).2.2).sum) f.vd (k.on f)
      fun e => !(x f.s1 e).1.isNan && !(x f.s2 e).1.isNan && op (ordVal false (x f.s1 e).1 (x f.s2 e).1) := by
  intro x
  rw [State.vFpCmp, h.osierW_eq hvl hw _ _ _ (by simpa using hvd)]
  exact h.predicateResult_cmpOp hs hvd _ _ _ _

/-- VFSPLAT. -/
theorem Issues.vectorResult_vfsplat {f : VFields} (hw : fpEwBits f.ew * k.r.vl ≤ 512) (h2 : f.s2 = 0) :
    ∃ t, exec (.vfsplat c f) s = .next t ∧ VectorResult s t c k f.vd (fpEwBits f.ew) (k.on f) fun _ => k.r.gv f.s1 % 2 ^ fpEwBits f.ew := by
  have hres := h.vectorResult_quiet hs f (fpEwBits f.ew) (fun _ => k.r.gf f.s1 % 2 ^ fpEwBits f.ew) (fun _ => k.r.gfp f.s1 || k.r.gpp f.pg) 1
  simp only [Nat.mod_mod, Reed.gf_mod_two_pow _ _ (fpEwBits_le f.ew)] at hres
  refine ⟨_, rfl, ?_⟩
  rw [h.osierW_eq hvl hw _ _ _ (by simp [h2])]
  simp only [RC.fill, Reed.gf_mod_two_pow _ _ (fpEwBits_le f.ew)]
  exact hres

end

/-- Settles O34: sign injections and splats write elements and no flag, comparisons write predicate bits and the flags of the reads. -/
theorem vectorFloatBits : Obligations.VectorFloatBits := by
  unfold Obligations.VectorFloatBits
  intro s c f k hs h hvl _ fmt w hw sign under ends x compares
  refine ⟨⟨_, rfl, ?_⟩, ⟨_, rfl, ?_⟩, ⟨_, rfl, ?_⟩, fun hvd => ⟨⟨_, rfl, ?_⟩, ⟨_, rfl, ?_⟩, ⟨_, rfl, ?_⟩⟩, fun h2 => h.vectorResult_vfsplat hs hvl hw h2⟩
  · exact h.vectorResult_vSgn hs hvl hw _ fun _ b => b
  · exact h.vectorResult_vSgn hs hvl hw _ fun _ b => !b
  · exact h.vectorResult_vSgn hs hvl hw _ fun a b => a != b
  · exact h.predicateResult_vFpCmp hs hvl hw hvd _ (· == .eq)
  · exact h.predicateResult_vFpCmp hs hvl hw hvd _ (· == .lt)
  · exact h.predicateResult_vFpCmp hs hvl hw hvd _ (· != .gt)

end Sys2Proof.Claims
end

section
/-! PROOFS. Bucket slots and collective VCs (R160, R353, R376, R389, R390, Table 14-3): a VC handed on, the word of a slot, and the statement. -/

namespace Sys2Proof.Machine
open Sys2Proof

/-! A VC that no group holds. -/

theorem State.groupActive_of_noCols {s : State} (h : s.cols = []) (g : Nat) : s.groupActive g = false := by
  simp [State.groupActive, State.activeGroups_of_noCols h]

theorem State.retryAllFw6_of_noCols {s : State} (h : s.cols = []) : s.retryAllFw6 = s := by
  unfold State.retryAllFw6
  rw [h]
  rfl

/-- Of two stamps only one is the older (R57). -/
theorem olderStamp_asymm {a b : Nat} (h : olderStamp a b = true) : olderStamp b a = false := by
  simp only [olderStamp, decide_eq_true_eq, decide_eq_false_iff_not] at *
  omega

/-- The oldest of the steps that wait for a VC, as age stamp and group. -/
def State.oldestWaiter (s : State) (vc : Nat) : Option (Nat × Nat) :=
  (s.vcWaiters vc).find? fun w => (s.vcWaiters vc).all fun x => !olderStamp x.1 w.1

/-- Who holds each VC once `vc` has been given to the oldest step that waits for it, or to none. -/
def State.vcHandedOn (s : State) (vc : Nat) : FMap Nat :=
  match s.oldestWaiter vc with
  | some w => s.vcHeld.put vc w.2
  | none => FMap.del vc s.vcHeld

theorem State.oldestWaiter_of_none {s : State} {vc : Nat} (h : s.vcWaiters vc = []) : s.oldestWaiter vc = none := by
  unfold State.oldestWaiter
  rw [h]
  rfl

/-- A waiting step that is older than every other one is found. -/
theorem State.oldestWaiter_of_older {s : State} {vc : Nat} {w : Nat × Nat} (hw : w ∈ s.vcWaiters vc)
    (hold : ∀ x ∈ s.vcWaiters vc, x = w ∨ olderStamp w.1 x.1 = true) : s.oldestWaiter vc = some w := by
  have hself : ((s.vcWaiters vc).all fun x => !olderStamp x.1 w.1) = true := by
    refine List.all_eq_true.2 fun x hx => ?_
    obtain rfl | h := hold x hx
    · simp [olderStamp]
    · simp [olderStamp_asymm h]
  obtain ⟨y, hy⟩ : ∃ y, s.oldestWaiter vc = some y := Option.isSome_iff_exists.1 (List.find?_isSome.2 ⟨w, hw, hself⟩)
  unfold State.oldestWaiter at hy ⊢
  have hyall := List.find?_some hy
  obtain rfl | h := hold y (List.mem_of_find?_eq_some hy)
  · exact hy
  · exact absurd (List.all_eq_true.1 hyall w hw) (by simp [h])

/-- The state with other holders of the VCs. -/
def State.withVcHeld (s : State) (m : FMap Nat) : State := { s with vcHeld := m }

theorem exec_collVcFreed_of_noCols {s : State} (hup : s.up = true) (hc : s.cols = []) (vc : Nat) :
    exec (.collVcFreed vc) s = .next (s.withVcHeld (s.vcHandedOn vc)) := by
  have hre : ∀ m, (s.withVcHeld m).retryAllFw6 = s.withVcHeld m := fun m => State.retryAllFw6_of_noCols hc
  have hbusy : (match s.vcHeld.find? vc with | some g => s.groupActive g | none => false) = false := by
    split
    · exact State.groupActive_of_noCols hc _
    · rfl
  have hif : ¬ ((!s.up || match s.vcHeld.find? vc with | some g => s.groupActive g | none => false) = true) := by simp [hup, hbusy]
  refine (if_neg hif).trans ?_
  show (match s.oldestWaiter vc with
    | some w => Host.Outcome.next (s.withVcHeld (s.vcHeld.put vc w.2)).retryAllFw6
    | none => Host.Outcome.next (s.withVcHeld (FMap.del vc s.vcHeld)).retryAllFw6) = _
  unfold State.vcHandedOn
  cases s.oldestWaiter vc with
  | none => exact congrArg Host.Outcome.next (hre _)
  | some w => exact congrArg Host.Outcome.next (hre _)

/-! The word of a slot. -/

/-- Fields of one register word set in order. -/
def State.setFlds (s : State) (ix : List Nat) (l : List (Fld × Nat)) : State := l.foldl (fun s e => s.setFld e.1 e.2 ix) s

/-- Setting fields changes register words alone. -/
theorem State.setFlds_kept (s : State) (ix : List Nat) (l : List (Fld × Nat)) : (s.setFlds ix l).items = s.items ∧ (s.setFlds ix l).mem = s.mem ∧
    (s.setFlds ix l).cols = s.cols ∧ (s.setFlds ix l).keptAborts = s.keptAborts := by
  induction l generalizing s with
  | nil => exact ⟨rfl, rfl, rfl, rfl⟩
  | cons e l ih => exact ih (s.setFld e.1 e.2 ix)

/-- A field that shares no bit with those set stays. -/
theorem State.fld_setFlds_apart {s : State} (hs : FMap.sorted s.regs = true) {ix jx : List Nat} {g : Fld} {l : List (Fld × Nat)}
    (h : ∀ e ∈ l, g.Apart jx e.1 ix) : (s.setFlds ix l).fld g jx = s.fld g jx := by
  induction l generalizing s with
  | nil => rfl
  | cons e l ih =>
    exact (ih (State.setFld_sorted hs _ _ _) fun x hx => h x (List.mem_cons_of_mem _ hx)).trans
      (State.fld_setFld_apart hs (h e List.mem_cons_self) e.2)

/-- A field set is read back where no later one shares a bit with it. -/
theorem State.fld_setFlds_self {s : State} (hs : FMap.sorted s.regs = true) {ix : List Nat} (pre : List (Fld × Nat)) {f : Fld} (hf : f.fits) (v : Nat)
    {post : List (Fld × Nat)} (h : ∀ e ∈ post, f.Apart ix e.1 ix) : (s.setFlds ix (pre ++ (f, v) :: post)).fld f ix = v % 2 ^ f.w := by
  induction pre generalizing s with
  | nil => exact (State.fld_setFlds_apart (State.setFld_sorted hs _ _ _) h).trans (State.fld_setFld_self hs f hf v ix)
  | cons e pre ih => exact ih (State.setFld_sorted hs _ _ _)

/-- What the word of a slot shows when it changes hands: state, bucket, generation, and nothing landed (Table 14-9). -/
def slotFields (st b gen : Nat) : List (Fld × Nat) :=
  [(R.COL_SLOT_W0_STATE, st), (R.COL_SLOT_W0_LB_DST, 0), (R.COL_SLOT_W0_RERUN, 0), (R.COL_SLOT_W0_LOCAL, 0), (R.COL_SLOT_W0_BUCKET, b),
    (R.COL_SLOT_W0_GEN, gen), (R.COL_SLOT_W0_LANDED, 0)]

section
variable {s : State} (hs : FMap.sorted s.regs = true) (ix : List Nat) (st b gen : Nat)
include hs

theorem State.setSlot_state (h : st < 4) : (s.setFlds ix (slotFields st b gen)).fld R.COL_SLOT_W0_STATE ix = st := by
  refine (State.fld_setFlds_self hs [] (by decide) st ?_).trans (Nat.mod_eq_of_lt h)
  simp [Fld.Apart, R.COL_SLOT_W0_STATE, R.COL_SLOT_W0_LB_DST, R.COL_SLOT_W0_RERUN, R.COL_SLOT_W0_LOCAL, R.COL_SLOT_W0_BUCKET, R.COL_SLOT_W0_GEN, R.COL_SLOT_W0_LANDED]

theorem State.setSlot_bucket (h : b < 65536) : (s.setFlds ix (slotFields st b gen)).fld R.COL_SLOT_W0_BUCKET ix = b := by
  refine (State.fld_setFlds_self hs [_, _, _, _] (by decide) b ?_).trans (Nat.mod_eq_of_lt h)
  simp [Fld.Apart, R.COL_SLOT_W0_BUCKET, R.COL_SLOT_W0_GEN, R.COL_SLOT_W0_LANDED]

theorem State.setSlot_gen (h : gen < 65536) : (s.setFlds ix (slotFields st b gen)).fld R.COL_SLOT_W0_GEN ix = gen := by
  refine (State.fld_setFlds_self hs [_, _, _, _, _] (by decide) gen ?_).trans (Nat.mod_eq_of_lt h)
  simp [Fld.Apart, R.COL_SLOT_W0_GEN, R.COL_SLOT_W0_LANDED]

end

theorem slotFields_base {st b gen : Nat} {e : Fld × Nat} (h : e ∈ slotFields st b gen) : e.1.base = 0x21020000 ∧ e.1.strides = [512, 16] := by
  simp only [slotFields, List.mem_cons, List.not_mem_nil, or_false] at h
  obtain rfl | rfl | rfl | rfl | rfl | rfl | rfl := h <;> exact ⟨rfl, rfl⟩

theorem State.setSlot_returned {s : State} (hs : FMap.sorted s.regs = true) (ix : List Nat) (st b gen : Nat) :
    (s.setFlds ix (slotFields st b gen)).fld R.COL_SLOT_LEDGER_RETURNED = s.fld R.COL_SLOT_LEDGER_RETURNED :=
  State.fld_setFlds_apart hs fun e he => .inl (by
    obtain ⟨hb, -⟩ := slotFields_base he
    simp only [Fld.at, hb, R.COL_SLOT_LEDGER_RETURNED, dotOff]
    omega)

/-! Slots that open and slots that become free. -/

/-- What is kept beside the word of a slot when it opens (R376). -/
def State.slotOpened (s : State) (g b gen params : Nat) : State :=
  { s with slots := s.slots.put (slotKey g b) (Slot.ofParams params), keptAborts := s.recordsPast g b gen }

/-- The ledger when a slot opens (R390). -/
def State.slotIssued (s : State) (g b : Nat) : State :=
  let t := s.bump R.COL_SLOT_LEDGER_ISSUED
  if s.fld R.COL_SLOT_W0_STATE (slotIx g b) != 0 then t.bump R.COL_SLOT_LEDGER_RETURNED else t

theorem State.openSlot_eq (s : State) (g b gen params : Nat) :
    s.openSlot g b gen params = ((s.slotIssued g b).slotOpened g b gen params).setFlds (slotIx g b) (slotFields 1 b gen) := rfl

theorem State.slotIssued_sorted {s : State} (hs : FMap.sorted s.regs = true) (g b : Nat) : FMap.sorted (s.slotIssued g b).regs = true := by
  have h1 : FMap.sorted (s.bump R.COL_SLOT_LEDGER_ISSUED).regs = true := State.setFld_sorted hs _ _ _
  unfold State.slotIssued
  split
  · exact State.setFld_sorted h1 _ _ _
  · exact h1

theorem State.openSlot_kept (s : State) (g b gen params : Nat) :
    (s.openSlot g b gen params).items = s.items ∧ (s.openSlot g b gen params).cols = s.cols := by
  have hissued : (s.slotIssued g b).items = s.items ∧ (s.slotIssued g b).cols = s.cols := by
    unfold State.slotIssued
    split
    · rw [State.bump_items, State.bump_items, State.bump_cols, State.bump_cols]
      exact ⟨rfl, rfl⟩
    · rw [State.bump_items, State.bump_cols]
      exact ⟨rfl, rfl⟩
  obtain ⟨hitems, -, hcols, -⟩ := ((s.slotIssued g b).slotOpened g b gen params).setFlds_kept (slotIx g b) (slotFields 1 b gen)
  rw [State.openSlot_eq]
  exact ⟨hitems.trans hissued.1, hcols.trans hissued.2⟩

/-- A slot that has opened shows its bucket. -/
theorem State.openSlot_shown {s : State} (hs : FMap.sorted s.regs = true) (g params : Nat) {b gen : Nat} (hb : b < 65536) (hg : gen < 65536) :
    (s.openSlot g b gen params).fld R.COL_SLOT_W0_STATE (slotIx g b) = 1 ∧ (s.openSlot g b gen params).fld R.COL_SLOT_W0_BUCKET (slotIx g b) = b ∧
      (s.openSlot g b gen params).fld R.COL_SLOT_W0_GEN (slotIx g b) = gen := by
  have h : FMap.sorted ((s.slotIssued g b).slotOpened g b gen params).regs = true := State.slotIssued_sorted hs g b
  rw [State.openSlot_eq]
  exact ⟨State.setSlot_state h _ _ _ _ (by decide), State.setSlot_bucket h _ _ _ _ hb, State.setSlot_gen h _ _ _ _ hg⟩

/-- What is kept beside the word of a slot when it becomes free: the record of an ABORTED one (R376). -/
def State.slotEmptied (s : State) (g b : Nat) : State :=
  let ix := slotIx g b
  let s := if s.fld R.COL_SLOT_W0_STATE ix = 3 then
      { s with keptAborts := s.keptAborts.put (bucketKey g (s.fld R.COL_SLOT_W0_BUCKET ix)) (s.fld R.COL_SLOT_W0_GEN ix, (s.slot g b).abort) }
    else s
  { s with slots := FMap.del (slotKey g b) s.slots }

theorem State.freeSlot_eq (s : State) (g b : Nat) :
    s.freeSlot g b = ((s.bump R.COL_SLOT_LEDGER_RETURNED).slotEmptied g b).setFlds (slotIx g b) (slotFields 0 0 0) := rfl

theorem State.slotEmptied_kept (s : State) (g b : Nat) :
    (s.slotEmptied g b).regs = s.regs ∧ (s.slotEmptied g b).items = s.items ∧ (s.slotEmptied g b).mem = s.mem := by
  unfold State.slotEmptied
  dsimp only
  split <;> exact ⟨rfl, rfl, rfl⟩

theorem State.keptAbort_congr {s t : State} (h : t.keptAborts = s.keptAborts) (g b gen : Nat) : t.keptAbort g b gen = s.keptAbort g b gen := by
  rw [State.keptAbort, State.keptAbort, h]

/-- The record of an ABORTED slot is kept for its bucket. -/
theorem State.slotEmptied_keptAbort {s : State} {g b : Nat} (h3 : s.fld R.COL_SLOT_W0_STATE (slotIx g b) = 3) :
    (s.slotEmptied g b).keptAbort g (s.fld R.COL_SLOT_W0_BUCKET (slotIx g b)) (s.fld R.COL_SLOT_W0_GEN (slotIx g b)) = some (s.slot g b).abort := by
  have hkept : (s.slotEmptied g b).keptAborts =
      s.keptAborts.put (bucketKey g (s.fld R.COL_SLOT_W0_BUCKET (slotIx g b))) (s.fld R.COL_SLOT_W0_GEN (slotIx g b), (s.slot g b).abort) := by
    unfold State.slotEmptied
    dsimp only
    rw [if_pos h3]
  unfold State.keptAbort
  rw [hkept, FMap.find?_put_self]
  exact if_pos rfl

/-- Setting the ledger leaves the words of the slots. -/
theorem State.bump_returned_slot {s : State} (hs : FMap.sorted s.regs = true) {f : Fld} (hb : f.base = 0x21020000) (ix : List Nat) :
    (s.bump R.COL_SLOT_LEDGER_RETURNED).fld f ix = s.fld f ix :=
  State.fld_setFld_ne hs (by simp only [Fld.at, hb, R.COL_SLOT_LEDGER_RETURNED, dotOff]; omega) _

/-- The record of an ABORTED slot that becomes free is kept for its bucket (R376). -/
theorem State.freeSlot_keptAbort {s : State} (hs : FMap.sorted s.regs = true) {g b : Nat} (h3 : s.fld R.COL_SLOT_W0_STATE (slotIx g b) = 3) :
    (s.freeSlot g b).keptAbort g (s.fld R.COL_SLOT_W0_BUCKET (slotIx g b)) (s.fld R.COL_SLOT_W0_GEN (slotIx g b)) = some (s.slot g b).abort := by
  have hst := State.bump_returned_slot (f := R.COL_SLOT_W0_STATE) hs rfl (slotIx g b)
  have hb := State.bump_returned_slot (f := R.COL_SLOT_W0_BUCKET) hs rfl (slotIx g b)
  have hg := State.bump_returned_slot (f := R.COL_SLOT_W0_GEN) hs rfl (slotIx g b)
  have hslots := s.bump_slots R.COL_SLOT_LEDGER_RETURNED [] 1
  rw [State.freeSlot_eq]
  generalize s.bump R.COL_SLOT_LEDGER_RETURNED = t at hst hb hg hslots
  have hslot : t.slot g b = s.slot g b := by rw [State.slot, State.slot, hslots]
  obtain ⟨-, -, -, hkept⟩ := (t.slotEmptied g b).setFlds_kept (slotIx g b) (slotFields 0 0 0)
  rw [State.keptAbort_congr hkept, ← hb, ← hg, ← hslot, State.slotEmptied_keptAbort (hst.trans h3)]

/-- A slot that has become free shows nothing of its bucket, and the ledger counts it. -/
theorem State.freeSlot_shown {s : State} (hs : FMap.sorted s.regs = true) (g b : Nat) :
    (s.freeSlot g b).fld R.COL_SLOT_W0_STATE (slotIx g b) = 0 ∧ (s.freeSlot g b).fld R.COL_SLOT_W0_BUCKET (slotIx g b) = 0 ∧
      (s.freeSlot g b).fld R.COL_SLOT_LEDGER_RETURNED = (s.fld R.COL_SLOT_LEDGER_RETURNED + 1) % 2 ^ R.COL_SLOT_LEDGER_RETURNED.w ∧
      (s.freeSlot g b).items = s.items ∧ (s.freeSlot g b).mem = s.mem := by
  have hcount := State.fld_setFld_self hs R.COL_SLOT_LEDGER_RETURNED (by decide) (s.fld R.COL_SLOT_LEDGER_RETURNED + 1) []
  have hs1 : FMap.sorted (s.bump R.COL_SLOT_LEDGER_RETURNED).regs = true := State.setFld_sorted hs _ _ _
  rw [← State.bump_eq] at hcount
  rw [State.freeSlot_eq, ← hcount, ← s.bump_items R.COL_SLOT_LEDGER_RETURNED [] 1, ← s.bump_mem R.COL_SLOT_LEDGER_RETURNED [] 1]
  generalize s.bump R.COL_SLOT_LEDGER_RETURNED = t at hs1
  obtain ⟨hregs, hitems, hmem⟩ := t.slotEmptied_kept g b
  have hs2 : FMap.sorted (t.slotEmptied g b).regs = true := hregs ▸ hs1
  obtain ⟨hitems', hmem', -, -⟩ := (t.slotEmptied g b).setFlds_kept (slotIx g b) (slotFields 0 0 0)
  refine ⟨State.setSlot_state hs2 _ _ _ _ (by decide), State.setSlot_bucket hs2 _ _ _ _ (by decide), ?_, hitems'.trans hitems, hmem'.trans hmem⟩
  exact (State.setSlot_returned hs2 _ _ _ _).trans (by unfold State.fld; rw [hregs])

/-- A free slot opens, and one that may be reused too (Table 14-3). -/
theorem State.takeSlot_of_room {s : State} {g b gen : Nat} (h : s.claim g b gen = .free ∨ s.claim g b gen = .reuse) (params : Nat) :
    s.takeSlot g b gen params = s.openSlot g b gen params := by
  unfold State.takeSlot
  obtain h | h := h <;> rw [h]

/-- The one step that waits for a slot claims it. -/
theorem exec_slotClaimRetry_of_head {s : State} (hup : s.up = true) (hc : s.cols = []) {g sl q : Nat} {gr : Group} (hg : FMap.find? g s.groups = some gr)
    (hsl : sl < 32) (hst : s.fld R.COL_SLOT_W0_STATE [g, sl] ≠ 1) (hin : s.inStreams = []) (hq : s.slotHeads g sl = [q])
    (hv : s.colVerdict (s.headDesc q) (s.fld R.COL_CFG_WIRE) = Verdict.run)
    (hcl : s.claim g (cBucket (s.headDesc q)) (cGen (s.headDesc q)) = .free ∨ s.claim g (cBucket (s.headDesc q)) (cGen (s.headDesc q)) = .reuse) :
    ∃ params, exec (.slotClaimRetry g sl) s = .next (s.openSlot g (cBucket (s.headDesc q)) (cGen (s.headDesc q)) params) := by
  refine ⟨colParams (s.headDesc q) (cWireWith (s.fld R.COL_CFG_WIRE) (s.headDesc q)), ?_⟩
  have hmod : sl % 32 = sl := Nat.mod_eq_of_lt hsl
  have hopen : ∀ params, (s.openSlot g (cBucket (s.headDesc q)) (cGen (s.headDesc q)) params).cols = [] := fun params =>
    (s.openSlot_kept g _ _ params).2.trans hc
  show execSlotClaimRetry g sl s = _
  unfold execSlotClaimRetry
  rw [hg]
  dsimp only
  rw [hmod, if_neg (by simp [hup, hst]), hin, List.filter_nil, List.foldl_nil, hq, List.find?_cons_of_pos (by simp)]
  dsimp only
  rw [if_pos hv, State.takeSlot_of_room hcl, State.retryAllFw6_of_noCols (hopen _)]

/-- The bucket of a step that waits for a slot lies in it. -/
theorem State.slotIx_of_slotHeads {s : State} {g sl q : Nat} (h : q ∈ s.slotHeads g sl) : slotIx g (cBucket (s.headDesc q)) = [g, sl] := by
  have hmem := (List.mem_filter.1 h).2
  simp only [Bool.and_eq_true, beq_iff_eq] at hmem
  rw [slotIx, hmem.2]

end Sys2Proof.Machine

namespace Sys2Proof.Claims
open Machine

/-- Settles O24: a VC goes to the oldest step that waits for it, a claim writes the slot's word, and so does its freeing. -/
theorem slotsAndVcs : Obligations.SlotsAndVcs := by
  unfold Obligations.SlotsAndVcs
  intro s hcanon hup hc
  have hs := State.canon_regs hcanon
  have hix : ∀ g sl, sl < 32 → slotIx g sl = [g, sl] := fun g sl h => by rw [slotIx, Nat.mod_eq_of_lt h]
  refine ⟨fun vc hsort hw => ?_, fun vc w hw hold => ?_, fun g sl gr q hg hsl _ hst hin hq hv hcl => ?_, fun g _ sl hsl hst => ⟨fun h0 => ?_, fun h0 => ?_⟩,
    fun g _ sl hsl hf h0 => ?_⟩
  · refine ⟨_, exec_collVcFreed_of_noCols hup hc vc, rfl, ?_⟩
    have hheld : s.vcHandedOn vc = FMap.del vc s.vcHeld := by rw [State.vcHandedOn, State.oldestWaiter_of_none hw]
    rw [hheld]
    exact ⟨FMap.find?_del_self vc hsort, fun w hne => FMap.find?_del_ne hne hsort⟩
  · refine ⟨_, exec_collVcFreed_of_noCols hup hc vc, rfl, ?_⟩
    have hheld : s.vcHandedOn vc = s.vcHeld.put vc w.2 := by rw [State.vcHandedOn, State.oldestWaiter_of_older hw hold]
    rw [hheld]
    exact FMap.find?_put_self vc w.2 s.vcHeld
  · obtain ⟨params, hexec⟩ := exec_slotClaimRetry_of_head hup hc hg hsl hst hin hq hv hcl
    have hslot := State.openSlot_shown hs g params (b := cBucket (s.headDesc q)) (gen := cGen (s.headDesc q)) (bits_lt _ _ _) (bits_lt _ _ _)
    rw [State.slotIx_of_slotHeads (sl := sl) (by rw [hq]; exact List.mem_singleton_self q)] at hslot
    obtain ⟨h1, h2, h3⟩ := hslot
    exact ⟨_, hexec, h1, h2, h3, (s.openSlot_kept g _ _ params).1⟩
  · obtain ⟨h1, h2, h3, h4, h5⟩ := s.freeSlot_shown hs g sl
    have hkept := State.freeSlot_keptAbort (g := g) (b := sl) hs
    have hexec : exec (.colSlotFree g sl) s = .next (s.freeSlot g sl) := by
      show Host.Outcome.next (s.slotFree g sl) = _
      rw [State.slotFree, Nat.mod_eq_of_lt hsl, if_neg (by simp [hup]; omega), State.releaseSlot, hix g sl hsl, if_pos h0]
    rw [hix g sl hsl] at h1 h2 hkept
    exact ⟨_, hexec, h1, h2, h3, h4, h5, hkept⟩
  · have hexec : exec (.colSlotFree g sl) s = .next { s with slots := s.slots.put (slotKey g sl) { s.slot g sl with freeing := true } } := by
      show Host.Outcome.next (s.slotFree g sl) = _
      rw [State.slotFree, Nat.mod_eq_of_lt hsl, if_neg (by simp [hup]; omega), State.releaseSlot, hix g sl hsl, if_neg h0]
    refine ⟨_, hexec, rfl, ?_⟩
    unfold State.slot
    rw [FMap.getD, FMap.find?_put_self]
    rfl
  · obtain ⟨h1, -, -, h4, h5⟩ := s.freeSlot_shown hs g sl
    have hexec : exec (.slotFreeDeferred g sl) s = .next (s.freeSlot g sl) := by
      show execSlotFreeDeferred g sl s = _
      rw [execSlotFreeDeferred, Nat.mod_eq_of_lt hsl, if_pos (by simp [hup, hf, h0])]
    rw [hix g sl hsl] at h1
    exact ⟨_, hexec, h1, h4, h5⟩

end Sys2Proof.Claims
end

section
/-! SUPPORT. What reads and writes of memory leave where nothing disturbs them: the places of addresses, the calm of memory, and every byte that is not written (R258, R270, R287, R288, R310 to R314). -/

namespace Sys2Proof.Machine
open Sys2Proof

/-! The words that say where an address lies. -/

/-- The words that decide where an address lies, whether its channel is in reach, whether the log is mirrored, and when a channel is fenced by count. -/
def PlaceWord (o : Nat) : Prop :=
  o = R.GLB_WEAVE_MEMBER.base ∨ (0x10000000 ≤ o ∧ o < 0x20000000 ∧ o % 0x10000 = 0) ∨ R.NLK_MEMBER_VALID.base ≤ o ∨ o = R.ERL_CTL_MIRROR_EN.base ∨
    o = R.ERL_THRESH_UE_FENCE.base

/-- The words that decide no such thing. -/
def PlainWord (o : Nat) : Prop := ¬ PlaceWord o

/-- What `PlainWord` says of a word, in numbers. -/
theorem plainWord_iff {o : Nat} : PlainWord o ↔
    o ≠ 0x80 ∧ ¬ (0x10000000 ≤ o ∧ o < 0x20000000 ∧ o % 0x10000 = 0) ∧ o < 0x20C00100 ∧ o ≠ 0x6000000 ∧ o ≠ 0x6000038 := by
  simp only [PlainWord, PlaceWord, R.GLB_WEAVE_MEMBER, R.NLK_MEMBER_VALID, R.ERL_CTL_MIRROR_EN, R.ERL_THRESH_UE_FENCE]
  omega

theorem plainWord_of_countWord {o : Nat} (h : CountWord o) : PlainWord o := by
  obtain ⟨h1, h2, h3⟩ := h
  exact plainWord_iff.2 (by omega)

theorem plainWord_of_forwardWord {o : Nat} : ForwardWord o → PlainWord o := by
  rintro (rfl | rfl) <;> exact plainWord_iff.2 (by decide)

theorem plainWord_entry {i k : Nat} (hi : i < 4096) (hk : k < 8) : PlainWord (R.ERL_ENTRY_WORD.at [i, k]) :=
  plainWord_iff.2 (by simp only [Fld.at, R.ERL_ENTRY_WORD, dotOff]; omega)

theorem plainWord_of_logWord {i o : Nat} (hi : i < 4096) : LogWord i o → PlainWord o := by
  rintro (⟨k, hk, rfl⟩ | (rfl | rfl | rfl) | hf | ht)
  · exact plainWord_entry hi hk
  · exact plainWord_iff.2 (by decide)
  · exact plainWord_iff.2 (by decide)
  · exact plainWord_iff.2 (by decide)
  · exact plainWord_of_forwardWord hf
  · exact plainWord_of_countWord (countWord_of_trafficWord ht)

/-- A field of a word that decides where addresses lie reads as before. -/
theorem State.Aside.placeFld {s t : State} (h : s.Aside PlainWord t) (f : Fld) (ix : List Nat) (hf : PlaceWord (f.at ix)) : t.fld f ix = s.fld f ix :=
  h.fld f ix fun hp => hp hf

theorem placeWord_mirror : PlaceWord (R.ERL_CTL_MIRROR_EN.at []) := .inr (.inr (.inr (.inl rfl)))
theorem placeWord_fence : PlaceWord (R.ERL_THRESH_UE_FENCE.at []) := .inr (.inr (.inr (.inr rfl)))

theorem State.Aside.mirror {s t : State} (h : s.Aside PlainWord t) : t.flag R.ERL_CTL_MIRROR_EN = s.flag R.ERL_CTL_MIRROR_EN :=
  h.flag _ _ fun hp => hp placeWord_mirror

theorem placeWord_valid (m : Nat) : PlaceWord (R.NLK_MEMBER_VALID.at [m]) := .inr (.inr (.inl (Nat.le_add_right _ _)))

theorem placeWord_stackLive {key : Nat} (h : key < 512) : PlaceWord (R.STK_CHMAP_LIVE.at [key / 128, key / 32 % 4]) := by
  refine .inr (.inl ?_)
  simp only [Fld.at, R.STK_CHMAP_LIVE, dotOff]
  omega

theorem placeWord_rimLive (k : Nat) : PlaceWord (R.RIM_STATUS_LIVE.at [k]) := by
  refine .inr (.inr (.inl ?_))
  simp only [Fld.at, R.RIM_STATUS_LIVE, R.NLK_MEMBER_VALID, dotOff]
  omega

/-- Places are the same where those words and what the boot and memory say of them are. -/
theorem State.samePlaces_of_words {s t : State} (hr : ∀ o, PlaceWord o → FMap.find? o t.regs = FMap.find? o s.regs) (hb : t.boot = s.boot)
    (h1 : t.mem.tripped = s.mem.tripped) (h2 : t.mem.fencedBanks = s.mem.fencedBanks) (h3 : t.mem.lanes = s.mem.lanes) (h4 : t.mem.era = s.mem.era)
    (h5 : t.mem.remote = s.mem.remote) : s.SamePlaces t where
  boot := hb
  member := State.fld_congr (hr _ (.inl rfl))
  valid m := by rw [State.flag, State.flag, State.fld_congr (hr _ (placeWord_valid m))]
  fenced key := by
    unfold State.chanFenced
    split
    · next hk => rw [State.fld_congr (hr _ (placeWord_stackLive hk))]
    · rw [State.fld_congr (hr _ (placeWord_rimLive _))]
  tripped := h1
  banks := h2
  lanes := h3
  era := h4
  remote := h5

/-! A log entry where nothing is mirrored leaves memory. -/

section
variable {s : State} (hs : FMap.sorted s.regs = true) (hm : s.flag R.ERL_CTL_MIRROR_EN = false)
include hs hm

omit hs in
theorem State.logMirrored_mem (code unit sev epoch addr detail : Nat) : (s.logMirrored code unit sev epoch addr detail).mem = s.mem :=
  (congrArg State.mem (State.logMirrored_logged s code unit sev epoch addr detail hm)).trans rfl

omit hm in
theorem State.logMirrored_plain (code unit sev epoch addr detail : Nat) : s.Aside PlainWord (s.logMirrored code unit sev epoch addr detail) :=
  { State.logMirrored_aside hs code unit sev epoch addr detail with
    regs := fun o ho => (State.logMirrored_keptBut hs code unit sev epoch addr detail).regs o fun hw => ho (plainWord_of_logWord s.head_lt hw) }

omit hm in
theorem State.logInterrupt_plain (sev : Nat) : s.Aside PlainWord (s.logInterrupt sev) :=
  { State.logInterrupt_aside hs sev with regs := fun o ho => (State.logInterrupt_keptBut hs sev).regs o fun hw => ho (plainWord_of_logWord s.head_lt hw) }

theorem State.interruptOnce_mem (src v : Nat) : (s.interruptOnce src v).1.mem = s.mem := by
  have hmem : (s.interruptRaw src v).1.mem = s.mem := (congrArg State.mem (State.interruptRaw_logged s src v)).trans rfl
  have hplain := (State.interruptRaw_aside hs src v).mono fun _ => plainWord_of_forwardWord
  unfold State.interruptOnce
  generalize s.interruptRaw src v = z at hmem hplain
  obtain ⟨z, dropped⟩ := z
  cases dropped
  · exact hmem
  · exact (State.logMirrored_mem (hplain.mirror.trans hm) ..).trans hmem

theorem State.logInterrupt_mem (sev : Nat) : (s.logInterrupt sev).mem = s.mem := by
  unfold State.logInterrupt
  split
  · exact State.interruptOnce_mem hs hm ..
  · rfl

theorem State.logFull_calm (code unit sev epoch addr detail : Nat) :
    s.Aside PlainWord (s.logFull code unit sev epoch addr detail) ∧ (s.logFull code unit sev epoch addr detail).mem = s.mem := by
  have h := State.logMirrored_plain hs code unit sev epoch addr detail
  exact ⟨h.trans (State.logInterrupt_plain h.sorted sev), (State.logInterrupt_mem h.sorted (h.mirror.trans hm) sev).trans (State.logMirrored_mem hm ..)⟩

theorem State.logAt_calm (code unit epoch addr detail : Nat) :
    s.Aside PlainWord (s.logAt code unit epoch addr detail) ∧ (s.logAt code unit epoch addr detail).mem = s.mem := by
  unfold State.logAt
  split
  · split
    · dsimp only
      split
      · exact ⟨(State.Aside.refl hs).setFld R.ERL_ENTRY_WORD _ _ (plainWord_entry (Nat.mod_lt _ (by decide)) (by decide)), State.setFld_mem ..⟩
      · exact State.logFull_calm hs hm ..
    · exact ⟨.refl hs, rfl⟩
  · exact State.logFull_calm hs hm ..

theorem State.log_calm (code unit addr detail : Nat) : s.Aside PlainWord (s.log code unit addr detail) ∧ (s.log code unit addr detail).mem = s.mem :=
  State.logAt_calm hs hm ..

end

end Sys2Proof.Machine
end

section
/-! SUPPORT. Calm memory, and the bytes that reads and writes spare (R258, R270, R287, R288). -/

namespace Sys2Proof.Machine
open Sys2Proof

/-- Memory is calm: the log is not mirrored, no stored errors, travel checks, injection or L3 copies, no fencing by count, and the slices agree with the tiers. -/
structure State.Calm (s : State) : Prop where
  sorted : FMap.sorted s.regs = true
  marks : FMap.sorted s.mem.poison = true
  plain : s.mem.Plain
  mirror : s.flag R.ERL_CTL_MIRROR_EN = false
  fence : s.fld R.ERL_THRESH_UE_FENCE = 0
  agree : Claims.SlicesAgree s

theorem State.calm_of_clean {s : State} (h : s.canon = true) (hc : Claims.Clean s) : s.Calm := by
  have hm := State.canon_mem h
  unfold Mem.wf at hm
  have hplain := Mem.plain_of_clean hc
  obtain ⟨hmirror, -, -, -, -, hfence, -, hag⟩ := hc
  exact ⟨State.canon_regs h, (Bool.and_eq_true_iff.1 hm).2, hplain, hmirror, hfence, hag⟩

/-- A line's home gives what its bytes, marks, stored errors and travel check say. -/
theorem State.homeView_congr {s t : State} (h : s.SamePlaces t) {b : Nat} (hw : t.mem.written b = s.mem.written b) (hb : t.mem.bytesAt b 64 = s.mem.bytesAt b 64)
    (hp : ∀ i < 8, t.mem.wordPoison (b / 8 + i) = s.mem.wordPoison (b / 8 + i)) (he : t.mem.errs = s.mem.errs) (hc : t.mem.checks = s.mem.checks) :
    t.homeView b = s.homeView b := by
  have hchip : t.mem.chipView b = s.mem.chipView b := by
    have hfold : (List.range 8).foldl (fun p i => p + b2n (t.mem.wordPoison (b / 8 + i)) * 2 ^ i) 0 =
        (List.range 8).foldl (fun p i => p + b2n (s.mem.wordPoison (b / 8 + i)) * 2 ^ i) 0 :=
      List.foldl_ext _ _ _ fun p i hi => by rw [hp i (List.mem_range.1 hi)]
    unfold Mem.chipView
    rw [hfold, hb, hc]
  unfold State.homeView
  rw [h.spot, hchip, hb]
  split
  · rfl
  · next sp _ => rw [h.spotShut, State.tierView_congr h hw hb (hp 0 (by decide)) he]

/-- Memory stays calm, every address lies where it lay, and every byte reads as before but those at the places that satisfy `P`. -/
structure State.Spares (P : Nat → Prop) (s t : State) : Prop where
  calm : t.Calm
  places : s.SamePlaces t
  bytes : ∀ b, b % 64 = 0 → ∀ i < 64, ¬ P (b + i) → (t.homeView b).data.getD i 0 = (s.homeView b).data.getD i 0

theorem State.SamePlaces.refl (s : State) : s.SamePlaces s := ⟨rfl, rfl, fun _ => rfl, fun _ => rfl, rfl, rfl, rfl, rfl, rfl⟩

theorem State.SamePlaces.trans {s t u : State} (h : s.SamePlaces t) (g : t.SamePlaces u) : s.SamePlaces u :=
  ⟨g.boot.trans h.boot, g.member.trans h.member, fun m => (g.valid m).trans (h.valid m), fun k => (g.fenced k).trans (h.fenced k), g.tripped.trans h.tripped,
    g.banks.trans h.banks, g.lanes.trans h.lanes, g.era.trans h.era, g.remote.trans h.remote⟩

namespace State.Spares
variable {P : Nat → Prop} {s t u : State}

theorem refl (hs : s.Calm) : s.Spares P s := ⟨hs, .refl s, fun _ _ _ _ _ => rfl⟩

theorem trans (h : s.Spares P t) (g : t.Spares P u) : s.Spares P u :=
  ⟨g.calm, h.places.trans g.places, fun b hb i hi hp => (g.bytes b hb i hi hp).trans (h.bytes b hb i hi hp)⟩

theorem ite {p : Prop} [Decidable p] (h : p → s.Spares P t) (g : ¬ p → s.Spares P u) : s.Spares P (if p then t else u) := by
  split
  · exact h ‹_›
  · exact g ‹_›

theorem foldl {α : Type} {f : State → α → State} {l : List α} (hf : ∀ u, s.SamePlaces u → u.Calm → ∀ a ∈ l, u.Spares P (f u a)) (h : s.Spares P t) :
    s.Spares P (l.foldl f t) := by
  induction l generalizing t with
  | nil => exact h
  | cons a l ih => exact ih (fun u hp hu b hb => hf u hp hu b (List.mem_cons_of_mem _ hb)) (h.trans (hf t h.places h.calm a List.mem_cons_self))

end State.Spares

/-- Words and times that say nothing of places have changed. -/
theorem State.Calm.kept {s t : State} (h : s.Calm) {P : Nat → Prop} (hs : FMap.sorted t.regs = true) (hr : ∀ o, PlaceWord o → FMap.find? o t.regs = FMap.find? o s.regs)
    (hb : t.boot = s.boot) (hm : t.mem = { s.mem with ueTimes := t.mem.ueTimes }) : s.Spares P t := by
  have hpl : s.SamePlaces t := State.samePlaces_of_words hr hb (by rw [hm]) (by rw [hm]) (by rw [hm]) (by rw [hm]) (by rw [hm])
  have hview : ∀ b, t.homeView b = s.homeView b := fun b =>
    State.homeView_congr hpl (by rw [hm]; rfl) (by rw [hm]; rfl) (fun i _ => by rw [hm]; rfl) (by rw [hm]) (by rw [hm])
  obtain ⟨-, hmarks, ⟨hl3, herr, hchk, hinj⟩, hmir, hfence, hag⟩ := h
  refine ⟨⟨hs, by rw [hm]; exact hmarks, ⟨by rw [hm]; exact hl3, by rw [hm]; exact herr, by rw [hm]; exact hchk, by rw [hm]; exact hinj⟩, ?_, ?_, ?_⟩, hpl,
    fun b _ i _ _ => by rw [hview]⟩
  · rw [State.flag, State.fld_congr (hr _ placeWord_mirror), ← State.flag, hmir]
  · rw [State.fld_congr (hr _ placeWord_fence), hfence]
  · refine ⟨by rw [hm]; exact hag.1, fun k d p hf => ?_⟩
    obtain ⟨sp, hsp, hv⟩ := hag.2 k d p (by rw [hm] at hf; exact hf)
    exact ⟨sp, (hpl.spot _).trans hsp, (State.tierView_congr hpl (by rw [hm]; rfl) (by rw [hm]; rfl) (by rw [hm]; rfl) (by rw [hm]) sp).trans hv⟩

theorem State.Calm.aside {s t : State} (h : s.Calm) {P : Nat → Prop} (ha : s.Aside PlainWord t) (hm : t.mem = s.mem) : s.Spares P t :=
  h.kept ha.sorted (fun o ho => ha.regs o fun hp => hp ho) ha.boot (by rw [hm])

theorem State.Calm.log {s : State} (h : s.Calm) {P : Nat → Prop} (code unit addr detail : Nat) : s.Spares P (s.log code unit addr detail) :=
  have hl := State.log_calm h.sorted h.mirror code unit addr detail
  h.aside hl.1 hl.2

theorem State.Calm.logAt {s : State} (h : s.Calm) {P : Nat → Prop} (code unit epoch addr detail : Nat) : s.Spares P (s.logAt code unit epoch addr detail) :=
  have hl := State.logAt_calm h.sorted h.mirror code unit epoch addr detail
  h.aside hl.1 hl.2

theorem State.Calm.setFld {s : State} (h : s.Calm) {P : Nat → Prop} (f : Fld) (v : Nat) (ix : List Nat) (hf : PlainWord (f.at ix)) : s.Spares P (s.setFld f v ix) :=
  h.aside ((State.Aside.refl h.sorted).setFld f v ix hf) (State.setFld_mem ..)

theorem State.Calm.bumpSat {s : State} (h : s.Calm) {P : Nat → Prop} (f : Fld) (ix : List Nat) (d : Nat) (hf : PlainWord (f.at ix)) :
    s.Spares P (s.bumpSat f ix d) := h.setFld f _ ix hf

theorem State.Calm.free {s : State} (h : s.Calm) {P : Nat → Prop} : s.Spares P s.free.2 := h.aside (State.Aside.refl h.sorted).free (State.free_mem s)

theorem State.Calm.tierAccess {s : State} (h : s.Calm) {P : Nat → Prop} (sp : Spot) : s.Spares P (s.tierAccess sp) :=
  h.aside ((State.tierAccess_aside h.sorted sp).mono fun _ ht => plainWord_of_countWord (countWord_of_trafficWord ht)) (s.tierAccess_mem sp).1

/-- Reads spare every byte. -/
theorem State.Calm.fetched {s t : State} (h : s.Calm) {P : Nat → Prop} (hf : s.Fetched t) : s.Spares P t := by
  have hm := hf.mem
  have ha := hf.aside.mono fun _ => plainWord_of_countWord
  have hview : ∀ b, t.homeView b = s.homeView b := fun b =>
    State.homeView_congr hf.samePlaces (by rw [hm]; rfl) (by rw [hm]; rfl) (fun i _ => by rw [hm]; rfl) (by rw [hm]) (by rw [hm])
  obtain ⟨-, hmarks, ⟨hl3, herr, hchk, hinj⟩, hmir, hfence, -⟩ := h
  exact ⟨⟨ha.sorted, by rw [hm]; exact hmarks, ⟨by rw [hm]; exact hl3, by rw [hm]; exact herr, by rw [hm]; exact hchk, by rw [hm]; exact hinj⟩, ha.mirror.trans hmir,
    (ha.placeFld _ _ placeWord_fence).trans hfence, hf.agree⟩, hf.samePlaces, fun b _ i _ _ => by rw [hview]⟩

/-! Reads. -/

theorem State.recall_calm {s : State} (h : s.Calm) (a : Nat) (inv : Bool) : s.recall a inv = s := by
  unfold State.recall
  rw [h.plain.l3]
  rfl

theorem State.noteChip_spares {s : State} (h : s.Calm) {P : Nat → Prop} (a : Nat) (v : LineView) : s.Spares P (s.noteChip a v) := by
  unfold State.noteChip
  refine .ite (fun _ => ?_) fun _ => .refl h
  have hb := h.bumpSat (P := P) R.ERL_COUNTS_UE [] 1 (plainWord_iff.2 (by decide))
  exact hb.trans (hb.calm.log _ _ _ _)

/-- What a tier without stored errors gives. -/
theorem State.tierView_outcome {s : State} (h : s.mem.errs = []) (sp : Spot) (a : Nat) :
    s.tierView sp a = ⟨0, (s.tierView sp a).data, (s.tierView sp a).poison, []⟩ ∨ (s.tierView sp a).outcome = 2 ∨ (s.tierView sp a).outcome = 3 := by
  unfold State.tierView
  rw [h]
  dsimp only [FMap.getD, FMap.find?]
  split
  · exact .inl rfl
  · split
    · exact .inr (.inl rfl)
    · exact .inr (.inr rfl)
    · exact .inl rfl

theorem State.countUe_spares {s : State} (h : s.Calm) {P : Nat → Prop} (key src : Nat) : s.Spares P (s.countUe key src) := by
  unfold State.countUe
  refine .ite (fun _ => ?_) fun _ => .refl h
  extract_lets th ts u
  have hth : th = 0 := h.fence
  rw [if_neg fun hn => hn.1 hth]
  exact h.kept h.sorted (fun _ _ => rfl) rfl rfl

/-- A read that misses its slice counts as a miss and as traffic. -/
def State.missed (s : State) (sp : Spot) : State := (s.tierAccess sp).bumpSat R.SCA_STAT_MISSES [homeDie sp, homeSlice sp]

theorem State.missed_spares {s : State} (h : s.Calm) {P : Nat → Prop} {a : Nat} {sp : Spot} (hsp : s.spot a = some sp) :
    s.Spares P (s.missed sp) ∧ (s.missed sp).mem = s.mem :=
  ⟨(h.tierAccess sp).trans ((h.tierAccess (P := P) sp).calm.bumpSat _ _ _ (plainWord_of_countWord (State.countWord_of_spot hsp rfl rfl))),
    (State.bumpSat_mem ..).trans (s.tierAccess_mem sp).1⟩

theorem State.noteRead_good {s : State} {a : Nat} {sp : Spot} (hsp : s.spot a = some sp) {v : LineView} (hv : v.outcome = 0) (src : Nat) :
    s.noteRead a v src = s.missed sp := by
  unfold State.noteRead State.missed
  simp only [hsp, hv]

theorem State.noteRead_spares {s : State} (h : s.Calm) {P : Nat → Prop} {a : Nat} {sp : Spot} (hsp : s.spot a = some sp) (src : Nat) :
    s.Spares P (s.noteRead a (s.tierView sp a) src) := by
  have hu := (State.missed_spares h (P := P) hsp).1
  have hue : s.Spares P ((s.missed sp).bumpSat R.ERL_COUNTS_UE) := hu.trans (hu.calm.bumpSat _ _ _ (plainWord_iff.2 (by decide)))
  have hlog : ∀ code k d, s.Spares P (((s.missed sp).bumpSat R.ERL_COUNTS_UE).log code k a d) := fun code k d => hue.trans (hue.calm.log _ _ _ _)
  have hout := State.tierView_outcome h.plain.errs sp a
  generalize s.tierView sp a = v at hout
  obtain ho | ho | ho := hout
  · rw [State.noteRead_good hsp (congrArg LineView.outcome ho)]
    exact hu
  · unfold State.noteRead
    simp only [hsp, ho]
    rw [← State.missed]
    generalize s.missed sp = u at hlog ⊢
    exact (hlog _ _ _).trans (State.countUe_spares (hlog _ _ _).calm _ _)
  · unfold State.noteRead
    simp only [hsp, ho]
    rw [← State.missed]
    generalize s.missed sp = u at hlog ⊢
    exact hlog _ _ _

/-- A line that lies here is read as its home gives it. -/
theorem State.lineView_local {s : State} (h : s.Calm) {a : Nat} (ha : a % 64 = 0) (hfar : s.farLine a = false) : s.lineView a = s.homeView (s.localAddr a) := by
  rw [State.lineView_eq h.plain.l3 h.plain.checks h.agree ha, hfar, if_neg Bool.false_ne_true]

theorem State.farLine_of_spot {s : State} {a : Nat} {sp : Spot} (h : s.spot a = some sp) : s.farLine a = false := by
  obtain ⟨o, h⟩ | ⟨o, h⟩ := State.region_of_spot h <;> exact State.farLine_near (by simp [h]) (by simp [h])

/-- A read delivers the line as it stands, and spares every byte. -/
theorem State.readLine_spares {s : State} (h : s.Calm) {P : Nat → Prop} {a : Nat} (ha : a % 64 = 0) (src : Nat) :
    (s.readLine a src).1 = s.lineView (s.localAddr a) ∧ s.Spares P (s.readLine a src).2 := by
  have hmod : s.localAddr a % 64 = 0 := by rw [s.localAddr_mod, ha]
  have hloc := s.localAddr_localAddr a
  unfold State.readLine
  dsimp only
  rw [State.recall_calm h]
  generalize s.localAddr a = b at hmod hloc
  cases hsp : s.spot b with
  | none => exact ⟨rfl, State.noteChip_spares h _ _⟩
  | some sp =>
    dsimp only
    by_cases hshut : s.spotShut sp = true
    · rw [if_pos hshut]
      exact ⟨rfl, .refl h⟩
    · rw [if_neg hshut]
      split
      · have hb := h.bumpSat (P := P) R.SCA_STAT_HITS _ 1 (plainWord_of_countWord (State.countWord_of_spot hsp rfl rfl))
        exact ⟨rfl, hb.trans (State.noteChip_spares hb.calm _ _)⟩
      · have hview : s.lineView b = s.tierView sp b := by
          rw [State.lineView_local h hmod (State.farLine_of_spot hsp), hloc, State.homeView, hsp]
          exact if_neg hshut
        have hn := State.noteRead_spares h (P := P) hsp src
        have hout := State.tierView_outcome h.plain.errs sp b
        rw [hview]
        refine ⟨rfl, .ite (fun hle => ?_) fun _ => hn⟩
        obtain ho | ho | ho := hout
        · obtain ⟨hm, hmem⟩ := State.missed_spares h (P := P) hsp
          rw [State.noteRead_good hsp (congrArg LineView.outcome ho)]
          have hag := hm.calm.agree
          have htier : (s.missed sp).tierView sp b = s.tierView sp b :=
            State.tierView_congr hm.places (by rw [hmem]) (by rw [hmem]) (by rw [hmem]) (by rw [hmem]) sp
          exact hm.trans (hm.calm.fetched ((State.Fetched.refl hm.calm.sorted hag).keepLine hm.calm.plain.checks hmod ((hm.places.spot b).trans hsp) (htier.trans ho)))
        · omega
        · omega

end Sys2Proof.Machine
end

section
/-! SUPPORT. Bytes written to lines of this device: every other byte reads as before (R269, R288, R295, R552). -/

namespace Sys2Proof.Machine
open Sys2Proof

/-! Marks of words, and a line's words put in place. -/

/-- Marks set or cleared leave every other word's. -/
theorem Mem.mark_fold {m : Mem} (hm : FMap.sorted m.poison = true) (w0 : Nat) (f : Nat → Bool) (l : List Nat) :
    ∃ p, l.foldl (fun m i => m.mark (w0 + i) (f i)) m = { m with poison := p } ∧ FMap.sorted p = true ∧
      ∀ w, (∀ i ∈ l, w ≠ w0 + i) → FMap.find? w p = FMap.find? w m.poison := by
  induction l generalizing m with
  | nil => exact ⟨m.poison, rfl, hm, fun _ _ => rfl⟩
  | cons k l ih =>
    have hk : FMap.sorted (m.mark (w0 + k) (f k)).poison = true ∧
        ∀ w, w ≠ w0 + k → FMap.find? w (m.mark (w0 + k) (f k)).poison = FMap.find? w m.poison := by
      unfold Mem.mark
      cases f k
      · exact ⟨FMap.sorted_del _ hm, fun w hw => FMap.find?_del_ne hw hm⟩
      · exact ⟨FMap.sorted_put _ _ hm, fun w hw => FMap.find?_put_ne hw _ _⟩
    obtain ⟨p, hp, hs, hf⟩ := ih hk.1
    exact ⟨p, hp, hs, fun w hw => (hf w fun i hi => hw i (List.mem_cons_of_mem _ hi)).trans (hk.2 w (hw k List.mem_cons_self))⟩

/-- Of memory, only bytes and marks of the line at `b` differ, and a byte of it that differs is that of the line `new`. -/
structure Mem.LinePatched (b : Nat) (new : List Byte) (m m' : Mem) : Prop where
  frame : m' = { m with cells := m'.cells, poison := m'.poison }
  marks : FMap.sorted m'.poison = true
  poison : ∀ w, w < b / 8 ∨ b / 8 + 8 ≤ w → FMap.find? w m'.poison = FMap.find? w m.poison
  cells : ∀ x, x < b ∨ b + 64 ≤ x → FMap.find? x m'.cells = FMap.find? x m.cells
  bytes : ∀ i < 64, m'.byteAt (b + i) = m.byteAt (b + i) ∨ m'.byteAt (b + i) = new.getD i 0

theorem Mem.LinePatched.trans {b : Nat} {new : List Byte} {m m' m'' : Mem} (h : Mem.LinePatched b new m m') (g : Mem.LinePatched b new m' m'') :
    Mem.LinePatched b new m m'' where
  frame := g.frame.trans (by rw [h.frame])
  marks := g.marks
  poison w hw := (g.poison w hw).trans (h.poison w hw)
  cells x hx := (g.cells x hx).trans (h.cells x hx)
  bytes i hi := (g.bytes i hi).elim (fun he => he ▸ h.bytes i hi) .inr

/-- A word of the line put in place. -/
theorem Mem.linePatched_word {m : Mem} (hm : FMap.sorted m.poison = true) {b i : Nat} (hi : i < 8) (new : List Byte) (q : Bool) :
    Mem.LinePatched b new m ((m.putBytes (b + 8 * i) ((new.drop (8 * i)).take 8)).mark (b / 8 + i) q) := by
  have hlen : ((new.drop (8 * i)).take 8).length ≤ 8 := by simp
  have hframe := Mem.putBytes_frame ((new.drop (8 * i)).take 8) m (b + 8 * i)
  have hpois : (m.putBytes (b + 8 * i) ((new.drop (8 * i)).take 8)).poison = m.poison := by rw [hframe]
  obtain ⟨p, hmark, hp, hf⟩ := Mem.mark_fold (m := m.putBytes (b + 8 * i) ((new.drop (8 * i)).take 8)) (by rw [hpois]; exact hm) (b / 8) (fun _ => q) [i]
  rw [List.foldl_cons, List.foldl_nil] at hmark
  rw [hmark]
  refine ⟨by rw [hframe], hp, fun w hw => ?_, fun x hx => ?_, fun j hj => ?_⟩
  · refine (hf w fun k hk => ?_).trans (by rw [hpois])
    rw [List.mem_singleton.1 hk]
    omega
  · show FMap.find? x (m.putBytes (b + 8 * i) ((new.drop (8 * i)).take 8)).cells = _
    rw [Mem.find?_putBytes, if_neg (by omega)]
  · show (m.putBytes (b + 8 * i) ((new.drop (8 * i)).take 8)).byteAt (b + j) = _ ∨ (m.putBytes (b + 8 * i) ((new.drop (8 * i)).take 8)).byteAt (b + j) = _
    rw [Mem.byteAt_putBytes]
    split
    · next hin =>
      right
      have hlt : j - 8 * i < ((new.drop (8 * i)).take 8).length := by omega
      have hj : b + j - (b + 8 * i) = j - 8 * i := by omega
      rw [hj, List.getD_eq_getElem _ _ hlt, List.getElem_take, List.getElem_drop, List.getD_eq_getElem _ _ (by simp at hlt; omega)]
      congr 1
      omega
    · exact .inl rfl

theorem Mem.linePatched_words {m : Mem} (hm : FMap.sorted m.poison = true) {b : Nat} (new : List Byte) (q : Nat → Bool) {l : List Nat} (hl : ∀ i ∈ l, i < 8) :
    Mem.LinePatched b new m (l.foldl (fun m i => (m.putBytes (b + 8 * i) ((new.drop (8 * i)).take 8)).mark (b / 8 + i) (q i)) m) := by
  induction l generalizing m with
  | nil => exact ⟨rfl, hm, fun _ _ => rfl, fun _ _ => rfl, fun _ _ => .inl rfl⟩
  | cons k l ih =>
    have h1 := Mem.linePatched_word hm (b := b) (hl k List.mem_cons_self) new (q k)
    exact h1.trans (ih h1.marks fun i hi => hl i (List.mem_cons_of_mem _ hi))

/-! A line that changes. -/

/-- What the home of a line gives lies in memory: on chip, or in a tier in reach that has been written. -/
def State.Shown (s : State) (b : Nat) (m : Mem) : Prop := ∀ sp, s.spot b = some sp → s.spotShut sp = false ∧ m.written b = true

theorem State.homeView_shown {s : State} (h : s.Calm) {b : Nat} (hb : s.Shown b s.mem) : (s.homeView b).data = s.mem.bytesAt b 64 := by
  unfold State.homeView
  split
  · unfold Mem.chipView
    rw [h.plain.checks]
    rfl
  · next sp hsp =>
    obtain ⟨hshut, hw⟩ := hb sp hsp
    rw [hshut, if_neg Bool.false_ne_true, State.tierView, if_pos hw, h.plain.errs]
    rfl

/-- Bytes and marks of one line have changed, and no slice holds a copy of it. -/
theorem State.Calm.lineSet {s t : State} (h : s.Calm) {P : Nat → Prop} {b : Nat} (hb : b % 64 = 0) (hs : FMap.sorted t.regs = true)
    (hr : ∀ o, PlaceWord o → FMap.find? o t.regs = FMap.find? o s.regs) (hboot : t.boot = s.boot)
    (hm : t.mem = { s.mem with cells := t.mem.cells, poison := t.mem.poison, reserved := t.mem.reserved, slices := t.mem.slices })
    (hmarks : FMap.sorted t.mem.poison = true) (hpois : ∀ w, w < b / 8 ∨ b / 8 + 8 ≤ w → FMap.find? w t.mem.poison = FMap.find? w s.mem.poison)
    (hcells : ∀ x, x < b ∨ b + 64 ≤ x → FMap.find? x t.mem.cells = FMap.find? x s.mem.cells) (hsorted : FMap.sorted t.mem.slices = true)
    (hcopy : ∀ k e, FMap.find? k t.mem.slices = some e → FMap.find? k s.mem.slices = some e ∧ k ≠ b / 64)
    (hshown : s.Shown b t.mem) (hbytes : ∀ i < 64, ¬ P (b + i) → t.mem.byteAt (b + i) = (s.homeView b).data.getD i 0) : s.Spares P t := by
  have hpl : s.SamePlaces t := State.samePlaces_of_words hr hboot (by rw [hm]) (by rw [hm]) (by rw [hm]) (by rw [hm]) (by rw [hm])
  obtain ⟨-, -, ⟨hl3, herr, hchk, hinj⟩, hmir, hfence, hag⟩ := h
  have herr' : t.mem.errs = s.mem.errs := by rw [hm]
  have hchk' : t.mem.checks = s.mem.checks := by rw [hm]
  have hline : ∀ c, c % 64 = 0 → c ≠ b → t.mem.written c = s.mem.written c ∧ t.mem.bytesAt c 64 = s.mem.bytesAt c 64 ∧
      ∀ i < 8, t.mem.wordPoison (c / 8 + i) = s.mem.wordPoison (c / 8 + i) := fun c hc hne => by
    have hx : ∀ i < 64, FMap.find? (c + i) t.mem.cells = FMap.find? (c + i) s.mem.cells := fun i hi => hcells _ (by omega)
    refine ⟨?_, ?_, fun i hi => ?_⟩
    · rw [Mem.written, Mem.written, show c = c + 0 from rfl, hx 0 (by decide)]
    · unfold Mem.bytesAt Mem.byteAt FMap.getD
      exact List.map_congr_left fun i hi => by rw [hx i (List.mem_range.1 hi)]
    · unfold Mem.wordPoison Mem.written
      rw [hpois _ (by omega), show 8 * (c / 8 + i) = c + 8 * i by omega, hx _ (by omega)]
  have hcalm : t.Calm := by
    refine ⟨hs, hmarks, ⟨by rw [hm]; exact hl3, herr'.trans herr, hchk'.trans hchk, by rw [hm]; exact hinj⟩, ?_, ?_, hsorted, fun k d p hk => ?_⟩
    · rw [State.flag, State.fld_congr (hr _ placeWord_mirror), ← State.flag, hmir]
    · rw [State.fld_congr (hr _ placeWord_fence), hfence]
    · obtain ⟨hks, hne⟩ := hcopy k _ hk
      obtain ⟨sp, hsp, hv⟩ := hag.2 k d p hks
      obtain ⟨hw, hby, hpo⟩ := hline (64 * k) (by omega) (by omega)
      exact ⟨sp, (hpl.spot _).trans hsp, (State.tierView_congr hpl hw hby (hpo 0 (by decide)) herr' sp).trans hv⟩
  refine ⟨hcalm, hpl, fun c hc i hi hp => ?_⟩
  by_cases he : c = b
  · subst he
    have hsh : t.Shown c t.mem := fun sp hsp => by
      obtain ⟨h1, h2⟩ := hshown sp ((hpl.spot c).symm.trans hsp)
      exact ⟨(hpl.spotShut sp).trans h1, h2⟩
    rw [State.homeView_shown hcalm hsh, ← hbytes i hi hp]
    simp [Mem.bytesAt, hi]
  · obtain ⟨hw, hby, hpo⟩ := hline c hc he
    rw [State.homeView_congr hpl hw hby hpo herr' hchk']

end Sys2Proof.Machine
end

section
/-! SUPPORT. Writes of lines, of parts of lines and of ranges, in calm memory (R269, R288, R295, R552). -/

namespace Sys2Proof.Machine
open Sys2Proof

theorem getD_padTo {n i : Nat} (h : i < n) (l : List Byte) : (padTo n l).getD i 0 = l.getD i 0 := by
  simp only [padTo, List.getD_eq_getElem?_getD, List.getElem?_take, if_pos h]
  by_cases hi : i < l.length
  · rw [List.getElem?_append_left hi]
  · rw [List.getElem?_append_right (Nat.le_of_not_lt hi), List.getElem?_eq_none (l := l) (Nat.le_of_not_lt hi)]
    simp only [zeros, List.getElem?_replicate]
    split <;> rfl

theorem State.homeView_length {s : State} (h : s.Calm) (b : Nat) : (s.homeView b).data.length = 64 := by
  have hbytes : (s.mem.bytesAt b 64).length = 64 := by simp [Mem.bytesAt]
  unfold State.homeView
  split
  · unfold Mem.chipView
    dsimp only
    split <;> exact hbytes
  · split
    · exact hbytes
    · unfold State.tierView
      rw [h.plain.errs]
      dsimp only [FMap.getD, FMap.find?]
      split
      · exact hbytes
      · split <;> simp

theorem FMap.del_copy {α : Type} {m : FMap α} (h : FMap.sorted m = true) {j k : Nat} {e : α} (hk : FMap.find? k (FMap.del j m) = some e) :
    FMap.find? k m = some e ∧ k ≠ j := by
  have hne : k ≠ j := fun he => by
    rw [he, FMap.find?_del_self j h] at hk
    cases hk
  exact ⟨(FMap.find?_del_ne hne h).symm.trans hk, hne⟩

/-- A line of the tiers or on chip written at its home. -/
theorem State.storeHome_spares {s : State} (h : s.Calm) {P : Nat → Prop} {b : Nat} (hb : b % 64 = 0) (hlow : b < 0x800000000000) (data : List Byte) (p : Nat)
    (hbytes : ∀ i < 64, ¬ P (b + i) → data.getD i 0 = (s.homeView b).data.getD i 0) : s.Spares P (s.storeHome b data p) := by
  have hput : ∀ i < 64, ¬ P (b + i) → (s.mem.putBytes b (padTo 64 data)).byteAt (b + i) = (s.homeView b).data.getD i 0 := fun i hi hp => by
    rw [Mem.byteAt_putBytes, padTo_length, if_pos (by omega), Nat.add_sub_cancel_left, getD_padTo hi, hbytes i hi hp]
  have hcells : ∀ x, x < b ∨ b + 64 ≤ x → FMap.find? x (s.mem.putBytes b (padTo 64 data)).cells = FMap.find? x s.mem.cells := fun x hx => by
    rw [Mem.find?_putBytes, padTo_length, if_neg (by omega)]
  have hframe := Mem.putBytes_frame (padTo 64 data) s.mem b
  have hpois : ((s.mem.putBytes b (padTo 64 data)).dropReservations b 64).poison = s.mem.poison := by
    rw [Mem.dropReservations, hframe]
  have hmark := fun f : Nat → Bool => Mem.mark_fold (m := (s.mem.putBytes b (padTo 64 data)).dropReservations b 64) (by rw [hpois]; exact h.marks) (b / 8) f (List.range 8)
  have hout : ∀ w, w < b / 8 ∨ b / 8 + 8 ≤ w → ∀ i ∈ List.range 8, w ≠ b / 8 + i := fun w hw i hi => by
    have := List.mem_range.1 hi
    omega
  obtain ⟨hl3, herr, hchk, hinj⟩ := h.plain
  unfold State.storeHome
  dsimp only
  rw [s.localAddr_of_low hlow]
  cases hsp : s.spot b with
  | none =>
    obtain ⟨q, hfold, hq, hf⟩ := hmark fun i => bit p i
    dsimp only
    rw [hfold]
    refine h.lineSet (b := b) hb h.sorted (fun _ _ => rfl) rfl ?_ hq (fun w hw => (hf w (hout w hw)).trans (by rw [hpois])) hcells ?_ ?_ ?_ hput
    · have hdel : FMap.del (b / 64) s.mem.checks = s.mem.checks := (FMap.del_of_nil hchk _).trans hchk.symm
      show ({ s.mem.putBytes b (padTo 64 data) with poison := _, reserved := _, checks := FMap.del (b / 64) (s.mem.putBytes b (padTo 64 data)).checks } : Mem) = _
      rw [hframe, hdel]
      rfl
    · show FMap.sorted (s.mem.putBytes b (padTo 64 data)).slices = true
      rw [hframe]
      exact h.agree.1
    · intro k e hk
      have hk : FMap.find? k (s.mem.putBytes b (padTo 64 data)).slices = some e := hk
      rw [hframe] at hk
      refine ⟨hk, fun he => ?_⟩
      obtain ⟨sp, hs, -⟩ := h.agree.2 k e.1 e.2 hk
      rw [show 64 * k = b by omega, hsp] at hs
      cases hs
    · intro sp hs
      rw [hsp] at hs
      cases hs
  | some sp =>
    dsimp only
    by_cases hshut : s.spotShut sp = true
    · rw [if_pos hshut]
      exact .refl h
    · rw [if_neg hshut]
      have hta := (State.tierAccess_aside h.sorted sp).mono fun _ ht => plainWord_of_countWord (countWord_of_trafficWord ht)
      have htm := (s.tierAccess_mem sp).1
      generalize s.tierAccess sp = u at hta htm
      have hnone : u.injected (b / 64) = ([], u) := by
        unfold State.injected
        rw [htm, hinj]
      obtain ⟨q, hfold, hq, hf⟩ := hmark fun _ => p % 256 != 0
      rw [hnone, htm]
      dsimp only
      rw [hfold]
      refine h.lineSet (b := b) hb hta.sorted (fun o ho => hta.regs o fun hp => hp ho) hta.boot ?_ hq (fun w hw => (hf w (hout w hw)).trans (by rw [hpois])) hcells ?_ ?_ ?_ hput
      · have kept : ∀ {α : Type} {m : FMap α}, m = [] → FMap.del (b / 64) m = m := fun h => (FMap.del_of_nil h _).trans h.symm
        show ({ s.mem.putBytes b (padTo 64 data) with
          poison := _, reserved := _, errs := FMap.setD (s.mem.putBytes b (padTo 64 data)).errs (b / 64) [] []
          l3 := FMap.del (b / 64) (s.mem.putBytes b (padTo 64 data)).l3, slices := _
          checks := FMap.del (b / 64) (s.mem.putBytes b (padTo 64 data)).checks } : Mem) = _
        rw [hframe, FMap.setD, if_pos rfl, kept herr, kept hl3, kept hchk]
        rfl
      · show FMap.sorted (FMap.del (b / 64) (s.mem.putBytes b (padTo 64 data)).slices) = true
        rw [hframe]
        exact FMap.sorted_del _ h.agree.1
      · intro k e hk
        have hk : FMap.find? k (FMap.del (b / 64) (s.mem.putBytes b (padTo 64 data)).slices) = some e := hk
        rw [hframe] at hk
        exact FMap.del_copy h.agree.1 hk
      · intro sp' hs
        rw [hsp] at hs
        cases hs
        refine ⟨by simpa using hshut, ?_⟩
        show (s.mem.putBytes b (padTo 64 data)).written b = true
        rw [Mem.written_putBytes, padTo_length, decide_eq_true (by omega), Bool.true_or]

/-- A line that a write covers whole. -/
theorem State.writeLine_spares {s : State} (h : s.Calm) {P : Nat → Prop} {b : Nat} (hb : b % 64 = 0) (hlow : b < 0x800000000000) (hP : ∀ i < 64, P (b + i))
    (data : List Byte) (p : Nat) : s.Spares P (s.writeLine b data p) := by
  unfold State.writeLine
  dsimp only
  rw [s.localAddr_of_low hlow, State.recall_calm h]
  have store : ∀ u, s.Spares P u → s.Spares P (u.storeHome b data p) := fun u hu =>
    hu.trans (State.storeHome_spares hu.calm hb hlow data p fun i hi hn => absurd (hP i hi) hn)
  refine store _ ?_
  cases hsp : s.spot b with
  | none => exact .refl h
  | some sp => exact .ite (fun _ => h.bumpSat _ _ _ (plainWord_of_countWord (State.countWord_of_spot hsp rfl rfl))) fun _ => .refl h

theorem State.settleLine_calm {s : State} (h : s.Calm) (b : Nat) : s.settleLine b = s := by
  have hview : (s.mem.chipView b).outcome = 0 := by
    unfold Mem.chipView
    rw [h.plain.checks]
    rfl
  have hdel : FMap.del (b / 64) s.mem.checks = s.mem.checks := (FMap.del_of_nil h.plain.checks _).trans h.plain.checks.symm
  unfold State.settleLine State.noteChip
  dsimp only
  rw [hview, if_neg (by decide), if_neg (by decide), hdel]

theorem getD_splice {old new : List Byte} {off i : Nat} (hold : off ≤ old.length) (h : i < off ∨ off + new.length ≤ i) :
    (splice old off new).getD i 0 = old.getD i 0 := by
  have htake : (old.take off).length = off := by simp [hold]
  unfold splice
  simp only [List.getD_eq_getElem?_getD]
  congr 1
  obtain hi | hi := h
  · rw [List.append_assoc, List.getElem?_append_left (by omega), List.getElem?_take_of_lt hi]
  · rw [List.getElem?_append_right (by simp; omega), List.getElem?_drop]
    congr 1
    simp
    omega

theorem State.regionOf_low {s : State} {a : Nat} (h : a < 0x800000000000) : s.regionOf a = localRegion a := by
  rw [State.regionOf_of_local (by rwa [s.localAddr_of_low h]), s.localAddr_of_low h]

theorem localRegion_pcie_iff {a o : Nat} : localRegion a = .pcie o ↔ 0x400000000000 ≤ a ∧ a < 0x410000000000 ∧ o = a - 0x400000000000 := by
  unfold localRegion
  split_ifs <;> simp <;> omega

theorem localRegion_not_remote (a m o : Nat) : localRegion a ≠ .remote m o := by
  unfold localRegion
  split_ifs <;> simp

/-- A byte of a line that lies here lies neither with another member nor behind the PCIe port. -/
theorem State.near_of_low {s : State} {a : Nat} (hlow : a < 0x800000000000) (hfar : s.farLine (a / 64 * 64) = false) :
    (∀ m o, s.regionOf a ≠ .remote m o) ∧ ∀ o, s.regionOf a ≠ .pcie o := by
  rw [State.regionOf_low hlow]
  refine ⟨localRegion_not_remote a, fun o ho => ?_⟩
  have hp := localRegion_pcie_iff.1 ho
  have hfar' : s.farLine (a / 64 * 64) = true := State.farLine_far (.inr ⟨_, by rw [State.regionOf_low (by omega), localRegion_pcie_iff.2 ⟨by omega, by omega, rfl⟩]⟩)
  rw [hfar] at hfar'
  cases hfar'

/-- A part of a line written. -/
theorem State.storePart_spares {s : State} (h : s.Calm) {P : Nat → Prop} {a : Nat} (hlow : a < 0x800000000000) (hfar : s.farLine (a / 64 * 64) = false) (data : List Byte)
    (p : Bool) (src : Nat) (hP : ∀ i < data.length, P (a + i)) : s.Spares P (s.storePart a data p src) := by
  obtain ⟨hr, hp⟩ := State.near_of_low hlow hfar
  have hbase : a / 64 * 64 % 64 = 0 := by omega
  have hlow' : a / 64 * 64 < 0x800000000000 := by omega
  have hnew : ∀ i < 64, ¬ P (a / 64 * 64 + i) → ∀ v : List Byte, v.length = 64 → (splice v (a % 64) data).getD i 0 = v.getD i 0 := fun i hi hn v hv => by
    refine getD_splice (by omega) ?_
    by_contra hc
    refine hn ?_
    have := hP (a / 64 * 64 + i - a) (by omega)
    rwa [show a + (a / 64 * 64 + i - a) = a / 64 * 64 + i by omega] at this
  unfold State.storePart
  dsimp only
  rw [s.localAddr_of_low hlow]
  split
  · exact .refl h
  · split
    · next m o ho => exact absurd ho (hr m o)
    · next o ho => exact absurd ho (hp o)
    · refine .ite (fun hw => ?_) fun _ => ?_
      · obtain ⟨h0, h64⟩ := hw
        exact State.writeLine_spares h h0 hlow (fun i hi => hP i (by omega)) _ _
      · rw [State.recall_calm h]
        generalize hb : a / 64 * 64 = b at *
        have hloc := s.localAddr_of_low hlow'
        have hview : s.lineView b = s.homeView b := by rw [State.lineView_local h hbase hfar, hloc]
        have hlen := State.homeView_length h b
        cases hsp : s.spot b with
        | some sp =>
          obtain ⟨hv, hu⟩ := State.readLine_spares h (P := fun _ => False) hbase src
          obtain ⟨-, huP⟩ := State.readLine_spares h (P := P) hbase src
          rw [hloc, hview] at hv
          dsimp only
          generalize s.readLine b src = z at hv hu huP
          obtain ⟨v, u⟩ := z
          dsimp only at hv hu huP ⊢
          subst hv
          exact huP.trans (State.storeHome_spares hu.calm hbase hlow' _ _ fun i hi hn =>
            (hnew i hi hn _ hlen).trans (hu.bytes b hbase i hi id).symm)
        | none =>
          dsimp only
          rw [State.settleLine_calm h, hview]
          have hshown : ∀ m, s.Shown b m := fun m sp hs => by
            rw [hsp] at hs
            cases hs
          have hwords := Mem.linePatched_words h.marks (b := b) (splice (s.homeView b).data (a % 64) data)
            (fun i => p || (!(decide (a % 64 ≤ 8 * i) && decide (8 * i + 8 ≤ a % 64 + data.length)) && bit (s.homeView b).poison i))
            (l := (List.range 8).filter fun i => decide (a % 64 < 8 * i + 8) && decide (8 * i < a % 64 + data.length))
            fun i hi => List.mem_range.1 (List.mem_of_mem_filter hi)
          generalize List.foldl _ s.mem _ = m at hwords
          obtain ⟨hframe, hmarks, hpois, hcells, hbytes⟩ := hwords
          refine h.lineSet (b := b) hbase h.sorted (fun _ _ => rfl) rfl ?_ hmarks hpois hcells ?_ ?_ (hshown _) fun i hi hn => ?_
          · show ({ m with reserved := _ } : Mem) = _
            rw [hframe]
            rfl
          · show FMap.sorted m.slices = true
            rw [hframe]
            exact h.agree.1
          · intro k e hk
            have hk : FMap.find? k m.slices = some e := hk
            rw [hframe] at hk
            refine ⟨hk, fun he => ?_⟩
            obtain ⟨sp, hs, -⟩ := h.agree.2 k e.1 e.2 hk
            rw [show 64 * k = b by omega, hsp] at hs
            cases hs
          · have hold : (s.homeView b).data.getD i 0 = s.mem.byteAt (b + i) := by
              rw [State.homeView_shown h (hshown _)]
              simp [Mem.bytesAt, hi]
            show m.byteAt (b + i) = _
            obtain he | he := hbytes i hi
            · rw [he, hold]
            · rw [he, hnew i hi hn _ hlen]

end Sys2Proof.Machine
end

section
/-! SUPPORT. An item's reads and writes while it runs: its lines, its own record, and the bytes at the places it may write (R140, R153 to R156, R161). -/

namespace Sys2Proof.Machine
open Sys2Proof

/-! The lines of byte ranges. -/

theorem rangeLines_mod {rs : List (Nat × Nat)} {a : Nat} (h : a ∈ rangeLines rs) : a % 64 = 0 := by
  unfold rangeLines at h
  obtain ⟨r, -, hr⟩ := List.mem_flatMap.1 (List.mem_eraseDups.1 h)
  split at hr
  · cases hr
  · obtain ⟨i, -, rfl⟩ := List.mem_map.1 hr
    omega

/-- The places of byte ranges. -/
def InRanges (rs : List (Nat × Nat)) (x : Nat) : Prop := ∃ r ∈ rs, r.1 ≤ x ∧ x < r.1 + r.2

theorem rangeLines_of_mem {rs : List (Nat × Nat)} {x : Nat} (h : InRanges rs x) : x / 64 * 64 ∈ rangeLines rs := by
  obtain ⟨r, hr, hlo, hhi⟩ := h
  refine List.mem_eraseDups.2 (List.mem_flatMap.2 ⟨r, hr, ?_⟩)
  rw [if_neg (by omega)]
  exact List.mem_map.2 ⟨x / 64 - r.1 / 64, List.mem_range.2 (by omega), by congr 1; omega⟩

/-- The places that satisfy `P` lie here. -/
def State.Near (s : State) (P : Nat → Prop) : Prop := ∀ x, P x → x < 0x800000000000 ∧ s.farLine (x / 64 * 64) = false

theorem State.near_inRanges {s : State} {rs : List (Nat × Nat)} (h : Claims.AllNear s rs) (hlow : ∀ a ∈ rangeLines rs, a < 0x800000000000) :
    s.Near (InRanges rs) := fun x hx => by
  have hline := rangeLines_of_mem hx
  have := hlow _ hline
  exact ⟨by omega, h _ hline⟩

theorem State.Near.places {s t : State} {P : Nat → Prop} (h : s.Near P) (hp : s.SamePlaces t) : t.Near P := fun x hx =>
  ⟨(h x hx).1, (hp.farLine _).trans (h x hx).2⟩

/-! The item itself. -/

/-- What an item is and how far it is are the same. -/
structure Item.Alike (it it' : Item) : Prop where
  desc : it'.desc = it.desc
  mat : it'.mat = it.mat
  phase : it'.phase = it.phase
  status : it'.status = it.status
  blocks : it'.blocks = it.blocks

theorem Item.Alike.refl (it : Item) : it.Alike it := ⟨rfl, rfl, rfl, rfl, rfl⟩

theorem Item.Alike.trans {a b c : Item} (h : a.Alike b) (g : b.Alike c) : a.Alike c :=
  ⟨g.desc.trans h.desc, g.mat.trans h.mat, g.phase.trans h.phase, g.status.trans h.status, g.blocks.trans h.blocks⟩

/-- A part of an item's work: it writes at the places that satisfy `P` alone, and the item is as far as it was. -/
structure State.Works (P : Nat → Prop) (id : Nat) (s t : State) : Prop where
  spares : s.Spares P t
  item : ∀ it, FMap.find? id s.items = some it → ∃ it', FMap.find? id t.items = some it' ∧ it.Alike it'

namespace State.Works
variable {P : Nat → Prop} {id : Nat} {s t u : State}

theorem of_items (h : s.Spares P t) (hi : t.items = s.items) : s.Works P id t := ⟨h, fun it hit => ⟨it, hi ▸ hit, .refl it⟩⟩

theorem refl (h : s.Calm) : s.Works P id s := of_items (.refl h) rfl

theorem trans (h : s.Works P id t) (g : t.Works P id u) : s.Works P id u := ⟨h.spares.trans g.spares, fun it hit => by
  obtain ⟨it1, h1, ha⟩ := h.item it hit
  obtain ⟨it2, h2, hb⟩ := g.item it1 h1
  exact ⟨it2, h2, ha.trans hb⟩⟩

theorem ite {p : Prop} [Decidable p] (h : p → s.Works P id t) (g : ¬ p → s.Works P id u) : s.Works P id (if p then t else u) := by
  split
  · exact h ‹_›
  · exact g ‹_›

theorem foldl {α : Type} {f : State → α → State} {l : List α} (hf : ∀ u, s.SamePlaces u → u.Calm → ∀ a ∈ l, u.Works P id (f u a)) (h : s.Works P id t) :
    s.Works P id (l.foldl f t) := by
  induction l generalizing t with
  | nil => exact h
  | cons a l ih => exact ih (fun u hp hu b hb => hf u hp hu b (List.mem_cons_of_mem _ hb)) (h.trans (hf t h.spares.places h.spares.calm a List.mem_cons_self))

end State.Works

theorem State.Calm.setFld_works {s : State} (h : s.Calm) {P : Nat → Prop} {id : Nat} (f : Fld) (v : Nat) (ix : List Nat) (hf : PlainWord (f.at ix)) :
    s.Works P id (s.setFld f v ix) := .of_items (h.setFld f v ix hf) (State.setFld_items ..)

theorem State.Calm.bump_works {s : State} (h : s.Calm) {P : Nat → Prop} {id : Nat} (f : Fld) (ix : List Nat) (d : Nat) (hf : PlainWord (f.at ix)) :
    s.Works P id (s.bump f ix d) := h.setFld_works f _ ix hf

theorem State.Calm.bumpSat_works {s : State} (h : s.Calm) {P : Nat → Prop} {id : Nat} (f : Fld) (ix : List Nat) (d : Nat) (hf : PlainWord (f.at ix)) :
    s.Works P id (s.bumpSat f ix d) := h.setFld_works f _ ix hf

theorem State.Calm.free_works {s : State} (h : s.Calm) {P : Nat → Prop} {id : Nat} : s.Works P id s.free.2 := .of_items h.free (State.free_items s)

theorem State.modItem_spares {s : State} (h : s.Calm) {P : Nat → Prop} (id : Nat) (f : Item → Item) : s.Spares P (s.modItem id f) := by
  unfold State.modItem
  split
  · exact h.kept h.sorted (fun _ _ => rfl) rfl rfl
  · exact .refl h

theorem State.Calm.modItem_works {s : State} (h : s.Calm) {P : Nat → Prop} {id : Nat} {f : Item → Item} (hf : ∀ it : Item, it.Alike (f it)) :
    s.Works P id (s.modItem id f) :=
  ⟨State.modItem_spares h id f, fun it hit => ⟨f it, by rw [State.find?_modItem, hit]; rfl, hf it⟩⟩

/-! Lines read. -/

theorem State.fetchLines_state (s : State) (rs : List (Nat × Nat)) (src : Nat) :
    (s.fetchLines rs src).2 = (rangeLines rs).foldl (fun s a => (s.readLine a src).2) s := by
  have hfold : ∀ (l : List Nat) (c : FMap LineView) (s : State), (l.foldl (fun (acc : FMap LineView × State) a =>
      let (v, s) := acc.2.readLine a src
      (acc.1.put (a / 64) v, s)) (c, s)).2 = l.foldl (fun s a => (s.readLine a src).2) s := by
    intro l
    induction l with
    | nil => exact fun _ _ => rfl
    | cons a l ih => exact fun c s => ih _ _
  exact hfold _ _ _

theorem State.fetchLines_works {s : State} (h : s.Calm) {P : Nat → Prop} {id : Nat} (rs : List (Nat × Nat)) (src : Nat) :
    s.Works P id (s.fetchLines rs src).2 := by
  rw [State.fetchLines_state]
  exact .foldl (fun u _ hu a ha => .of_items (State.readLine_spares hu (rangeLines_mod ha) src).2 (State.readLine_accesses hu.sorted a src).items) (.refl h)

theorem State.touchLines_spares {s : State} (h : s.Calm) {P : Nat → Prop} (a n src : Nat) : s.Spares P (s.touchLines a n src) :=
  .ite (fun _ => .refl h) fun _ => .foldl (fun _ _ hu _ _ => (State.readLine_spares hu (Nat.mul_mod_left _ _) src).2) (.refl h)

/-! Parts of lines written. -/

theorem State.storePart_works {s : State} (h : s.Calm) {P : Nat → Prop} (hn : s.Near P) {id a : Nat} (data : List Byte) (p : Bool) (src : Nat)
    (hP : ∀ i < data.length, P (a + i)) : s.Works P id (s.storePart a data p src) := by
  by_cases hd : data.length = 0
  · have hself : s.storePart a data p src = s := by
      unfold State.storePart
      exact if_pos hd
    rw [hself]
    exact .refl h
  · obtain ⟨hlow, hfar⟩ := hn _ (hP 0 (Nat.pos_of_ne_zero hd))
    rw [Nat.add_zero] at hlow hfar
    have hnear := State.near_of_low hlow hfar
    rw [← s.localAddr_of_low hlow] at hnear
    exact .of_items (State.storePart_spares h hlow hfar data p src hP) (State.storePart_accesses h.sorted hnear.1 hnear.2 data p src).items

theorem State.storeBytes_works {s : State} (h : s.Calm) {P : Nat → Prop} (hn : s.Near P) {id a : Nat} (data : List Byte) (p : Bool) (src : Nat)
    (hP : ∀ i < data.length, P (a + i)) : s.Works P id (s.storeBytes a data p src) := by
  unfold State.storeBytes
  generalize data.length / 64 + 2 = fuel
  induction fuel generalizing s a data with
  | zero => exact .refl h
  | succ fuel ih =>
    unfold State.storeBytesAux
    dsimp only
    refine .ite (fun _ => .refl h) fun _ => ?_
    have hpart := State.storePart_works h hn (id := id) (data.take (64 - a % 64)) p src fun i hi => hP i (by simp at hi; omega)
    refine hpart.trans (ih hpart.spares.calm (hn.places hpart.spares.places) (data.drop (64 - a % 64)) fun i hi => ?_)
    rw [Nat.add_assoc]
    exact hP _ (by simp at hi; omega)

/-! The places that a block writes. -/

theorem toBytes_length (k n : Nat) : (toBytes k n).length = k := by
  induction k generalizing n with
  | zero => rfl
  | succ k ih => rw [toBytes, List.length_cons, ih]

theorem packElems_length (w : Nat) (es : List Nat) : (packElems w es).length = rowBytes w es.length := toBytes_length _ _

theorem rowBytes_mono (w : Nat) {m n : Nat} (h : m ≤ n) : rowBytes w m ≤ rowBytes w n := by
  have := Nat.mul_le_mul_left w h
  unfold rowBytes
  omega

/-- What a block writes lies at places that satisfy `P`: its rows, their scale bytes, and its max-abs values. -/
structure BlockPlan.Covered (b : BlockPlan) (bj : Nat) (P : Nat → Prop) : Prop where
  row : mTreg b.d = false → ∀ i < b.iN, ∀ k < rowBytes b.m.bitsD b.jN, P (b.m.o.addr + (b.i0 + i) * b.m.o.ld + b.j0 * b.m.bitsD / 8 + k)
  scale : b.m.o.scaled = true → ∀ i < b.iN, P (b.m.auxAddr 0x10 + (b.i0 + i) * mCols b.d + bj)
  rowMax : mMaxabs b.d = 2 → ∀ i < b.iN, ∀ k < 4, P (b.m.auxAddr 0x38 + 4 * ((b.i0 + i) * mCols b.d + bj) + k)
  itemMax : mMaxabs b.d = 1 → ∀ k < 4, P (b.m.auxAddr 0x38 + k)

theorem State.putTreg_works {s : State} (h : s.Calm) {P : Nat → Prop} {id : Nat} (p i : Nat) (es : List Nat) (poison : Bool) :
    s.Works P id (s.putTreg p i es poison) :=
  .foldl (fun _ _ hu _ _ => .of_items (hu.kept hu.sorted (fun _ _ => rfl) rfl rfl) rfl) (.refl h)

/-- A row written stays within the block's places. -/
theorem State.writeRow_works {s : State} (h : s.Calm) {P : Nat → Prop} (hn : s.Near P) {id p bj i : Nat} {b : BlockPlan} (hc : b.Covered bj P) (hi : i < b.iN)
    {r : RowOut} (hr : r.bits.length ≤ b.jN) (poison : Bool) : s.Works P id (s.writeRow p b bj i r poison) := by
  have hbits := rowBytes_mono b.m.bitsD hr
  unfold State.writeRow
  extract_lets d row u v
  have hu : s.Works P id u := by
    refine .ite (fun _ => State.putTreg_works h ..) fun ht => State.storeBytes_works h hn _ _ _ fun k hk => ?_
    rw [packElems_length] at hk
    exact hc.row (by simpa using ht) i hi k (by omega)
  clear_value u
  have hv : s.Works P id v := by
    refine .ite (fun hs => hu.trans ?_) fun _ => hu
    refine State.storePart_works hu.spares.calm (hn.places hu.spares.places) _ _ _ fun k hk => ?_
    rw [toBytes_length] at hk
    rw [show k = 0 by omega]
    exact hc.scale hs i hi
  clear_value v
  refine .ite (fun hm => hv.trans ?_) fun _ => hv
  refine State.storePart_works hv.spares.calm (hn.places hv.spares.places) _ _ _ fun k hk => ?_
  rw [toBytes_length] at hk
  exact hc.rowMax hm i hi k hk

end Sys2Proof.Machine
end

section
/-! PROOFS. An output block: the places it writes, the elements of its rows, and what it leaves of its item (R140, R153 to R156, R161, R164). -/

namespace Sys2Proof.Machine
open Sys2Proof

/-! The places. -/

/-- The scale bytes and the max-abs values that a block writes beside its rows. -/
def BlockPlan.side (b : BlockPlan) (bj : Nat) : List (Nat × Nat) :=
  (if b.m.o.scaled then [(b.m.auxAddr 0x10 + b.i0 * mCols b.d, (b.iN - 1) * mCols b.d + bj + 1)] else []) ++
    (if mMaxabs b.d = 0 then [] else [(b.m.auxAddr 0x38, mMaxBytes b.d)])

theorem State.blockPlan_covered (v : State) (it : Item) {n : Nat} (hn : n < mBlocks it.desc) :
    (v.blockPlan it n).Covered (n % mCols it.desc) (InRanges ((v.blockPlan it n).writes ++ (v.blockPlan it n).side (n % mCols it.desc))) := by
  have hd : (v.blockPlan it n).d = it.desc := rfl
  have hiN : (v.blockPlan it n).iN = min 32 (mM it.desc - (v.blockPlan it n).i0) := rfl
  have hcols : n % mCols it.desc < mCols it.desc := Nat.mod_lt _ (Nat.pos_of_mul_pos_left (Nat.zero_lt_of_lt hn))
  generalize hb : v.blockPlan it n = b at hd hiN
  generalize n % mCols it.desc = bj at hcols
  rw [← hd] at hiN hcols
  have hrow : ∀ i < b.iN, (b.i0 + i) * mCols b.d + bj < mM b.d * mCols b.d := fun i hi =>
    calc (b.i0 + i) * mCols b.d + bj < (b.i0 + i + 1) * mCols b.d := by rw [Nat.succ_mul]; omega
      _ ≤ mM b.d * mCols b.d := Nat.mul_le_mul_right _ (by omega)
  refine ⟨fun ht i hi k hk => ?_, fun hs i hi => ?_, fun hm i hi k hk => ?_, fun hm k hk => ?_⟩
  · refine ⟨(b.m.o.addr + (b.i0 + i) * b.m.o.ld + b.j0 * b.m.bitsD / 8, rowBytes b.m.bitsD b.jN), List.mem_append_left _ ?_, Nat.le_add_right _ _, by
      dsimp only; omega⟩
    unfold BlockPlan.writes
    rw [if_neg (by simp [ht])]
    exact List.mem_map.2 ⟨i, List.mem_range.2 hi, rfl⟩
  · have hle : i * mCols b.d ≤ (b.iN - 1) * mCols b.d := Nat.mul_le_mul_right _ (by omega)
    refine ⟨(b.m.auxAddr 0x10 + b.i0 * mCols b.d, (b.iN - 1) * mCols b.d + bj + 1), List.mem_append_right _ (List.mem_append_left _ ?_), ?_, ?_⟩
    · rw [if_pos hs]
      exact List.mem_singleton_self _
    · dsimp only
      rw [Nat.add_mul]
      omega
    · dsimp only
      rw [Nat.add_mul]
      omega
  · have := hrow i hi
    refine ⟨(b.m.auxAddr 0x38, mMaxBytes b.d), List.mem_append_right _ (List.mem_append_right _ ?_), ?_, ?_⟩
    · rw [if_neg (by omega)]
      exact List.mem_singleton_self _
    · dsimp only
      omega
    · have hlen : mMaxBytes b.d = 4 * (mM b.d * mCols b.d) := by
        simp only [mMaxBytes, hm]
      dsimp only
      omega
  · refine ⟨(b.m.auxAddr 0x38, mMaxBytes b.d), List.mem_append_right _ (List.mem_append_right _ ?_), Nat.le_add_right _ _, ?_⟩
    · rw [if_neg (by omega)]
      exact List.mem_singleton_self _
    · have hlen : mMaxBytes b.d = 4 := by
        simp only [mMaxBytes, hm]
      dsimp only
      omega

/-! The elements. -/

/-- Rows of elements within a block's bounds. -/
def BlockPlan.Fits {α : Type} (b : BlockPlan) (rows : List (List α)) : Prop := rows.length ≤ b.iN ∧ ∀ row ∈ rows, row.length ≤ b.jN

theorem windowElems_length (c : FMap LineView) (base ld w : Nat) (win : Nat × Nat × Nat × Nat) : (windowElems c base ld w win).1.length = win.2.1 := by
  simp [windowElems, windowRanges]

theorem turned_length (n : Nat) (rows : List (List Nat)) : (turned n rows).length = n := by simp [turned]

theorem blockProduct_fits {b : BlockPlan} (hm : mMerge b.d = false) (c : FMap LineView) (ca cb : Bool) : b.Fits (blockProduct b c ca cb).rows := by
  have hA : (if b.m.a.trans then turned b.iN (windowElems c b.baseA b.m.a.ld (fmtBits b.m.a.fmt) b.winA).1
      else (windowElems c b.baseA b.m.a.ld (fmtBits b.m.a.fmt) b.winA).1).length = b.iN := by
    split
    · exact turned_length _ _
    · next ht => rw [windowElems_length, BlockPlan.winA, hm, opdWindow, if_neg Bool.false_ne_true, if_neg ht]
  have hB : (if b.m.b.trans then (windowElems c b.baseB b.m.b.ld (fmtBits b.m.b.fmt) b.winB).1
      else turned b.jN (windowElems c b.baseB b.m.b.ld (fmtBits b.m.b.fmt) b.winB).1).length = b.jN := by
    split
    · next ht => rw [windowElems_length, BlockPlan.winB, hm, opdWindow, if_neg Bool.false_ne_true, if_neg (by simp [ht])]
    · exact turned_length _ _
  unfold blockProduct
  dsimp only
  refine ⟨?_, fun row hrow => ?_⟩
  · rw [List.length_map, List.length_mapIdx, hA]
  · obtain ⟨x, -, rfl⟩ := List.mem_map.1 hrow
    rw [List.length_map, List.length_mapIdx, hB]

theorem windowPartials_fits (c : FMap LineView) (base ld n : Nat) (win : Nat × Nat × Nat × Nat) :
    (windowPartials c base ld n win).length = win.2.1 ∧ ∀ row ∈ windowPartials c base ld n win, row.length = win.2.2.2 := by
  unfold windowPartials
  refine ⟨by simp, fun row hrow => ?_⟩
  obtain ⟨r, -, rfl⟩ := List.mem_map.1 hrow
  simp

theorem blockMerge_fits {b : BlockPlan} (hm : mMerge b.d = true) (c : FMap LineView) : b.Fits (blockMerge b c).rows := by
  have hwin : b.winA = (b.i0, b.iN, b.j0, b.jN) := by rw [BlockPlan.winA, if_pos hm]
  obtain ⟨hlen, hrows⟩ := windowPartials_fits c b.baseA b.m.a.ld b.m.wBytes b.winA
  rw [hwin] at hlen hrows
  unfold blockMerge
  dsimp only
  rw [hwin]
  split
  · refine ⟨by rw [List.length_map, hlen], fun row hrow => ?_⟩
    obtain ⟨x, hx, rfl⟩ := List.mem_map.1 hrow
    rw [List.length_map, hrows x hx]
  · refine ⟨by rw [List.length_zipWith, hlen]; exact Nat.min_le_left _ _, fun row hrow => ?_⟩
    rw [← List.map_uncurry_zip_eq_zipWith] at hrow
    obtain ⟨⟨x, y⟩, hxy, rfl⟩ := List.mem_map.1 hrow
    dsimp only [Function.uncurry]
    rw [List.length_zipWith, hrows x (List.of_mem_zip hxy).1]
    exact Nat.min_le_left _ _

theorem encodeBlock_length (fmt : Nat) (ctl : Nat → Rnd) (vals : List Val) : (encodeBlock fmt ctl vals).2.1.length ≤ vals.length := by
  unfold encodeBlock
  split
  · exact Nat.zero_le _
  · dsimp only
    split
    · rw [List.length_map]
    · dsimp only
      rw [List.length_mapIdx]

theorem convertRow_length (it : Item) (p : Nat) (b : BlockPlan) (bias chs : List Nat) (i : Nat) (row : List WElem) :
    (convertRow it p b bias chs i row).bits.length ≤ row.length := by
  unfold convertRow
  dsimp only
  split
  · dsimp only
    rw [List.length_map]
    exact (encodeBlock_length ..).trans (by rw [List.length_map, List.length_mapIdx])
  · rw [List.length_map, List.length_mapIdx, List.length_mapIdx]

theorem partialRow_length (p : Nat) (row : List WElem) : (partialRow p row).bits.length = row.length := List.length_map _

end Sys2Proof.Machine
end

section
/-! PROOFS. An output block computed and written (R140, R153 to R156, R161, R164). -/

namespace Sys2Proof.Machine
open Sys2Proof

/-! The words of a tile. -/

theorem State.groupTiles_lt {s : State} {g p : Nat} (h : p ∈ s.groupTiles g) : p < 576 := by
  unfold State.groupTiles at h
  exact List.mem_range.1 (List.mem_filter.1 h).1

theorem State.blockTile_lt (s : State) (d : Desc) (n : Nat) : s.blockTile d n < 576 := by
  have hhead : (s.groupTiles (hTgroup d)).head?.getD 0 < 576 := by
    cases h : (s.groupTiles (hTgroup d)).head? with
    | none => decide
    | some p => exact State.groupTiles_lt (List.mem_of_mem_head? h)
  have hnth : ∀ i, (s.groupTiles (hTgroup d)).getD i 0 < 576 := fun i => by
    by_cases h : i < (s.groupTiles (hTgroup d)).length
    · rw [List.getD_eq_getElem _ _ h]
      exact State.groupTiles_lt (List.getElem_mem h)
    · rw [List.getD_eq_default _ _ (Nat.le_of_not_lt h)]
      decide
  unfold State.blockTile
  dsimp only
  split
  · exact hhead
  · exact hnth _

/-- The words of a tile's matrix engine decide no places. -/
theorem plainWord_tile {f : Fld} (hst : f.strides = [67108864, 65536]) (hlo : 0x10000100 ≤ f.base) (hhi : f.base ≤ 0x10000120) {p : Nat} (hp : p < 576) :
    PlainWord (f.at (tix p)) := plainWord_iff.2 (by
  simp only [Fld.at, hst, dotOff]
  omega)

/-! What the last block leaves. -/

theorem State.logInvalid_works {s : State} (h : s.Calm) {P : Nat → Prop} (id : Nat) : s.Works P id (s.logInvalid id) := by
  unfold State.logInvalid
  split
  · next it _ =>
    refine .ite (fun _ => .of_items (h.logAt ..) ?_) fun _ => .refl h
    exact (State.logAt_calm h.sorted h.mirror ..).1.items
  · exact .refl h

theorem State.matTail_works {s : State} (h : s.Calm) {P : Nat → Prop} (hn : s.Near P) {id : Nat} {it : Item} (hit : FMap.find? id s.items = some it)
    (h3 : mMaxabs it.desc ≠ 3) (hP : mMaxabs it.desc = 1 → ∀ k < 4, P (it.mat.auxAddr 0x38 + k)) : s.Works P id (s.matTail id) := by
  unfold State.matTail
  rw [hit]
  dsimp only
  refine .ite (fun _ => .refl h) fun _ => ?_
  have tail : ∀ u, s.Works P id u → s.Works P id (u.logInvalid id) := fun u hu => hu.trans (State.logInvalid_works hu.spares.calm id)
  refine tail _ ?_
  split
  · next h1 => exact State.storePart_works h hn _ _ _ fun k hk => hP h1 k (by rwa [toBytes_length] at hk)
  · next he => exact absurd he h3
  · exact .refl h

theorem State.evcAdd_works {s : State} (h : s.Calm) {P : Nat → Prop} {id k : Nat} (hk : k < 65536) (n : Nat) : s.Works P id (s.evcAdd k n) :=
  h.setFld_works _ _ _ (plainWord_iff.2 (by simp only [Fld.at, R.EVC_VALUE, dotOff]; omega))

theorem State.blockEvc_works {s : State} (h : s.Calm) {P : Nat → Prop} (id : Nat) : s.Works P id (s.blockEvc id) := by
  unfold State.blockEvc
  split
  · exact .refl h
  · next it _ =>
    extract_lets n u
    have hu : s.Works P id u := h.modItem_works fun _ => ⟨rfl, rfl, rfl, rfl, rfl⟩
    clear_value u
    refine .ite (fun _ => .refl h) fun _ => hu.trans (.ite (fun _ => ?_) fun _ => ?_)
    · exact hu.spares.calm.modItem_works fun _ => ⟨rfl, rfl, rfl, rfl, rfl⟩
    · exact State.evcAdd_works hu.spares.calm (bits_lt _ _ _) n

/-! The rows. -/

theorem State.addMarks_works {s : State} (h : s.Calm) {P : Nat → Prop} (id : Nat) (m : Marks) : s.Works P id (s.addMarks id m) :=
  h.modItem_works fun _ => ⟨rfl, rfl, rfl, rfl, rfl⟩

theorem State.optPoison_plain {s : State} {id : Nat} {it : Item} (hit : FMap.find? id s.items = some it) (ho : hOptstep it.desc = false) (a : Nat) :
    s.optPoison id a = s := by
  unfold State.optPoison
  rw [hit]
  exact if_neg (by simp [ho])

theorem State.freeRow_works {s : State} (h : s.Calm) {P : Nat → Prop} {id : Nat} (b : BlockPlan) :
    (s.freeRow b).1.bits.length = b.jN ∧ s.Works P id (s.freeRow b).2 :=
  ⟨by simp [State.freeRow], .of_items (h.kept h.sorted (fun _ _ => rfl) rfl rfl) rfl⟩

/-- Rows of undefined values. -/
theorem State.freeRows_works {s : State} (h : s.Calm) {P : Nat → Prop} (hn : s.Near P) {id p bj : Nat} {b : BlockPlan} (hc : b.Covered bj P) :
    s.Works P id ((List.range b.iN).foldl (fun s i =>
      let (r, s) := s.freeRow b
      s.writeRow p b bj i r true) s) := by
  refine .foldl (fun u hp hu i hi => ?_) (.refl h)
  obtain ⟨hlen, hf⟩ := State.freeRow_works hu (P := P) (id := id) b
  exact hf.trans (State.writeRow_works hf.spares.calm ((hn.places hp).places hf.spares.places) hc (List.mem_range.1 hi) (Nat.le_of_eq hlen) true)

/-- Rows of the values computed. -/
theorem State.rows_works {s : State} (h : s.Calm) {P : Nat → Prop} (hn : s.Near P) {id p bj : Nat} {b : BlockPlan} (hc : b.Covered bj P) {rows : List RowOut}
    (hrows : b.Fits (rows.map RowOut.bits)) : s.Works P id ((rows.mapIdx fun i r => (i, r)).foldl (fun s e => s.writeRow p b bj e.1 e.2 false) s) := by
  refine .foldl (fun u hp hu e he => ?_) (.refl h)
  obtain ⟨i, hi, rfl⟩ := List.mem_mapIdx.1 he
  obtain ⟨hlen, hbits⟩ := hrows
  rw [List.length_map] at hlen
  exact State.writeRow_works hu (hn.places hp) hc (Nat.lt_of_lt_of_le hi hlen) (hbits _ (List.mem_map_of_mem (List.getElem_mem hi))) false

/-- Rows converted, or stored as partials, fit where their elements fit. -/
theorem BlockPlan.Fits.out {b : BlockPlan} {rows : List (List WElem)} (h : b.Fits rows) (it : Item) (p q : Nat) (bias chs : List Nat) (w : Bool) :
    b.Fits ((if w then rows.map (partialRow q) else rows.mapIdx fun i row => convertRow it p b bias chs i row).map RowOut.bits) := by
  obtain ⟨hlen, hrows⟩ := h
  refine ⟨by split <;> simpa using hlen, fun row hrow => ?_⟩
  obtain ⟨r, hr, rfl⟩ := List.mem_map.1 hrow
  split at hr
  · obtain ⟨x, hx, rfl⟩ := List.mem_map.1 hr
    rw [partialRow_length]
    exact hrows x hx
  · obtain ⟨i, hi, rfl⟩ := List.mem_mapIdx.1 hr
    exact (convertRow_length ..).trans (hrows _ (List.getElem_mem hi))

/-- An item's output block has been computed: it is recorded, and nothing has been written but at the places that satisfy `P`. -/
structure State.BlockDone (P : Nat → Prop) (id n : Nat) (it : Item) (s t : State) : Prop where
  spares : s.Spares P t
  item : ∃ it' x, FMap.find? id t.items = some it' ∧ it'.desc = it.desc ∧ it'.mat = it.mat ∧ it'.phase = it.phase ∧ it'.status = it.status ∧
    it'.blocks = it.blocks.put n x

theorem State.BlockDone.works {P : Nat → Prop} {id n : Nat} {it : Item} {s t u : State} (h : State.BlockDone P id n it s t) (g : t.Works P id u) :
    State.BlockDone P id n it s u := by
  obtain ⟨hsp, it1, x, h1, hd, hm, hph, hst, hb⟩ := h
  obtain ⟨it2, h2, ha⟩ := g.item it1 h1
  exact ⟨hsp.trans g.spares, it2, x, h2, ha.desc.trans hd, ha.mat.trans hm, ha.phase.trans hph, ha.status.trans hst, ha.blocks.trans hb⟩

theorem State.BlockDone.step {P : Nat → Prop} {id n : Nat} {it : Item} {s t u : State} (h : State.BlockDone P id n it s t) (g : t.Calm → t.Works P id u) :
    State.BlockDone P id n it s u := h.works (g h.spares.calm)

theorem State.Works.recorded {P : Nat → Prop} {id n x : Nat} {it : Item} {s t : State} (h : s.Works P id t) (hit : FMap.find? id s.items = some it) {f : Item → Item}
    (hf : ∀ y : Item, y.Alike { f y with blocks := y.blocks } ∧ (f y).blocks = y.blocks.put n x) : State.BlockDone P id n it s (t.modItem id f) := by
  obtain ⟨it1, hit1, ha⟩ := h.item it hit
  obtain ⟨hb, hx⟩ := hf it1
  refine ⟨h.spares.trans (State.modItem_spares h.spares.calm id f), f it1, x, by rw [State.find?_modItem, hit1]; rfl, hb.desc.trans ha.desc, hb.mat.trans ha.mat,
    hb.phase.trans ha.phase, hb.status.trans ha.status, by rw [hx, ha.blocks]⟩

/-- An output block of an item in flight is computed and recorded, and nothing is written but at its places. -/
theorem State.runBlock_done {v : State} (h : v.Calm) {id n : Nat} {it : Item} (hit : FMap.find? id v.items = some it) (hst : it.status = 0)
    (ho : hOptstep it.desc = false) (hmax : mMaxabs it.desc ≠ 3) {P : Nat → Prop} (hn : v.Near P) (hc : (v.blockPlan it n).Covered (n % mCols it.desc) P)
    (hreads : (v.blockPlan it n).reads.all (fun r => v.mappedRange r.1 r.2) = true)
    (hstores : ((v.blockPlan it n).writes ++ (v.blockPlan it n).side (n % mCols it.desc)).all (fun r => v.mappedRange r.1 r.2 && !v.hitsRegion r.1 r.2) = true)
    (hm : mMerge it.desc = false ∨ (blockMerge (v.blockPlan it n) (v.fetchLines (v.blockPlan it n).reads 0).1).malformed = false) :
    State.BlockDone P id n it v (v.runBlock id n) := by
  have hmapped : ((v.blockPlan it n).writes ++ (v.blockPlan it n).side (n % mCols it.desc)).all (fun r => v.mappedRange r.1 r.2) = true :=
    List.all_eq_true.2 fun r hr => (Bool.and_eq_true_iff.1 (List.all_eq_true.1 hstores r hr)).1
  have hregion : ¬ ((v.blockPlan it n).writes ++ (v.blockPlan it n).side (n % mCols it.desc)).any (fun r => v.hitsRegion r.1 r.2) = true := fun hany => by
    obtain ⟨r, hr, hh⟩ := List.any_eq_true.1 hany
    have := (Bool.and_eq_true_iff.1 (List.all_eq_true.1 hstores r hr)).2
    rw [hh] at this
    cases this
  have hfetch := State.fetchLines_works h (P := P) (id := id) (v.blockPlan it n).reads 0
  have hp := v.blockTile_lt it.desc n
  unfold State.runBlock
  rw [hit]
  dsimp -zeta only [blockAt]
  extract_lets d b p reads writes side sum col bias chs poison eb elemsOf cflush rows bad good t1 rec' mx before t2 t3 t4 t5 kb t6 mine t7 t8
  have hsum : b.Fits sum.rows ∧ sum.malformed = false := by
    dsimp only [sum]
    by_cases hmerge : mMerge d = true
    · rw [if_pos hmerge]
      exact ⟨blockMerge_fits hmerge _, hm.resolve_left (by rw [show mMerge it.desc = true from hmerge]; decide)⟩
    · rw [if_neg hmerge]
      exact ⟨blockProduct_fits (Bool.eq_false_iff.2 hmerge) .., rfl⟩
  obtain ⟨hfits, hmal⟩ := hsum
  have hside : side = b.side (n % mCols d) := rfl
  clear_value sum side
  subst hside
  rw [if_neg (by rw [hreads, hmapped]; decide), if_neg hregion, if_neg (by rw [hmal]; decide)]
  have hn' := hn.places hfetch.spares.places
  have h1 : v.Works P id t1 := by
    refine .ite (fun _ => ?_) fun _ => ?_
    · have hfree := hfetch.trans (hfetch.spares.calm.free_works)
      have hbad : v.Works P id bad := hfree.trans (State.freeRows_works hfree.spares.calm (hn.places hfree.spares.places) hc)
      clear_value bad
      have hflags := hbad.trans (hbad.spares.calm.modItem_works (id := id) (f := fun it => { it with flags := it.flags ||| bits (v.fetchLines reads 0).2.free.1.toNat 0 7 })
        fun _ => ⟨rfl, rfl, rfl, rfl, rfl⟩)
      obtain ⟨it1, hit1, ha⟩ := hflags.item it hit
      rw [State.optPoison_plain hit1 (by rw [ha.desc, ho])]
      exact hflags
    · have hgood : v.Works P id good := hfetch.trans (State.rows_works hfetch.spares.calm hn' hc (hfits.out ..))
      clear_value good
      exact hgood.trans (State.addMarks_works hgood.spares.calm id _)
  clear_value t1 rows poison
  have h2 : State.BlockDone P id n it v t2 := h1.recorded hit fun _ => ⟨⟨rfl, rfl, rfl, rfl, rfl⟩, rfl⟩
  clear_value t2
  have h3 : State.BlockDone P id n it v t3 := h2.step fun hk => hk.modItem_works fun _ => ⟨rfl, rfl, rfl, rfl, rfl⟩
  clear_value t3
  have h4 : State.BlockDone P id n it v t4 := h3.step fun hk => hk.setFld_works _ _ _ (plainWord_tile rfl (by decide) (by decide) hp)
  clear_value t4
  have h5 : State.BlockDone P id n it v t5 :=
    (h4.step fun hk => hk.free_works).step fun hk => hk.bumpSat_works _ _ _ (plainWord_tile rfl (by decide) (by decide) hp)
  clear_value t5
  have h6 : State.BlockDone P id n it v t6 := by
    dsimp only [t6]
    split
    · exact h5
    · exact h5.step fun hk => hk.bump_works _ _ _ (plainWord_tile rfl (by decide) (by decide) hp)
  clear_value t6
  have h7 : State.BlockDone P id n it v t7 := by
    dsimp only [t7]
    split
    · exact h6
    · exact h6.step fun hk => hk.setFld_works _ _ _ (plainWord_tile rfl (by decide) (by decide) hp)
  clear_value t7
  have h8 : State.BlockDone P id n it v t8 := by
    have hev := h7.step fun hk => State.blockEvc_works hk id
    obtain ⟨it1, x, hit1, hd1, hm1, -⟩ := hev.item
    refine hev.step fun hk => State.matTail_works hk (hn.places hev.spares.places) hit1 (by rw [hd1]; exact hmax) fun h1' => ?_
    rw [hm1]
    rw [hd1] at h1'
    exact hc.itemMax h1'
  clear_value t8
  obtain ⟨it8, x, hit8, -, -, -, hst8, -⟩ := h8.item
  rw [hit8]
  dsimp only
  rw [if_neg (by rw [hst8, hst]; decide)]
  exact h8

end Sys2Proof.Machine
end

section
/-! SUPPORT. The far lines in front of an item's reads, and the bytes that read as before once they have been taken away (R511). -/

namespace Sys2Proof.Machine
open Sys2Proof

/-! Far lines put in front of an item's reads, and taken away again. -/

/-- The device with far lines in front of its reads, and with whose run it is. -/
def State.facing (s : State) (cur : Waiter) (far : FMap (List Byte × Nat)) : State := { s with mem := { s.mem with cur := cur, remote := far } }

theorem State.facing_fld (s : State) (cur : Waiter) (far : FMap (List Byte × Nat)) (f : Fld) (ix : List Nat) : (s.facing cur far).fld f ix = s.fld f ix := rfl

theorem State.asItem_of_item {s : State} {id : Nat} {it : Item} (h : FMap.find? id s.items = some it) (f : State → State) :
    s.asItem id f = (f (s.facing (.item id) it.remote)).facing .none s.mem.remote := by
  unfold State.asItem
  rw [h]
  rfl

section
variable (s : State) (cur : Waiter) (far : FMap (List Byte × Nat))

theorem State.localAddr_facing (a : Nat) : (s.facing cur far).localAddr a = s.localAddr a := by
  unfold State.localAddr
  rw [State.facing_fld]

theorem State.regionOf_facing (a : Nat) : (s.facing cur far).regionOf a = s.regionOf a := by
  unfold State.regionOf State.flag
  rw [State.localAddr_facing]
  dsimp only
  rw [State.facing_fld]

theorem State.farLine_facing (a : Nat) : (s.facing cur far).farLine a = s.farLine a := by
  unfold State.farLine State.farByte
  rw [State.regionOf_facing]

theorem State.localDie_facing : State.localDie (s.facing cur far) = State.localDie s := by
  have hboot : (s.facing cur far).boot = s.boot := rfl
  funext o fuel d base
  induction fuel generalizing d base with
  | zero => rw [State.localDie, State.localDie]
  | succ fuel ih => rw [State.localDie, State.localDie, ih, State.chanNd, State.chanNd, hboot]

theorem State.spot_facing (a : Nat) : (s.facing cur far).spot a = s.spot a := by
  have hboot : (s.facing cur far).boot = s.boot := rfl
  have hchanNd : State.chanNd (s.facing cur far) = State.chanNd s := by
    funext d
    rw [State.chanNd, State.chanNd, hboot]
  have hchanN : (s.facing cur far).chanN = s.chanN := by rw [State.chanN, State.chanN, hboot]
  have hrimN : (s.facing cur far).rimN = s.rimN := by rw [State.rimN, State.rimN, hboot]
  have hglobal : (s.facing cur far).globalBytes = s.globalBytes := by rw [State.globalBytes, State.globalBytes, hboot, hchanN]
  unfold State.spot
  rw [State.regionOf_facing, hglobal, hchanN, hrimN, hboot, State.localDie_facing, hchanNd]

theorem State.spotShut_facing (sp : Spot) : (s.facing cur far).spotShut sp = s.spotShut sp := by
  have htripped : (s.facing cur far).mem.tripped = s.mem.tripped := rfl
  have hbanks : (s.facing cur far).mem.fencedBanks = s.mem.fencedBanks := rfl
  unfold State.spotShut State.chanTripped State.chanFenced
  rw [htripped, hbanks, State.facing_fld, State.facing_fld]

theorem State.tierView_facing (sp : Spot) (a : Nat) : (s.facing cur far).tierView sp a = s.tierView sp a := by
  unfold State.tierView State.erasures
  rfl

theorem State.homeView_facing (b : Nat) : (s.facing cur far).homeView b = s.homeView b := by
  unfold State.homeView
  rw [State.spot_facing]
  simp only [State.spotShut_facing, State.tierView_facing]
  rfl

variable {s cur far}

theorem State.calm_facing (h : s.Calm) : (s.facing cur far).Calm := by
  obtain ⟨h1, h2, ⟨h3, h4, h5, h6⟩, h7, h8, h9⟩ := h
  refine ⟨h1, h2, ⟨h3, h4, h5, h6⟩, h7, h8, h9.1, fun k d p hk => ?_⟩
  obtain ⟨sp, hsp, hv⟩ := h9.2 k d p hk
  exact ⟨sp, (State.spot_facing ..).trans hsp, (State.tierView_facing ..).trans hv⟩

end

/-- Bytes of lines that lie here and are given as before read as before. -/
theorem State.onlyBytes_of_bytes {s t : State} (hs : s.Calm) (ht : t.Calm) (hp : s.SamePlaces t) {rs : List (Nat × Nat)}
    (hbytes : ∀ b, b % 64 = 0 → ∀ i < 64, ¬ InRanges rs (b + i) → (t.homeView b).data.getD i 0 = (s.homeView b).data.getD i 0) : Claims.OnlyBytes rs s t := by
  intro a ha
  have hmod : s.localAddr (a / 64 * 64) % 64 = 0 := by
    rw [s.localAddr_mod]
    omega
  have hspare : ¬ InRanges rs (s.localAddr (a / 64 * 64) + a % 64) := by
    rintro ⟨r, hr, hlo, hhi⟩
    rw [← s.localAddr_line] at hlo hhi
    refine ha r hr (s.localAddr a - r.1) (by omega) ?_
    rw [Nat.add_sub_cancel' hlo, s.localAddr_localAddr]
  unfold Claims.byteRead
  rw [State.lineView_eq ht.plain.l3 ht.plain.checks ht.agree (by omega), State.lineView_eq hs.plain.l3 hs.plain.checks hs.agree (by omega), hp.localAddr, hp.farLine,
    State.farView_congr hp]
  split
  · rfl
  · exact hbytes _ hmod _ (Nat.mod_lt a (by decide)) hspare

/-- Spared bytes read as before. -/
theorem State.Spares.onlyBytes {s t : State} {rs : List (Nat × Nat)} (h : s.Spares (InRanges rs) t) (hs : s.Calm) : Claims.OnlyBytes rs s t :=
  State.onlyBytes_of_bytes hs h.calm h.places h.bytes

/-- Spared bytes read as before once the far lines have been taken away. -/
theorem State.onlyBytes_of_spares {s : State} (h : s.Calm) {cur : Waiter} {far : FMap (List Byte × Nat)} {u : State} {rs : List (Nat × Nat)}
    (hu : (s.facing cur far).Spares (InRanges rs) u) : Claims.OnlyBytes rs s (u.facing .none s.mem.remote) := by
  obtain ⟨hcalm, hpl, hbytes⟩ := hu
  have hplaces : s.SamePlaces (u.facing .none s.mem.remote) :=
    ⟨hpl.boot, hpl.member, hpl.valid, hpl.fenced, hpl.tripped, hpl.banks, hpl.lanes, hpl.era, rfl⟩
  refine State.onlyBytes_of_bytes h (t := u.facing .none s.mem.remote) (State.calm_facing hcalm) hplaces fun b hb i hi hn => ?_
  rw [State.homeView_facing, hbytes b hb i hi hn, State.homeView_facing]

end Sys2Proof.Machine
end

section
/-! PROOFS. MATRIX items bound to a slot, waiting for a piece, and with a block done (R157, R158, R164). -/

namespace Sys2Proof.Machine
open Sys2Proof

theorem rangeLines_append_right {rs ss : List (Nat × Nat)} {a : Nat} (h : a ∈ rangeLines ss) : a ∈ rangeLines (rs ++ ss) := by
  unfold rangeLines at h ⊢
  rw [List.mem_eraseDups] at h ⊢
  rw [List.flatMap_append]
  exact List.mem_append_right _ h

section
variable (s : State) (cur : Waiter) (far : FMap (List Byte × Nat))

theorem State.mapped_facing (a : Nat) : (s.facing cur far).mapped a = s.mapped a := by
  have hboot : (s.facing cur far).boot = s.boot := rfl
  have hjob : (s.facing cur far).job = s.job := rfl
  unfold State.mapped State.flag State.tileOn State.stackTop State.rimTop State.subBytes State.chanN State.rimN
  rw [State.regionOf_facing, hboot, hjob]
  simp only [State.facing_fld]
  rfl

theorem State.mappedRange_facing (a n : Nat) : (s.facing cur far).mappedRange a n = s.mappedRange a n := by
  unfold State.mappedRange
  simp only [State.mapped_facing]

theorem State.hitsRegion_facing (a n : Nat) : (s.facing cur far).hitsRegion a n = s.hitsRegion a n := by
  have hflag : @State.flag (s.facing cur far) = @State.flag s := rfl
  have hfld : @State.fld (s.facing cur far) = @State.fld s := rfl
  have hrgn : State.regionsOf (s.facing cur far) = State.regionsOf s := by
    have hoff : (s.facing cur far).lmtOff = s.lmtOff := by rw [State.lmtOff, State.lmtOff, hfld]
    have hon : (s.facing cur far).lmtOn = s.lmtOn := by rw [State.lmtOn, State.lmtOn, s.mapped_facing, hoff]
    have hentry : State.lmtEntry (s.facing cur far) = State.lmtEntry s := by
      funext d l e
      rw [State.lmtEntry, State.lmtEntry, hon, hoff]
    have hone : (s.facing cur far).lmtRgn = s.lmtRgn := by rw [State.lmtRgn, State.lmtRgn, hoff]
    funext d l
    rw [State.regionsOf, State.regionsOf, hentry, hone, hflag, hfld]
  rw [State.hitsRegion, State.hitsRegion, State.regionOf_facing, hrgn]

end

/-- MATRIX_BLOCK_DONE of a block that may be computed (R153, R161, R164). -/
theorem State.matrixBlockDone_done {s : State} (hcanon : s.canon = true) (hup : s.up = true) (hclean : Claims.Clean s) {id n : Nat} {it : Item}
    (hit : FMap.find? id s.items = some it) (hclass : hClass it.desc = 1) (hn : n < mBlocks it.desc) (hphase : it.phase = .running) (hst : it.status = 0)
    (hwait : it.waitPiece = none) (hnew : FMap.find? n it.blocks = none) (htiles : s.job.tilesOff = false) (hopt : hOptstep it.desc = false)
    (hmax : mMaxabs it.desc ≠ 3) {b : BlockPlan} (hb : b = (Claims.seenBy s id it).blockPlan it n)
    (hnear : Claims.AllNear s (b.reads ++ (b.writes ++ b.side (n % mCols it.desc)))) (hreads : b.reads.all (fun r => s.mappedRange r.1 r.2) = true)
    (hstores : (b.writes ++ b.side (n % mCols it.desc)).all (fun r => s.mappedRange r.1 r.2 && !s.hitsRegion r.1 r.2) = true)
    (hlow : ∀ a ∈ rangeLines (b.writes ++ b.side (n % mCols it.desc)), a < 0x800000000000)
    (hm : mMerge it.desc = false ∨ (blockMerge b ((Claims.seenBy s id it).fetchLines b.reads 0).1).malformed = false) :
    ∃ t it', exec (.matrixBlockDone id n) s = .next t ∧ FMap.find? id t.items = some it' ∧ it'.phase = .running ∧ it'.status = 0 ∧
      (FMap.find? n it'.blocks).isSome = true ∧ (∀ k ≠ n, FMap.find? k it'.blocks = FMap.find? k it.blocks) ∧
      Claims.OnlyBytes (b.writes ++ b.side (n % mCols it.desc)) s t := by
  have hcalm := State.calm_of_clean hcanon hclean
  have hv : (s.facing (.item id) it.remote).Calm := State.calm_facing hcalm
  have hexec : exec (.matrixBlockDone id n) s = .next (s.asItem id fun s => s.runBlock id n) := by
    show execMatrixBlockDone id n s = _
    unfold execMatrixBlockDone
    rw [hit]
    exact if_pos (by simp [hup, hclass, hphase, hst, hwait, hn, hnew, htiles])
  have hseen : Claims.seenBy s id it = s.facing (.item id) it.remote := rfl
  rw [hseen] at hb hm
  have hnearS : s.Near (InRanges (b.writes ++ b.side (n % mCols it.desc))) :=
    State.near_inRanges (fun a ha => hnear a (rangeLines_append_right ha)) hlow
  have hcov := (s.facing (.item id) it.remote).blockPlan_covered it hn
  rw [← hb] at hcov
  have hdone : State.BlockDone (InRanges (b.writes ++ b.side (n % mCols it.desc))) id n it (s.facing (.item id) it.remote)
      ((s.facing (.item id) it.remote).runBlock id n) := by
    refine State.runBlock_done hv hit hst hopt hmax (fun x hx => ⟨(hnearS x hx).1, (State.farLine_facing ..).trans (hnearS x hx).2⟩) ?_ ?_ ?_ ?_ <;> rw [← hb]
    · exact hcov
    · simpa only [State.mappedRange_facing] using hreads
    · simpa only [State.mappedRange_facing, State.hitsRegion_facing] using hstores
    · exact hm
  obtain ⟨hspares, it', x, hit', -, -, hph', hst', hbl'⟩ := hdone
  rw [hexec, State.asItem_of_item hit]
  refine ⟨_, it', rfl, hit', hph'.trans hphase, hst'.trans hst, ?_, fun k hk => ?_, State.onlyBytes_of_spares hcalm hspares⟩
  · rw [hbl', FMap.find?_put_self]
    rfl
  · rw [hbl', FMap.find?_put_ne hk]

/-! Landing buffers. -/

/-- LB_PIECE_READY of the last piece that a waiting engine needs (R158). -/
theorem State.lbPieceReady_last {s : State} (hup : s.up = true) {id x : Nat} {it : Item} (hit : FMap.find? id s.items = some it) (hx : it.waitPiece = some x)
    (hhere : s.pieceHere it.mat (x % 2 == 1) (x / 2) = true) (hlast : s.missingPiece it = none) :
    exec (.lbPieceReady id (x / 2)) s = .next (s.modItem id fun it => { it with waitPiece := none }) := by
  show execLbPieceReady id (x / 2) s = _
  unfold execLbPieceReady State.awaitPiece
  simp only [hit, hx, hlast]
  exact if_pos (by simp [hup, hhere])

theorem State.find?_modItem_some {s : State} {id : Nat} {it : Item} (h : FMap.find? id s.items = some it) (f : Item → Item) :
    FMap.find? id (s.modItem id f).items = some (f it) := by
  rw [State.find?_modItem, h]
  rfl

/-- An item changed: nothing else differs. -/
theorem State.modItem_eq (s : State) (id : Nat) (f : Item → Item) : s.modItem id f = { s with items := (s.modItem id f).items } := by
  unfold State.modItem
  split <;> rfl

theorem State.modItem_mem (s : State) (id : Nat) (f : Item → Item) : (s.modItem id f).mem = s.mem := by rw [State.modItem_eq]
theorem State.modItem_regs (s : State) (id : Nat) (f : Item → Item) : (s.modItem id f).regs = s.regs := by rw [State.modItem_eq]

/-- The engine's wait for a piece leaves the item bound and running, memory, and the words of the slots. -/
theorem State.awaitPiece_kept {s : State} (hs : FMap.sorted s.regs = true) {id : Nat} {it : Item} (hit : FMap.find? id s.items = some it) :
    (∃ it', FMap.find? id (s.awaitPiece id).items = some it' ∧ it'.phase = it.phase ∧ it'.bound = it.bound) ∧ (s.awaitPiece id).mem = s.mem ∧
      ∀ (f : Fld) (ix : List Nat), 0x20000000 ≤ f.base → (s.awaitPiece id).fld f ix = s.fld f ix := by
  unfold State.awaitPiece
  rw [hit]
  dsimp only
  split
  · exact ⟨⟨_, State.find?_modItem_some hit _, rfl, rfl⟩, State.modItem_mem .., fun f ix _ => State.fld_congr (by rw [State.modItem_regs])⟩
  · next x _ =>
    have hp := s.blockTile_lt it.desc it.blocks.length
    have hitems := State.find?_modItem_some (State.find?_modItem_some hit fun it => { it with waitPiece := some x, lbWaited := true }) fun it => { it with classWord := matWord it }
    have hregs : ((s.modItem id fun it => { it with waitPiece := some x, lbWaited := true }).modItem id fun it => { it with classWord := matWord it }).regs = s.regs := by
      rw [State.modItem_regs, State.modItem_regs]
    refine ⟨⟨_, (congrArg (FMap.find? id) (State.bumpSat_items ..)).trans hitems, rfl, rfl⟩, ?_, fun f ix hf => ?_⟩
    · rw [State.bumpSat_mem, State.modItem_mem, State.modItem_mem]
    · rw [State.bumpSat_eq, State.fld_setFld_ne (by rw [hregs]; exact hs)]
      · exact State.fld_congr (by rw [hregs])
      · simp only [Fld.at, R.TIL_MAT_STALL_LB_WAITS, dotOff]
        omega

/-- The register index of a bucket's slot from its key. -/
theorem slotIx_of_key (g b : Nat) : [slotKey g b / 32, slotKey g b % 32] = slotIx g b := by
  have h1 : slotKey g b / 32 = g := by unfold slotKey; omega
  have h2 : slotKey g b % 32 = b % 32 := by unfold slotKey; omega
  rw [h1, h2]
  rfl

/-- An item bound to a slot runs. -/
def Item.boundTo (key : Nat) (it : Item) : Item := { it with phase := .running, bound := [key] }

theorem State.bindSlots_one {s : State} {id : Nat} {it : Item} (hit : FMap.find? id s.items = some it) (hlb : it.mat.lbOpds = [false])
    (hgroup : s.lbGroupless it.mat = false) (habort : s.abortHere it.desc false = none) (hslot : s.slotHere it.desc false = true)
    (hbad : s.bindBad it.mat false = false)
    (hstate : s.fld R.COL_SLOT_W0_STATE (slotIx (lbGroup it.desc false) (lbBucket it.desc false)) ≠ 3) :
    s.bindSlots id = ((s.bump R.COL_SLOT_W1_BOUND (slotIx (lbGroup it.desc false) (lbBucket it.desc false))).modItem id
      (Item.boundTo (slotKey (lbGroup it.desc false) (lbBucket it.desc false)))).awaitPiece id := by
  have hfind : [false].find? (fun b => s.fld R.COL_SLOT_W0_STATE (slotIx (lbGroup it.desc b) (lbBucket it.desc b)) == 3) = none := by
    rw [List.find?_cons_of_neg (by simpa using hstate), List.find?_nil]
  unfold State.bindSlots
  rw [hit]
  dsimp only
  rw [hlb, hgroup, if_neg Bool.false_ne_true, if_neg (by simp [habort]), if_neg (by simp [hslot]), if_neg (by simp [hbad]), hfind]
  dsimp only
  rw [List.map_cons, List.map_nil, List.foldl_cons, List.foldl_nil, slotIx_of_key]
  rfl

/-- An item with one LB operand, whose buffers' group is defined, is bound to a group that is. -/
theorem State.lbGroupless_one {s : State} {m : MDesc} (hlb : m.lbOpds = [false]) (hbad : s.bindBad m false = false) : s.lbGroupless m = false := by
  have hb : m.b.lb = false := by
    cases h : m.b.lb
    · rfl
    · have hlen := congrArg List.getLast? hlb
      simp [MDesc.lbOpds, h] at hlen
  have hg : (s.groups.find? (lbGroup m.d false)).isNone = false := by
    cases h : s.groups.find? (lbGroup m.d false) with
    | none => simp [State.bindBad, h] at hbad
    | some gr => rfl
  rw [State.lbGroupless, hb, hg]
  simp

theorem State.missingLines_near {s : State} {rs : List (Nat × Nat)} (h : Claims.AllNear s rs) (far : FMap (List Byte × Nat)) : s.missingLines far rs = [] := by
  unfold State.missingLines
  refine List.filter_eq_nil_iff.2 fun a ha => ?_
  rw [h a ha]
  simp

/-- A checked item that reads no far line goes on: it runs, or binds its slots. -/
theorem State.matStart_near {s : State} {id : Nat} {it : Item} (hit : FMap.find? id s.items = some it) (haux : it.aux.isSome = true) (hst : it.status = 0)
    (hnear : Claims.AllNear s (s.mReads it.mat)) :
    s.matStart id = if it.mat.lbOpds.isEmpty then s.modItem id fun it => { it with phase := .running } else s.asItem id fun s => s.bindSlots id := by
  unfold State.matStart State.matGo
  simp only [hit, haux, hst, State.missingLines_near hnear, if_true]
  rfl

/-- LB_SLOT_BIND of an item whose slot has come to hold its bucket (R157). -/
theorem State.lbSlotBind_bound {s : State} (hcanon : s.canon = true) (hup : s.up = true) {id : Nat} {it : Item} (hit : FMap.find? id s.items = some it)
    (hclass : hClass it.desc = 1) (hjob : s.job.running = false) (hphase : it.phase = .waiting) (hst : it.status = 0) (hlb : it.mat.lbOpds = [false])
    (haux : it.aux.isSome = true) (hnear : Claims.AllNear s (s.mReads it.mat)) (habort : s.abortHere it.desc false = none) (hslot : s.slotHere it.desc false = true)
    (hbad : s.bindBad it.mat false = false) {ix : List Nat} (hix : ix = slotIx (lbGroup it.desc false) (lbBucket it.desc false)) (hstate : s.fld R.COL_SLOT_W0_STATE ix ≠ 3) :
    ∃ t it', exec (.lbSlotBind id) s = .next t ∧ FMap.find? id t.items = some it' ∧ it'.phase = .running ∧
      it'.bound = [slotKey (lbGroup it.desc false) (lbBucket it.desc false)] ∧
      t.fld R.COL_SLOT_W1_BOUND ix = (s.fld R.COL_SLOT_W1_BOUND ix + 1) % 65536 ∧ t.mem.cells = s.mem.cells := by
  subst hix
  have hs := State.canon_regs hcanon
  have hexec : exec (.lbSlotBind id) s = .next (s.matStart id) := by
    show execLbSlotBind id s = _
    unfold execLbSlotBind
    rw [hit]
    exact if_pos (by simp [hup, hclass, hphase, hjob, hlb])
  rw [hexec, State.matStart_near hit haux hst hnear, hlb, if_neg (by decide), State.asItem_of_item hit,
    State.bindSlots_one (s := s.facing (.item id) it.remote) hit hlb (State.lbGroupless_one (s := s) hlb hbad) habort hslot hbad hstate]
  generalize hix : slotIx (lbGroup it.desc false) (lbBucket it.desc false) = ix
  generalize slotKey (lbGroup it.desc false) (lbBucket it.desc false) = key
  have hfacing : ((s.facing (.item id) it.remote).bump R.COL_SLOT_W1_BOUND ix).mem.cells = s.mem.cells := by
    rw [State.bump_mem]
    rfl
  have hbound : ((s.facing (.item id) it.remote).bump R.COL_SLOT_W1_BOUND ix).fld R.COL_SLOT_W1_BOUND ix = (s.fld R.COL_SLOT_W1_BOUND ix + 1) % 65536 :=
    State.fld_setFld_self (s := s.facing (.item id) it.remote) hs R.COL_SLOT_W1_BOUND (by decide) _ ix
  have hsorted : FMap.sorted ((s.facing (.item id) it.remote).bump R.COL_SLOT_W1_BOUND ix).regs = true := State.setFld_sorted (s := s.facing (.item id) it.remote) hs _ _ _
  have hitems : FMap.find? id ((s.facing (.item id) it.remote).bump R.COL_SLOT_W1_BOUND ix).items = some it := by
    rw [State.bump_items]
    exact hit
  generalize (s.facing (.item id) it.remote).bump R.COL_SLOT_W1_BOUND ix = u at hfacing hbound hsorted hitems
  obtain ⟨⟨it', hit', hph, hbo⟩, hmem, hfld⟩ := State.awaitPiece_kept (by rw [State.modItem_regs]; exact hsorted) (State.find?_modItem_some hitems (Item.boundTo key))
  refine ⟨_, it', rfl, hit', hph, hbo, ?_, ?_⟩
  · rw [State.facing_fld, hfld _ _ (by decide)]
    exact (State.fld_congr (s := u) (by rw [State.modItem_regs])).trans hbound
  · show ((u.modItem id (Item.boundTo key)).awaitPiece id).mem.cells = _
    rw [hmem, State.modItem_mem, hfacing]

end Sys2Proof.Machine
end

section
/-! SUPPORT. A head taken and let in, whether a gate group takes it in or not: memory and the places of addresses stay (R236, R409 to R411, R470). -/

namespace Sys2Proof.Machine
open Sys2Proof

/-- An item in a gate group, or in none. -/
def Item.gatedBy (g : Option Nat) (it : Item) : Item := { it with gate := g }

/-- The device with other gate groups. -/
def State.withGates (s : State) (gs : FMap Gate) : State := { s with gates := gs }

/-- The device with other gate groups and other items in flight. -/
def State.joined (s : State) (gs : FMap Gate) (l : FMap Item) : State := { s with gates := gs, items := l }

theorem State.joined_fld (s : State) (gs : FMap Gate) (l : FMap Item) (f : Fld) (ix : List Nat) : (s.joined gs l).fld f ix = s.fld f ix := rfl

theorem State.joinGate_lone {s : State} {id : Nat} {it : Item} (hi : s.items = [(id, it)]) (q : Nat) (d : Desc) :
    ∃ g gs, s.joinGate q id d = s.joined gs [(id, it.gatedBy g)] := by
  unfold State.joinGate
  split
  · extract_lets e group g
    exact ⟨some e.1, s.gates.put e.1 g, State.modItem_lone (s := s.withGates (s.gates.put e.1 g)) hi (Item.gatedBy (some e.1))⟩
  · refine ⟨it.gate, s.gates, ?_⟩
    rw [show [(id, it.gatedBy it.gate)] = s.items from hi.symm]
    rfl

/-- Words that book the work of a queue and decide no places. -/
def ShelfWord (q o : Nat) : Prop := PlainWord o ∧ BookWord q o

theorem shelfWord_of_qmc {q : Nat} {f : Fld} {ix : List Nat} (h : f.at ix / 0x1000000 = 0xB) : ShelfWord q (f.at ix) :=
  ⟨plainWord_iff.2 (by omega), bookWord_of_qmc h⟩

/-- The head of `q` has been taken and is the one item in flight: memory and the places of addresses are as they were, and no words but those of a dispatch differ. -/
structure State.HeadTaken (s : State) (q : Nat) (it : Item) (t : State) : Prop where
  items : t.items = [(s.nextItem, it)]
  nextItem : t.nextItem = s.nextItem + 1
  ci : t.fld R.WQS_W2_CI [q] = (s.fld R.WQS_W2_CI [q] + 1) % 2 ^ 32
  mem : t.mem = s.mem
  boot : t.boot = s.boot
  sorted : FMap.sorted t.regs = true
  places : ∀ o, PlaceWord o → FMap.find? o t.regs = FMap.find? o s.regs
  regs : ∀ o, ¬ HeadWord q o → FMap.find? o t.regs = FMap.find? o s.regs

theorem State.takeHead_lone {s : State} (hs : FMap.sorted s.regs = true) (hi : s.items = []) {q : Nat} {it : Item} (hq : q < 262144) (hcq : s.cqOf q ≠ q)
    (hd : it.die < 4) : ∃ t g, s.takeHead q it = (s.nextItem, t) ∧ s.HeadTaken q (it.gatedBy g) t := by
  have hctx : R.QMC_CTX_W0_INFLIGHT.at [hContext it.desc] / 0x1000000 = 0xB := by
    have hlt : hContext it.desc < 4096 := bits_lt _ _ _
    simp only [Fld.at, R.QMC_CTX_W0_INFLIGHT, dotOff]
    omega
  have hdie : R.QMC_LEDGER_DIE_ISSUED.at [it.die] / 0x1000000 = 0xB := by
    simp only [Fld.at, R.QMC_LEDGER_DIE_ISSUED, dotOff]
    omega
  have hres : ShelfWord q (R.WQS_W4_RESERVED.at [s.cqOf q]) :=
    ⟨plainWord_iff.2 (by rw [wqsFld_at _ rfl]; have := s.cqOf_lt q; simp only [R.WQS_W4_RESERVED]; omega), bookWord_of_other (s.cqOf_lt q) hcq rfl (by decide) (by decide)⟩
  have hci : R.WQS_W2_CI.at [q] = 0x9000010 + 64 * q := wqsFld_at _ rfl q
  let x : State := { s with items := s.items.put s.nextItem it, nextItem := s.nextItem + 1, cqMarks := FMap.del q s.cqMarks }
  have hx : FMap.sorted x.regs = true := hs
  have hxi : x.items = [(s.nextItem, it)] := by
    show s.items.put s.nextItem it = _
    rw [hi]
    rfl
  have hy := (State.Aside.refl (W := (· = R.WQS_W2_CI.at [q])) hx).bump R.WQS_W2_CI [q] 1 rfl
  have hyci : (x.bump R.WQS_W2_CI [q]).fld R.WQS_W2_CI [q] = (s.fld R.WQS_W2_CI [q] + 1) % 2 ^ 32 := State.fld_setFld_self hx R.WQS_W2_CI (by decide) _ _
  have hymem : (x.bump R.WQS_W2_CI [q]).mem = s.mem := State.bump_mem ..
  have htake : s.takeHead q it = (s.nextItem, ((((((((x.bump R.WQS_W2_CI [q]).bump R.QMC_STATUS_INFLIGHT).bump R.QMC_CTX_W0_INFLIGHT [hContext it.desc]).bump
      R.WQS_W4_RESERVED [s.cqOf q]).bump R.QMC_LEDGER_DIE_ISSUED [it.die]).bump R.QMC_LEDGER_CQE_ISSUED).bump R.QMC_LEDGER_SIG_ISSUED [] (signalsOf it.desc).length).joinGate
      q s.nextItem it.desc)) := by
    unfold State.takeHead
    dsimp only
  rw [htake]
  have hynext : (x.bump R.WQS_W2_CI [q]).nextItem = s.nextItem + 1 := State.bump_nextItem ..
  have hyboot : (x.bump R.WQS_W2_CI [q]).boot = s.boot := hy.boot
  have hyregs : ∀ o, o ≠ R.WQS_W2_CI.at [q] → FMap.find? o (x.bump R.WQS_W2_CI [q]).regs = FMap.find? o s.regs := fun o ho => hy.regs o ho
  have hyi : (x.bump R.WQS_W2_CI [q]).items = [(s.nextItem, it)] := hy.items.trans hxi
  have hysort := hy.sorted
  clear hy htake
  generalize x.bump R.WQS_W2_CI [q] = y at *
  clear_value x
  have hz := ((((((State.Aside.refl (W := ShelfWord q) hysort).bump R.QMC_STATUS_INFLIGHT [] 1 (shelfWord_of_qmc (by decide))).bump R.QMC_CTX_W0_INFLIGHT [hContext it.desc] 1
    (shelfWord_of_qmc hctx)).bump R.WQS_W4_RESERVED [s.cqOf q] 1 hres).bump R.QMC_LEDGER_DIE_ISSUED [it.die] 1 (shelfWord_of_qmc hdie)).bump R.QMC_LEDGER_CQE_ISSUED [] 1
    (shelfWord_of_qmc (by decide))).bump R.QMC_LEDGER_SIG_ISSUED [] (signalsOf it.desc).length (shelfWord_of_qmc (by decide))
  have hzmem : ((((((y.bump R.QMC_STATUS_INFLIGHT).bump R.QMC_CTX_W0_INFLIGHT [hContext it.desc]).bump R.WQS_W4_RESERVED [s.cqOf q]).bump
      R.QMC_LEDGER_DIE_ISSUED [it.die]).bump R.QMC_LEDGER_CQE_ISSUED).bump R.QMC_LEDGER_SIG_ISSUED [] (signalsOf it.desc).length).mem = s.mem := by
    rw [State.bump_mem, State.bump_mem, State.bump_mem, State.bump_mem, State.bump_mem, State.bump_mem, hymem]
  generalize (((((y.bump R.QMC_STATUS_INFLIGHT).bump R.QMC_CTX_W0_INFLIGHT [hContext it.desc]).bump R.WQS_W4_RESERVED [s.cqOf q]).bump
      R.QMC_LEDGER_DIE_ISSUED [it.die]).bump R.QMC_LEDGER_CQE_ISSUED).bump R.QMC_LEDGER_SIG_ISSUED [] (signalsOf it.desc).length = z at hz hzmem
  obtain ⟨g, gs, hjoin⟩ := State.joinGate_lone (hz.items.trans hyi) q it.desc
  have hznext : z.nextItem = s.nextItem + 1 := (State.Booked.of_aside hz).nextItem.trans hynext
  have hzci : z.fld R.WQS_W2_CI [q] = (s.fld R.WQS_W2_CI [q] + 1) % 2 ^ 32 := by
    refine (hz.fld R.WQS_W2_CI [q] fun hw => not_bookWord (.inr (.inr (.inr (.inr ?_)))) hw.2).trans hyci
    rw [hci]
    omega
  rw [hjoin]
  refine ⟨_, g, rfl, rfl, hznext, (State.joined_fld ..).trans hzci, hzmem, hz.boot.trans hyboot, hz.sorted, fun o ho => ?_, fun o ho => ?_⟩
  · refine (hz.regs o fun hw => hw.1 ho).trans (hyregs o fun he => ?_)
    exact (plainWord_iff.2 (by rw [he, hci]; omega) : PlainWord o) ho
  · exact (hz.regs o fun hw => ho (.inl hw.2)).trans (hyregs o fun he => ho (.inr he))

/-- The debit of an item's energy leaves memory and the places of addresses. -/
theorem State.letIn_places (s : State) (hs : FMap.sorted s.regs = true) (id : Nat) : (s.letIn id).mem = s.mem ∧ (s.letIn id).boot = s.boot ∧
    FMap.sorted (s.letIn id).regs = true ∧ ∀ o, PlaceWord o → FMap.find? o (s.letIn id).regs = FMap.find? o s.regs := by
  unfold State.letIn
  split
  · exact ⟨rfl, rfl, hs, fun _ _ => rfl⟩
  · next it _ =>
    have hd : (s.debit it.desc).mem = s.mem ∧ s.Booked PlainWord (s.debit it.desc) ∧ (s.debit it.desc).boot = s.boot := by
      unfold State.debit
      exact ⟨State.bump_mem .., ((State.Booked.refl hs).withNrg _).bump R.NRG_LEDGER_DEBITED_UJ [] _ (plainWord_iff.2 (by decide)), State.bump_boot ..⟩
    obtain ⟨hmem, hbook, hboot⟩ := hd
    generalize s.debit it.desc = u at hmem hbook hboot
    rw [State.modItem_eq]
    exact ⟨hmem, hboot, hbook.sorted, fun o ho => hbook.regs o fun hp => hp ho⟩

end Sys2Proof.Machine
end

section
/-! PROOFS. MATRIX heads dispatched, and the statement of MATRIX items (R140, R144, R147, R157, R158, R164, R549). -/

namespace Sys2Proof.Machine
open Sys2Proof

theorem State.unhold_kept (s : State) (q : Nat) : (s.unhold q).mem = s.mem ∧ (s.unhold q).boot = s.boot ∧ (s.unhold q).regs = s.regs := by
  unfold State.unhold
  dsimp only
  split <;> exact ⟨rfl, rfl, rfl⟩

/-- A head whose dispatch begins a run is taken and let in, and no byte of memory differs. -/
theorem State.dispatchIf_begins {s : State} {q : Nat} (h : Claims.Starts s q) (hclean : Claims.Clean s) {mine : Desc → Bool} (hm : mine (s.headDesc q) = true) :
    ∃ u g, s.dispatchIf q mine = u.startItem s.nextItem ∧ u.items = [(s.nextItem, (s.begun q).gatedBy g)] ∧ u.nextItem = s.nextItem + 1 ∧
      u.fld R.WQS_W2_CI [q] = (s.fld R.WQS_W2_CI [q] + 1) % 2 ^ 32 ∧ ∀ P, s.Spares P u := by
  obtain ⟨hcanon, -, ⟨hi, -⟩, hpres, hout, hv, hadm⟩ := h
  have hs := State.canon_regs hcanon
  have hcalm := State.calm_of_clean hcanon hclean
  obtain ⟨hserved, hable, hq, hcq⟩ := State.presented_queue hpres
  have hdisp : s.dispatchIf q mine = ((((s.touchLines (s.headAddr q) 128 0).unhold q).takeHead q (s.newItem q (s.headDesc q))).2.letIn
      (((s.touchLines (s.headAddr q) 128 0).unhold q).takeHead q (s.newItem q (s.headDesc q))).1).startItem
      (((s.touchLines (s.headAddr q) 128 0).unhold q).takeHead q (s.newItem q (s.headDesc q))).1 := by
    unfold State.dispatchIf State.dispatch
    dsimp only
    rw [hm, hserved, hable, hpres, hout, hv, show (s.newItem q (s.headDesc q)).desc = s.headDesc q from rfl, hadm]
    rfl
  rw [hdisp]
  have h1 := State.touchLines_accesses hs (s.headAddr q) 128 0
  have h1s := fun P => State.touchLines_spares hcalm (P := P) (s.headAddr q) 128 0
  generalize s.touchLines (s.headAddr q) 128 0 = u1 at h1 h1s
  obtain ⟨h2i, h2⟩ := State.unhold_booked h1.sorted q (BookWord q)
  obtain ⟨h2mem, h2boot, h2regs⟩ := u1.unhold_kept q
  have h02 := ((State.Booked.of_aside h1).mono fun _ => bookWord_of_access).trans h2
  generalize u1.unhold q = u2 at h2i h02 h2mem h2boot h2regs
  have hown : ∀ {f : Fld}, f.strides = [64] → 0x9000000 ≤ f.base → f.base < 0x9000040 → ¬ BookWord q (f.at [q]) := fun h1 h2 h3 => not_bookWord_own hq h1 h2 h3
  have hcq2 : u2.cqOf q ≠ q := by
    rw [State.cqOf, h02.fld _ _ (hown rfl (by decide) (by decide))]
    exact hcq
  obtain ⟨u3, g, htake, h3i, h3n, h3c, h3mem, h3boot, h3sorted, h3places, h3regs⟩ :=
    State.takeHead_lone h02.sorted (h2i.trans (h1.items.trans hi)) (it := s.newItem q (s.headDesc q)) hq hcq2 (s.fld_lt R.WQS_W0_HOME [q])
  have hnext : u2.nextItem = s.nextItem := h02.nextItem
  rw [htake, hnext]
  rw [hnext] at h3i h3n
  obtain ⟨h4i, h4⟩ := State.letIn_lone h3sorted h3i q
  obtain ⟨h4mem, h4boot, h4sorted, h4places⟩ := u3.letIn_places h3sorted s.nextItem
  have hcoef : u3.corrected (s.headDesc q) = s.corrected (s.headDesc q) := by
    have hlt : hClass (s.headDesc q) < 256 := bits_lt _ _ _
    have hw : ¬ BookWord q (R.NRG_COEF_COEF.at [hClass (s.headDesc q) - 1]) := not_bookWord (.inr (.inl (by
      simp only [Fld.at, R.NRG_COEF_COEF, dotOff]
      omega)))
    have hne : R.NRG_COEF_COEF.at [hClass (s.headDesc q) - 1] ≠ R.WQS_W2_CI.at [q] := by
      simp only [Fld.at, R.NRG_COEF_COEF, R.WQS_W2_CI, dotOff]
      omega
    unfold State.corrected
    rw [State.fld_congr (h3regs _ fun h => h.elim hw hne), h02.fld _ _ hw]
  refine ⟨_, g, rfl, ?_, h4.nextItem.trans h3n, ?_, fun P => (h1s P).trans ?_⟩
  · rw [h4i, show ((s.newItem q (s.headDesc q)).gatedBy g).desc = s.headDesc q from rfl, hcoef]
    rfl
  · rw [h4.fld _ _ (hown rfl (by decide) (by decide)), h3c, h02.fld _ _ (hown rfl (by decide) (by decide))]
  · refine (h1s P).calm.kept h4sorted (fun o ho => ?_) (h4boot.trans (h3boot.trans h2boot)) (by rw [h4mem, h3mem, h2mem])
    rw [h4places o ho, h3places o ho, h2regs]

theorem State.mReads_plain (s t : State) {m : MDesc} (h : m.lbOpds = []) : t.mReads m = s.mReads m := by
  have ha : m.a.lb = false := by
    cases h' : m.a.lb
    · rfl
    · simp [MDesc.lbOpds, h'] at h
  have hb : m.b.lb = false := by
    cases h' : m.b.lb
    · rfl
    · simp [MDesc.lbOpds, h'] at h
  simp [State.mReads, State.opdRange, State.opdBase, ha, hb]

/-- An item that computes. -/
def Item.computing (it : Item) : Item := { it with phase := .running }

/-- A MATRIX head that reads no far line and no landing buffer is taken and runs (R140, R147, R549). -/
theorem State.matrix_dispatched {s : State} {q : Nat} (h : Claims.Starts s q) (hclean : Claims.Clean s) (hclass : hClass (s.headDesc q) = 1)
    (hlb : (s.newItem q (s.headDesc q)).mat.lbOpds = []) (haux : (s.newItem q (s.headDesc q)).aux.isSome = true)
    (hnear : Claims.AllNear s (s.mReads (s.newItem q (s.headDesc q)).mat)) {mine : Desc → Bool} (hm : mine (s.headDesc q) = true) :
    ∃ it, Claims.Taken s (s.served' q mine) q it ∧ it.phase = .running ∧ it.status = 0 ∧ Claims.OnlyBytes [] s (s.served' q mine) := by
  have hcalm := State.calm_of_clean h.1 hclean
  obtain ⟨u, g, hdisp, hi, hn, hci, hspares⟩ := State.dispatchIf_begins h hclean hm
  have hmat : ((s.begun q).gatedBy g).mat = (s.newItem q (s.headDesc q)).mat := rfl
  have hfind : FMap.find? s.nextItem u.items = some ((s.begun q).gatedBy g) := by
    rw [hi]
    exact if_pos rfl
  have hnearU : Claims.AllNear u (u.mReads ((s.begun q).gatedBy g).mat) := by
    rw [hmat, State.mReads_plain s u hlb]
    exact fun a ha => ((hspares (InRanges [])).places.farLine a).trans (hnear a ha)
  have hstart : u.startItem s.nextItem = u.modItem s.nextItem Item.computing := by
    unfold State.startItem
    simp only [hfind, show ((s.begun q).gatedBy g).desc = s.headDesc q from rfl, hclass]
    rw [State.matStart_near hfind haux rfl hnearU, hmat, hlb]
    rfl
  have hitems : (u.modItem s.nextItem Item.computing).items = [(s.nextItem, ((s.begun q).gatedBy g).computing)] := by rw [State.modItem_lone hi]
  have hserved : s.served' q mine = u.modItem s.nextItem Item.computing := by
    unfold State.served'
    rw [hdisp, hstart, State.reissueAll_of_running hitems (show Phase.running ≠ Phase.reissued by decide)]
  have hfld : ∀ (f : Fld) (ix : List Nat), (u.modItem s.nextItem Item.computing).fld f ix = u.fld f ix := fun f ix =>
    State.fld_congr (by rw [State.modItem_regs])
  have hnext : (u.modItem s.nextItem Item.computing).nextItem = u.nextItem := by rw [State.modItem_eq]
  rw [hserved]
  exact ⟨_, ⟨hitems, hnext.trans hn, rfl, rfl, rfl, rfl, rfl, (hfld _ _).trans hci⟩, rfl, rfl,
    ((hspares _).trans (State.modItem_spares (hspares (InRanges [])).calm _ _)).onlyBytes hcalm⟩

end Sys2Proof.Machine

namespace Sys2Proof.Claims
open Machine

/-- Settles O20: a head taken reads lines alone, a binding touches one slot's count, and a block's writes are merges of its own bytes into calm lines, followed row by row. -/
theorem matrixItems : Obligations.MatrixItems := by
  intro s hcanon hup hclean
  refine ⟨fun q hst hclass => ?_, fun id it hit hclass hjob => ?_⟩
  · intro it0 hlb haux hnear
    have taken : ∀ {mine : Desc → Bool}, mine (s.headDesc q) = true → ∃ t it,
        (Host.Outcome.next (s.whenUp fun s => s.served' q mine) : Host.Outcome State Fault Refusal) = .next t ∧ Taken s t q it ∧
        it.phase = .running ∧ it.status = 0 ∧ OnlyBytes [] s t := fun hm => by
      obtain ⟨it, h⟩ := State.matrix_dispatched hst hclean hclass hlb haux hnear hm
      exact ⟨_, it, congrArg Host.Outcome.next (State.whenUp_of_up hup _), h⟩
    exact ⟨fun hm => taken (mine := fun d => classIs 1 d && !mMerge d) (by simp [classIs, hclass, hm]),
      fun hm => taken (mine := fun d => classIs 1 d && mMerge d) (by simp [classIs, hclass, hm])⟩
  · intro v
    refine ⟨?_, ?_, ?_⟩
    · intro hphase hst hlb haux hnear habort hslot hbad hstate
      exact State.lbSlotBind_bound hcanon hup hit hclass hjob hphase hst hlb haux hnear habort hslot hbad rfl hstate
    · intro x hx hhere hlast
      exact ⟨_, State.lbPieceReady_last hup hit hx hhere hlast, State.modItem_eq .., State.find?_modItem_some hit _⟩
    · intro n hn hphase hst hwait hnew htiles hopt hmax b side stores hnear hreads hstores hlow hm
      exact State.matrixBlockDone_done hcanon hup hclean hit hclass hn hphase hst hwait hnew htiles hopt hmax (b := b) rfl hnear hreads hstores hlow hm

end Sys2Proof.Claims
end
